-- ==== Sys2Proof/Word.lean ====
section
/-! DEFINITION. The word types of the block: bytes, byte strings, IEEE words and sparse tables. -/

namespace Sys2Proof

/-- One byte of a packet, record or memory (R7). -/
abbrev Byte := BitVec 8

/-- A byte string: a packet, a completion, a record; byte 0 first. -/
abbrev Bytes := List Byte

/-- The bits of an IEEE 754 binary32 value. -/
abbrev F32 := BitVec 32

/-- The bits of an IEEE 754 binary64 value. -/
abbrev F64 := BitVec 64

/-- A sparse table: (index, value) pairs, indices strictly rising, no entry equal to the table's default. -/
abbrev Tab (α : Type) := List (Nat × α)

namespace Tab

/-- What index `k` holds; `d` where nothing is listed. -/
def get {α : Type} (d : α) : Tab α → Nat → α
  | [], _ => d
  | (j, v) :: t, k => if j = k then v else get d t k

/-- Write `v` at index `k`: writing the default removes the entry. -/
def put {α : Type} [DecidableEq α] (d : α) : Tab α → Nat → α → Tab α
  | [], k, v => if v = d then [] else [(k, v)]
  | (j, w) :: t, k, v =>
    if k < j then (if v = d then (j, w) :: t else (k, v) :: (j, w) :: t)
    else if k = j then (if v = d then t else (k, v) :: t)
    else (j, w) :: put d t k v

/-- The canonical form: indices rise strictly and lie above `lo`, and no entry equals the default. -/
def wfAbove {α : Type} [DecidableEq α] (d : α) : Option Nat → Tab α → Bool
  | _, [] => true
  | none, (j, v) :: t => decide (v ≠ d) && wfAbove d (some j) t
  | some lo, (j, v) :: t => decide (lo < j) && decide (v ≠ d) && wfAbove d (some j) t

/-- The canonical form of a whole table. -/
def wf {α : Type} [DecidableEq α] (d : α) (t : Tab α) : Bool := wfAbove d none t

end Tab

end Sys2Proof
end

