-- ==== Sys2Proof/Syntax.lean ====
section
/-! DEFINITION. The commands of the block: one constructor per row of the opcode table, and their operands. -/

namespace Sys2Proof

/-- One of the two lanes (R5: instance 0 is Lane A, instance 1 is Lane B). -/
inductive Lane where
  | a
  | b
deriving DecidableEq, Repr

/-- A Cammuok command as its ring delivers it to the engine: the header of Table 04-3 without the opcode
(the constructor is the opcode) and the parameter bytes. -/
structure Cmd where
  /-- ring 0–15 the packet came by (R88) -/
  ring : Nat := 14
  /-- tag, echoed in the completion (Table 04-3) -/
  tag : BitVec 16 := 0
  /-- flags, Table 04-4 -/
  flags : BitVec 16 := 0
  /-- param_len -/
  plen : BitVec 16 := 0
  /-- engine instance -/
  inst : BitVec 16 := 0
  /-- the reserved header field at offset 10 -/
  rsvd : BitVec 16 := 0
  /-- commit_frame, low 32 bits -/
  cframe : BitVec 32 := 0
  /-- the parameter bytes -/
  params : Bytes := []
deriving DecidableEq, Repr

/-- What the exchange over the cross-lane link gave in a frame (R64): sound, a vector or CRC message that did not arrive
intact at Lane A, at Lane B (F6), or a CRC that differs (F5). -/
inductive Exchange where
  | sound
  | timeout (atA atB : Bool)
  | mismatch
deriving DecidableEq, Repr

/-- One analog input as a lane's converter sampled it. -/
structure AinSample where
  /-- input 0–63 -/
  idx : Nat
  /-- Lane A's code -/
  a : BitVec 16
  /-- Lane B's code -/
  b : BitVec 16
deriving DecidableEq, Repr

/-- One IMU sample as it arrived at the two lanes and the publication ring (R176). -/
structure ImuSample where
  /-- IMU 0–2 -/
  imu : Nat
  /-- acceleration x, y, z, then rate x, y, z (binary32) -/
  vals : List F32
  /-- self-check failed or sample late at Lane A, at Lane B (code 10) -/
  badA : Bool := false
  badB : Bool := false
  /-- saturated -/
  sat : Bool := false
deriving DecidableEq, Repr

/-- The measured driver feedback of one instance 0–63: mean current over the last frame in 0.25 mA. -/
structure DrvSample where
  inst : Nat
  cur : BitVec 16
deriving DecidableEq, Repr

/-- A compare mismatch (R68): destination kind (Table of 0x0312 offset 66) and index of the first differing word. -/
structure Mismatch where
  dest : Nat
  word : BitVec 16
deriving DecidableEq, Repr

/-- What reaches the control plane from outside in one frame: the wires, the cross-lane link and the compare (log entries 11, 16). -/
structure FrameIn where
  /-- analog codes that changed since the last frame -/
  ain : List AinSample := []
  /-- the reference channel of Lane A's, Lane B's converters is off by more than 0.2 % (code 3) -/
  convBadA : Bool := false
  convBadB : Bool := false
  /-- elements whose delivery to Lane A, to Lane B failed its link check (code 11) -/
  linkBadA : List Nat := []
  linkBadB : List Nat := []
  imu : List ImuSample := []
  drv : List DrvSample := []
  /-- measured supply voltages and currents: (SUP 0–7, mV, mA) -/
  sup : List (Nat × BitVec 16 × BitVec 16) := []
  /-- a self-fault of a lane in the first 30 µs of the frame: the lane and its check code 1–6 -/
  early : List (Lane × Nat) := []
  exch : Exchange := .sound
  /-- output words or signatures that differ without a self-report yet (R68) -/
  diff : Option Mismatch := none
  /-- outbound slots written by lane software: (slot, value, whether it is declared valid) (R183) -/
  soft : List (Nat × BitVec 32 × Bool) := []
deriving DecidableEq, Repr

/-- The leap count that GNSS navigation data give (R52) (log entry 65). -/
structure NavLeap where
  /-- TAI − UTC in whole seconds -/
  tai : Nat
  /-- the leap step announced: 1, −1, or 0 for none -/
  step : Int := 0
  /-- TAI second label at whose end it applies -/
  at' : Nat := 0
deriving DecidableEq, Repr

/-- A raise as its source gives it (R372) (log entry 66). -/
structure RaiseIn where
  /-- the event parameter -/
  param : BitVec 32
  /-- for EV006: the line of an uncorrectable SDRAM error; none tells of a corrected one (log entry 66) -/
  line : Option Nat := none
deriving DecidableEq, Repr

/-- What a write to the log bank finds (R382, R383) (log entry 39). -/
structure BankLook where
  /-- the record written reads back as it should -/
  verified : Bool
  /-- records of the bank, by sequence number, that no longer pass their CRC -/
  decayed : List Nat := []
deriving DecidableEq, Repr

/-- What the Safety Processor reads back of the output switches in a cycle (R202), beside the filtered inputs (log entry 16). -/
structure SafeIn where
  /-- output pin reads above 70 % of its feed (bit n−1: SOUTn) -/
  pinHigh : BitVec 8 := 0
  /-- output pin reads below 2 V -/
  pinLow : BitVec 8 := 0xFF
  /-- node between the switches reads high -/
  nodeHigh : BitVec 8 := 0
  /-- the safety processor's cycle ran from the timebase tick -/
  tick : Bool := true
deriving DecidableEq, Repr

/-- What a start of PD4 finds (R214, R216): the checks of the stored record and the readings of the start-up test. -/
structure SafetyTest where
  /-- the record passes the Safety Processor's CRC-32C -/
  spOk : Bool := true
  /-- it passes Jack's CRC-32 -/
  jackOk : Bool := true
  /-- first pulse of TPA: the levels at 250 µs, and those just before and just after -/
  pulseA : BitVec 24 × BitVec 24 := (0, 0)
  /-- first pulse of TPB -/
  pulseB : BitVec 24 × BitVec 24 := (0, 0)
  /-- second pulse of TPA -/
  pulseA2 : BitVec 24 × BitVec 24 := (0, 0)
  /-- second pulse of TPB -/
  pulseB2 : BitVec 24 × BitVec 24 := (0, 0)
  /-- with its P switch closed alone, the output's pin reads below 2 V (bit n−1: SOUTn) -/
  pPinLow : BitVec 8 := 0xFF
  /-- and its node reads high -/
  pNodeHigh : BitVec 8 := 0xFF
  /-- with its J switch closed alone, the pin reads below 2 V -/
  jPinLow : BitVec 8 := 0xFF
  /-- Jack's trip-line and life-line inputs answer -/
  lines : Bool := true
deriving DecidableEq, Repr

/-- What a bias supply measures: its current below 3 mA for 1 s, above 120 mA for 10 ms, or back in between (R222). -/
inductive BiasCond where
  | opened
  | short
  | restored
deriving DecidableEq, Repr

/-- What a tracked channel measures at an epoch (R226, Table 09-3) (log entry 43). -/
structure GnssMeas where
  ant : Nat
  chan : Nat
  signal : BitVec 8
  svid : BitVec 8
  /-- transmit time of the code phase latched, in the satellite's own system time as broadcast: 2^−32 ns since 2000-01-01
  00:00:00 of that scale (R227) -/
  txTime : Int
  phase : F64
  doppler : F32
  cn0 : BitVec 16
  flags : BitVec 16
deriving DecidableEq, Repr

/-- What the position processor makes of one antenna's measurements of an epoch (R233, R234) (log entry 43). -/
structure AntSol where
  /-- satellites used: (system 0–4, satellite number) -/
  used : List (Nat × Nat)
  /-- of them, those with SBAS corrections -/
  sbas : Nat
  /-- RTK ambiguities: 0 the float solution has not converged, 1 converged, 2 fixed and validated -/
  ambig : Nat
  /-- clock bias of the antenna, ns, and its drift, ppb -/
  clkBias : F64
  clkDrift : F32
deriving DecidableEq, Repr

/-- The numbers of one epoch's solution (R233–R235, Table 09-8). -/
structure PvtIn where
  ant1 : AntSol
  ant2 : AntSol
  /-- the vector between the antennas: none, or whether its ambiguities are fixed -/
  vector : Option Bool
  lat : F64
  lon : F64
  height : F64
  velN : F32
  velE : F32
  velU : F32
  sog : F32
  sdH : F32
  sdV : F32
  sdVel : F32
  /-- azimuth of the vector from true north -/
  azimuth : F32
  pitch : F32
  baseline : F32
  sdHeading : F32
  pdop : BitVec 16
deriving DecidableEq, Repr

/-- One satellite as GET_SATS reports it (0x0A11). -/
structure SatRow where
  system : BitVec 8
  svid : BitVec 8
  elevation : BitVec 8
  use : BitVec 8
  azimuth : BitVec 16
  cn1 : BitVec 8
  cn2 : BitVec 8
deriving DecidableEq, Repr

/-- A CAN frame on a bus (Table 14-2). -/
structure CanFrame where
  /-- word 0 of Table 14-2: [28:0] id, [29] ide, [30] rtr -/
  idw : BitVec 32
  dlc : BitVec 4
  fdf : Bool := false
  brs : Bool := false
  esi : Bool := false
  data : Bytes := []
  /-- raw counts from its SOF to its end on the bus (R334) -/
  age : Nat := 0
deriving DecidableEq, Repr

/-- How a transmit attempt ended (R335, R340–R342). -/
inductive TxEnd where
  | sent
  | lostArbitration
  | ackError
  | otherError
deriving DecidableEq, Repr

/-- A sample on its way to a fusion source (R245). -/
structure FuseIn where
  time : BitVec 64
  v0 : F64
  v1 : F64
  v2 : F32
  sd : F32
  /-- GNSS: the sample supplies no POSITION; the SPEED and HEADING it supplies -/
  noPos : Bool := false
  speed : Option F64 := none
  heading : Option F64 := none
  /-- IMU: the accelerations along its axes -/
  acc : F32 × F32 × F32 := (0, 0, 0)
deriving DecidableEq, Repr

/-- What a model package says of itself (R309). -/
structure KmpIn where
  /-- its target field names this part, issue B -/
  target : Bool
  /-- its format version -/
  version : Nat
  /-- the worst case of its slowest layer at CK_VIS, ns -/
  layerNs : Nat
  layers : Nat
  wcetUs : Nat
  weights : Nat
  acts : Nat
  inBytes : Nat
  outBytes : Nat
deriving DecidableEq, Repr

/-- A line that goes into the gather buffer, and whether its storing fails (R282, R285, R286). -/
structure GatherIn where
  /-- slot 0–11 -/
  slot : Nat
  /-- 0 no error, 2 an uncorrectable SRAM error in the stored line, 3 an error of the spill ring -/
  fault : Nat := 0
deriving DecidableEq, Repr

/-- An access unit as the encoder coded it (R320). -/
structure AuIn where
  /-- the coded slice: bytes behind the NAL unit header, emulation prevention included -/
  slice : Bytes
  qpAvg : Nat
  hrdOverflow : Bool
deriving DecidableEq, Repr

/-- What an 802.1AS message brings (R353–R355). -/
inductive GptpMsg where
  /-- an Announce: grandmaster identity, whether it is better than what the module has, and its bytes from
  currentUtcOffset on, the path trace included -/
  | announce (gm : BitVec 64) (better : Bool) (vec : Bytes := [])
  | sync (offsetNs : BitVec 32)
  | pdelay (ns : BitVec 32) (capable : Bool)
  | syncLost
deriving DecidableEq, Repr

/-- An access to an address: which core of the application makes it, or which lane (R29, R40, Table 14-3) (log entry 67). -/
structure Access where
  /-- the address -/
  addr : Nat
  /-- application core 0–7 -/
  core : Nat := 0
  /-- a lane reads its own window -/
  lane : Option Lane := none
deriving DecidableEq, Repr

/-- One command of the block: a row of the opcode table with its operands. -/
inductive Instr where
  /-- SYS_GET_INFO (R469): Returns the module identity, hardware issue, ordering code, serial and lineage. -/
  | sysGetInfo (c : Cmd)
  /-- SYS_GET_STATUS (R469): Completes OK with an empty reply. -/
  | sysGetStatus (c : Cmd)
  /-- SYS_SET_CONFIG (R469): With parameter length 0 completes OK with no effect; any other length completes with BAD_LENGTH. -/
  | sysSetConfig (c : Cmd)
  /-- SYS_GET_CONFIG (R469): Completes OK with an empty reply. -/
  | sysGetConfig (c : Cmd)
  /-- SYS_ENABLE (R469): Completes with DENIED on every ring. -/
  | sysEnable (c : Cmd)
  /-- SYS_DISABLE (R469): Completes with DENIED on every ring. -/
  | sysDisable (c : Cmd)
  /-- SYS_RESET_INSTANCE (R469): Completes with DENIED on every ring. -/
  | sysResetInstance (c : Cmd)
  /-- FENCE (R100): Is done when every earlier command of its ring is done; later commands of the ring wait for it. -/
  | fence (c : Cmd)
  /-- BARRIER (R104): Is done when every earlier command on the named rings is done, at most 2 frames after the last of them. -/
  | barrier (c : Cmd)
  /-- SNAPSHOT (R105): Captures an image of the committed state of the lanes and engines at its commit frame. -/
  | snapshot (c : Cmd)
  /-- HOLD_FRAMES (R72): Holds 1 to 8 frames starting at its commit frame. -/
  | holdFrames (c : Cmd)
  /-- SNAPSHOT_READ (R105): Returns up to 232 bytes of the snapshot image that is held. -/
  | snapshotRead (c : Cmd)
  /-- SNAPSHOT_RELEASE (R105): Discards the snapshot image that is held. -/
  | snapshotRelease (c : Cmd)
  /-- SNAPSHOT_EXPIRY (R105): Discards a held snapshot 60 s after its completion. -/
  | snapshotExpiry
  /-- FRAME_AT_TIME (R104): Returns the first frame whose start converts to the given module time or later. -/
  | frameAtTime (c : Cmd)
  /-- SESSION_OPEN (R109): Opens a service session on a service ring by ECDH key agreement. -/
  | sessionOpen (c : Cmd)
  /-- SESSION_PROVE (R109): Authenticates the open session with a service credential and grants the session rights. -/
  | sessionProve (c : Cmd)
  /-- SESSION_IDLE_TIMEOUT (R109): Closes a session after idle_s seconds without an accepted datagram. -/
  | sessionIdleTimeout (ring : Nat)
  /-- TIME_GET_INFO (R467): Returns TIME class identity with no class data. -/
  | timeGetInfo (c : Cmd)
  /-- TIME_GET_STATUS (R467): Returns the reply of READ_TIME. -/
  | timeGetStatus (c : Cmd)
  /-- TIME_SET_CONFIG (R467): With parameter length 0 completes OK with no effect; any other length completes with BAD_LENGTH. -/
  | timeSetConfig (c : Cmd)
  /-- TIME_GET_CONFIG (R467): Returns the SET_SOURCE and SET_PPS parameters in force. -/
  | timeGetConfig (c : Cmd)
  /-- TIME_ENABLE (R467): Completes with DENIED. -/
  | timeEnable (c : Cmd)
  /-- TIME_DISABLE (R467): Completes with DENIED. -/
  | timeDisable (c : Cmd)
  /-- TIME_RESET_INSTANCE (R467): Completes with DENIED. -/
  | timeResetInstance (c : Cmd)
  /-- SET_SOURCE (R46): Sets the time source list and the drift and aging figures from the next PPS_OUT edge. -/
  | setSource (c : Cmd)
  /-- SCHEDULE_CORRECTION (R36): Schedules a correction record at a given raw count while the source is FREE_RUN. -/
  | scheduleCorrection (c : Cmd)
  /-- SET_PPS (R52): Configures PPS_OUT, the label scale, PPS_IN polarity and the leap second source from the next edge. -/
  | setPps (c : Cmd)
  /-- READ_TIME (R37): Returns the raw count, module time, status, frame and uncertainty at one raw count. -/
  | readTime (c : Cmd)
  /-- LANE_GET_INFO (R468): Returns LANE class identity with no class data. -/
  | laneGetInfo (c : Cmd)
  /-- LANE_GET_STATUS (R60): Returns the lane states, redundancy, active lane and resync progress. -/
  | laneGetStatus (c : Cmd)
  /-- LANE_SET_CONFIG (R79): Sets the rejoin mode and rejoin_limit at its commit frame. -/
  | laneSetConfig (c : Cmd)
  /-- LANE_GET_CONFIG (R468): Returns the LANE configuration record in force. -/
  | laneGetConfig (c : Cmd)
  /-- LANE_ENABLE (R468): Completes with DENIED. -/
  | laneEnable (c : Cmd)
  /-- LANE_DISABLE (R468): Completes with DENIED. -/
  | laneDisable (c : Cmd)
  /-- LANE_RESET_INSTANCE (R468): Completes with DENIED. -/
  | laneResetInstance (c : Cmd)
  /-- FORCE_TAKEOVER (R69): Moves the token cleanly, or arms a forced silence of the active lane at at_us of the following frame. -/
  | forceTakeover (c : Cmd)
  /-- FORCED_SILENCE (R58): At at_us of the frame after an armed FORCE_TAKEOVER SILENCE, the active lane goes silent with check code 8. -/
  | forcedSilence
  /-- SET_REDUNDANCY (R78): Selects simplex on a named lane, or duplex with a rejoin of the other lane. -/
  | setRedundancy (c : Cmd)
  /-- GET_LANE_STATS (R87): Returns the lane fault, hold, divergence and resync counters. -/
  | getLaneStats (c : Cmd)
  /-- CLEAR_LANE_STATS (R87): Clears the lane counters at once. -/
  | clearLaneStats (c : Cmd)
  /-- LOOP_GET_INFO (R98): Returns LOOP class identity. -/
  | loopGetInfo (c : Cmd)
  /-- LOOP_GET_STATUS (R134): Returns the channel mode, bins, set, blend, bump offset and last values. -/
  | loopGetStatus (c : Cmd)
  /-- LOOP_SET_CONFIG (R119): Writes a channel configuration record at its commit frame. -/
  | loopSetConfig (c : Cmd)
  /-- LOOP_GET_CONFIG (R117): Returns the channel configuration record in force. -/
  | loopGetConfig (c : Cmd)
  /-- LOOP_ENABLE (R471): Moves an OFF channel to its enable_mode at its commit frame. -/
  | loopEnable (c : Cmd)
  /-- LOOP_DISABLE (R134): Moves the channel to OFF at its commit frame. -/
  | loopDisable (c : Cmd)
  /-- LOOP_RESET_INSTANCE (R471): Moves the channel to OFF and restores its record and breakpoints from SET_CAL. -/
  | loopResetInstance (c : Cmd)
  /-- SET_MODE (R134): Sets a channel to MANUAL, AUTO or HOLD before the run of its commit frame. -/
  | setMode (c : Cmd)
  /-- SET_SETPOINT (R115): Writes the command values of the setpoint and feedforward at its commit frame. -/
  | setSetpoint (c : Cmd)
  /-- SET_BREAKPOINTS (R125): Stages a breakpoint chunk, or commits the staged vector at its commit frame. -/
  | setBreakpoints (c : Cmd)
  /-- WRITE_SCHEDULE (R127): Writes Schedule Table entries that commit together. -/
  | writeSchedule (c : Cmd)
  /-- WRITE_COEFF (R128): Writes a coefficient set, through a shadow copy when the set is in use. -/
  | writeCoeff (c : Cmd)
  /-- READ_TABLE (R127): Returns Schedule Table entries, a coefficient set or breakpoints as committed. -/
  | readTable (c : Cmd)
  /-- DRV_GET_INFO (R98): Returns DRV class identity. -/
  | drvGetInfo (c : Cmd)
  /-- DRV_GET_STATUS (R164): Returns the state, current, flags and counts of an output, bank or converter. -/
  | drvGetStatus (c : Cmd)
  /-- DRV_SET_CONFIG (R148): Writes a driver, bank or converter record at its commit frame. -/
  | drvSetConfig (c : Cmd)
  /-- DRV_GET_CONFIG (R148): Returns the driver record in force. -/
  | drvGetConfig (c : Cmd)
  /-- DRV_ENABLE (R164): Moves an OFF instance into its mode with value 0, or starts a bank or converter. -/
  | drvEnable (c : Cmd)
  /-- DRV_DISABLE (R155): Takes an instance to zero by dec_off and then to OFF. -/
  | drvDisable (c : Cmd)
  /-- DRV_RESET_INSTANCE (R164): Disables the instance, restores its record and clears its counts and latches. -/
  | drvResetInstance (c : Cmd)
  /-- SET_OUTPUT (R146): Sets the value field of a channel that no loop owns. -/
  | setOutput (c : Cmd)
  /-- PH_FIRE (R151): Starts or retriggers a peak-and-hold profile at fire_us of the next frame. -/
  | phFire (c : Cmd)
  /-- PH_STOP (R153): Ends a peak-and-hold profile at fire_us of the next frame. -/
  | phStop (c : Cmd)
  /-- CLEAR_FAULT (R164): Clears the latch and retry count of a driver instance. -/
  | clearFault (c : Cmd)
  /-- INP_GET_INFO (R98): Returns INP class identity. -/
  | inpGetInfo (c : Cmd)
  /-- INP_GET_STATUS (R171): Returns both lanes' last samples and the flags of an input instance. -/
  | inpGetStatus (c : Cmd)
  /-- INP_SET_CONFIG (R172): Writes an AIN, FIN, LSN, IMU or SUP record at its commit frame. -/
  | inpSetConfig (c : Cmd)
  /-- INP_GET_CONFIG (R470): Returns the input record in force. -/
  | inpGetConfig (c : Cmd)
  /-- INP_ENABLE (R470): Starts an input instance or switches a sensor supply on. -/
  | inpEnable (c : Cmd)
  /-- INP_DISABLE (R470): Stops an input instance so that its elements read 0 flagged bad, or switches a supply off. -/
  | inpDisable (c : Cmd)
  /-- INP_RESET_INSTANCE (R177): Restores the record from SET_MODULE and clears latches and counts. -/
  | inpResetInstance (c : Cmd)
  /-- BIND_SLOT (R182): Binds an inbound slot to an owner, max_age and stale policy at the start of its commit frame. -/
  | bindSlot (c : Cmd)
  /-- READ_SLOT (R179): Returns the value, stamp, age, state and counts of a slot. -/
  | readSlot (c : Cmd)
  /-- READ_VECTOR (R169): Returns elements of the agreed input vector with their bad flags. -/
  | readVector (c : Cmd)
  /-- SAFE_GET_INFO (R98): Returns SAFE class identity. -/
  | safeGetInfo (c : Cmd)
  /-- SAFE_GET_STATUS (R213): Returns the controller and function states, outputs, pairs and speeds. -/
  | safeGetStatus (c : Cmd)
  /-- SAFE_SET_CONFIG (R216): Stages a safety record, under standstill and service mode or in NO_PARAMS. -/
  | safeSetConfig (c : Cmd)
  /-- SAFE_GET_CONFIG (R216): Returns the safety record in force or the staged one, with both CRCs. -/
  | safeGetConfig (c : Cmd)
  /-- SAFE_ENABLE (R106): Completes with DENIED. -/
  | safeEnable (c : Cmd)
  /-- SAFE_DISABLE (R106): Completes with DENIED. -/
  | safeDisable (c : Cmd)
  /-- SAFE_RESET_INSTANCE (R106): Completes with DENIED. -/
  | safeResetInstance (c : Cmd)
  /-- SERVICE_MODE (R215): Enters service mode after a valid reset press within 10 s, or leaves it. -/
  | serviceMode (c : Cmd)
  /-- SERVICE_MODE_TIMEOUT (R215): Completes a SERVICE_MODE entry with TIMEOUT when no valid reset press follows within 10 s. -/
  | serviceModeTimeout
  /-- CONFIRM_PARAMS (R216): Makes the staged safety record storable when both CRCs match. -/
  | confirmParams (c : Cmd)
  /-- CAN_GET_INFO (R98): Returns CAN class identity. -/
  | canGetInfo (c : Cmd)
  /-- CAN_GET_STATUS (R340): Returns the channel error state, counters and FIFO fills. -/
  | canGetStatus (c : Cmd)
  /-- CAN_SET_CONFIG (R325): Writes a channel record, with restrictions on CAN7 and CAN8. -/
  | canSetConfig (c : Cmd)
  /-- CAN_GET_CONFIG (R325): Returns the channel record in force. -/
  | canGetConfig (c : Cmd)
  /-- CAN_ENABLE (R328): Joins the bus and starts rx_seq at 0. -/
  | canEnable (c : Cmd)
  /-- CAN_DISABLE (R343): Leaves the bus and empties the transmit FIFO and your FIFO. -/
  | canDisable (c : Cmd)
  /-- CAN_RESET_INSTANCE (R333): Disables the channel, clears its counters and restores its record. -/
  | canResetInstance (c : Cmd)
  /-- RX_READ (R330): Reads and releases up to 8 entries of your application's receive FIFO. -/
  | rxRead (c : Cmd)
  /-- TRANSMIT (R335): Places a CAN frame into the transmit FIFO, optionally confirmed. -/
  | transmit (c : Cmd)
  /-- CAN_ABORT (R343): Removes the head, every entry from TRANSMIT, or the whole transmit FIFO. -/
  | canAbort (c : Cmd)
  /-- RECOVER (R341): Starts the bus-off recovery sequence in MANUAL recovery. -/
  | recover (c : Cmd)
  /-- RESUME (R342): Clears CAN_ALONE and restarts the FIFO with the parked head. -/
  | resume (c : Cmd)
  /-- SET_LANE_PDU (R337): Sets a lane PDU's channel, identifier, period and phase at its commit frame. -/
  | setLanePdu (c : Cmd)
  /-- SET_SIGNAL (R338): Sets a lane signal slot's placement and encoding at its commit frame. -/
  | setSignal (c : Cmd)
  /-- ETH_GET_INFO (R98): Returns ETH class identity. -/
  | ethGetInfo (c : Cmd)
  /-- ETH_GET_STATUS (R345): Returns port, switch or gPTP status and counters. -/
  | ethGetStatus (c : Cmd)
  /-- ETH_SET_CONFIG (R345): Writes a port, switch or gPTP record at once. -/
  | ethSetConfig (c : Cmd)
  /-- ETH_GET_CONFIG (R345): Returns the ETH record in force. -/
  | ethGetConfig (c : Cmd)
  /-- ETH_ENABLE (R345): Brings a port up, or starts the switch or 802.1AS. -/
  | ethEnable (c : Cmd)
  /-- ETH_DISABLE (R359): Takes a port, the switch or 802.1AS down. -/
  | ethDisable (c : Cmd)
  /-- ETH_RESET_INSTANCE (R352): Disables the instance, clears counters and restores its record and correction constants. -/
  | ethResetInstance (c : Cmd)
  /-- SET_GCL (R350): Stages a gate control list chunk, or commits the staged list to start at a computed raw count. -/
  | setGcl (c : Cmd)
  /-- SET_VLAN (R347): Writes or deletes a VLAN table entry. -/
  | setVlan (c : Cmd)
  /-- HOST_RINGS (R356): Sets the host descriptor rings while the switch is disabled. -/
  | hostRings (c : Cmd)
  /-- GNSS_GET_INFO (R98): Returns GNSS class identity. -/
  | gnssGetInfo (c : Cmd)
  /-- GNSS_GET_STATUS (R233): Returns the fix, heading status, antenna state and correction counters. -/
  | gnssGetStatus (c : Cmd)
  /-- GNSS_SET_CONFIG (R226): Writes the receiver record, with the rate changing at a multiple of 800 frames. -/
  | gnssSetConfig (c : Cmd)
  /-- GNSS_GET_CONFIG (R226): Returns the receiver record in force. -/
  | gnssGetConfig (c : Cmd)
  /-- GNSS_ENABLE (R223): Starts bias and tracking on an antenna. -/
  | gnssEnable (c : Cmd)
  /-- GNSS_DISABLE (R237): Stops tracking and removes bias on an antenna. -/
  | gnssDisable (c : Cmd)
  /-- GNSS_RESET_INSTANCE (R222): Disables the antenna, clears its latch and counts and restores the record. -/
  | gnssResetInstance (c : Cmd)
  /-- SEND_RTCM (R229): Passes RTCM stream bytes to the correction parser. -/
  | sendRtcm (c : Cmd)
  /-- GET_SATS (R225): Returns the satellites allocated on an antenna at the last epoch. -/
  | getSats (c : Cmd)
  /-- GNSS_RESTART (R238): Restarts tracking hot, warm or cold. -/
  | gnssRestart (c : Cmd)
  /-- FUSE_GET_INFO (R98): Returns FUSE class identity. -/
  | fuseGetInfo (c : Cmd)
  /-- FUSE_GET_STATUS (R248): Returns source cullet counters, or engine or accumulator status. -/
  | fuseGetStatus (c : Cmd)
  /-- FUSE_SET_CONFIG (R244): Writes a source, engine or accumulator record from the next fusion cycle. -/
  | fuseSetConfig (c : Cmd)
  /-- FUSE_GET_CONFIG (R244): Returns the FUSE record in force. -/
  | fuseGetConfig (c : Cmd)
  /-- FUSE_ENABLE (R258): Starts a source, the engine in INIT, or the accumulator. -/
  | fuseEnable (c : Cmd)
  /-- FUSE_DISABLE (R265): Stops a source, the engine, or the accumulator with its open record truncated. -/
  | fuseDisable (c : Cmd)
  /-- FUSE_RESET_INSTANCE (R244): Disables the instance, restores its record and clears its counters. -/
  | fuseResetInstance (c : Cmd)
  /-- WRITE_TRANSFORM (R250): Writes a Transform Table entry from the next fusion cycle. -/
  | writeTransform (c : Cmd)
  /-- CLEAR_CULLET (R248): Clears a source's cullet counters at once. -/
  | clearCullet (c : Cmd)
  /-- PUSH_SAMPLE (R246): Buffers up to 7 samples of an APP source. -/
  | pushSample (c : Cmd)
  /-- PATH_LOAD (R259): Writes guidance path vertices into the staging buffer. -/
  | pathLoad (c : Cmd)
  /-- PATH_ACTIVATE (R259): Makes the staged path active at the next fusion cycle. -/
  | pathActivate (c : Cmd)
  /-- READ_TRANSFORM (R250): Returns a Transform Table entry as normalised and in force. -/
  | readTransform (c : Cmd)
  /-- CLNK_GET_INFO (R98): Returns CLNK class identity. -/
  | clnkGetInfo (c : Cmd)
  /-- CLNK_GET_STATUS (R271): Returns link state, power-over-coax, alignment and counters. -/
  | clnkGetStatus (c : Cmd)
  /-- CLNK_SET_CONFIG (R270): Writes the link's power-over-coax and auto_enable settings. -/
  | clnkSetConfig (c : Cmd)
  /-- CLNK_GET_CONFIG (R270): Returns the link record in force. -/
  | clnkGetConfig (c : Cmd)
  /-- CLNK_ENABLE (R271): Switches power on and starts the link from POWERING. -/
  | clnkEnable (c : Cmd)
  /-- CLNK_DISABLE (R271): Ends every picture in progress and switches the link power off. -/
  | clnkDisable (c : Cmd)
  /-- CLNK_RESET_INSTANCE (R270): Disables the link, clears latch and counters and restores its records. -/
  | clnkResetInstance (c : Cmd)
  /-- SET_SLOT (R277): Configures a camera slot's geometry, ring, rate and trigger. -/
  | setSlot (c : Cmd)
  /-- FSYNC_AT (R280): Schedules one FSYNC edge of a SINGLE slot at a module time. -/
  | fsyncAt (c : Cmd)
  /-- I2C_XFER (R281): Runs one I2C transfer on a slot's bus at the hub. -/
  | i2cXfer (c : Cmd)
  /-- CLNK_GET_SLOT_STATUS (R284): Returns a slot's picture and discard counters and its overflow deadline. -/
  | clnkGetSlotStatus (c : Cmd)
  /-- PIPE_GET_INFO (R98): Returns PIPE class identity. -/
  | pipeGetInfo (c : Cmd)
  /-- PIPE_GET_STATUS (R288): Returns pipe state, load and bandwidth sums. -/
  | pipeGetStatus (c : Cmd)
  /-- PIPE_SET_CONFIG (R287): Writes a pipe's auto_enable flag. -/
  | pipeSetConfig (c : Cmd)
  /-- PIPE_GET_CONFIG (R287): Returns the pipe record in force. -/
  | pipeGetConfig (c : Cmd)
  /-- PIPE_ENABLE (R296): Starts a pipe. -/
  | pipeEnable (c : Cmd)
  /-- PIPE_DISABLE (R296): Stops a pipe after its running job; its slots move at their next picture start. -/
  | pipeDisable (c : Cmd)
  /-- PIPE_RESET_INSTANCE (R300): Runs the pipe self-test and clears its counters. -/
  | pipeResetInstance (c : Cmd)
  /-- SET_CONTEXT (R290): Writes a pipe context record in both pipes. -/
  | setContext (c : Cmd)
  /-- SELECT_CONTEXT (R289): Changes a slot's active context from its next picture start. -/
  | selectContext (c : Cmd)
  /-- WRITE_CTX_TABLE (R290): Stages shading or tone table entries of a context. -/
  | writeCtxTable (c : Cmd)
  /-- GET_CONTEXT (R290): Returns a context record and whether it is active. -/
  | getContext (c : Cmd)
  /-- PIPE_GET_SLOT_STATUS (R298): Returns a slot's pipe counters, load and latency. -/
  | pipeGetSlotStatus (c : Cmd)
  /-- ENC_START (R318): Starts an encoder stream on a slot from its next picture as IDR. -/
  | encStart (c : Cmd)
  /-- ENC_STOP (R321): Ends a stream after its current picture, which carries END. -/
  | encStop (c : Cmd)
  /-- ENC_FORCE_IDR (R319): Codes a stream's next picture as IDR. -/
  | encForceIdr (c : Cmd)
  /-- ENC_GET_STATUS (R318): Returns encoder load and per-stream state. -/
  | encGetStatus (c : Cmd)
  /-- ENC_SET_RATE (R319): Changes a stream's bit rate from its next picture. -/
  | encSetRate (c : Cmd)
  /-- VIS_GET_INFO (R98): Returns VIS class identity. -/
  | visGetInfo (c : Cmd)
  /-- VIS_GET_STATUS (R311): Returns a partition's state, queues, models and SRAM free. -/
  | visGetStatus (c : Cmd)
  /-- VIS_SET_CONFIG (R307): Writes a partition's auto_enable flag. -/
  | visSetConfig (c : Cmd)
  /-- VIS_GET_CONFIG (R307): Returns the partition record in force. -/
  | visGetConfig (c : Cmd)
  /-- VIS_ENABLE (R307): Starts a partition. -/
  | visEnable (c : Cmd)
  /-- VIS_DISABLE (R315): Ends every job with ABORTED and unloads the partition's models. -/
  | visDisable (c : Cmd)
  /-- VIS_RESET_INSTANCE (R315): Ends jobs, unloads models, clears counters and leaves FAULT. -/
  | visResetInstance (c : Cmd)
  /-- MODEL_LOAD (R309): Verifies and loads a model package into a partition. -/
  | modelLoad (c : Cmd)
  /-- MODEL_UNLOAD (R317): Unloads a model after aborting its jobs. -/
  | modelUnload (c : Cmd)
  /-- SUBMIT (R311): Queues a vision job on a picture's VISN buffer. -/
  | submit (c : Cmd)
  /-- CANCEL (R317): Aborts a queued or running vision job. -/
  | cancel (c : Cmd)
  /-- SEG_GET_INFO (R98): Returns SEG class identity. -/
  | segGetInfo (c : Cmd)
  /-- SEG_GET_STATUS (R364): Returns the display driver state, VLCD and CRC counters. -/
  | segGetStatus (c : Cmd)
  /-- SEG_SET_CONFIG (R363): Writes bias, VLCD code, divisors and compensation from the next drive-cycle start. -/
  | segSetConfig (c : Cmd)
  /-- SEG_GET_CONFIG (R363): Returns the display record in force. -/
  | segGetConfig (c : Cmd)
  /-- SEG_ENABLE (R368): Starts driving the glass from the drive memory. -/
  | segEnable (c : Cmd)
  /-- SEG_DISABLE (R368): Blanks the glass. -/
  | segDisable (c : Cmd)
  /-- SEG_RESET_INSTANCE (R368): Disables the driver, clears crc_errors and restores the record. -/
  | segResetInstance (c : Cmd)
  /-- WRITE_ROWS (R365): Writes masked row bits into the pending image and marks rows dirty. -/
  | writeRows (c : Cmd)
  /-- SET_START_IMAGE (R368): Sets the start image in SET_DISPLAY. -/
  | setStartImage (c : Cmd)
  /-- READ_COUNTERS (R367): Returns segment on-time counters. -/
  | readCounters (c : Cmd)
  /-- CLEAR_COUNTERS (R367): Sets all 384 on-time counters to 0. -/
  | clearCounters (c : Cmd)
  /-- READ_IMAGE (R365): Returns the drive memory or the start image. -/
  | readImage (c : Cmd)
  /-- EVT_GET_INFO (R98): Returns EVT class identity. -/
  | evtGetInfo (c : Cmd)
  /-- EVT_GET_STATUS (R373): Returns a source's route, severity and raise counts. -/
  | evtGetStatus (c : Cmd)
  /-- EVT_SET_CONFIG (R376): Sets a source's route and severity for raises from the frame after its commit frame. -/
  | evtSetConfig (c : Cmd)
  /-- EVT_GET_CONFIG (R374): Returns a source's record in force. -/
  | evtGetConfig (c : Cmd)
  /-- EVT_ENABLE (R374): Restores delivery of a source. -/
  | evtEnable (c : Cmd)
  /-- EVT_DISABLE (R375): Stops delivery of a source except on fixed routes. -/
  | evtDisable (c : Cmd)
  /-- EVT_RESET_INSTANCE (R374): Enables a source, restores its record and clears its counters. -/
  | evtResetInstance (c : Cmd)
  /-- RAISE_TEST (R371): Raises a source once with the test flag to its INT lines and the recorder. -/
  | raiseTest (c : Cmd)
  /-- GET_ROUTES (R374): Returns the routes and severities of 64 sources. -/
  | getRoutes (c : Cmd)
  /-- LOG_GET_INFO (R98): Returns LOG class identity. -/
  | logGetInfo (c : Cmd)
  /-- LOG_GET_STATUS (R384): Returns head and oldest sequence, counts and flags of the log. -/
  | logGetStatus (c : Cmd)
  /-- LOG_SET_CONFIG (R387): Sets the rate limit burst and refill at once. -/
  | logSetConfig (c : Cmd)
  /-- LOG_GET_CONFIG (R387): Returns the recorder record in force. -/
  | logGetConfig (c : Cmd)
  /-- LOG_ENABLE (R98): Completes with DENIED. -/
  | logEnable (c : Cmd)
  /-- LOG_DISABLE (R98): Completes with DENIED. -/
  | logDisable (c : Cmd)
  /-- LOG_RESET_INSTANCE (R387): Restores the recorder record and fills every bucket. -/
  | logResetInstance (c : Cmd)
  /-- LOG_READ (R385): Returns head, oldest sequence and up to three records at one instant. -/
  | logRead (c : Cmd)
  /-- LOG_CLEAR (R389): Removes matching records and issues a CLEAR record. -/
  | logClear (c : Cmd)
  /-- NVS_GET_INFO (R98): Returns NVS class identity with no class data. -/
  | nvsGetInfo (c : Cmd)
  /-- NVS_GET_STATUS (R399): Returns a set's writer state, generation and wear. -/
  | nvsGetStatus (c : Cmd)
  /-- NVS_SET_CONFIG (R98): With parameter length 0 completes OK with no effect. -/
  | nvsSetConfig (c : Cmd)
  /-- NVS_GET_CONFIG (R98): Returns an empty reply. -/
  | nvsGetConfig (c : Cmd)
  /-- NVS_ENABLE (R98): Completes with DENIED. -/
  | nvsEnable (c : Cmd)
  /-- NVS_DISABLE (R98): Completes with DENIED. -/
  | nvsDisable (c : Cmd)
  /-- NVS_RESET_INSTANCE (R98): Completes with DENIED. -/
  | nvsResetInstance (c : Cmd)
  /-- NVS_STORE (R401): Requests a new generation of a settings set. -/
  | nvsStore (c : Cmd)
  /-- READ_SET (R399): Returns bytes of a set's stored generation or running SET_APP. -/
  | readSet (c : Cmd)
  /-- WRITE_APP (R398): Writes bytes into the running SET_APP. -/
  | writeApp (c : Cmd)
  /-- BUNDLE_LOAD (R423): Writes settings bundle bytes into the bundle buffer. -/
  | bundleLoad (c : Cmd)
  /-- ADOPT (R423): Adopts a machine from a verified settings bundle and restarts. -/
  | adopt (c : Cmd)
  /-- UPD_GET_INFO (R98): Returns UPD class identity. -/
  | updGetInfo (c : Cmd)
  /-- UPD_GET_STATUS (R409): Returns running, confirmed and per-slot states and the OTP value. -/
  | updGetStatus (c : Cmd)
  /-- UPD_SET_CONFIG (R98): With parameter length 0 completes OK with no effect. -/
  | updSetConfig (c : Cmd)
  /-- UPD_GET_CONFIG (R98): Returns an empty reply. -/
  | updGetConfig (c : Cmd)
  /-- UPD_ENABLE (R98): Completes with DENIED. -/
  | updEnable (c : Cmd)
  /-- UPD_DISABLE (R98): Completes with DENIED. -/
  | updDisable (c : Cmd)
  /-- UPD_RESET_INSTANCE (R98): Completes with DENIED. -/
  | updResetInstance (c : Cmd)
  /-- STAGE_BEGIN (R412): Opens or resumes staging of an image into the slot that is not CONFIRMED. -/
  | stageBegin (c : Cmd)
  /-- STAGE_CHUNK (R411): Delivers an image chunk or piece and verifies it when complete. -/
  | stageChunk (c : Cmd)
  /-- STAGE_END (R413): Checks every chunk and component tag and makes the slot STAGED or INVALID. -/
  | stageEnd (c : Cmd)
  /-- ACTIVATE (R414): Activates the staged image hitlessly or arms it for the next start. -/
  | activate (c : Cmd)
  /-- UPD_CONFIRM (R418): Makes the TRIAL slot CONFIRMED and raises the OTP counter if needed. -/
  | updConfirm (c : Cmd)
  /-- UPD_ABORT (R420): Discards staging, a staged or trial slot, or an early activation. -/
  | updAbort (c : Cmd)
  /-- PWR_GET_INFO (R98): Returns PWR class identity. -/
  | pwrGetInfo (c : Cmd)
  /-- PWR_GET_STATUS (R431): Returns mode, reset cause, feeds, domains and temperatures. -/
  | pwrGetStatus (c : Cmd)
  /-- PWR_SET_CONFIG (R433): Sets key_debounce, shutdown_grace and park_min. -/
  | pwrSetConfig (c : Cmd)
  /-- PWR_GET_CONFIG (R433): Returns the power record in force. -/
  | pwrGetConfig (c : Cmd)
  /-- PWR_ENABLE (R98): Completes with DENIED. -/
  | pwrEnable (c : Cmd)
  /-- PWR_DISABLE (R98): Completes with DENIED. -/
  | pwrDisable (c : Cmd)
  /-- PWR_RESET_INSTANCE (R98): Restores the power record from SET_MODULE. -/
  | pwrResetInstance (c : Cmd)
  /-- MODULE_RESET (R437): Orders a WARM or FULL module reset 10 ms after completion. -/
  | moduleReset (c : Cmd)
  /-- SHUTDOWN_ACK (R433): Ends the shutdown grace and starts step 3 at once. -/
  | shutdownAck (c : Cmd)
  /-- SHUTDOWN_HOLD (R433): Extends the shutdown grace up to 600 s after SHUTDOWN began. -/
  | shutdownHold (c : Cmd)
  /-- DOMAIN (R429): Switches PD6, PD7 or PD8 on or off. -/
  | domain (c : Cmd)
  /-- CP_DOORBELL (R90): A write of sq_tail starts dispatch of the submissions it covers, or stops the ring on a bad count. -/
  | cpDoorbell (ring : Nat) (tail : BitVec 32) (written : List Bytes)
  /-- CP_CQ_HEAD (R91): A write of cq_head frees completion slots, or stops the ring if beyond cq_tail. -/
  | cpCqHead (ring : Nat) (head : BitVec 32)
  /-- RING_ENABLE (R90): A write of CP_RING_CTRL.enable starts or stops dispatch of the ring. -/
  | ringEnable (ring : Nat) (on : Bool)
  /-- RING_RESET (R92): A write of 1 to CP_RING_CTRL.reset discards undispatched submissions and resets the ring. -/
  | ringReset (ring : Nat)
  /-- RING_RESET_DONE (R92): When in_flight reaches 0 after a ring reset, the counts and error clear. -/
  | ringResetDone (ring : Nat)
  /-- COMMAND_DISPATCH (R99): The Command Port takes a submission, checks it and stamps or starts it. -/
  | commandDispatch
  /-- SERVICE_DATAGRAM (R108): A UDP datagram on the service VLAN is checked and its packet dispatched on ring 12 or 13. -/
  | serviceDatagram (dgram : Bytes) (sender : Nat)
  /-- REHEAT_CAN_SEGMENT (R422): A CAN1 segment of a service datagram in Reheat mode is assembled. -/
  | reheatCanSegment (data : Bytes)
  /-- TB_MT_LO (R40): A read captures module time for the reading core and returns its low bits. -/
  | tbMtLo (core : Nat)
  /-- TB_CONV_IN (R40): A write starts the conversion of a raw count to module time. -/
  | tbConvIn (core : Nat) (raw : BitVec 64)
  /-- FX_IN (R181): A 64-bit write to an inbound slot is accepted if from the owner, else dropped with a bus error. -/
  | fxIn (writer : Nat) (slot : Nat) (word : BitVec 64) (narrow : Bool)
  /-- CAN_RXF_HEAD (R330): A lane read of word 0 locks the head entry; a read of its last word releases it. -/
  | canRxfHead (lane : Lane) (ch : Nat) (word : Nat)
  /-- CAN_RXF_DROPS (R330): A read returns and clears the FIFO drop count. -/
  | canRxfDrops (reader : Option Lane) (ch : Nat)
  /-- EVT_PEND (R380): A write of 1 clears pending bits for raises stamped before the write. -/
  | evtPend (line : Nat) (word : Nat) (bits : BitVec 32)
  /-- EVT_MASK (R378): A write sets the mask; a pending unmasked source asserts the line. -/
  | evtMask (line : Nat) (word : Nat) (bits : BitVec 32)
  /-- EVT_Q_HEAD (R380): A read of word 0 locks the queue head; a read of word 3 releases it. -/
  | evtQHead (line : Nat) (word : Nat)
  /-- EVT_Q_DROPS (R379): A read returns and clears the queue drop count. -/
  | evtQDrops (line : Nat)
  /-- REGISTER_WRITE (R8): A write to a register without behaviour of its own follows its access code. -/
  | registerWrite (addr : Nat) (value : BitVec 64)
  /-- RESERVED_ACCESS (R29): An access to a reserved address or a write to a read-only region completes with a bus error. -/
  | reservedAccess (at' : Access) (write : Bool)
  /-- FRAME_START (R43): At each frame-start raw count outputs take effect, inputs are sampled and inbound slots captured. -/
  | frameStart (inp : FrameIn)
  /-- TOKEN_DECISION (R69): At 249.6 µs the token is kept or moved to the other lane. -/
  | tokenDecision
  /-- LANE_SELF_FAULT (R58): A lane self-check trips and the lane goes silent within 1 µs. -/
  | laneSelfFault (lane : Lane) (check : Nat)
  /-- LANE_CORRECTED_ECC (R59): A correctable SRAM error is corrected and reported. -/
  | laneCorrectedEcc (lane : Lane)
  /-- FRAME_TICK_MISSING (R80): A missing frame-start tick holds both lanes; after two such frames they go silent. -/
  | frameTickMissing
  /-- LANE_RELOAD_DONE (R71): The Gaffer finishes loading a lane after a per-lane reset or NO_LANE. -/
  | laneReloadDone (lane : Lane) (ok : Bool)
  /-- PER_LANE_RESET (R438): The Gaffer resets one lane and leaves it LOADING. -/
  | perLaneReset (lane : Lane)
  /-- PUNTY_TRANSFER_DONE (R75): The last dirty blocks are copied and the receiving lane enters STANDBY. -/
  | puntyTransferDone
  /-- PUNTY_TRANSFER_TIMEOUT (R76): A transfer not done within 400 frames is abandoned. -/
  | puntyTransferTimeout
  /-- PUNTY_RETRY (R76): An abandoned transfer is retried after 1 s. -/
  | puntyRetry
  /-- PPS_OUT_EDGE (R47): At each PPS_OUT edge the phase error is measured, a correction scheduled and TIME_PPS published. -/
  | ppsOutEdge (avail : List (Nat × Int)) (nav : Option NavLeap)
  /-- CORRECTION_EFFECT (R36): A scheduled correction record takes effect at its raw count. -/
  | correctionEffect
  /-- REF0_MONITOR_TRIP (R32): REF0 is judged failed and CK_TIME changes to REF1. -/
  | ref0MonitorTrip (stopped : Bool)
  /-- REF_MISMATCH (R34): REF0 and REF1 differ by more than 200 ppm and the monitor judges which failed. -/
  | refMismatch (aonPpm : Int)
  /-- REF1_STOP (R435): REF1 stops for two periods and is judged failed. -/
  | ref1Stop
  /-- SOURCE_LOST (R49): The time source in use is judged lost. -/
  | sourceLost
  /-- PPS_IN_EDGE (R53): A PPS_IN edge is stamped and accepted or rejected. -/
  | ppsInEdge
  /-- PH_FIRE_INSTANT (R151): A PH profile starts or restarts at fire_us, requesting the boost path. -/
  | phFireInstant (inst : Nat)
  /-- BOOST_WAIT_EXPIRY (R158): A request queued for BOOST_WAIT skips to PEAK. -/
  | boostWaitExpiry (inst : Nat)
  /-- BOOST_END (R151): BOOST ends at i_peak or t_boost_max and releases the path. -/
  | boostEnd (inst : Nat) (reached : Bool)
  /-- PEAK_END (R151): t_peak elapses and the profile decays to HOLD by dec_ph. -/
  | peakEnd (inst : Nat)
  /-- HOLD_END (R151): t_hold elapses and the profile decays by dec_off. -/
  | holdEnd (inst : Nat)
  /-- DECAY_END (R151): The current falls below 10 mA and the profile returns to IDLE. -/
  | decayEnd (inst : Nat)
  /-- DRV_FAULT_DETECT (R164): A driver diagnostic condition is detected and the hardware reacts. -/
  | drvFaultDetect (inst : Nat) (code : Nat)
  /-- DRV_RETRY (R164): A shorted or overheated channel or converter retries after its wait. -/
  | drvRetry (inst : Nat)
  /-- OPEN_LOAD_TEST (R164): The 100 ms open-load test runs on an OFF or IDLE channel. -/
  | openLoadTest (inst : Nat) (isOpen : Bool)
  /-- CLAMP_UNAVAILABLE (R156): A channel's clamp becomes unavailable or available again. -/
  | clampUnavailable (inst : Nat) (code : Nat) (on : Bool)
  /-- SUP_OVERCURRENT (R177): A sensor supply above 200 mA switches off. -/
  | supOvercurrent (sup : Nat)
  /-- SUP_RETRY (R177): A supply retries 100 ms after switching off, latching after its last retry. -/
  | supRetry (sup : Nat)
  /-- SAFETY_CYCLE (R190): The Safety Processor runs a 1 ms cycle evaluating every function. -/
  | safetyCycle (inp : SafeIn)
  /-- SAFETY_TICK_MISSING (R191): The cycle starts on CK_SAFE 20 µs after the expected tick. -/
  | safetyTickMissing (inp : SafeIn)
  /-- TEST_PULSE (R194): A test-pulse supply drops for 300 µs and channels are blanked. -/
  | testPulse (supply : Nat)
  /-- PULSE_CHECK (R195): Channels are checked at 250 µs of a pulse for shorts. -/
  | pulseCheck (supply : Nat) (levels : BitVec 24) (before : BitVec 24)
  /-- SAFETY_INPUT_EDGE (R196): A safety input changes and its filter starts. -/
  | safetyInputEdge (sin : Nat) (level : Bool)
  /-- SAFETY_FILTER_EXPIRY (R196): The filtered state changes after the filter time outside blanking. -/
  | safetyFilterExpiry (sin : Nat)
  /-- RESET_RELEASE (R200): A release of the RESET pair after 0.1–5.0 s gives a valid reset. -/
  | resetRelease
  /-- JACK_TRIP_LINE (R207): Jack opens ground J switches 2 ms after the trip line asserts. -/
  | jackTripLine
  /-- JACK_BACKSTOP (R207): Jack opens ground J switches when a demand stands t_max + 1 s. -/
  | jackBackstop
  /-- SEAT_DELAY_EXPIRY (R209): seat_delay passes and SF4 activates the triggers of SF2 and SF3. -/
  | seatDelayExpiry
  /-- DARK_TEST (R202): An energised output's switch is opened briefly to test it. -/
  | darkTest (out : Nat) (jack : Bool) (ok : Bool)
  /-- JACK_CLOCK_FAIL (R188): Jack sees CK_SAFE fail and opens every J switch. -/
  | jackClockFail
  /-- LIFE_LINE_TIMEOUT (R188): The life line does not toggle for 2 ms and Jack opens every J switch. -/
  | lifeLineTimeout
  /-- LOCKSTEP_MISMATCH (R188): A Safety Processor lockstep mismatch opens every P switch. -/
  | lockstepMismatch
  /-- SAFETY_PDU_TX (R211): The own safety PDU is sent every 10 ms or at once on a change. -/
  | safetyPduTx
  /-- SAFETY_PDU_RX (R212): A received safety PDU copy is checked and accepted or discarded. -/
  | safetyPduRx (ch : Nat) (id : BitVec 32) (data : Bytes)
  /-- PDU_WATCHDOG (R212): No accepted copy for 25 ms gives a communication fault. -/
  | pduWatchdog
  /-- SAFETY_START (R213): At PD4 start Jack latches parameters and the start-up test runs. -/
  | safetyStart (test : SafetyTest)
  /-- GNSS_EPOCH (R226): The receiver latches all channel measurements at an epoch raw count. -/
  | gnssEpoch (meas : List GnssMeas) (sats : List (Nat × SatRow))
  /-- GNSS_EPOCH_PUBLISH (R228): GNSS_EPOCH entries of both antennas are written. -/
  | gnssEpochPublish
  /-- GNSS_PVT (R239): The solution is published and slot_map slots are written. -/
  | gnssPvt (sol : PvtIn)
  /-- RTCM_FRAME (R229): An RTCM transport frame is parsed and used or discarded. -/
  | rtcmFrame (can : Bool) (frame : Bytes)
  /-- CORR_AGED (R230): Correction age passes corr_max_age. -/
  | corrAged
  /-- RTCM_CAN_FRAME (R231): A CAN frame on the correction identifier passes stream bytes. -/
  | rtcmCanFrame (data : Bytes)
  /-- ANT_BIAS_FAULT (R222): An antenna bias goes OPEN or SHORT. -/
  | antBiasFault (ant : Nat) (cond : BiasCond)
  /-- ANT_BIAS_RETRY (R222): A shorted bias retries after 1 s and latches at the fifth short. -/
  | antBiasRetry (ant : Nat)
  /-- LOCK_LOST (R237): A channel loses carrier lock and searches for 10 s. -/
  | lockLost (ant : Nat) (chan : Nat)
  /-- SEARCH_TIMEOUT (R237): A channel returns to allocation after 10 s without lock. -/
  | searchTimeout (ant : Nat) (chan : Nat)
  /-- NO_SIGNAL (R237): Every channel of an antenna is out of lock for 1 s. -/
  | noSignal (ant : Nat)
  /-- ANT2_FALLBACK (R237): The solution moves to ANT2, or back to ANT1 after 5 s. -/
  | ant2Fallback (toAnt2 : Bool)
  /-- FUSION_CYCLE (R243): A fusion cycle starts at its frame. -/
  | fusionCycle
  /-- FUSE_SAMPLE (R246): A source sample arrives and is buffered or discarded. -/
  | fuseSample (src : Nat) (x : FuseIn)
  /-- FUSION_CLOSE (R247): A cycle closes when covered, at its wait limit or at 40 ms. -/
  | fusionClose
  /-- FUSE_STATE_PUBLISH (R261): FUSE_STATE is published and slot_map slots written. -/
  | fuseStatePublish
  /-- POC_FAULT (R270): Power over coax overloads and switches off. -/
  | pocFault (link : Nat)
  /-- POC_RETRY (R270): Power over coax retries after 1 s, latching at the fifth. -/
  | pocRetry (link : Nat)
  /-- POC_OPEN (R270): Power over coax below 20 mA for 1 s reports POC_OPEN. -/
  | pocOpen (link : Nat) (isOpen : Bool)
  /-- POWERING_TIMEOUT (R271): No back-channel lock within 500 ms sends the link DOWN. -/
  | poweringTimeout (link : Nat)
  /-- BACK_CHANNEL_LOCK (R271): Back-channel lock moves the link to TRAINING. -/
  | backChannelLock (link : Nat)
  /-- BLOCK_LOCK (R273): Forward block lock is gained or lost. -/
  | blockLock (link : Nat) (gained : Bool)
  /-- LINK_BLOCK (R276): A forward link block is checked and its bytes stored. -/
  | linkBlock (link : Nat) (block : Bytes)
  /-- BACK_CHANNEL_MESSAGE (R278): A back-channel message is received from the hub. -/
  | backChannelMessage (link : Nat) (msg : Bytes)
  /-- BACK_CHANNEL_WINDOW (R269): A 64 µs window starts and the waiting messages are sent. -/
  | backChannelWindow (link : Nat)
  /-- TIME_SYNC (R279): A TIME_SYNC exchange is sent once per ms and its echo evaluated. -/
  | timeSync (link : Nat)
  /-- HUB_LOST (R278): No STATUS for 50 ms returns the link to TRAINING. -/
  | hubLost (link : Nat)
  /-- I2C_RETRY_TIMEOUT (R278): An unanswered request is resent after 2 ms, up to 3 sends. -/
  | i2cRetryTimeout (link : Nat)
  /-- FSYNC_EDGE (R280): FSYNC is sent 200 µs before an edge and the hub triggers the sensor. -/
  | fsyncEdge (slot : Nat)
  /-- GATHER_LINE (R282): A line is written into its slot's gather ring. -/
  | gatherLine (line : GatherIn)
  /-- PIPE_JOB_START (R296): A pipe starts the ready job with the earliest deadline. -/
  | pipeJobStart (pipe : Nat)
  /-- PIPE_JOB_DONE (R297): A pipe job completes and writes its outputs. -/
  | pipeJobDone (pipe : Nat)
  /-- PIPE_FAULT (R300): A pipe enters FAULT and its slots fail over. -/
  | pipeFault (pipe : Nat) (code : Nat)
  /-- PIPE_SELF_TEST_DONE (R300): The 2 ms self-test ends with RUNNING or FAULT. -/
  | pipeSelfTestDone (pipe : Nat) (code : Nat)
  /-- NO_PIPE (R301): A picture arriving with no pipe is discarded. -/
  | noPipe (slot : Nat)
  /-- VIS_PREEMPT (R311): A job is interrupted at a layer boundary by a higher queue. -/
  | visPreempt (part : Nat)
  /-- VIS_JOB_END (R313): A vision job ends and VIS_RESULT is published and slots written. -/
  | visJobEnd (part : Nat) (tensor : Bytes)
  /-- VIS_FAULT (R315): A partition enters FAULT, ending its jobs and unloading models. -/
  | visFault (part : Nat) (code : Nat)
  /-- MODEL_LOAD_DONE (R309): A model load finishes and the model becomes usable. -/
  | modelLoadDone (part : Nat) (kmp : KmpIn)
  /-- ENC_AU (R320): An access unit is coded and ENC_AU published. -/
  | encAu (stream : Nat) (au : AuIn)
  /-- ENC_STREAM_STOP (R321): A mismatched picture or encoder fault stops a stream. -/
  | encStreamStop (stream : Nat) (encFault : Bool)
  /-- CAN_FRAME_RX (R328): A received CAN frame is written to the three FIFOs. -/
  | canFrameRx (ch : Nat) (frame : CanFrame)
  /-- ARBITRATION_OPPORTUNITY (R335): The controller offers the mailbox, heartbeat or FIFO head. -/
  | arbitrationOpportunity (ch : Nat)
  /-- CAN_TX_END (R335): A transmit attempt ends in success, lost arbitration or error. -/
  | canTxEnd (ch : Nat) (result : TxEnd)
  /-- BUS_OFF_RECOVERED (R341): The recovery sequence completes. -/
  | busOffRecovered (ch : Nat)
  /-- HEARTBEAT_DUE (R339): The Heartbeat Slot falls due every hb_period. -/
  | heartbeatDue (ch : Nat)
  /-- CAN1_WAKE (R327): The wake-up pattern on CAN1 wakes the module. -/
  | can1Wake
  /-- ETH_FRAME_RX (R347): A frame enters a port and is queued or dropped. -/
  | ethFrameRx (port : Nat) (frame : Bytes)
  /-- ETH_FRAME_TX (R351): A port starts a frame that fits its gate. -/
  | ethFrameTx (port : Nat)
  /-- GCL_CHANGEOVER (R350): A new gate control list becomes operational. -/
  | gclChangeover (port : Nat)
  /-- GATE_EVENT (R349): The gate control list moves to its next entry. -/
  | gateEvent (port : Nat)
  /-- LAUNCH_TIME (R358): A launch frame is sent at L or treated as late. -/
  | launchTime (port : Nat)
  /-- DESCRIPTOR_POLL (R356): The switch reads the next host descriptor every 1 µs. -/
  | descriptorPoll
  /-- GPTP_MESSAGE (R353): An 802.1AS message is received and processed. -/
  | gptpMessage (port : Nat) (msg : GptpMsg)
  /-- GPTP_SYNC_TX (R353): A Sync or Pdelay message is sent at its interval. -/
  | gptpSyncTx (port : Nat)
  /-- LINK_CHANGE (R359): A port link goes up or down. -/
  | linkChange (port : Nat) (up : Bool)
  /-- DRIVE_CYCLE_START (R365): Dirty rows are copied into the drive memory at a drive-cycle start. -/
  | driveCycleStart
  /-- DRIVE_CYCLE_END (R366): The drive memory CRC is checked against the shadow. -/
  | driveCycleEnd (flips : List Nat)
  /-- VLCD_COMPENSATION (R364): Every 10 s the VLCD code is recomputed. -/
  | vlcdCompensation (temp : Int)
  /-- COUNTER_WRITE (R367): On-time counters are written to SET_DISPLAY every 60 min. -/
  | counterWrite (ok : Bool)
  /-- EVENT_RAISE (R372): A source raises an event that the fabric stamps and delivers. -/
  | eventRaise (src : Nat) (given : RaiseIn)
  /-- RECORD_ACCEPT (R382): The recorder accepts a raise and assigns a sequence number. -/
  | recordAccept
  /-- RECORD_WRITE (R382): A queued record is written to the log bank. -/
  | recordWrite (found : BankLook)
  /-- BUCKET_REFILL (R387): A token is added to each bucket every refill_s. -/
  | bucketRefill
  /-- BANK_FAILED (R390): The log bank fails and the recorder goes VOLATILE. -/
  | bankFailed (cause : Nat) (place : Nat)
  /-- STORE_TAKEN (R401): The writer takes a waiting STORE and captures the set. -/
  | storeTaken
  /-- STORE_WRITTEN (R403): A generation is written, verified and completed. -/
  | storeWritten (verified : Bool)
  /-- HOURS_WRITE (R404): SET_HOURS is written every 360 s in RUN. -/
  | hoursWrite
  /-- SLOT_SELECTION (R410): At every start the Gaffer chooses and loads a code slot. -/
  | slotSelection (loads : List Bool)
  /-- STAGING_TIMEOUT (R412): A staging without a chunk for 600 s becomes SUSPENDED. -/
  | stagingTimeout
  /-- SPLIT_END (R414): split_frames pass and the token moves to the new lane. -/
  | splitEnd
  /-- REHEAT_ENTRY (R421): The module enters Reheat mode. -/
  | reheatEntry
  /-- KEY_HIGH (R431): KEY high for 20 ms starts the module toward RUN. -/
  | keyHigh
  /-- KEY_LOW (R433): KEY low for key_debounce starts SHUTDOWN. -/
  | keyLow
  /-- SHUTDOWN_GRACE_EXPIRY (R433): The grace ends and outputs, domains and stores are shut down. -/
  | shutdownGraceExpiry
  /-- WAKE_INPUT (R431): WAKE high for 10 ms moves SLEEP to PARK. -/
  | wakeInput
  /-- PARK_TIMEOUT (R431): park_min elapses with WAKE low and the module sleeps. -/
  | parkTimeout
  /-- START_MILESTONE (R432): The start sequence reaches its next milestone. -/
  | startMilestone
  /-- DOMAIN_FAULT (R432): A domain not regulated within 50 ms is switched off and retried. -/
  | domainFault (pd : Nat)
  /-- CRANK (R427): The CRANK condition starts or ends. -/
  | crank (on : Bool)
  /-- FEED_SWITCH (R429): A lane regulator moves to or returns from its other feed. -/
  | feedSwitch (lane : Lane) (other : Bool)
  /-- SUPPLY_LOSS (R430): The higher feed below 5.5 V for 500 µs triggers hold-up and shutdown. -/
  | supplyLoss
  /-- FEED_LOW (R441): A feed below 9.0 V or a VACT feed below 6.0 V raises its event. -/
  | feedLow (feed : Nat) (on : Bool)
  /-- CLOCK_FAIL (R435): A clock domain fails and its reaction is taken. -/
  | clockFail (index : Nat)
  /-- RESET_N (R437): RESET_N low for 10 µs gives a FULL reset. -/
  | resetN
  /-- WATCHDOG (R437): The Gaffer ROM watchdog expires and resets the module. -/
  | watchdog
  /-- THERMAL_STEP (R439): A temperature limit is passed or returned from. -/
  | thermalStep (code : Nat) (on : Bool)
  /-- PROFILE_STOP (R153): A stop bit latched in a PH word ends the profile at fire_us of its frame. -/
  | profileStop (inst : Nat)
  /-- DIAGNOSTIC_CLEARING (R164): A non-latching driver flag or warning clears when its condition no longer holds and its end event is raised. -/
  | diagnosticClearing (inst : Nat) (code : Nat)
  /-- QUALIFYING_EDGE (R173): A FIN edge stable for filter_us is counted, stamped, or a quadrature error is flagged. -/
  | qualifyingEdge (fin : Nat) (level : Bool) (both : Bool)
  /-- IMPACT (R175): A loss-sensor signal above threshold_mv outside dead_us counts one impact and updates the peak. -/
  | impact (lsn : Nat) (peak : BitVec 16)
  /-- BIAS_CHECK (R171): The 100 ms bias check of a VR FIN input or LSN input finds a sensor open or present again. -/
  | biasCheck (inst : Nat) (found : Bool)
  /-- SUP_TOL (R177): A sensor supply voltage outside ±5 % for 1 ms flags its supply and linked inputs, or returns within tolerance. -/
  | supTol (sup : Nat) (out : Bool)
  /-- FOLDBACK (R192): A test-pulse supply loaded above 150 mA folds back so its channels read low, and recovers when the load falls. -/
  | foldback (supply : Nat) (on : Bool)
  /-- LIMITATION_SWITCH_OFF (R201): A safety output in current limitation for 10 ms switches off, giving an overcurrent output fault. -/
  | limitationSwitchOff (out : Nat)
  /-- REACQUISITION (R237): A GNSS channel regains carrier lock, restarting lock_time and ending NO_SIGNAL for its antenna. -/
  | reacquisition (ant : Nat) (chan : Nat)
  /-- RECEIVE_ERROR (R340): An error detected on a received CAN frame raises REC and may change the error state. -/
  | receiveError (ch : Nat) (inc : Nat)
  /-- VLCD_REG (R364): The VLCD sense voltage outside ±5 % of its code for 100 ms raises EV117 code 1. -/
  | vlcdReg (out : Bool)
  /-- POWER_ON (R437): Supply is first applied and PD0 starts from no supply, recording reset cause POWER_ON. -/
  | powerOn
  /-- RESET_N_RELEASE (R437): RESET_N returns high and the module leaves reset and starts under R432. -/
  | resetNRelease
  /-- RESTART (R437): The Gaffer restarts the module 1 s after an ADOPT or a Reheat AT_RESTART completion, with reset cause RESTART. -/
  | restart
  /-- OVERVOLTAGE (R441): A feed rising above 36 V raises EV124 code 6, and its return ends it. -/
  | overvoltage (feed : Nat) (on : Bool)
deriving DecidableEq, Repr

end Sys2Proof
end

