-- ==== Sys2Proof/Decode.lean ====
section
/-! DEFINITION. Commands spelled by a word of the opcode table's bits. No row of the table gives bits (every row's field
list is empty): a packet's opcode and operands come over a ring (parsePacket in Machine/PortOps), so no word spells a
command. -/

namespace Sys2Proof

/-- The command that the word `w` of `nbits` bits spells: none, for the table gives no row bits. -/
def decodeTableWord (_nbits _w : Nat) : Option Instr := none

end Sys2Proof
end

