-- ==== Sys2Proof/Config.lean ====
section
/-! DEFINITION. The values the spec leaves open and the cryptographic functions it names without stating: constants
without a body, so that no proof can use a value of theirs (log entries 4 and 5). -/

namespace Sys2Proof

/-- A free value: the `n`th word the machine takes that the spec does not give (measured quantities, estimator
results, random numbers). -/
opaque Config.freeWord : Nat → BitVec 64

/-- What an engine reads at an address off SDRAM or in a poisoned line (log entry 14). -/
opaque Config.freeByte : Nat → BitVec 8

/-- HMAC-SHA-256 of a message under a key (R109) (log entry 5). -/
opaque Config.hmacSha256 : Bytes → Bytes → BitVec 256

/-- The curve check of SESSION_OPEN: the 97 bytes are an uncompressed P-384 point (0x0117) (log entry 5). -/
opaque Config.isP384Point : Bytes → Bool

/-- Byte `k` of the module's ephemeral P-384 public key for draw `n` (0x0117) (log entry 5). -/
opaque Config.ephemeralKey : Nat → Nat → BitVec 8

/-- The session key: first 32 bytes of HKDF-SHA-384 over the ECDH secret of draw `n` with the client's point,
salted with the nonces (0x0117) (log entry 5). -/
opaque Config.sessionKey : Nat → Bytes → Bytes → BitVec 256

/-- Byte `k` of the ECDSA P-384 signature of a message by the module identity key of draw `n` (0x0117) (log entry 5). -/
opaque Config.moduleSign : Nat → Bytes → Nat → BitVec 8

/-- An ECDSA P-384 signature of a message verifies under the service credential (0x0118, R423) (log entry 5). -/
opaque Config.credVerify : BitVec 64 → Bytes → Bytes → Bool

/-- An ECDSA P-384 signature of a message verifies under the manufacturer's key (R407) (log entry 5). -/
opaque Config.imageVerify : Bytes → Bytes → Bool

/-- The ECDSA P-384 signature of a model package verifies under a model key of SET_ID (R309) (log entry 5). -/
opaque Config.modelVerify : BitVec 64 → Bytes → Bool

/-- The body of a parameter set (NAL unit type 32 VPS, 33 SPS, 34 PPS) of a stream, from its parameters; the spec names H.265
and prints no syntax (R319) (log entry 50). -/
opaque Config.paramSet : Nat → Bytes → Bytes

/-- The identifier of the user-data SEI message that carries time_raw (R319) (log entry 50). -/
opaque Config.seiUuid : BitVec 128

/-- SHA-384 of a message (R407) (log entry 5). -/
opaque Config.sha384 : Bytes → BitVec 384

/-- The authenticated decryption tag of a component verifies (R408) (log entry 5). -/
opaque Config.tagVerify : Bytes → Bool

/-- The magic number that starts a generation of a settings set (R399). -/
opaque Config.genMagic : BitVec 32

/-- Sine of an angle as the Fusion Engine computes it: the spec names no accuracy (R250, R260) (log entry 44). -/
opaque Config.sin : F64 → F64

/-- Cosine, as Config.sin (log entry 44). -/
opaque Config.cos : F64 → F64

/-- Angle of a point from its second and first coordinate, as Config.sin (log entry 44). -/
opaque Config.atan2 : F64 → F64 → F64

/-- The correction of the navigation estimate at a cycle: word `k` of the estimate at T, from the words of the estimate before,
of the IMU samples that propagate it, and of the values with their sd that correct it; the spec names the inputs and no
filter (R256) (log entries 4, 44). -/
opaque Config.navCorrect : List (BitVec 64) → Nat → BitVec 64

/-- The forward propagation of the estimate: word `k` of the estimate at the instant of publication, from the words of the
estimate at T, of the IMU samples received by then, and the time from T to it (R256) (log entries 4, 44). -/
opaque Config.navForward : List (BitVec 64) → Nat → BitVec 64

/-- Mosaic reconstruction: plane (0–2 for c0–c2 before the IR subtraction, 3 IR, 4 clear) of a pixel, from its pattern, its
position in the pattern and the 5 × 5 window round it; the spec gives its support, not its weights (Table 12-4) (log entry 48). -/
opaque Config.mosaic : Nat → Nat → Nat → List Nat → BitVec 16

/-- The 4-tap polyphase filter of DISP: the sample of an output row or column, from its place and the sixteen samples round
it; the spec gives no coefficients (Table 12-6) (log entry 48). -/
opaque Config.polyphase : Nat → Nat → List Nat → BitVec 16

/-- Where the module places what the spec gives no address: buffer or ring `k` of allocation `n` (R302, R320) (log entry 48). -/
opaque Config.bufAddr : Nat → Nat → BitVec 64

end Sys2Proof
end

