-- ==== Sys2Proof/Machine/Bytes.lean ====
section
/-! DEFINITION. Little-endian byte strings (R7): reading and writing the fields of packets, records and entries. -/

namespace Sys2Proof.Machine

open Sys2Proof

/-- The `n`-byte little-endian value at offset `off`; bytes beyond the end read 0 (R7). -/
def rd (bs : Bytes) (off : Nat) : Nat → Nat
  | 0 => 0
  | n + 1 => (bs.getD off 0).toNat + 256 * rd bs (off + 1) n

/-- The `n` little-endian bytes of `v` (R7). -/
def le : Nat → Nat → Bytes
  | 0, _ => []
  | n + 1, v => BitVec.ofNat 8 v :: le n (v / 256)

/-- `n` zero bytes. -/
def zeros (n : Nat) : Bytes := List.replicate n 0

/-- A value as the signed number its `bits` low bits spell. -/
def toSigned (bits v : Nat) : Int := if v < 2 ^ (bits - 1) then (v : Int) else (v : Int) - (2 ^ bits : Nat)

/-- The signed `n`-byte value at `off`. -/
def rdI (bs : Bytes) (off n : Nat) : Int := toSigned (8 * n) (rd bs off n)

/-- The `n` bytes of a signed value. -/
def leI (n : Nat) (v : Int) : Bytes := le n (v % ((2 ^ (8 * n) : Nat) : Int)).toNat

/-- Bytes `off` to `off + n - 1`, zero-padded. -/
def slice (bs : Bytes) (off n : Nat) : Bytes := (List.range n).map fun k => bs.getD (off + k) 0

/-- Every byte of the field is 0 (a reserved field, R10). -/
def isZero (bs : Bytes) (off n : Nat) : Bool := rd bs off n == 0

/-- The single at an offset. -/
def rdF (bs : Bytes) (off : Nat) : F32 := BitVec.ofNat 32 (rd bs off 4)

/-- The double at an offset. -/
def rdD (bs : Bytes) (off : Nat) : F64 := BitVec.ofNat 64 (rd bs off 8)

/-- A bit as a number. -/
def b2n (b : Bool) : Nat := if b then 1 else 0

/-- Bit `k` of a number. -/
def bit (v k : Nat) : Bool := v.testBit k

/-- Bits [hi:lo] of a number. -/
def bits (v hi lo : Nat) : Nat := v / 2 ^ lo % 2 ^ (hi + 1 - lo)

/-- Write `new` over `old` from offset `off`. -/
def patch (old : Bytes) (off : Nat) (new : Bytes) : Bytes :=
  let pad := old ++ zeros (off + new.length - old.length)
  pad.take off ++ new ++ pad.drop (off + new.length)

/-- Saturating 32-bit count. -/
def sat32 (n : Nat) : Nat := min n 0xFFFFFFFF

/-- Saturating 16-bit count. -/
def sat16 (n : Nat) : Nat := min n 0xFFFF

/-- One saturating count more. -/
def inc32 (n : Nat) : Nat := sat32 (n + 1)

/-- The number modulo 2^32. -/
def w32 (n : Nat) : BitVec 32 := BitVec.ofNat 32 n

/-- Cut a byte string into pieces of `n` bytes (n > 0), at most `k` pieces. -/
def chunks (n : Nat) : Nat → Bytes → List Bytes
  | 0, _ => []
  | k + 1, bs => if bs.isEmpty then [] else bs.take n :: chunks n k (bs.drop n)

/-- An IEEE 754 interchange format: precision and the bits of its infinity. -/
structure Fmt where
  /-- significand bits, the hidden one included -/
  p : Nat
  /-- minus the exponent of the least subnormal -/
  emin : Nat
  /-- bits of +infinity -/
  inf : Nat
  /-- weight of the sign bit -/
  sgn : Nat
deriving DecidableEq, Repr

/-- binary32. -/
def fmt32 : Fmt := ⟨24, 149, 0x7F800000, 2 ^ 31⟩

/-- binary64. -/
def fmt64 : Fmt := ⟨53, 1074, 0x7FF0000000000000, 2 ^ 63⟩

/-- Round the positive rational n / d to the format, to nearest with ties to even: the magnitude bits, without
the sign. -/
def roundMag (f : Fmt) (n d : Nat) : Nat :=
  if n = 0 ∨ d = 0 then 0 else
  let ln := Nat.log2 n
  let ld := Nat.log2 d
  -- floor of log2 (n / d)
  let e : Int :=
    let e0 : Int := (ln : Int) - ld
    if ln ≥ ld then (if n < d * 2 ^ (ln - ld) then e0 - 1 else e0)
    else (if n * 2 ^ (ld - ln) < d then e0 - 1 else e0)
  let q : Int := max (e - (f.p - 1 : Nat)) (-(f.emin : Int))
  let nn := if q < 0 then n * 2 ^ (-q).toNat else n
  let dd := if q < 0 then d else d * 2 ^ q.toNat
  let k := nn / dd
  let r := nn % dd
  let k' := if 2 * r > dd ∨ (2 * r = dd ∧ k % 2 = 1) then k + 1 else k
  min f.inf ((q + f.emin).toNat * 2 ^ (f.p - 1) + k')

/-- The classes of a floating-point value. -/
inductive FVal where
  /-- a NaN -/
  | nan
  /-- an infinity, negative or not -/
  | inf (neg : Bool)
  /-- sign and magnitude in units of the least subnormal -/
  | fin (neg : Bool) (mag : Nat)
deriving DecidableEq, Repr

/-- What the bits of a format stand for. -/
def fval (f : Fmt) (b : Nat) : FVal :=
  let neg := decide (f.sgn ≤ b % (2 * f.sgn))
  let a := b % f.sgn
  if a > f.inf then .nan
  else if a = f.inf then .inf neg
  else
    let m := 2 ^ (f.p - 1)
    let be := a / m
    if be = 0 then .fin neg a else .fin neg ((a % m + m) * 2 ^ (be - 1))

/-- The quiet NaN. -/
def qnan (f : Fmt) : Nat := f.inf + 2 ^ (f.p - 2)

/-- Bits of a signed infinity. -/
def infBits (f : Fmt) (neg : Bool) : Nat := if neg then f.sgn + f.inf else f.inf

/-- Bits of the rounded value (−1)^neg × n / d. -/
def roundTo (f : Fmt) (neg : Bool) (n d : Nat) : Nat := (if neg then f.sgn else 0) + roundMag f n d

/-- Bits of an exact integer multiple x / d, an exact zero taking the sign `zneg`. -/
def roundInt (f : Fmt) (x : Int) (d : Nat) (zneg : Bool) : Nat :=
  if x = 0 then (if zneg then f.sgn else 0) else roundTo f (decide (x < 0)) x.natAbs d

/-- A finite magnitude with its sign. -/
def sgnd (neg : Bool) (m : Nat) : Int := if neg then -(m : Int) else m

/-- Sum, one rounding. -/
def fadd (f : Fmt) (a b : Nat) : Nat :=
  match fval f a, fval f b with
  | .nan, _ => qnan f
  | _, .nan => qnan f
  | .inf s, .inf t => if s = t then infBits f s else qnan f
  | .inf s, .fin _ _ => infBits f s
  | .fin _ _, .inf t => infBits f t
  | .fin s m, .fin t n => roundInt f (sgnd s m + sgnd t n) (2 ^ f.emin) (s && t)

/-- Sign inversion. -/
def fneg (f : Fmt) (a : Nat) : Nat := if f.sgn ≤ a % (2 * f.sgn) then a % f.sgn else a % f.sgn + f.sgn

/-- Difference. -/
def fsub (f : Fmt) (a b : Nat) : Nat := fadd f a (fneg f b)

/-- Product. -/
def fmul (f : Fmt) (a b : Nat) : Nat :=
  match fval f a, fval f b with
  | .nan, _ => qnan f
  | _, .nan => qnan f
  | .inf s, .inf t => infBits f (s != t)
  | .inf s, .fin t n => if n = 0 then qnan f else infBits f (s != t)
  | .fin s m, .inf t => if m = 0 then qnan f else infBits f (s != t)
  | .fin s m, .fin t n => roundTo f (s != t) (m * n) (2 ^ (2 * f.emin))

/-- Fused a × b + c: the exact product and sum, one rounding. -/
def ffma (f : Fmt) (a b c : Nat) : Nat :=
  match fval f a, fval f b with
  | .nan, _ => qnan f
  | _, .nan => qnan f
  | .fin s m, .fin t n =>
    match fval f c with
    | .nan => qnan f
    | .inf u => infBits f u
    | .fin u k =>
      roundInt f (sgnd (s != t) (m * n) + sgnd u (k * 2 ^ f.emin)) (2 ^ (2 * f.emin)) ((s != t) && u)
  | x, y =>
    -- an infinite factor: the product is infinite or NaN
    let zero := decide (x = .fin false 0 ∨ x = .fin true 0 ∨ y = .fin false 0 ∨ y = .fin true 0)
    let neg := (f.sgn ≤ a % (2 * f.sgn) : Bool) != (f.sgn ≤ b % (2 * f.sgn) : Bool)
    if zero then qnan f else
    match fval f c with
    | .nan => qnan f
    | .inf u => if u = neg then infBits f neg else qnan f
    | .fin _ _ => infBits f neg

/-- Quotient. -/
def fdiv (f : Fmt) (a b : Nat) : Nat :=
  match fval f a, fval f b with
  | .nan, _ => qnan f
  | _, .nan => qnan f
  | .inf _, .inf _ => qnan f
  | .inf s, .fin t _ => infBits f (s != t)
  | .fin s _, .inf t => if s != t then f.sgn else 0
  | .fin s m, .fin t n => if n = 0 then (if m = 0 then qnan f else infBits f (s != t)) else roundTo f (s != t) m n

/-- Integer square root by binary search: the greatest r with r² ≤ n, `k` the bits of r. -/
def isqrt (n : Nat) : Nat → Nat → Nat
  | 0, r => r
  | k + 1, r => if (r + 2 ^ k) * (r + 2 ^ k) ≤ n then isqrt n k (r + 2 ^ k) else isqrt n k r

/-- Square root: rounded from a root taken to 64 bits more than the format holds, with a sticky bit. -/
def fsqrt (f : Fmt) (a : Nat) : Nat :=
  match fval f a with
  | .nan => qnan f
  | .inf s => if s then qnan f else f.inf
  | .fin s m =>
    if m = 0 then (if s then f.sgn else 0) else if s then qnan f else
    -- value = m / 2^emin = (m · 2^(emin + 256)) / 2^(2·(emin + 128))
    let n := m * 2 ^ (f.emin + 256)
    let r := isqrt n (Nat.log2 n / 2 + 1) 0
    let sticky := if r * r = n then 0 else 1
    roundMag f (2 * r + sticky) (2 ^ (f.emin + 128 + 1))

/-- A value is NaN. -/
def fisNan (f : Fmt) (a : Nat) : Bool := decide (fval f a = .nan)

/-- A value is finite. -/
def fisFin (f : Fmt) (a : Nat) : Bool := match fval f a with | .fin _ _ => true | _ => false

/-- The order a < b; false if either is NaN. -/
def flt (f : Fmt) (a b : Nat) : Bool :=
  match fval f a, fval f b with
  | .nan, _ => false
  | _, .nan => false
  | .inf s, .inf t => s && !t
  | .inf s, .fin _ _ => s
  | .fin _ _, .inf t => !t
  | .fin s m, .fin t n => decide (sgnd s m < sgnd t n)

/-- a ≤ b; false if either is NaN. -/
def fle (f : Fmt) (a b : Nat) : Bool := !fisNan f a && !fisNan f b && !flt f b a

/-- a = b as numbers (−0 = +0). -/
def feq (f : Fmt) (a b : Nat) : Bool := fle f a b && fle f b a

namespace S

/-- binary32 sum. -/
def add (a b : F32) : F32 := BitVec.ofNat 32 (fadd fmt32 a.toNat b.toNat)
/-- binary32 difference. -/
def sub (a b : F32) : F32 := BitVec.ofNat 32 (fsub fmt32 a.toNat b.toNat)
/-- binary32 product. -/
def mul (a b : F32) : F32 := BitVec.ofNat 32 (fmul fmt32 a.toNat b.toNat)
/-- binary32 quotient. -/
def div (a b : F32) : F32 := BitVec.ofNat 32 (fdiv fmt32 a.toNat b.toNat)
/-- binary32 fused multiply-add. -/
def fma (a b c : F32) : F32 := BitVec.ofNat 32 (ffma fmt32 a.toNat b.toNat c.toNat)
/-- binary32 square root. -/
def sqrt (a : F32) : F32 := BitVec.ofNat 32 (fsqrt fmt32 a.toNat)
/-- binary32 negation. -/
def neg (a : F32) : F32 := BitVec.ofNat 32 (fneg fmt32 a.toNat)
/-- magnitude. -/
def abs (a : F32) : F32 := a &&& 0x7FFFFFFF
/-- a < b. -/
def lt (a b : F32) : Bool := flt fmt32 a.toNat b.toNat
/-- a ≤ b. -/
def le (a b : F32) : Bool := fle fmt32 a.toNat b.toNat
/-- a is NaN. -/
def isNan (a : F32) : Bool := fisNan fmt32 a.toNat
/-- a is finite. -/
def isFin (a : F32) : Bool := fisFin fmt32 a.toNat
/-- The integer x / d rounded to binary32. -/
def ofRat (x : Int) (d : Nat) : F32 := BitVec.ofNat 32 (roundInt fmt32 x d false)
/-- An integer rounded to binary32. -/
def ofInt (x : Int) : F32 := ofRat x 1
/-- The value times 2^149 as an integer; 0 for NaN and infinities. -/
def scaled (a : F32) : Int := match fval fmt32 a.toNat with | .fin s m => sgnd s m | _ => 0
/-- Round x / d to the nearest integer, ties to even (d > 0). -/
def rne (x : Int) (d : Nat) : Int :=
  let q := x / (d : Int)
  let r := x % (d : Int)
  if 2 * r > (d : Int) ∨ (2 * r = (d : Int) ∧ q % 2 = 1) then q + 1 else q
/-- The value rounded to the nearest integer, ties to even. -/
def toIntRne (a : F32) : Int := rne (scaled a) (2 ^ 149)
/-- The value truncated toward zero. -/
def toIntTrunc (a : F32) : Int := (scaled a).tdiv ((2 ^ 149 : Nat) : Int)
/-- Greater of two, the second where either is NaN. -/
def max (a b : F32) : F32 := if lt b a then a else b
/-- Lesser of two, the second where either is NaN. -/
def min (a b : F32) : F32 := if lt a b then a else b

end S

namespace D

/-- binary64 sum. -/
def add (a b : F64) : F64 := BitVec.ofNat 64 (fadd fmt64 a.toNat b.toNat)
/-- binary64 difference. -/
def sub (a b : F64) : F64 := BitVec.ofNat 64 (fsub fmt64 a.toNat b.toNat)
/-- binary64 product. -/
def mul (a b : F64) : F64 := BitVec.ofNat 64 (fmul fmt64 a.toNat b.toNat)
/-- binary64 quotient. -/
def div (a b : F64) : F64 := BitVec.ofNat 64 (fdiv fmt64 a.toNat b.toNat)
/-- binary64 square root. -/
def sqrt (a : F64) : F64 := BitVec.ofNat 64 (fsqrt fmt64 a.toNat)
/-- a < b. -/
def lt (a b : F64) : Bool := flt fmt64 a.toNat b.toNat
/-- a ≤ b. -/
def le (a b : F64) : Bool := fle fmt64 a.toNat b.toNat
/-- a is finite. -/
def isFin (a : F64) : Bool := fisFin fmt64 a.toNat
/-- The integer x / d rounded to binary64. -/
def ofRat (x : Int) (d : Nat) : F64 := BitVec.ofNat 64 (roundInt fmt64 x d false)
/-- The value times 2^1074 as an integer; 0 for NaN and infinities. -/
def scaled (a : F64) : Int := match fval fmt64 a.toNat with | .fin s m => sgnd s m | _ => 0
/-- binary64 rounded to binary32. -/
def toS (a : F64) : F32 :=
  match fval fmt64 a.toNat with
  | .nan => BitVec.ofNat 32 (qnan fmt32)
  | .inf s => BitVec.ofNat 32 (infBits fmt32 s)
  | .fin s m => BitVec.ofNat 32 (roundTo fmt32 s m (2 ^ 1074))
/-- binary32 as binary64, exact. -/
def ofS (a : F32) : F64 :=
  match fval fmt32 a.toNat with
  | .nan => BitVec.ofNat 64 (qnan fmt64)
  | .inf s => BitVec.ofNat 64 (infBits fmt64 s)
  | .fin s m => BitVec.ofNat 64 (roundTo fmt64 s m (2 ^ 149))

end D

end Sys2Proof.Machine
end

