-- ==== Sys2Proof/Machine/Crc.lean ====
section
/-! DEFINITION. The cyclic redundancy checks of the module. -/

namespace Sys2Proof.Machine

open Sys2Proof

/-- One bit of a reflected CRC: shift right, and exclusive-or the polynomial if a 1 fell out. -/
def crcRBit (poly : Nat) (c : Nat) : Nat := if c % 2 = 1 then (c / 2) ^^^ poly else c / 2

/-- One byte of a reflected CRC. -/
def crcRByte (poly : Nat) (c : Nat) (b : Byte) : Nat :=
  (List.range 8).foldl (fun x _ => crcRBit poly x) (c ^^^ b.toNat)

/-- A reflected CRC over bytes. -/
def crcR (poly init xorout : Nat) (bs : Bytes) : Nat := (bs.foldl (crcRByte poly) init) ^^^ xorout

/-- One bit of a non-reflected CRC of `w` bits. -/
def crcLBit (w poly : Nat) (c : Nat) : Nat :=
  if c.testBit (w - 1) then (2 * c % 2 ^ w) ^^^ poly else 2 * c % 2 ^ w

/-- One byte of a non-reflected CRC of `w` bits (w ≥ 8). -/
def crcLByte (w poly : Nat) (c : Nat) (b : Byte) : Nat :=
  (List.range 8).foldl (fun x _ => crcLBit w poly x) (c ^^^ (b.toNat * 2 ^ (w - 8)))

/-- A non-reflected CRC over bytes. -/
def crcL (w poly init : Nat) (bs : Bytes) : Nat := bs.foldl (crcLByte w poly) init

/-- CRC-32 as Table 11-2 states it for the link block (IEEE 802.3: polynomial 0x04C11DB7, reflected). -/
def crc32 (bs : Bytes) : Nat := crcR 0xEDB88320 0xFFFFFFFF 0xFFFFFFFF bs

/-- CRC-32C (R472: polynomial 0x1EDC6F41, reflected). -/
def crc32c (bs : Bytes) : Nat := crcR 0x82F63B78 0xFFFFFFFF 0xFFFFFFFF bs

end Sys2Proof.Machine
end

