-- ==== Sys2Proof/Machine/State.lean ====
section
/-! DEFINITION. The state of the module: every register, queue, counter, mode and pin the spec gives it, as plain data.
The tag at the end of a field's comment names the rule, the width and the reset value; DC marks a reset value the
spec does not give (log entry 3). -/

namespace Sys2Proof.Machine

open Sys2Proof

/-! ### Command Port (chapter 04) -/

/-- A service session of ring 12 or 13 (R109). -/
structure Session where
  /-- a session is open [R109; 1 bit; reset false] -/
  opened : Bool := false
  /-- session number [R109; 16 bit; DC 0] -/
  num : BitVec 16 := 0
  /-- 32-byte session key [R109; 256 bit; DC empty] -/
  key : Bytes := []
  /-- parameters and reply of SESSION_OPEN, over which the proof is signed [R109; bytes; DC empty] -/
  transcript : Bytes := []
  /-- SESSION_PROVE has granted the session rights [R109; 1 bit; reset false] -/
  proven : Bool := false
  /-- last accepted counter [R109; 32 bit; DC 0] -/
  counter : Nat := 0
  /-- raw count of the last accepted datagram [R109; 64 bit; DC 0] -/
  lastRaw : Nat := 0
  /-- counter of the last datagram the module sent in the session [R108; 32 bit; DC 0] -/
  txCounter : Nat := 0
deriving DecidableEq, Repr

/-- A tag the service port keeps (R110) (log entry 63). -/
structure Kept where
  /-- tag [R110; 16 bit; DC 0] -/
  tag : BitVec 16
  /-- the packet bytes [R110; bytes; DC empty] -/
  packet : Bytes
  /-- latest completion sent for it [R110; bytes; DC none] -/
  sent : Option Bytes
  /-- raw count of the final completion [R110; 64 bit; DC none] -/
  doneRaw : Option Nat
  /-- the sender's address and port [R108; identifier; DC 0] -/
  sender : Nat
deriving DecidableEq, Repr

/-- One command ring (R88–R92). -/
structure Ring where
  /-- CP_DOORBELL.sq_tail [R89; 32 bit; reset 0] -/
  sqTail : BitVec 32 := 0
  /-- CP_SQ_HEAD.sq_head [R89; 32 bit; reset 0] -/
  sqHead : BitVec 32 := 0
  /-- CP_CQ_TAIL.cq_tail [R89; 32 bit; reset 0] -/
  cqTail : BitVec 32 := 0
  /-- CP_CQ_HEAD.cq_head [R89; 32 bit; reset 0] -/
  cqHead : BitVec 32 := 0
  /-- CP_RING_CTRL.enable [R89; 1 bit; reset false] -/
  enable : Bool := false
  /-- CP_RING_STATUS.err_code [R89; 4 bit; reset 0] -/
  errCode : Nat := 0
  /-- CP_RING_STATUS.cq_wait [R91; 1 bit; reset false] -/
  cqWait : Bool := false
  /-- a ring reset waits for in_flight 0 [R92; 1 bit; reset false] -/
  resetting : Bool := false
  /-- submission slots, 256 of 256 bytes [R88; 256 x 256 byte; DC empty] -/
  sq : Tab Bytes := []
  /-- completion slots, 256 of 256 bytes [R88; 256 x 256 byte; DC empty] -/
  cq : Tab Bytes := []
  /-- the service session (rings 12, 13) [R109; record; reset closed] -/
  session : Session := {}
  /-- the tags kept (rings 12, 13), at most 256 [R110; list; reset empty] -/
  kept : List Kept := []
deriving DecidableEq, Repr

/-- A dispatched command whose final completion is not yet written (in_flight, Table 04-2). -/
structure Flight where
  /-- the command [R96; packet; DC none] -/
  cmd : Cmd
  /-- its opcode [R94; 16 bit; DC 0] -/
  opcode : Nat
  /-- its submission count, the place in ring order [R90; 32 bit; DC 0] -/
  idx : BitVec 32
  /-- its completions are discarded: its ring was reset meanwhile [R92; 1 bit; reset false] -/
  discard : Bool := false
  /-- BARRIER: for each named ring the sq_tail its commands must be done up to [R104; list; reset empty] -/
  waits : List (Nat × BitVec 32) := []
deriving DecidableEq, Repr

/-- A frame-stamped command in the lanes' queues (R102, R103). -/
structure Stamped where
  /-- the command [R103; packet; DC none] -/
  cmd : Cmd
  /-- its opcode [R94; 16 bit; DC 0] -/
  opcode : Nat
  /-- 64-bit commit frame [R102; 64 bit; DC 0] -/
  frame : Nat
  /-- its submission count [R90; 32 bit; DC 0] -/
  idx : BitVec 32
  /-- its completions are discarded: its ring was reset meanwhile [R92; 1 bit; reset false] -/
  discard : Bool := false
  /-- state changes of the lane it names, when it was stamped [R86; count; DC 0] -/
  mark : Nat := 0
deriving DecidableEq, Repr

/-- The snapshot image that is held (R105). -/
structure Snapshot where
  /-- snapshot frame [R105; 64 bit; DC 0] -/
  frame : Nat
  /-- raw count of the start of frame n + 1 [R105; 64 bit; DC 0] -/
  raw : Nat
  /-- the image: header, directory, sections [R105; bytes; DC empty] -/
  image : Bytes
  /-- number of sections [R105; 16 bit; DC 0] -/
  sections : Nat
  /-- raw count of its completion [R105; 64 bit; DC 0] -/
  doneRaw : Nat
deriving DecidableEq, Repr

/-- The answer to the last bus access of an application core or lane. -/
structure BusResp where
  /-- data returned [R8; 64 bit; DC 0] -/
  value : BitVec 64 := 0
  /-- the access ended in a bus error [R29; 1 bit; DC false] -/
  error : Bool := false
deriving DecidableEq, Repr

/-- The Command Port (chapter 04). -/
structure Port where
  /-- rings 0–15 [R88; 16 rings; reset Table 04-2] -/
  rings : Tab Ring := []
  /-- commands in flight, in dispatch order [R91; list; reset empty] -/
  flight : List Flight := []
  /-- ring whose turn comes next [R93; 4 bit; DC 0] -/
  turn : Nat := 0
  /-- stamped commands in both lanes' queues, in stamping order [R103; 512 entries; reset empty] -/
  laneQ : List Stamped := []
  /-- the snapshot held [R105; image; reset none] -/
  snap : Option Snapshot := none
  /-- a snapshot stamped for a frame whose image is not yet captured [R104; frame; reset none] -/
  snapWait : Option (Flight × Nat) := none
  /-- SNAPSHOT_READs served in the present frame [R105; 7 bit; reset 0] -/
  snapReads : Nat := 0
  /-- dispatch runs (false while CK_FAB has failed) [R436; 1 bit; reset true] -/
  running : Bool := true
  /-- service datagrams sent: (receiver, bytes), oldest first [R108; list; reset empty] -/
  sent : List (Nat × Bytes) := []
  /-- Reheat: bytes of the datagram being assembled from CAN1 segments [R422; bytes; reset empty] -/
  seg : Bytes := []
  /-- Reheat: segments of answers that wait to leave by CAN1 [R422; CAN frames; reset empty] -/
  segOut : List CanFrame := []
  /-- Reheat: index of the next segment [R422; 6 bit; reset 0] -/
  segNext : Nat := 0
deriving DecidableEq, Repr

/-! ### Timebase (chapter 02) -/

/-- A correction record (R35, R36); times are in units of 2^−16 ns since the epoch. -/
structure CorrRec where
  /-- raw count at which it took effect [R35; 64 bit; reset 0] -/
  c0 : Nat := 0
  /-- module time at c0 [R35; 96 bit; DC 0] -/
  t0 : Int := 0
  /-- rate, signed, in 2^−40 [R35; 32 bit signed; reset 0] -/
  rate : Int := 0
deriving DecidableEq, Repr

/-- A correction that is scheduled and not yet in force (R47, SCHEDULE_CORRECTION). -/
structure CorrPending where
  /-- the record; t0 is used only when `time` is set [R36; record; DC none] -/
  rcd : CorrRec
  /-- it carries a new module time (a step) [R36; 1 bit; reset false] -/
  time : Bool
  /-- its slew term, in 2^−40 [R47; 32 bit signed; reset 0] -/
  slew : Int
  /-- it keeps the rate in force (SET_RATE not set) [R36; 1 bit; reset false] -/
  keepRate : Bool
  /-- it was ordered by SCHEDULE_CORRECTION [R36; 1 bit; reset false] -/
  cmd : Bool
deriving DecidableEq, Repr

/-- What one application core's capture registers hold (Table 02-2). -/
structure Capture where
  /-- TB_MT_LO, TB_MT_HI [R40; 96 bit; reset 0] -/
  mt : BitVec 96 := 0
  /-- TB_MT_RAW [R40; 64 bit; reset 0] -/
  mtRaw : BitVec 64 := 0
  /-- TB_CONV_IN [R40; 64 bit; reset 0] -/
  convIn : BitVec 64 := 0
  /-- TB_CONV_LO, TB_CONV_HI [R40; 96 bit; reset 0] -/
  conv : BitVec 96 := 0
  /-- TB_CONV_HI bit 32 extrap [R37; 1 bit; reset false] -/
  extrap : Bool := false
deriving DecidableEq, Repr

/-- The timebase and the TIME engine. -/
structure Time where
  /-- TB_RAW, the raw counter [R31; 64 bit; reset 0] -/
  raw : Nat := 0
  /-- correction records, newest first, the head in force [R37; 8192 records; reset one record at 0] -/
  recs : List CorrRec := [{}]
  /-- the scheduled correction; TB_STATUS.corr_pending [R47; record; reset none] -/
  pending : Option CorrPending := none
  /-- TB_STATUS.src [R46; 2 bit; reset 0] -/
  src : Nat := 0
  /-- TB_STATUS.holdover [R50; 1 bit; reset false] -/
  holdover : Bool := false
  /-- TB_STATUS.unsynced [R48; 1 bit; reset true] -/
  unsynced : Bool := true
  /-- TB_STATUS.ref [R32; 1 bit; reset false] -/
  ref : Bool := false
  /-- REF1 has been judged failed [R34; 1 bit; reset false] -/
  ref1Failed : Bool := false
  /-- slew term in force, in 2^−40; TB_STATUS.slewing where not 0 [R47; 32 bit signed; reset 0] -/
  slew : Int := 0
  /-- slew term that was in force before the last record took effect [R55; 32 bit signed; reset 0] -/
  slewOld : Int := 0
  /-- TB_STATUS.leap_pending [R52; 1 bit; reset false] -/
  leapPending : Bool := false
  /-- TB_STATUS.tai_utc [R52; 16 bit; reset 37] -/
  taiUtc : Nat := 37
  /-- TB_UNC in ns [R466; 32 bit; reset 0xFFFFFFFF] -/
  unc : Nat := 0xFFFFFFFF
  /-- uncertainty reported at the last edge with a source in use [R50; 32 bit; DC 0] -/
  u0 : Nat := 0
  /-- raw count at which holdover began [R50; 64 bit; DC 0] -/
  holdRaw : Nat := 0
  /-- frequency estimate f, in 2^−40 [R47; signed; DC 0] -/
  freq : Int := 0
  /-- source in use was judged lost, until the next edge [R49; 1 bit; reset false] -/
  lost : Bool := false
  /-- per source code: raw count + 1 since which it has been available without a break [R49; 64 bit each; reset 0] -/
  availSince : Tab Nat := []
  /-- raw count since which the source in use has been in use without a break [R34; 64 bit; DC 0] -/
  inUseSince : Nat := 0
  /-- raw count of the last PPS_OUT edge; none before the first [R55; 64 bit; reset none] -/
  lastEdge : Option Nat := none
  /-- a correction that took effect was a step: flag the next edge [R48; 1 bit; reset false] -/
  stepFlag : Bool := false
  /-- the last step in 2^−16 ns [R48; signed; DC 0] -/
  stepSize : Int := 0
  /-- last measured phase error, ps [R55; 32 bit signed; reset 0] -/
  errPs : Int := 0
  /-- PPS_OUT enabled level: raw count of the last pin edge, none while held low [R52; pin; reset none] -/
  ppsOut : Option Nat := none
  /-- SET_SOURCE, SET_PPS parameters waiting for the next edge [R46; 16 byte; reset none] -/
  nextSource : Option Bytes := none
  /-- SET_PPS parameters waiting for the next edge [R52; 16 byte; reset none] -/
  nextPps : Option Bytes := none
  /-- a leap second commanded or announced: (step, TAI second at whose end) [R52; record; reset none] -/
  leap : Option (Int × Nat) := none
  /-- raw count of the last accepted PPS_IN edge [R53; 64 bit; reset none] -/
  ppsInLast : Option Nat := none
  /-- PPS_IN edges rejected [R53; count; reset 0] -/
  ppsInRejects : Nat := 0
  /-- capture registers per application core [R40; per core; reset 0] -/
  cap : Tab Capture := []
deriving DecidableEq, Repr

/-! ### Lanes (chapter 03) -/

/-- Lane states, Table 03-2. -/
inductive LaneState where
  | off
  | loading
  | resync
  | standby
  | active
  | silent
  | stopped
  | split
deriving DecidableEq, Repr

/-- One lane. -/
structure LaneUnit where
  /-- Table 03-2 [R60; 3 bit; reset OFF] -/
  st : LaneState := .off
  /-- SILENT line [R58; 1 bit; DC false] -/
  silent : Bool := false
  /-- HOLD line as last set [R64; 1 bit; DC false] -/
  hold : Bool := false
  /-- words latched for the present frame, or took part in its Marver step when held [R69; 1 bit; reset false] -/
  ready : Bool := false
  /-- raw counts of its counted rejoins within the last hour [R79; list; reset empty] -/
  rejoins : List Nat := []
  /-- abandoned Punty transfers in a row [R76; 2 bit; reset 0] -/
  abandoned : Nat := 0
  /-- state changes since start, by which a stamped command sees a change [R86; count; DC 0] -/
  changes : Nat := 0
  /-- it runs the firmware of the slot under activation [R414; 1 bit; reset false] -/
  newVersion : Bool := false
  /-- STOPPED, through a loss of its power too, until SET_REDUNDANCY selects DUPLEX [R78; 1 bit; reset false] -/
  barred : Bool := false
  /-- its rejoin was ordered by SET_REDUNDANCY DUPLEX and its per-lane reset is still to come [R79; 1 bit; reset false] -/
  ordered : Bool := false
deriving DecidableEq, Repr

/-- A Punty transfer in progress (R75). -/
structure Punty where
  /-- receiving lane [R75; lane; DC none] -/
  recv : Lane
  /-- frame at which it starts; the image is copied from the frame after it [R75; 64 bit; DC 0] -/
  start : Nat
  /-- bytes of the image still to be copied, dirty blocks among them [R75; 21 bit; DC 0] -/
  left : Nat := 0
deriving DecidableEq, Repr

/-- An armed or stamped takeover (FORCE_TAKEOVER). -/
inductive Takeover where
  /-- CLEAN: the token moves at 249.6 µs of the commit frame; `stop`: the other lane then becomes STOPPED (SIMPLEX) -/
  | clean (dest : Lane) (frame : Nat) (stop : Bool)
  /-- SILENCE armed at the commit frame: the active lane goes silent at at_us of the following frame -/
  | silence (dest : Lane) (frame : Nat) (atUs : Nat) (done : Bool)
deriving DecidableEq, Repr

/-- The lanes, the Arbiter token and the frame. -/
structure Lanes where
  /-- Lane A [R60; record; reset OFF] -/
  a : LaneUnit := {}
  /-- Lane B [R60; record; reset OFF] -/
  b : LaneUnit := {}
  /-- the half that holds the token [R12; 1 of 3; reset none] -/
  token : Option Lane := none
  /-- the half whose words drive: the token at the last frame boundary [R69; 1 of 3; reset none] -/
  driving : Option Lane := none
  /-- redundancy value, Table 03-3 [R61; 3 bit; reset NO_LANE] -/
  redundancy : Nat := 5
  /-- control plane in RUN [R41; 1 bit; reset false] -/
  run : Bool := false
  /-- a frame has started since RUN entry [R41; 1 bit; reset false] -/
  started : Bool := false
  /-- first frame after an entry into RUN is due: auto_enable acts [R119; 1 bit; reset false] -/
  entry : Bool := false
  /-- first frame after an entry into RUN other than the restart after NO_LANE is due: the inputs start [R470; 1 bit; reset false] -/
  inpEntry : Bool := false
  /-- bytes of a lane's committed-state image in this RUN [R75; 21 bit; DC 0] -/
  image : Nat := 0
  /-- current frame number, TB_FRAME_NUM [R41; 64 bit; reset 0] -/
  frame : Nat := 0
  /-- raw count of its start, TB_FRAME_RAW [R40; 64 bit; reset 0] -/
  frameRaw : Nat := 0
  /-- F0 [R41; 64 bit; DC 0] -/
  f0 : Nat := 0
  /-- last computed frame [R169; 64 bit; DC 0] -/
  computed : Nat := 0
  /-- consecutive held frames ending at the current frame [R72; 32 bit; reset 0] -/
  heldRun : Nat := 0
  /-- consecutive frames held under R64 [R66; 2 bit; reset 0] -/
  faultRun : Nat := 0
  /-- consecutive frames without a frame-start tick [R80; 2 bit; reset 0] -/
  tickRun : Nat := 0
  /-- commanded holds stamped or running: (first, last) frame [R104; list; reset empty] -/
  holds : List (Nat × Nat) := []
  /-- takeover stamped or armed [R69; record; reset none] -/
  takeover : Option Takeover := none
  /-- divergence found by the compare, acted on at 249.6 µs [R68; record; reset none] -/
  diff : Option Mismatch := none
  /-- frame of the last token move [R69; 64 bit; reset 0] -/
  lastTakeover : Nat := 0
  /-- frame of the last divergence [R74; 64 bit; reset 0] -/
  lastDivergence : Nat := 0
  /-- raw count of the last divergence [R78; 64 bit; reset none] -/
  lastDivRaw : Option Nat := none
  /-- Punty transfer in progress [R75; record; reset none] -/
  punty : Option Punty := none
  /-- lane waiting for the retry of an abandoned transfer, and the raw count it was abandoned at [R76; lane and 64 bit; reset none] -/
  retry : Option (Lane × Nat) := none
  /-- lanes being reloaded for the restart after NO_LANE [R70; 1 bit; reset false] -/
  restart : Bool := false
  /-- the two lane loads of the restart that ended: (Lane A, Lane B) [R71; 2 results; reset none] -/
  loaded : Option Bool × Option Bool := (none, none)
  /-- LIFE toggles [R70; pin; reset false] -/
  life : Bool := false
  /-- the token decision of the current frame has been made [R69; 1 bit; reset true] -/
  decided : Bool := true
deriving DecidableEq, Repr

/-- Lane statistics (0x0312), saturating u32 counts. -/
structure LaneStats where
  /-- token moves [R87; 32 bit; reset 0] -/
  takeovers : Nat := 0
  /-- Lane A self-faults [R87; 32 bit; reset 0] -/
  faultsA : Nat := 0
  /-- Lane B self-faults [R87; 32 bit; reset 0] -/
  faultsB : Nat := 0
  /-- corrected SRAM errors [R59; 32 bit; reset 0] -/
  corrected : Nat := 0
  /-- divergences [R74; 32 bit; reset 0] -/
  divergences : Nat := 0
  /-- second divergences [R78; 32 bit; reset 0] -/
  simplexLocks : Nat := 0
  /-- F6 [R64; 32 bit; reset 0] -/
  marverTimeouts : Nat := 0
  /-- F5 [R64; 32 bit; reset 0] -/
  vectorMismatches : Nat := 0
  /-- frames held for a fault [R72; 32 bit; reset 0] -/
  heldFault : Nat := 0
  /-- frames held by HOLD_FRAMES [R72; 32 bit; reset 0] -/
  heldCmd : Nat := 0
  /-- completed Punty transfers [R75; 32 bit; reset 0] -/
  resyncsDone : Nat := 0
  /-- abandoned Punty transfers [R76; 32 bit; reset 0] -/
  resyncsFailed : Nat := 0
  /-- commands returned LANE_CHANGED [R85; 32 bit; reset 0] -/
  laneChanged : Nat := 0
  /-- longest completed transfer, frames [R75; 32 bit; reset 0] -/
  maxResync : Nat := 0
  /-- frame of the last divergence [R74; 64 bit; reset 0] -/
  lastDivFrame : Nat := 0
  /-- first differing word [R74; 16 bit; reset 0] -/
  lastDivWord : BitVec 16 := 0
  /-- its destination kind [R74; 8 bit; reset 0] -/
  lastDivDest : Nat := 0
deriving DecidableEq, Repr

/-! ### Loop Engine (chapter 05) -/

/-- Channel modes, Table 05-7. -/
inductive LoopMode where
  | off
  | manual
  | auto
  | hold
deriving DecidableEq, Repr

/-- A blend in progress: the old law beside the new (R131). -/
structure Blend where
  /-- set of the old law [R131; 10 bit; DC 0] -/
  fromSet : Nat
  /-- states of the old law, eight binary32 (s1, s2 per section; s1, s2, s3 in TPTZ) [R131; 8 x 32 bit; DC 0] -/
  states : List F32
  /-- frames of blend progress [R131; 16 bit; reset 0] -/
  m : Nat
  /-- N = 2^blend_n [R131; 16 bit; DC 1] -/
  n : Nat
  /-- u_old of the previous run [R131; 32 bit; DC 0] -/
  uOld : F32
  /-- u_new of the previous run [R131; 32 bit; DC 0] -/
  uNew : F32
  /-- w of the previous run [R131; 32 bit; reset 0] -/
  w : F32
  /-- contents of the old set where it was rewritten in the frame of the change [R128; 22 x 32 bit; reset none] -/
  oldC : Option (List F32)
deriving DecidableEq, Repr

/-- One loop channel's committed state (R138). -/
structure LoopCh where
  /-- mode [R134; 2 bit; reset OFF] -/
  mode : LoopMode := .off
  /-- fault flag [R120; 1 bit; reset false] -/
  fault : Bool := false
  /-- fault code, Table 05-10 [R140; 8 bit; reset 0] -/
  faultCode : Nat := 0
  /-- states of the (new) law, eight binary32 [R121; 8 x 32 bit; reset 0] -/
  states : List F32 := List.replicate 8 0
  /-- bin of var1 [R126; 6 bit; reset 0] -/
  bin1 : Nat := 0
  /-- bin of var2 [R126; 6 bit; reset 0] -/
  bin2 : Nat := 0
  /-- current set [R127; 10 bit; reset 0] -/
  set : Nat := 0
  /-- blend in progress [R131; record; reset none] -/
  blend : Option Blend := none
  /-- bump offset [R130; 32 bit; reset 0] -/
  bump : F32 := 0
  /-- previous output y_prev [R120; 32 bit; reset 0] -/
  yPrev : F32 := 0
  /-- command value of the setpoint [R115; 32 bit; DC 0] -/
  cmdSp : F32 := 0
  /-- command value of the feedforward [R115; 32 bit; DC 0] -/
  cmdFf : F32 := 0
  /-- operator value of MANUAL [R134; 32 bit; DC 0] -/
  manual : F32 := 0
  /-- a stale source condition stands [R135; 1 bit; reset false] -/
  stale : Bool := false
  /-- var1's stale condition stands [R136; 1 bit; reset false] -/
  sched1 : Bool := false
  /-- var2's stale condition stands [R136; 1 bit; reset false] -/
  sched2 : Bool := false
  /-- the last run was limited [R123; 1 bit; reset false] -/
  limited : Bool := false
  /-- the run before was an AUTO run: a change of set makes a handover [R129; 1 bit; reset false] -/
  wasAuto : Bool := false
  /-- a run since OFF has written the destination: until then it keeps its off value [R116, R124; 1 bit; reset false] -/
  wrote : Bool := false
  /-- the next AUTO run starts from y_prev with one bump correction [R134; 1 bit; reset false] -/
  resume : Bool := false
  /-- last error [R120; 32 bit; DC 0] -/
  e : F32 := 0
  /-- last setpoint [R120; 32 bit; DC 0] -/
  sp : F32 := 0
  /-- last feedback [R120; 32 bit; DC 0] -/
  fb : F32 := 0
  /-- runs since ENABLE [R134; 32 bit; reset 0] -/
  runs : BitVec 32 := 0
  /-- staged breakpoints of var1, var2 [R125; 63 x 32 bit; reset empty] -/
  stage1 : List F32 := []
  /-- staged breakpoints of var2 [R125; 63 x 32 bit; reset empty] -/
  stage2 : List F32 := []
  /-- old contents of the current set, replaced since the last run: BUMPLESS reseat at the next [R128; 22 x 32 bit; reset none] -/
  reseat : Option (List F32) := none
  /-- its outbound slot is to be written at the next output latch [R124; 1 bit; reset false] -/
  fxDue : Bool := false
deriving DecidableEq, Repr

/-- The Loop Engine of both lanes. -/
structure LoopEng where
  /-- channels 0–63 [R113; 64 channels; reset OFF] -/
  ch : Tab LoopCh := []
  /-- outbound slots whose channel went OFF: they are marked invalid with the next output words [R124; list; reset empty] -/
  fxOff : List Nat := []
  /-- sets in use that were replaced in the present frame: EV037 is raised once for each [R128; list; reset empty] -/
  swapped : List Nat := []
deriving DecidableEq, Repr

/-! ### Drivers (chapter 06) -/

/-- Peak-and-hold phases, Table 06-5. -/
inductive Phase where
  | idle
  | wait
  | boost
  | peak
  | hold
  | decay
deriving DecidableEq, Repr

/-- The dither of a PROP channel (R150): a triangle about the setpoint. -/
structure Dither where
  /-- frequency in force, Hz [R150; 16 bit; record] -/
  freq : Nat
  /-- a raw count at which the triangle crosses the mean upwards [R150; 64 bit; free value] -/
  raw : Nat
  /-- a new frequency: the crossing of the mean from which it counts, the frequency, and its `raw` [R150; record; none] -/
  next : Option (Nat × Nat × Nat) := none
deriving DecidableEq, Repr

/-- One OUT or HS channel (DRV instances 0–63). -/
structure OutCh where
  /-- mode in force: OUT Table 06-4; HS 0 OFF, 1 ON, 2 PWM [R148; 2 bit; reset 0] -/
  mode : Nat := 0
  /-- PH phase [R151; 3 bit; reset IDLE] -/
  phase : Phase := .idle
  /-- latched OFF [R164; 1 bit; reset false] -/
  latched : Bool := false
  /-- clamp above 165 °C [R156; 1 bit; reset false] -/
  clampHot : Bool := false
  /-- clamp lost at a FAST decay [R156; 1 bit; reset false] -/
  clampLost : Bool := false
  /-- BOOST_SKIPPED flag [R158; 1 bit; reset false] -/
  boostSkipped : Bool := false
  /-- codes of Table 06-8 that stand [R164; list; reset empty] -/
  flags : List Nat := []
  /-- value field in force from `valRaw` on [R144; 16 bit; reset 0] -/
  value : BitVec 16 := 0
  /-- duty in force before `valRaw` [R149; 16 bit; reset 0] -/
  old : BitVec 16 := 0
  /-- raw count of the first period start after the frame start that brought `value` [R149, R161; 64 bit; DC 0] -/
  valRaw : Nat := 0
  /-- PWM frequency in force, Hz [R149, R161; 16 bit; DC 0] -/
  freq : Nat := 0
  /-- a raw count at which bank position 0 starts a period of that frequency [R149; 64 bit; DC 0] -/
  anchor : Nat := 0
  /-- the dither that runs [R150; record; reset none] -/
  dither : Option Dither := none
  /-- raw count of the last switch-on of an HS output [R161; 64 bit; DC 0] -/
  onRaw : Nat := 0
  /-- value written by SET_OUTPUT, for the next latch [R146; 16 bit; reset 0] -/
  want : BitVec 16 := 0
  /-- fire or stop asked for the next latch: bits [25:16] of the word [R145; 10 bit; reset 0] -/
  fireReq : BitVec 32 := 0
  /-- latched output word, Table 06-3 [R144; 32 bit; reset 0] -/
  word : BitVec 32 := 0
  /-- the latched word is new: its fire and stop bits act at the next frame start [R145; 1 bit; reset false] -/
  fresh : Bool := false
  /-- instant of fire or stop pending in this frame, raw count [R151; 64 bit; reset none] -/
  due : Option Nat := none
  /-- the pending instant is a stop [R153; 1 bit; reset false] -/
  dueStop : Bool := false
  /-- enabled: it enters its mode at the next frame start, and takes its owner's words [R146, R148; 1 bit; reset false] -/
  en : Bool := false
  /-- raw count at which the present phase began [R151; 64 bit; DC 0] -/
  phaseRaw : Nat := 0
  /-- it was conducting when it went to WAIT [R152; 1 bit; reset false] -/
  waitHot : Bool := false
  /-- raw counts of the OT_CHANNEL trips within 60 s [R164; list; reset empty] -/
  trips : List Nat := []
  /-- last code of Table 06-8 [R164; 8 bit; reset 0] -/
  faultCode : Nat := 0
  /-- retries or trips used [R164; 8 bit; reset 0] -/
  retries : Nat := 0
  /-- codes 3 and 7 that hold the channel off until DRV_RETRY [R164; list; reset empty] -/
  held : List Nat := []
  /-- raw count of the last retry or trip [R164; 64 bit; DC 0] -/
  retryRaw : Nat := 0
  /-- retriggers of R152 [R152; 32 bit; reset 0] -/
  retriggers : Nat := 0
  /-- boost_skipped count [R158; 32 bit; reset 0] -/
  skips : Nat := 0
  /-- measured mean current, 0.25 mA [R165; 16 bit; DC 0] -/
  cur : BitVec 16 := 0
  /-- WRONG_KIND raised for the present record and owner [R147; 1 bit; reset false] -/
  wrongKind : Bool := false
  /-- the running profile ended BOOST on t_boost_max [R151; 1 bit; reset false] -/
  boostTimeout : Bool := false
  /-- the decay now running: 0 FAST, 1 SLOW, 2 MIXED and still above i_mix [R155; 2 bit; DC 0] -/
  decay : Nat := 0
deriving DecidableEq, Repr

/-- One bank (instances 64–75). -/
structure Bank where
  /-- enabled, from the next frame start [R167; 1 bit; reset false] -/
  en : Bool := false
  /-- its channels may close the switch [R157; 1 bit; reset false] -/
  enabled : Bool := false
  /-- bank switch closed [R157; 1 bit; reset false] -/
  closed : Bool := false
  /-- latched [R164; 1 bit; reset false] -/
  latched : Bool := false
  /-- OUT instance holding the boost path [R158; 6 bit; reset none] -/
  holder : Option Nat := none
  /-- boost requests waiting, head first: (OUT instance, raw count of the request) [R158; list; reset empty] -/
  queue : List (Nat × Nat) := []
  /-- last code [R164; 8 bit; reset 0] -/
  faultCode : Nat := 0
  /-- OT_BANK holds the bank off until DRV_RETRY [R164; 1 bit; reset false] -/
  held : Bool := false
  /-- raw counts of the OT_BANK trips within 60 s [R164; list; reset empty] -/
  trips : List Nat := []
  /-- codes that stand [R164; list; reset empty] -/
  flags : List Nat := []
deriving DecidableEq, Repr

/-- One boost converter and its VACT feed (instances 76–78). -/
structure Boost where
  /-- enabled, from the next frame start [R167; 1 bit; reset false] -/
  en : Bool := false
  /-- running [R160; 1 bit; reset false] -/
  running : Bool := false
  /-- raw count at which the rail began to move to its present voltage [0x0503; 64 bit; DC 0] -/
  railRaw : Nat := 0
  /-- latched by code 13 [R164; 1 bit; reset false] -/
  latched : Bool := false
  /-- BOOST_RAIL holds the converter off until DRV_RETRY [R164; 1 bit; reset false] -/
  held : Bool := false
  /-- raw counts of the BOOST_RAIL trips within the hour [R164; list; reset empty] -/
  trips : List Nat := []
  /-- last code [R164; 8 bit; reset 0] -/
  faultCode : Nat := 0
  /-- codes that stand (13 converter, 14 feed) [R164; list; reset empty] -/
  flags : List Nat := []
deriving DecidableEq, Repr

/-- The valve and power output drivers. -/
structure Drv where
  /-- OUT01–OUT48 = 0–47, HS01–HS16 = 48–63 [R142; 64 channels; reset OFF] -/
  ch : Tab OutCh := []
  /-- banks by DRV instance 64–75 [R142; 12 banks; reset open] -/
  bank : Tab Bank := []
  /-- converters by DRV instance 76–78 [R142; 3 converters; reset off] -/
  boost : Tab Boost := []
  /-- the pull-offs act [R167; 1 bit; reset true] -/
  pulled : Bool := true
deriving DecidableEq, Repr

/-! ### Inputs and the Frame Exchange (chapter 07) -/

/-- One control-plane input instance (0–114). -/
structure InpCh where
  /-- enabled [R470; 1 bit; DC false] -/
  enabled : Bool := false
  /-- Lane A's last sample of the first element [R171; 32 bit; DC 0] -/
  valA : BitVec 32 := 0
  /-- Lane B's last sample [R171; 32 bit; DC 0] -/
  valB : BitVec 32 := 0
  /-- flagged bad in Lane A [R171; 1 bit; DC false] -/
  badA : Bool := false
  /-- flagged bad in Lane B [R171; 1 bit; DC false] -/
  badB : Bool := false
  /-- a PLAUS condition stands [R171; 1 bit; reset false] -/
  plaus : Bool := false
  /-- computed frames the difference has lain above plaus_limit [R171; 10 bit; reset 0] -/
  plausCnt : Nat := 0
  /-- supply latched off [R177; 1 bit; reset false] -/
  latched : Bool := false
  /-- fault code, Table 07-2 [R171; 8 bit; reset 0] -/
  faultCode : Nat := 0
  /-- code of the agreed element, as EV056 last carried or will end it (AIN) [R185; 8 bit; reset 0] -/
  badCode : Nat := 0
  /-- retries used (SUP) [R177; 3 bit; reset 0] -/
  retries : Nat := 0
  /-- raw count of the last overcurrent (SUP) [R177; 64 bit; DC 0] -/
  retryRaw : Nat := 0
  /-- raw count at which the supply last had a fault of its own, code 8 or 9 (SUP) [R177; 64 bit; DC 0] -/
  faultRaw : Nat := 0
  /-- supply delivers (SUP) [R177; 1 bit; reset false] -/
  on : Bool := false
  /-- supply outside tolerance (SUP), no sensor found (FIN VR, LSN) [R171; 1 bit; reset false] -/
  cond : Bool := false
  /-- frames left, the commit frame included, after a mode change (AIN) [R172; 4 bit; reset 0] -/
  settle : Nat := 0
  /-- period between the last two qualifying edges (FIN) [R173; 32 bit; reset 0] -/
  period : BitVec 32 := 0
  /-- edge count or impact count [R173; 32 bit; reset 0] -/
  count : BitVec 32 := 0
  /-- QUAD position of the pair (A input) [R173; 32 bit; reset 0] -/
  pos : BitVec 32 := 0
  /-- raw count of the last qualifying edge or impact [R173; 64 bit; reset none] -/
  edge : Option Nat := none
  /-- level of the input as last qualified (FIN) [R173; 1 bit; DC false] -/
  level : Bool := false
  /-- QUAD error in the present frame [R171; 1 bit; reset false] -/
  quadErr : Bool := false
  /-- largest peak since the previous computed frame, mV (LSN) [R175; 16 bit; reset 0] -/
  peak : BitVec 16 := 0
  /-- six samples of an IMU [R176; 6 x 32 bit; DC 0] -/
  imu : List F32 := []
  /-- sample raw count of an IMU, low 32 bits [R176; 32 bit; DC 0] -/
  imuRaw : BitVec 32 := 0
  /-- measured current of a SUP, mA [R169; 16 bit; DC 0] -/
  ma : BitVec 16 := 0
  /-- codes 3 (LSN), 10 and 11 (IMU) that stand [R171; list; reset empty] -/
  stand : List Nat := []
deriving DecidableEq, Repr

/-- One element of the agreed input vector (R169). -/
structure VecEl where
  /-- value [R169; 32 bit; DC 0] -/
  val : BitVec 32 := 0
  /-- bad flag [R169; 1 bit; DC true] -/
  bad : Bool := true
deriving DecidableEq, Repr

/-- Slot states (R179). -/
inductive SlotState where
  | fresh
  | stale
  | invalid
deriving DecidableEq, Repr

/-- One inbound slot of the Frame Exchange. -/
structure FxIn where
  /-- value last written [R178; 32 bit; DC 0] -/
  value : BitVec 32 := 0
  /-- stamp valid bit [R178; 1 bit; reset false] -/
  valid : Bool := false
  /-- stamp frame [R178; 24 bit; reset 0] -/
  frame : BitVec 24 := 0
  /-- frame starts counted (Inp.starts) at the last write: the age counter is the frame starts since [R178; 16 bit as read; reset 0] -/
  base : Nat := 0
  /-- written since start or since its last binding [R179; 1 bit; reset false] -/
  written : Bool := false
  /-- captured fresh under its present binding [R180; 1 bit; reset false] -/
  seenFresh : Bool := false
  /-- value as captured, after the policy [R180; 32 bit; DC 0] -/
  capValue : BitVec 32 := 0
  /-- stamp as captured [R178; 32 bit; DC 0] -/
  capStamp : BitVec 32 := 0
  /-- value as captured, before the policy: what the mirror holds [R184; 32 bit; DC 0] -/
  capRaw : BitVec 32 := 0
  /-- state as captured [R179; 2 bit; reset invalid] -/
  capState : SlotState := .invalid
  /-- `base` as captured: gives the age as captured [R178; 16 bit as read; reset 0] -/
  capBase : Nat := 0
  /-- writes dropped since binding [R181; 32 bit; reset 0] -/
  drops : Nat := 0
  /-- writes accepted since binding [R182; 32 bit; reset 0] -/
  writes : Nat := 0
deriving DecidableEq, Repr

/-- One outbound slot. -/
structure FxOut where
  /-- value last written [R183; 32 bit; DC 0] -/
  value : BitVec 32 := 0
  /-- stamp last written [R178; 32 bit; reset 0] -/
  stamp : BitVec 32 := 0
  /-- written since start [R183; 1 bit; reset false] -/
  written : Bool := false
  /-- frame starts counted (Inp.starts) at its last write [R183; 16 bit as read; reset 0] -/
  base : Nat := 0
  /-- value visible in the window [R16; 32 bit; reset 0] -/
  visValue : BitVec 32 := 0
  /-- stamp visible in the window [R16; 32 bit; reset 0] -/
  visStamp : BitVec 32 := 0
  /-- written as visible in the window [R183; 1 bit; reset false] -/
  visWritten : Bool := false
  /-- `base` of the write visible in the window [R178; 16 bit as read; reset 0] -/
  visBase : Nat := 0
  /-- writes since start, as visible in the window [0x0611; 32 bit; DC 0] -/
  visWrites : Nat := 0
  /-- writes since start [0x0611; 32 bit; DC 0] -/
  writes : Nat := 0
deriving DecidableEq, Repr

/-- The Frame Exchange mirror in SDRAM (R184): the frame it shows and the two images as (value, stamp). -/
structure Mirror where
  /-- frame_begin [R184; 64 bit; DC 0] -/
  begin' : Nat := 0
  /-- frame_done [R184; 64 bit; DC 0] -/
  done : Nat := 0
  /-- inbound image [R184; 256 x 64 bit; DC empty] -/
  inb : Tab (BitVec 64) := []
  /-- outbound image [R184; 128 x 64 bit; DC empty] -/
  outb : Tab (BitVec 64) := []
deriving DecidableEq, Repr

/-- Control-plane inputs and the Frame Exchange. -/
structure Inp where
  /-- instances 0–114 [R169; 115 instances; reset] -/
  ch : Tab InpCh := []
  /-- agreed input vector, elements 0–511 [R169; 512 x 33 bit; DC bad 0] -/
  vec : Tab VecEl := []
  /-- inbound slots [R178; 256 slots; reset Table 07-4] -/
  fxIn : Tab FxIn := []
  /-- outbound slots [R178; 128 slots; reset Table 07-4] -/
  fxOut : Tab FxOut := []
  /-- frame starts since start, held ones included, on which the age counters run [R178; 64 bit; reset 0] -/
  starts : Nat := 0
  /-- FX_DROPS [R183; 32 bit; reset 0] -/
  drops : Nat := 0
  /-- FX_FRAME [R183; 64 bit; reset 0] -/
  visFrame : Nat := 0
  /-- frame in which the outbound slots were last written [R183; 64 bit; DC 0] -/
  outFrame : Nat := 0
  /-- Frame Exchange mirror [R184; 3136 byte; DC 0] -/
  mirror : Mirror := {}
deriving DecidableEq, Repr

/-! ### Safety Controller (chapter 08) -/

/-- One channel of a safety input pair (SIN). -/
structure SinCh where
  /-- raw input level [R196; 1 bit; DC false] -/
  level : Bool := false
  /-- raw count at which the level the filter sees last changed [R196; 64 bit; DC 0] -/
  since : Nat := 0
  /-- level as the filter sees it: during blanking it stands [R194, R196; 1 bit; DC false] -/
  seen : Bool := false
  /-- end of the blank in which the raw level changed, the filter to see it then [R194; 64 bit; reset none] -/
  held : Option Nat := none
  /-- the filter's level changed by an edge inside blanking [R197; 1 bit; reset false] -/
  blanked : Bool := false
  /-- filtered level, Safety Processor [R196; 1 bit; DC false] -/
  filt : Bool := false
  /-- filtered level, Jack [R186, R196; 1 bit; DC false] -/
  jfilt : Bool := false
  /-- raw count of the last pulse of a SPEED sensor [R197; 64 bit; reset none] -/
  edge : Option Nat := none
  /-- raw counts between its last two pulses [R197; 64 bit; reset 0] -/
  period : Nat := 0
  /-- suspected short to supply at the last own pulse [R195; 1 bit; reset false] -/
  suspSupply : Bool := false
  /-- suspected cross-short at the last pulse of the other supply [R195; 1 bit; reset false] -/
  suspCross : Bool := false
  /-- the same in Jack, at the last own pulse [R186, R195; 1 bit; reset false] -/
  jsuspSupply : Bool := false
  /-- the same in Jack, at the last pulse of the other supply [R186, R195; 1 bit; reset false] -/
  jsuspCross : Bool := false
deriving DecidableEq, Repr

/-- One safety input pair. -/
structure SafePair where
  /-- discrepancy counter, ms [R199; 10 bit; reset 0] -/
  disc : Nat := 0
  /-- latched pair fault code; 0 none [R199; 8 bit; reset 0] -/
  fault : Nat := 0
  /-- both channels have shown safe together since the fault latched [R200; 1 bit; reset false] -/
  seenSafe : Bool := false
  /-- SPEED_DISC stands beside another fault of the SPEED pair [R219; 1 bit; reset false] -/
  discToo : Bool := false
  /-- raw count from which Jack has seen the channels differ [R199; 64 bit; reset none] -/
  jdiff : Option Nat := none
  /-- Jack has latched a discrepancy or a short [R186, R199; 1 bit; reset false] -/
  jfault : Bool := false
  /-- Jack has seen both channels safe together since [R200; 1 bit; reset false] -/
  jseen : Bool := false
deriving DecidableEq, Repr

/-- One safety output. -/
structure Sout where
  /-- P switch closed [R186; 1 bit; reset false] -/
  p : Bool := false
  /-- J switch closed [R186; 1 bit; reset false] -/
  j : Bool := false
  /-- latched output fault code; 0 none [R203; 8 bit; reset 0] -/
  fault : Nat := 0
  /-- raw count of the last dark test of the P, the J switch [R202; 64 bit; reset none] -/
  darkP : Option Nat := none
  /-- of the J switch [R202; 64 bit; reset none] -/
  darkJ : Option Nat := none
deriving DecidableEq, Repr

/-- Safety functions SF1–SF5 have the states of Table 08-6. -/
inductive SfState where
  | safe
  | run
  | decel
  | tripped
  | delay
deriving DecidableEq, Repr

/-- Controller states, Table 08-15. -/
inductive SafeState where
  | init
  | test
  | waitReset
  | run
  | fault
  | noParams
deriving DecidableEq, Repr

/-- The Safety Controller. -/
structure Safe where
  /-- controller state [R213; 3 bit; reset INIT] -/
  st : SafeState := .init
  /-- SIN01–SIN24 = 0–23 [R192; 24 channels; reset] -/
  sin : Tab SinCh := []
  /-- pairs 1–12 = 0–11 [R192; 12 pairs; reset] -/
  pair : Tab SafePair := []
  /-- SOUT1–SOUT8 = 0–7 [R186; 8 outputs; reset open] -/
  sout : Tab Sout := []
  /-- SF1–SF5 = 0–4 [R204; 5 functions; reset SAFE] -/
  sf : Tab SfState := []
  /-- v_req of SF1, m/s [R205; 32 bit; DC 0] -/
  vReq : F32 := 0
  /-- milliseconds since SF1 entered DECEL [R205; 16 bit; reset 0] -/
  tDecel : Nat := 0
  /-- SPEED channels, m/s [R197; 32 bit; reset 0] -/
  speedA : F32 := 0
  /-- SPEED channel B, m/s [R197; 32 bit; reset 0] -/
  speedB : F32 := 0
  /-- cycles the speeds have differed [R197; 10 bit; reset 0] -/
  speedDisc : Nat := 0
  /-- cycles both speeds have read stopped in a row, saturating at 2,001: the first of them is then 2 s old [R215; 11 bit; reset 0] -/
  stillCnt : Nat := 0
  /-- service mode by 0x0710 holds [R215; 1 bit; reset false] -/
  service : Bool := false
  /-- a SERVICE_MODE entry waits for a reset press, until this raw count [R215; 64 bit; reset none] -/
  serviceWait : Option Nat := none
  /-- raw count at which the RESET pair's press began [R200; 64 bit; reset none] -/
  press : Option Nat := none
  /-- a valid reset stands for the next cycle [R200; 1 bit; reset false] -/
  resetPulse : Bool := false
  /-- RESET_STUCK raised for the press that stands [R200; 1 bit; reset false] -/
  stuck : Bool := false
  /-- safety cycle count [R217; 32 bit; reset 0] -/
  cycles : BitVec 32 := 0
  /-- tick_local flag [R191; 1 bit; reset false] -/
  tickLocal : Bool := false
  /-- degraded flag [R212; 1 bit; reset false] -/
  degraded : Bool := false
  /-- values of slots 248–255 of the cycle in hand, and the raw count at which they are written [R190, R217; 8 × 32 bit; reset none] -/
  slotsDue : Option (Nat × List (BitVec 32)) := none
  /-- transmit data of a PDU that the cycle in hand sends with them, at 740 µs [R211; 8 byte; reset none] -/
  pduDue : Option Bytes := none
  /-- raw count at which the last cycle started [R190, R191; 64 bit; reset none] -/
  cycleRaw : Option Nat := none
  /-- the SPEED pair's fault has acted on SF1 [R206; 1 bit; reset false] -/
  discSeen : Bool := false
  /-- dark test in hand: output, whether of the J switch, end of its 300 µs [R202; record; reset none] -/
  dark : Option (Nat × Bool × Nat) := none
  /-- raw count of the controller's entry into RUN, from which the dark tests are timed [R202; 64 bit; DC 0] -/
  darkBase : Nat := 0
  /-- raw count from which Jack times SF4's delay [R209; 64 bit; reset none] -/
  jseatRaw : Option Nat := none
  /-- Jack's SF4 delay has passed [R209; 1 bit; reset false] -/
  jseatTrip : Bool := false
  /-- communication fault stands [R212; 1 bit; reset false] -/
  commFault : Bool := false
  /-- the code EV069 gave the communication fault that stands [R212, R218; number; reset 0] -/
  commCode : Nat := 0
  /-- last accepted seq; none after a start or a fault [R212; 16 bit; reset none] -/
  rxSeq : Option (BitVec 16) := none
  /-- first copy of the seq being received: (channel, seq, data, raw) [R212; record; reset none] -/
  rxFirst : Option (Nat × BitVec 16 × Bytes × Nat) := none
  /-- data of the last accepted seq [R212; 8 byte; reset 0] -/
  rxData : Bytes := List.replicate 8 0
  /-- consecutive single seqs [R212; 3 bit; reset 0] -/
  singles : Nat := 0
  /-- consecutive sound periods since a communication fault [R212; 4 bit; reset 0] -/
  sound : Nat := 0
  /-- discarded copies [R212; 32 bit; reset 0] -/
  discards : Nat := 0
  /-- seq of the next transmit PDU [R211; 16 bit; reset 0] -/
  txSeq : BitVec 16 := 0
  /-- transmit data of the last PDU sent [R211; 8 byte; DC empty] -/
  txLast : Bytes := []
  /-- raw count of the last PDU sent [R211; 64 bit; DC 0] -/
  txRaw : Nat := 0
  /-- record in force, Table 08-18 [R216; 112 byte; reset none] -/
  rcd : Option Bytes := none
  /-- staged record [R216; 112 byte; reset none] -/
  staged : Option Bytes := none
  /-- the staged record is confirmed and storable [R216; 1 bit; reset false] -/
  confirmed : Bool := false
  /-- Jack holds every J switch open until PD4 restarts [R187; 1 bit; reset false] -/
  jackLatch : Bool := false
  /-- Jack holds the ground J switches open until SF1's restart [R207; 1 bit; reset false] -/
  jackGround : Bool := false
  /-- raw count at which the trip line to Jack was asserted [R206; line; reset none] -/
  tripLine : Option Nat := none
  /-- raw count of the last accepted copy, start or fault, from which the watchdog runs [R212; 64 bit; DC 0] -/
  rxRaw : Nat := 0
  /-- the remote PDU's seq in hand is settled: come by both channels, or judged single [R212; 1 bit; reset false] -/
  rxPaired : Bool := false
  /-- raw count at which Jack first saw the SF1 demand that the Safety Processor signals [R207; 64 bit; reset none] -/
  demandRaw : Option Nat := none
  /-- raw count at which Jack first saw the ESTOP demand that stands [R207; 64 bit; reset none] -/
  estopRaw : Option Nat := none
  /-- raw count at which SF4's delay began [R209; 64 bit; reset none] -/
  seatRaw : Option Nat := none
  /-- SF4's delay has passed: its triggers stand [R209; 1 bit; reset false] -/
  seatTrip : Bool := false
  /-- test-pulse supplies folded back: TPA, TPB [R192; 2 bit; reset false] -/
  foldA : Bool := false
  /-- TPB folded back [R192; 1 bit; reset false] -/
  foldB : Bool := false
  /-- raw counts at which the last TPA, TPB pulse started [R194; 64 bit; reset none] -/
  pulseA : Option Nat := none
  /-- last TPB pulse [R194; 64 bit; reset none] -/
  pulseB : Option Nat := none
  /-- Safety Processor runs (false after a lockstep mismatch) [R188; 1 bit; reset false] -/
  spRuns : Bool := false
deriving DecidableEq, Repr

/-! ### GNSS receiver (chapter 09) -/

/-- One tracking channel. -/
structure GnssCh where
  /-- carrier in lock [R237; 1 bit; reset false] -/
  lock : Bool := false
  /-- searching after a loss [R237; 1 bit; reset false] -/
  search : Bool := false
  /-- raw count of the last lock, for lock_time, or of its loss while searching [R228, R237; 64 bit; DC 0] -/
  lockRaw : Nat := 0
  /-- SLIP to be set in the next epoch [R237; 1 bit; reset false] -/
  slip : Bool := false
  /-- the signal the channel is allocated to, Table 09-1 [R225; 4 bit; DC 0] -/
  sig : Nat := 0
  /-- the satellite the channel is allocated to [R225; 8 bit; DC 0] -/
  svid : Nat := 0
deriving DecidableEq, Repr

/-- One antenna input (GNSS instance 0, 1). -/
structure Antenna where
  /-- enabled [R223; 1 bit; DC false] -/
  enabled : Bool := false
  /-- bias on [R222; 1 bit; reset false] -/
  bias : Bool := false
  /-- OPEN stands [R222; 1 bit; reset false] -/
  opened : Bool := false
  /-- SHORT stands [R222; 1 bit; reset false] -/
  short : Bool := false
  /-- latched off [R222; 1 bit; reset false] -/
  latched : Bool := false
  /-- NO_SIGNAL stands [R237; 1 bit; reset false] -/
  noSignal : Bool := false
  /-- ENABLE or DISABLE that acts from the next epoch [0x0A05; 1 bit; reset none] -/
  ask : Option Bool := none
  /-- raw counts of the SHORTs within 60 s [R222; list; reset empty] -/
  shorts : List Nat := []
  /-- tracking channels 0–95 [R225; 96 channels; reset] -/
  chan : Tab GnssCh := []
  /-- measurements latched at the last epoch [R226; list; reset empty] -/
  meas : List GnssMeas := []
  /-- the channels measured as they were latched at the last epoch: lock and SLIP of its records [R226, R228; 96 channels; reset empty] -/
  epochChan : Tab GnssCh := []
  /-- satellites allocated at the last epoch [R225; list; reset empty] -/
  sats : List SatRow := []
  /-- epochs published since ENABLE [R228; 32 bit; reset 0] -/
  epochs : Nat := 0
deriving DecidableEq, Repr

/-- A clock solution of an antenna (R228). -/
structure ClkSol where
  /-- raw count of its epoch [R228; 64 bit; DC 0] -/
  raw : Nat := 0
  /-- clock bias, ns, binary64 [R228; 64 bit; DC 0] -/
  bias : F64 := 0
  /-- clock drift, ppb, binary32 [R239; 32 bit; DC 0] -/
  drift : F32 := 0
  /-- steps of module time since, 2^−16 ns [R227; integer; DC 0] -/
  step : Int := 0
deriving DecidableEq, Repr

/-- A solution with a position (R233). -/
structure PosSol where
  /-- raw count of its epoch [R239; 64 bit; DC 0] -/
  raw : Nat := 0
  /-- module time of its epoch in seconds, as PD0 counts them [R238; 48 bit; DC 0] -/
  secs : Nat := 0
  /-- latitude [R239; 64 bit; DC 0] -/
  lat : F64 := 0
  /-- longitude [R239; 64 bit; DC 0] -/
  lon : F64 := 0
  /-- height [R239; 64 bit; DC 0] -/
  height : F64 := 0
  /-- velocity north [R239; 32 bit; DC 0] -/
  velN : F32 := 0
  /-- velocity east [R239; 32 bit; DC 0] -/
  velE : F32 := 0
deriving DecidableEq, Repr

/-- The reference epoch that one correction source is assembling (R230, R231). -/
structure RefAsm where
  /-- station and epoch time, ms of the GPS week [R231; record; reset none] -/
  id : Option (Nat × Nat) := none
  /-- systems with an MSM message of this epoch [R230; list; reset empty] -/
  seen : List Nat := []
  /-- systems whose message with multiple bit 0 has arrived [R230; list; reset empty] -/
  done : List Nat := []
  /-- systems the station sends, learnt from its previous epoch [R230; list; reset none] -/
  sends : Option (List Nat) := none
deriving DecidableEq, Repr

/-- The receiver. -/
structure Gnss where
  /-- antennas [R222; 2 antennas; reset off] -/
  ant : Tab Antenna := []
  /-- rate in force, 0 5 Hz, 1 10 Hz, 2 20 Hz [R226; 2 bit; reset 1] -/
  rate : Nat := 1
  /-- frame of the last SET_CONFIG: a new rate waits for a later multiple of 800 [R226; 64 bit; reset 0] -/
  rateFrame : Nat := 0
  /-- record in force since the last epoch [0x0A03; 40 byte; reset empty = as stored] -/
  inForce : Bytes := []
  /-- raw count and frame of the last epoch [R226; 64 bit; reset 0] -/
  epochRaw : Nat := 0
  /-- raw count of the epoch of the last GNSS_PVT entry published [R239, R245; 64 bit; reset 0] -/
  pvtRaw : Nat := 0
  /-- frame of the last epoch [R226; 64 bit; reset 0] -/
  epochFrame : Nat := 0
  /-- an epoch is latched and its entries not yet written [R228; 1 bit; reset false] -/
  epochOpen : Bool := false
  /-- fix type, Table 09-5 [R233; 3 bit; reset NONE] -/
  fix : Nat := 0
  /-- heading status [R235; 2 bit; reset NONE] -/
  heading : Nat := 0
  /-- flags of GNSS_PVT [R239; 16 bit; reset 0] -/
  flags : BitVec 16 := 0
  /-- solution formed from ANT2 [R237; 1 bit; reset false] -/
  onAnt2 : Bool := false
  /-- raw count of the epoch since which ANT1's solution is NONE while ANT2 has one [R237; 64 bit; reset none] -/
  ant1Out : Option Nat := none
  /-- raw count of the epoch since which ANT1's fix type is at least ANT2's [R237; 64 bit; reset none] -/
  ant1Back : Option Nat := none
  /-- last clock solution of each antenna [R228; 2 records; reset none] -/
  clk : Tab ClkSol := []
  /-- last solution with a position, kept in retention memory [R238; record; reset none] -/
  last : Option PosSol := none
  /-- heading of the last epoch's solution [R235; 32 bit; DC 0] -/
  headingOut : F32 := 0
  /-- start in force: 0 hot, 1 warm, 2 cold [R238; 2 bit; reset 2] -/
  start : Nat := 2
  /-- the heading solution starts again: no FIXED before a FLOAT [0x0A03; 1 bit; reset false] -/
  headFloat : Bool := false
  /-- RTK on a base: 0 no new base since convergence, 1 waiting for float convergence on the new base, 2 new base since the last solution [R232; 2 bit; reset 0] -/
  rtk : Nat := 0
  /-- module time stepped since the last epoch [R227; 1 bit; reset false] -/
  clockStep : Bool := false
  /-- steps of module time since the last epoch, 2^−16 ns [R227, R228; integer; reset 0] -/
  stepSince : Int := 0
  /-- it had stepped when the last epoch was latched: CLOCK_STEP of its entries [R227; 1 bit; reset false] -/
  epochStep : Bool := false
  /-- an epoch is latched and its GNSS_PVT entry not yet published [R239; 1 bit; reset false] -/
  pvtOpen : Bool := false
  /-- RTCM bytes of the CCP stream being assembled [R229; 8192 byte; reset empty] -/
  bufCcp : Bytes := []
  /-- RTCM bytes of the CAN stream being assembled [R231; bytes; reset empty] -/
  bufCan : Bytes := []
  /-- last sequence count of the CAN stream [R231; 8 bit; reset none] -/
  canSeq : Option (BitVec 8) := none
  /-- RTCM frames used [R229; 32 bit; reset 0] -/
  corrFrames : Nat := 0
  /-- CRC failures and sequence gaps [R229; 32 bit; reset 0] -/
  corrErrors : Nat := 0
  /-- unsupported messages [R229; 32 bit; reset 0] -/
  corrUnsupported : Nat := 0
  /-- station in use: (ID, position bytes) [R232; record; reset none] -/
  station : Option (Nat × Bytes) := none
  /-- raw count of the instant of the reference epoch in use [R230; 64 bit; reset none] -/
  refRaw : Option Nat := none
  /-- raw count of the instant of a complete reference epoch that the next receiver epoch takes [R230; 64 bit; reset none] -/
  refPend : Option Nat := none
  /-- identity of the last complete reference epoch: (station, epoch time) [R231; record; reset none] -/
  refId : Option (Nat × Nat) := none
  /-- epoch being assembled from the CCP stream [R231; record; reset empty] -/
  asmCcp : RefAsm := {}
  /-- epoch being assembled from the CAN stream [R231; record; reset empty] -/
  asmCan : RefAsm := {}
  /-- EV099 AGED stands [R230, R242; 1 bit; reset false] -/
  aged : Bool := false
  /-- raw count since which the fix has been NONE; none while it never was anything else [R238; 64 bit; reset none] -/
  timeLostRaw : Option Nat := none
  /-- retention memory: ephemerides, almanacs with position and time kept [R238; 2 bit; reset false] -/
  hasEph : Bool := false
  /-- second of module time at which PD8 went off, as PD0 keeps it [R238; 48 bit; reset none] -/
  offSecs : Option Nat := none
  /-- almanacs, position and time kept [R238; 1 bit; reset false] -/
  hasAlm : Bool := false
deriving DecidableEq, Repr

/-! ### Fusion Engine and Yield Accumulator (chapter 10) -/

/-- A buffered sample of a source. -/
structure FuseSample where
  /-- instant, raw count [R245; 64 bit; DC 0] -/
  instant : Nat
  /-- the sample [R245; record; DC 0] -/
  x : FuseIn
  /-- raw count at which the engine received it [R248; 64 bit; DC 0] -/
  arr : Nat
deriving DecidableEq, Repr

/-- One fusion source FS00–FS31. -/
structure FuseSrc where
  /-- enabled [R244; 1 bit; DC false] -/
  enabled : Bool := false
  /-- ENABLE or DISABLE that acts from the next cycle [0x0B05; 1 bit; reset none] -/
  ask : Option Bool := none
  /-- samples not yet used, oldest first [R246; 64 samples; reset empty] -/
  buf : List FuseSample := []
  /-- latest used sample, from which later cycles interpolate [R249; record; reset none] -/
  prev : Option FuseSample := none
  /-- instant of the last accepted sample [R246; 64 bit; reset none] -/
  last : Option Nat := none
  /-- instant of the last accepted sample that is no longer buffered [R247; 64 bit; reset none] -/
  base : Option Nat := none
  /-- first cycle in which the source takes part after RESYNC [R255; 64 bit; reset 0] -/
  fromCycle : Nat := 0
  /-- present in the last closed cycle [R247; 1 bit; reset false] -/
  present : Bool := false
  /-- cullet counter late [R248; 32 bit; reset 0] -/
  late : Nat := 0
  /-- cullet counter overflow [R246; 32 bit; reset 0] -/
  overflow : Nat := 0
  /-- cullet counter order [R246; 32 bit; reset 0] -/
  order : Nat := 0
  /-- cullet counter absent [R247; 32 bit; reset 0] -/
  absent : Nat := 0
  /-- cullet counter resync_drops [R255; 32 bit; reset 0] -/
  drops : Nat := 0
  /-- cullet counter accepted [R246; 32 bit; reset 0] -/
  accepted : Nat := 0
  /-- consecutive expected cycles without cover [R268; 4 bit; reset 0] -/
  absRun : Nat := 0
  /-- raw count of the last late sample [R268; 64 bit; reset none] -/
  lateRaw : Option Nat := none
  /-- excluded quantities, Table of 0x0B02 offset 1 [R252; 4 bit; reset 0] -/
  excluded : BitVec 4 := 0
  /-- consecutive cycles over the gate, by quantity 1–4 [R252; 8 bit each; reset 0] -/
  overGate : Tab Nat := []
  /-- consecutive cycles within the gate, by quantity 1–4 [R252; 8 bit each; reset 0] -/
  withinGate : Tab Nat := []
  /-- last residual of gate1's quantity [R251; 32 bit; reset 0] -/
  residual : F32 := 0
  /-- last 16 offsets x of a self-clocked source, 2^−16 ns, newest first [R254; 16 x signed; reset empty] -/
  xs : List Int := []
  /-- offset estimate o, 2^−16 ns [R254; signed; reset none] -/
  o : Option Int := none
  /-- raw count at which o last changed [R255; 64 bit; DC 0] -/
  oRaw : Nat := 0
  /-- consecutive samples with x more than period_us from o [R255; 2 bit; reset 0] -/
  far : Nat := 0
  /-- RESYNC: the x of the samples since it began, newest first [R255; 8 x signed; reset none] -/
  resync : Option (List Int) := none
deriving DecidableEq, Repr

/-- The strapdown navigation estimate (R256): position, velocity, attitude and rate of the body. -/
structure Est where
  /-- latitude [R261; 64 bit; DC 0] -/
  lat : F64 := 0
  /-- longitude [R261; 64 bit; DC 0] -/
  lon : F64 := 0
  /-- height [R261; 64 bit; DC 0] -/
  height : F64 := 0
  /-- velocity north [R261; 32 bit; DC 0] -/
  velN : F32 := 0
  /-- velocity east [R261; 32 bit; DC 0] -/
  velE : F32 := 0
  /-- velocity up [R261; 32 bit; DC 0] -/
  velU : F32 := 0
  /-- forward speed [R261; 32 bit; DC 0] -/
  speed : F32 := 0
  /-- roll [R261; 32 bit; DC 0] -/
  roll : F32 := 0
  /-- pitch [R261; 32 bit; DC 0] -/
  pitch : F32 := 0
  /-- heading [R261; 32 bit; DC 0] -/
  heading : F32 := 0
  /-- yaw rate [R261; 32 bit; DC 0] -/
  yaw : F32 := 0
  /-- horizontal 1σ [R261; 32 bit; DC 0] -/
  sdH : F32 := 0
  /-- heading 1σ [R261; 32 bit; DC 0] -/
  sdHeading : F32 := 0
deriving DecidableEq, Repr

/-- A history entry of the Yield Accumulator (R263). -/
structure Cut where
  /-- cut cycle [R263; 64 bit; DC 0] -/
  cyc : Nat
  /-- latitude, longitude of the header point [R263; 64 bit; DC 0] -/
  lat : F64
  /-- longitude [R263; 64 bit; DC 0] -/
  lon : F64
  /-- distance moved, binary32 m [R263; 32 bit; DC 0] -/
  dist : F32
  /-- active width, mm [R263; 18 bit; DC 0] -/
  width : Nat
  /-- moisture attributed [R264; 32 bit; reset none] -/
  moist : Option F32
  /-- state was not NAV [R263; 1 bit; DC false] -/
  deg : Bool
  /-- it has received mass [R264; 1 bit; reset false] -/
  used : Bool
deriving DecidableEq, Repr

/-- The open yield record (R265). -/
structure YieldRec where
  /-- first cut cycle [R265; 64 bit; DC 0] -/
  first : Cut
  /-- last cut cycle [R265; 64 bit; DC 0] -/
  last : Cut
  /-- cycles spanned [R265; 13 bit; reset 0] -/
  span : Nat
  /-- cycles with mass, gaps [R266; 16 bit; reset 0] -/
  cycles : Nat
  /-- gap cycles [R266; 16 bit; reset 0] -/
  gaps : Nat
  /-- distance, area, wet mass, moisture-weighted mass, unmatched mass (binary32) [R266; 32 bit; reset 0] -/
  dist : F32
  /-- area [R266; 32 bit; reset 0] -/
  area : F32
  /-- wet mass [R266; 32 bit; reset 0] -/
  wet : F32
  /-- sum of mass times moisture [R266; 32 bit; reset 0] -/
  wm : F32
  /-- a cycle had no moisture [R266; 1 bit; reset false] -/
  noMoist : Bool
  /-- a cycle was not NAV [R266; 1 bit; reset false] -/
  deg : Bool
deriving DecidableEq, Repr

/-- What a cycle start found to act from that cycle on: records, starts and stops, and an activated path (R244, R259, R267). -/
structure FuseSetup where
  /-- the cycle [R243; 64 bit; DC 0] -/
  cyc : Nat
  /-- FUSE records as written at its start, by configuration key [0x0B03; records; reset empty] -/
  recs : Tab Bytes
  /-- sources told to start or stop [0x0B05; 32 x 1 bit; reset none] -/
  asks : Tab (Option Bool)
  /-- the engine told to start or stop [0x0B05; 1 bit; reset none] -/
  ask : Option Bool
  /-- the accumulator told to start or stop [0x0B05; 1 bit; reset none] -/
  yieldAsk : Option Bool
  /-- path made active [R259; record; reset none] -/
  path : Option (BitVec 16 × Bytes × List (F32 × F32))
deriving DecidableEq, Repr

/-- The Fusion Engine and the Yield Accumulator. -/
structure Fuse where
  /-- sources FS00–FS31 [R244; 32 sources; reset off] -/
  src : Tab FuseSrc := []
  /-- engine enabled [R258; 1 bit; DC false] -/
  enabled : Bool := false
  /-- ENABLE or DISABLE of the engine that acts from the next cycle [0x0B05; 1 bit; reset none] -/
  ask : Option Bool := none
  /-- latest started cycle i (T_i has come) [R243; 64 bit; DC 0] -/
  cycle : Nat := 0
  /-- a cycle has started since PD5 came up [R243; 1 bit; reset false] -/
  started : Bool := false
  /-- cycle that closes next [R247; 64 bit; DC 0] -/
  next : Nat := 0
  /-- latest closed cycle [R248; 64 bit; reset none] -/
  closed : Option Nat := none
  /-- raw count at which it closed [R247; 64 bit; DC 0] -/
  closedRaw : Nat := 0
  /-- estimate at T of the latest closed cycle [R256; record; DC 0] -/
  est : Est := {}
  /-- the IMU source that propagates the estimate since the last closed cycle [R256; 5 bit; reset none] -/
  imu : Option Nat := none
  /-- cycle starts whose settings wait for the cycles before them to close, oldest first [R267; list; reset empty] -/
  setups : List FuseSetup := []
  /-- FUSE records in force since the latest cycle start, by configuration key [0x0B03; records; reset none = as stored] -/
  force : Option (Tab Bytes) := none
  /-- quantities 1–4 of which a source took part in the last closed cycle, bit q − 1 [R251; 4 bit; reset 0] -/
  took : BitVec 4 := 0
  /-- EDGE value of the last closed cycle [R260; 32 bit; reset none] -/
  edge : Option F32 := none
  /-- a closed cycle is not yet published [R256; 1 bit; reset false] -/
  toPublish : Bool := false
  /-- fused state, Table 10-5 [R258; 3 bit; reset INIT] -/
  st : Nat := 0
  /-- FUSE_STATE flags [R261; 16 bit; reset 0] -/
  flags : BitVec 16 := 0
  /-- cycles without a position source [R258; 16 bit; reset 0] -/
  deadRun : Nat := 0
  /-- masks included, absent of the last cycle [R261; 32 bit; reset 0] -/
  included : BitVec 32 := 0
  /-- absent mask [R261; 32 bit; reset 0] -/
  absent : BitVec 32 := 0
  /-- active path: (path_id, origin bytes, vertices as (north, east)) [R259; 4096 vertices; reset none] -/
  path : Option (BitVec 16 × Bytes × List (F32 × F32)) := none
  /-- path activated, acting at the next cycle: path_id, origin bytes, number of staged vertices [R259; record; reset none] -/
  nextPath : Option (BitVec 16 × Bytes × Nat) := none
  /-- staging buffer of vertices [R259; 4096 vertices; reset empty] -/
  staging : Tab (F32 × F32) := []
  /-- indices written since the last activation [R259; 4096 bit; reset empty] -/
  staged : Tab Bool := []
  /-- active segment [R260; 12 bit; reset none] -/
  segment : Option Nat := none
  /-- cycles published [R261; 32 bit; reset 0] -/
  published : Nat := 0
  /-- module time stepped since the last entry [R261; 1 bit; reset false] -/
  clockStep : Bool := false
  /-- accumulator enabled [R263; 1 bit; DC false] -/
  yieldOn : Bool := false
  /-- ENABLE or DISABLE of the accumulator that acts from the next cycle [0x0B05; 1 bit; reset none] -/
  yieldAsk : Option Bool := none
  /-- history of 4,096 cycles, newest first [R263; 4096 entries; reset empty] -/
  hist : List Cut := []
  /-- open yield record [R265; record; reset none] -/
  rcd : Option YieldRec := none
  /-- unmatched mass waiting for the next record (binary32 kg) [R264; 32 bit; reset 0] -/
  unmatched : F32 := 0
  /-- records published, gaps since ENABLE [R266; 32 bit; reset 0] -/
  records : Nat := 0
  /-- gaps since ENABLE [R264; 32 bit; reset 0] -/
  gaps : Nat := 0
  /-- next cut cycle to receive mass [R264; 64 bit; DC 0] -/
  nextCut : Nat := 0
  /-- flow_delay in force [R264; 13 bit; reset 1200] -/
  delay : Nat := 1200
  /-- cycles the flow source has been absent [R268; 8 bit; reset 0] -/
  flowAbs : Nat := 0
  /-- latest attributed moisture and its cycle [R266; record; reset none] -/
  lastMoist : Option (F32 × Nat) := none
deriving DecidableEq, Repr

/-! ### Camera links and the gather buffer (chapter 11) -/

/-- Link states, Table 11-1. -/
inductive LinkState where
  | off
  | powering
  | training
  | aligning
  | up
  | down
  | latched
deriving DecidableEq, Repr

/-- A back-channel message waiting or awaiting its answer. -/
structure BcMsg where
  /-- type, Table 11-4 [R278; 8 bit; DC 0] -/
  typ : Nat
  /-- sequence [R278; 8 bit; DC 0] -/
  seq : BitVec 8
  /-- slot on the hub, 0xFF the hub [R278; 8 bit; DC 0] -/
  slot : Nat
  /-- payload [R278; 24 byte; DC empty] -/
  payload : Bytes
  /-- the I2C_XFER it carries out [R278; packet; reset none] -/
  cmd : Option Cmd := none
  /-- sends made [R278; 2 bit; reset 0] -/
  sends : Nat := 0
  /-- raw count of the last send [R278; 64 bit; DC 0] -/
  sentRaw : Nat := 0
deriving DecidableEq, Repr

/-- One camera link CL1–CL3. -/
structure Link where
  /-- state [R271; 3 bit; reset OFF] -/
  st : LinkState := .off
  /-- power over coax on [R270; 1 bit; reset false] -/
  poc : Bool := false
  /-- POC_OPEN stands [R270; 1 bit; reset false] -/
  pocOpen : Bool := false
  /-- POC_SHORT stands [R270; 1 bit; reset false] -/
  short : Bool := false
  /-- raw counts of the switch-offs within 60 s [R270; list; reset empty] -/
  trips : List Nat := []
  /-- raw count at which the present state was entered [R271; 64 bit; DC 0] -/
  stRaw : Nat := 0
  /-- UNALIGNED flag [R279; 1 bit; reset false] -/
  unaligned : Bool := false
  /-- consecutive exchanges within ±50 ns [R279; 4 bit; reset 0] -/
  good : Nat := 0
  /-- consecutive exchanges outside [R279; 4 bit; reset 0] -/
  bad : Nat := 0
  /-- exchanges without an echo in a row, one per ms [R279; 4 bit; reset 0] -/
  silent : Nat := 0
  /-- forward block lock [R273; 1 bit; reset false] -/
  locked : Bool := false
  /-- LOCK_LOST stands [R286; 1 bit; reset false] -/
  lockLost : Bool := false
  /-- HUB_LOST stands [R286; 1 bit; reset false] -/
  hubLost : Bool := false
  /-- raw count of the last hub STATUS since TRAINING began [R271, R278; 64 bit; reset none] -/
  status : Option Nat := none
  /-- payload of the last STATUS [R278; 24 byte; DC empty] -/
  hub : Bytes := []
  /-- last offset of the hub counter, ns [R279; 32 bit signed; DC 0] -/
  alignNs : Int := 0
  /-- raw count at which the last TIME_SYNC was made [R278; 64 bit; DC 0] -/
  syncRaw : Nat := 0
  /-- t1: departure of the last TIME_SYNC [R278, R279; 64 bit; DC 0] -/
  t1 : Nat := 0
  /-- cable delay of the last exchange, ns [R279; 32 bit signed; DC 0] -/
  cableNs : Int := 0
  /-- t2, t3 of its echo and t4 [R279; 3 x 64 bit; reset none] -/
  echo : Option (Nat × Nat × Nat) := none
  /-- bad_blocks [R274; 32 bit; reset 0] -/
  badBlocks : Nat := 0
  /-- unsupported [R275, R277; 32 bit; reset 0] -/
  unsupported : Nat := 0
  /-- packet headers whose single-bit error was corrected [R275; count; reset 0] -/
  eccFixed : Nat := 0
  /-- bc_errors [R278; 32 bit; reset 0] -/
  bcErrors : Nat := 0
  /-- DATA blocks received [R272; 64 bit; reset 0] -/
  blocks : Nat := 0
  /-- raw count of the last bad block [R286; 64 bit; reset none] -/
  badRaw : Option Nat := none
  /-- raw count from which windows are counted [R269; 64 bit; DC 0] -/
  trainRaw : Nat := 0
  /-- number of the next window to start [R269; count; reset 0] -/
  windows : Nat := 0
  /-- back-channel messages waiting [R278; list; reset empty] -/
  queue : List BcMsg := []
  /-- request awaiting its answer [R278; record; reset none] -/
  await : Option BcMsg := none
  /-- sequence of the next message [R278; 8 bit; DC 0] -/
  seq : BitVec 8 := 0
  /-- messages sent, oldest first [R278; pin; reset empty] -/
  sent : List Bytes := []
deriving DecidableEq, Repr

/-- Assembly of a virtual channel's packets into lines (R276), and its gather ring (R282). -/
structure SlotRx where
  /-- record in force, Table of 0x0C10 [R285; 32 byte; reset empty = disabled] -/
  rcd : Bytes := []
  /-- long packet the next block must carry [R276; 16 bit; reset 0] -/
  line : Nat := 0
  /-- frag_off the next block must carry [R276; 32 bit; reset 0] -/
  frag : Nat := 0
  /-- bytes of the packet being received [R272; bytes; reset empty] -/
  pkt : Bytes := []
  /-- bytes of that packet that were missing [R276; 16 bit; reset 0] -/
  miss : Nat := 0
  /-- long packets of the picture that carried no pixels [R275; 16 bit; reset 0] -/
  embPkts : Nat := 0
  /-- a picture is in progress [R276; 1 bit; reset false] -/
  inPic : Bool := false
  /-- its frame start was lost [R276; 1 bit; reset false] -/
  noFs : Bool := false
  /-- its lines are discarded up to the next frame start [R284, R300, R301; 1 bit; reset false] -/
  discard : Bool := false
  /-- number of the picture that starts next [R282; 32 bit; reset 0] -/
  next : Nat := 0
  /-- lines received and not yet written into the ring: (header, pixels) [R282; list; reset empty] -/
  pending : List (Bytes × Bytes) := []
  /-- ring entries, oldest first: (header, pixels) [R282; ring_lines entries; reset empty] -/
  ring : List (Bytes × Bytes) := []
  /-- raw counts between the last two lines of a picture [R284; 32 bit; reset 0] -/
  linePer : Nat := 0
  /-- raw count of the last line received [R284; 64 bit; DC 0] -/
  lineRaw : Nat := 0
  /-- FSYNC edges ordered and not yet sent, raw counts [R280; list; reset empty] -/
  edges : List Nat := []
  /-- last FSYNC edge issued, and whether the link was UNALIGNED [R280; 64 bit; reset none] -/
  lastEdge : Option (Nat × Bool) := none
  /-- pictures received [0x0C13; 32 bit; reset 0] -/
  pictures : Nat := 0
  /-- dropped_pictures [R284; 32 bit; reset 0] -/
  dropped : Nat := 0
  /-- damaged_lines [R276; 32 bit; reset 0] -/
  damagedLines : Nat := 0
  /-- short_pictures [0x0C13; 32 bit; reset 0] -/
  shortPics : Nat := 0
  /-- fsync_edges [R280; 32 bit; reset 0] -/
  fsyncs : Nat := 0
  /-- edges issued that no picture has taken: raw count, and whether the link was UNALIGNED [R280; list; reset empty] -/
  trig : List (Nat × Bool) := []
  /-- identity from which the addresses of its spill ring and temporal reference follow [R283, R293; identifier; DC 0] -/
  place : Nat := 0
  /-- lines written into its ring since it was enabled [R282; count; reset 0] -/
  wrote : Nat := 0
  /-- a spill slot's ring in SDRAM, by entry: header and pixels as last written [R283; ring_lines entries; reset empty] -/
  spill : Tab Bytes := []
deriving DecidableEq, Repr

/-- The camera links and the gather buffer. -/
structure Clnk where
  /-- links CL1–CL3 = 0–2 [R269; 3 links; reset OFF] -/
  link : Tab Link := []
  /-- slots S01–S12 = 0–11 [R277; 12 slots; reset] -/
  slot : Tab SlotRx := []
deriving DecidableEq, Repr

/-! ### Image pipes, vision array and encoder (chapters 12, 13) -/

/-- A pipe job (R295). -/
structure PipeJob where
  /-- slot [R295; 4 bit; DC 0] -/
  slot : Nat
  /-- picture number [R295; 32 bit; DC 0] -/
  picture : Nat
  /-- stripe index [R295; 12 bit; DC 0] -/
  stripe : Nat
  /-- first line taken from the ring, and the line after the last [R295; 2 x 12 bit; DC 0] -/
  lo : Nat
  /-- the line after the last [R295; 12 bit; DC 0] -/
  hi : Nat
  /-- raw count of its last input line [R297; 64 bit; DC 0] -/
  readyRaw : Nat
  /-- raw count at which it was started [R287; 64 bit; DC 0] -/
  start : Nat := 0
  /-- input pixels, the overlap included [R287; 20 bit; DC 0] -/
  pixels : Nat := 0
  /-- its input lines: (header, pixels), those that may replace a DAMAGED one first, then the overlap [R295, R298; lines; DC empty] -/
  lines : List (Bytes × Bytes) := []
deriving DecidableEq, Repr

/-- One image pipe. -/
structure Pipe where
  /-- 0 OFF, 1 RUNNING, 2 FAULT [R296; 2 bit; reset OFF] -/
  st : Nat := 0
  /-- fault code [R300; 8 bit; reset 0] -/
  faultCode : Nat := 0
  /-- it stops after its running job [0x0D06; 1 bit; reset false] -/
  stopping : Bool := false
  /-- running job [R296; record; reset none] -/
  job : Option PipeJob := none
  /-- RESET_INSTANCEs whose self-test runs, and the raw count of its start [R300; list and 64 bit; reset none] -/
  testing : Option (List Cmd × Nat) := none
  /-- jobs completed [R297; 32 bit; reset 0] -/
  jobs : Nat := 0
  /-- late jobs [R297; 32 bit; reset 0] -/
  late : Nat := 0
  /-- longest latency since ENABLE, µs [R297; 32 bit; reset 0] -/
  maxLat : Nat := 0
  /-- jobs of the last second: (start, end) [0x0D02; list; reset empty] -/
  busy : List (Nat × Nat) := []
deriving DecidableEq, Repr

/-- A picture on its way through a pipe (R304). -/
structure Pic where
  /-- picture number [R282; 32 bit; DC 0] -/
  num : Nat
  /-- context record in force, Table 12-2 [R290; 80 byte; DC empty] -/
  rcd : Bytes
  /-- context [R289; 4 bit; reset none] -/
  ctx : Option Nat
  /-- pipe [R296; 1 bit; reset none] -/
  pipe : Option Nat
  /-- status: 0 COMPLETE, 1 DROPPED_OVERRUN, 2 ABORTED_PIPE, 3 NO_PIPE [R304; 8 bit; reset 0] -/
  status : Nat := 0
  /-- picture time, raw count [R304; 64 bit; DC 0] -/
  timeRaw : Nat
  /-- descriptor flags that stand [R304; 16 bit; reset 0] -/
  flags : List Nat := []
  /-- lines taken into the ring [R298; 12 bit; reset 0] -/
  lines : Nat := 0
  /-- the sensor's picture has ended [R276; 1 bit; reset false] -/
  ended : Bool := false
  /-- arrival of the last line [R304; 64 bit; reset 0] -/
  lastRaw : Nat := 0
  /-- arrival of every line, newest first [R297; 64 bit each; reset empty] -/
  arrivals : List Nat := []
  /-- completion of the last job [R304; 64 bit; reset 0] -/
  doneRaw : Nat := 0
  /-- DAMAGED lines, ascending [R298; list; reset empty] -/
  damaged : List Nat := []
  /-- padded lines [R298; 16 bit; reset 0] -/
  padded : Nat := 0
  /-- truncated lines [R298; 16 bit; reset 0] -/
  truncated : Nat := 0
  /-- lines discarded as LONG [R298; 16 bit; reset 0] -/
  excess : Nat := 0
  /-- rows processed without a reference [R304; 16 bit; reset 0] -/
  spatial : Nat := 0
  /-- jobs made ready [R295; 12 bit; reset 0] -/
  made : Nat := 0
  /-- jobs run [R304; 16 bit; reset 0] -/
  jobs : Nat := 0
  /-- allocation its buffers belong to, that of its context at its start [R302; identifier; DC 0] -/
  alloc : Nat := 0
  /-- buffers of DISP, CODE, VISN [R302; 3 x 3 bit; reset none] -/
  bufs : List (Option Nat) := []
  /-- shading grid in force at its start [R290; 884 x 16 bit; reset empty] -/
  shade : Bytes := []
  /-- tone curve in force at its start [R290; 257 x 16 bit; reset empty] -/
  tone : Bytes := []
  /-- epoch of the slot's reference at its start [R290, R305; count; reset 0] -/
  epoch : Nat := 0
  /-- rows emitted [R295, R304; 12 bit; reset 0] -/
  emitted : Nat := 0
  /-- embedded data [R275; 4 KiB; reset empty] -/
  embedded : Bytes := []
  /-- its last sound line of each pattern row before the running job [R298; 4 lines; reset empty] -/
  sound : List (Bytes × Bytes) := []
  /-- the last 8 unpacked lines of its previous stripe (carry store) [R295; 8 lines; reset empty] -/
  carry : List (Bytes × Bytes) := []
  /-- its rows after stage 3, as far as its jobs have emitted them [R295; lines x width x 16 bit; reset empty] -/
  rows : Tab Bytes := []
deriving DecidableEq, Repr

/-- What the pipes keep of one slot. -/
structure PipeSlot where
  /-- active context [R289; 4 bit; reset none] -/
  ctx : Option Nat := none
  /-- context chosen for the next picture start [R290; 4 bit; reset none] -/
  nextCtx : Option Nat := none
  /-- context record in force since the last picture start; empty before the first of a context [R290; 80 byte; reset empty] -/
  rcd : Bytes := []
  /-- pipe of the last picture [R296; 1 bit; reset none] -/
  pipe : Option Nat := none
  /-- pictures not yet published, oldest first [R304; list; reset empty] -/
  pics : List Pic := []
  /-- ready jobs, in line order [R295; list; reset empty] -/
  ready : List PipeJob := []
  /-- temporal reference, by row: valid bit and stage-3 output, 16 bit a pixel [R293; rows; reset none valid] -/
  tnr : Tab (Bool × Bytes) := []
  /-- how often the whole reference was invalidated by a change of context or freed [R290, R293; count; reset 0] -/
  epoch : Nat := 0
  /-- home pipe it moved away from [R296, R306; 1 bit; reset none] -/
  away : Option Nat := none
  /-- picture and picture time in each CODE, VISN buffer: key allocation × 32 + output × 8 + buffer [R312, R318; list; reset empty] -/
  bufPic : Tab (Option (Nat × Nat)) := []
  /-- latest COMPLETE picture and its time [R312; record; reset none] -/
  latest : Option (Nat × Nat) := none
  /-- descriptors with status COMPLETE [0x0D14; 32 bit; reset 0] -/
  pictures : Nat := 0
  /-- short [R298; 32 bit; reset 0] -/
  short : Nat := 0
  /-- long_lines [R298; 32 bit; reset 0] -/
  long : Nat := 0
  /-- padded_lines [R298; 32 bit; reset 0] -/
  padded : Nat := 0
  /-- truncated_lines [R298; 32 bit; reset 0] -/
  truncated : Nat := 0
  /-- aborted [R300; 32 bit; reset 0] -/
  aborted : Nat := 0
  /-- no_pipe [R301; 32 bit; reset 0] -/
  noPipe : Nat := 0
  /-- out_skipped [R299; 32 bit; reset 0] -/
  skipped : Nat := 0
  /-- late [R297; 32 bit; reset 0] -/
  late : Nat := 0
  /-- latency of the last job, µs [R297; 32 bit; reset 0] -/
  lastLat : Nat := 0
deriving DecidableEq, Repr

/-- An encoder stream. -/
structure EncStream where
  /-- running [R318; 1 bit; reset false] -/
  running : Bool := false
  /-- ENC_START parameters in force [R319; 24 byte; reset empty] -/
  params : Bytes := []
  /-- pictures coded [R318; 32 bit; reset 0] -/
  pictures : Nat := 0
  /-- skipped_in [R318; 32 bit; reset 0] -/
  skippedIn : Nat := 0
  /-- stream bytes written [R320; 64 bit; reset 0] -/
  bytePos : Nat := 0
  /-- CODE buffers held: (buffer key, picture, time), oldest first [R318; 2 entries; reset empty] -/
  held : List (Nat × Nat × Nat) := []
  /-- the next picture is coded as IDR [R319; 1 bit; reset false] -/
  idr : Bool := false
  /-- pictures since the last IDR [R319; 10 bit; reset 0] -/
  sinceIdr : Nat := 0
  /-- COMPLETE pictures to pass over before the next one is taken (decim) [R318; 5 bit; reset 0] -/
  decim : Nat := 0
  /-- ENC_STOP asked: ends after its current picture [0x0D21; 1 bit; reset false] -/
  stopping : Bool := false
  /-- code_format, width and height at the start [R321; record; DC 0] -/
  fmt : Nat × Nat × Nat := (0, 0, 0)
  /-- a picture of another format or size has come: (picture, time) [R321; record; reset none] -/
  mismatch : Option (Nat × Nat) := none
  /-- raw count of the last skipped_in event [R321; 64 bit; reset none] -/
  skipRaw : Option Nat := none
  /-- access units of the last second: (raw count, bytes) [0x0D23; list; reset empty] -/
  aus : List (Nat × Nat) := []
  /-- identity of its ring, from which the address follows [R320; identifier; DC 0] -/
  ring : Nat := 0
  /-- level it codes, as general_level_idc [R319; 8 bit; DC 0] -/
  level : Nat := 0
  /-- its access units whose bytes its ring still holds, newest first: (byte_pos, bytes) [R320; ring_mib; reset empty] -/
  coded : List (Nat × Bytes) := []
deriving DecidableEq, Repr

/-- An allocation of a context's buffers, made at the commit of its record (R302, R308). -/
structure Alloc where
  /-- bytes of one buffer of DISP, CODE, VISN, 0 where the output is off [R302; 3 x 32 bit; reset 0] -/
  size : List Nat := [0, 0, 0]
  /-- buffers of DISP, CODE, VISN [R302; 3 x 4 bit; reset 0] -/
  count : List Nat := [0, 0, 0]
  /-- VISN_TO_ARRAY: how many of the VISN buffers lie in VA0, the rest in VA1; none where they lie in SDRAM [R308; 4 bit; reset none] -/
  va0 : Option Nat := none
  /-- next buffer of DISP, CODE, VISN [R302; 3 x 3 bit; reset 0] -/
  next : List Nat := [0, 0, 0]
deriving DecidableEq, Repr

/-- The pipes and the encoder. -/
structure Pipes where
  /-- P0, P1 [R287; 2 pipes; reset OFF] -/
  pipe : Tab Pipe := []
  /-- slots 0–11 [R289; 12 slots; reset] -/
  slot : Tab PipeSlot := []
  /-- streams 0–3 [R318; 4 streams; reset stopped] -/
  enc : Tab EncStream := []
  /-- identity of each context's allocation, from which addresses follow [R302; identifier; DC 0] -/
  alloc : Tab Nat := []
  /-- allocations made since PD7 came up, by identity [R302, R308; records; reset empty] -/
  allocs : Tab Alloc := []
  /-- output buffers, header of Table 12-7 and planes of Table 12-6: key allocation × 32 + output × 8 + buffer [R302, R303; bytes; DC empty] -/
  buf : Tab Bytes := []
  /-- raw count of the last per-slot event, by slot × 16 + code [R306; 64 bit; reset none] -/
  evRaw : Tab (Option Nat) := []
deriving DecidableEq, Repr

/-- A loaded model. -/
structure Model where
  /-- handle [R309; 16 bit; DC 0] -/
  handle : Nat
  /-- the package figures [R309; record; DC 0] -/
  kmp : KmpIn
  /-- its MODEL_UNLOAD waits for the next layer boundary [R317; 1 bit; reset false] -/
  leaving : Bool := false
deriving DecidableEq, Repr

/-- A vision job. -/
structure VisJob where
  /-- the SUBMIT [R311; packet; DC empty] -/
  cmd : Cmd
  /-- picture number of its input [R312; 32 bit; DC 0] -/
  picture : Nat
  /-- picture time [R312; 64 bit; DC 0] -/
  timeRaw : Nat
  /-- VISN buffer held, by key [R312; key; DC 0] -/
  buf : Nat
  /-- its input lies in vision-array SRAM [R310; 1 bit; DC false] -/
  inArray : Bool
  /-- interruptions suffered [R311; 16 bit; reset 0] -/
  preempts : Nat := 0
  /-- raw count of its first layer [R313; 64 bit; reset none] -/
  startRaw : Option Nat := none
  /-- raw count at which it was last started or resumed [0x0E02; 64 bit; DC 0] -/
  runRaw : Nat := 0
  /-- raw counts it ran before that [R310, R313; 64 bit; reset 0] -/
  ran : Nat := 0
  /-- it was cancelled or its model unloaded: ends ABORTED at the next layer boundary [R317; 1 bit; reset false] -/
  aborted : Bool := false
deriving DecidableEq, Repr

/-- One vision partition. -/
structure Part where
  /-- 0 OFF, 1 RUNNING, 2 FAULT [R315; 2 bit; reset OFF] -/
  st : Nat := 0
  /-- fault code [R315; 8 bit; reset 0] -/
  faultCode : Nat := 0
  /-- loaded models, at most 16 [R309; list; reset empty] -/
  models : List Model := []
  /-- model loads in progress: in-flight commands, oldest first [R309; list; reset empty] -/
  loading : List Cmd := []
  /-- queues 0–3, head first [R311; 4 x 32 jobs; reset empty] -/
  queue : Tab (List VisJob) := []
  /-- queue whose head runs [R311; 2 bit; reset none] -/
  running : Option Nat := none
  /-- next model handle [R309; 16 bit; DC 0] -/
  nextHandle : Nat := 0
  /-- jobs completed [0x0E02; 32 bit; reset 0] -/
  jobs : Nat := 0
  /-- overruns [R310; 32 bit; reset 0] -/
  overruns : Nat := 0
  /-- busy times of the last second: (start, end) [0x0E02; list; reset empty] -/
  busy : List (Nat × Nat) := []
  /-- raw count of the last event of EV114 per code [R316; 64 bit; reset none] -/
  evRaw : Tab (Option Nat) := []
deriving DecidableEq, Repr

/-! ### CAN (chapter 14) -/

/-- An entry of a receive FIFO: its words (Table 14-2). -/
structure RxEntry where
  /-- words 0 to 3 + ceil(len / 4) [R329; 4–20 words; DC empty] -/
  words : List (BitVec 32)
  /-- rx_seq [R328; 32 bit; DC 0] -/
  seq : BitVec 32
deriving DecidableEq, Repr

/-- One receive FIFO. -/
structure RxFifo where
  /-- entries, oldest first [R328; 512 entries; reset empty] -/
  q : List RxEntry := []
  /-- head locked [R330; 1 bit; reset false] -/
  locked : Bool := false
  /-- CAN_RXF_DROPS [R330; 32 bit; reset 0] -/
  drops : Nat := 0
  /-- CAN frames dropped since the previous entry [R329; 16 bit; reset 0] -/
  gap : Nat := 0
  /-- CAN_RXF_LIMIT [R332; 32 bit; reset 0] -/
  limit : BitVec 32 := 0
  /-- entries readable in the frame (lanes) [R332; 10 bit; reset 0] -/
  avail : Nat := 0
deriving DecidableEq, Repr

/-- A transmit FIFO entry. -/
structure TxEntry where
  /-- the CAN frame [R335; frame; DC empty] -/
  frame : CanFrame
  /-- it came by TRANSMIT (false: a lane PDU) [R335; 1 bit; DC false] -/
  app : Bool
  /-- CONFIRM command waiting for its end [R335; packet; reset none] -/
  confirm : Option Cmd
  /-- attempts made [R335; 16 bit; reset 0] -/
  attempts : Nat
deriving DecidableEq, Repr

/-- Which frame an attempt carries. -/
inductive TxPick where
  | mailbox
  | heartbeat
  | fifo
  | segment
deriving DecidableEq, Repr

/-- One CAN FD channel. -/
structure CanCh where
  /-- 0 OFF, 1 ERROR_ACTIVE, 2 ERROR_PASSIVE, 3 BUS_OFF, 4 RECOVERING [R340; 3 bit; reset OFF] -/
  st : Nat := 0
  /-- CAN_ALONE [R342; 1 bit; reset false] -/
  alone : Bool := false
  /-- TEC [R340; 9 bit; reset 0] -/
  tec : Nat := 0
  /-- REC [R340; 8 bit; reset 0] -/
  rec' : Nat := 0
  /-- WARNING stands [R340; 1 bit; reset false] -/
  warn : Bool := false
  /-- receive FIFO of the application [R328; FIFO; reset empty] -/
  app : RxFifo := {}
  /-- receive FIFO of Lane A [R328; FIFO; reset empty] -/
  fifoA : RxFifo := {}
  /-- receive FIFO of Lane B [R328; FIFO; reset empty] -/
  fifoB : RxFifo := {}
  /-- rx_seq [R328; 32 bit; reset 0] -/
  rxSeq : BitVec 32 := 0
  /-- transmit FIFO [R335; 64 entries; reset empty] -/
  tx : List TxEntry := []
  /-- FIFO paused by CAN_ALONE [R342; 1 bit; reset false] -/
  parked : Bool := false
  /-- ack errors in a row [R342; 8 bit; reset 0] -/
  acks : Nat := 0
  /-- attempt in progress: what it carries, the CAN frame and its SOF stamp [R335; record; reset none] -/
  attempt : Option (TxPick × CanFrame × Nat) := none
  /-- ABORTs of the head that wait for the end of its attempt, with the entries each has removed [R343; list; reset empty] -/
  aborts : List (Cmd × Nat) := []
  /-- heartbeat due and unsent [R339; 1 bit; reset false] -/
  hbDue : Bool := false
  /-- heartbeat already tried in this period (CAN_ALONE) [R342; 1 bit; reset false] -/
  hbTried : Bool := false
  /-- heartbeats that have fallen due; the one in the slot carries one less [R339; 8 bit; DC 0] -/
  hbCount : BitVec 8 := 0
  /-- hb_missed [R339; 32 bit; reset 0] -/
  hbMissed : Nat := 0
  /-- safety mailbox: PDU waiting [R211; frame; reset none] -/
  mailbox : Option CanFrame := none
  /-- tx_frames, tx_overflow, bus_offs [R340; 32 bit; reset 0] -/
  txFrames : Nat := 0
  /-- tx_overflow [R335; 32 bit; reset 0] -/
  txOverflow : Nat := 0
  /-- app rx drops, saturating [R333; 32 bit; reset 0] -/
  rxDrops : Nat := 0
  /-- bus_offs [R341; 32 bit; reset 0] -/
  busOffs : Nat := 0
  /-- last measured transmitter delay [R325; 8 bit; DC 0] -/
  tdcMeas : BitVec 8 := 0
  /-- raw count of the last event per code limited to one per second [R344; 64 bit; reset none] -/
  evRaw : Tab (Option Nat) := []
  /-- raw count of ENABLE, from which the heartbeat counts [R339; 64 bit; DC 0] -/
  enRaw : Nat := 0
  /-- raw count of the last heartbeat due [R339; 64 bit; DC 0] -/
  hbRaw : Nat := 0
deriving DecidableEq, Repr

/-- The CAN channels and the lane PDUs. -/
structure Can where
  /-- CAN1–CAN8 = 0–7 [R322; 8 channels; reset OFF] -/
  ch : Tab CanCh := []
  /-- lane signal slot values, raw field contents [R338; 256 x 32 bit; reset off_raw] -/
  sig : Tab (Option (BitVec 32)) := []
  /-- lane PDUs latched and entering at the next frame start: (pdu, channel, frame) [R337; list; reset empty] -/
  latched : List (Nat × Nat × CanFrame) := []
  /-- CAN frames the module has sent successfully: (channel, frame, SOF stamp), oldest first [R334; pin; reset empty] -/
  wire : List (Nat × CanFrame × Nat) := []
deriving DecidableEq, Repr

/-! ### Ethernet (chapter 15) -/

/-- A frame queued at an egress port. -/
structure EthFrame where
  /-- the frame without FCS [R347; bytes; DC empty] -/
  bytes : Bytes
  /-- launch raw count [R357; 64 bit; reset none] -/
  launch : Option Nat
  /-- transmit descriptor index when it came from the host ring [R356; 10 bit; reset none] -/
  desc : Option Nat
  /-- a late launch frame that is sent at the next opportunity [R358; 1 bit; reset false] -/
  late : Bool
deriving DecidableEq, Repr

/-- A gate control list in force. -/
structure Gcl where
  /-- entries (gate bits, interval ns) [R349; 256 entries; DC empty] -/
  entries : List (BitVec 8 × Nat)
  /-- cycle_ns [R349; 30 bit; DC 0] -/
  cycle : Nat
  /-- raw count at which it becomes, became operational [R350; 64 bit; DC 0] -/
  start : Nat
deriving DecidableEq, Repr

/-- One Ethernet port. -/
structure EthPort where
  /-- enabled [R345; 1 bit; DC false] -/
  enabled : Bool := false
  /-- link up [R359; 1 bit; reset false] -/
  link : Bool := false
  /-- egress queues 0–7 [R347; 8 x 128 frames; reset empty] -/
  queue : Tab (List EthFrame) := []
  /-- list in force [R349; record; reset none] -/
  gcl : Option Gcl := none
  /-- entry of the list in force [R349; 8 bit; reset 0] -/
  gate : Nat := 0
  /-- list waiting for its start [R350; record; reset none] -/
  next : Option Gcl := none
  /-- staged list entries [0x0910; 256 entries; reset empty] -/
  stage : Tab (Option (BitVec 8 × Nat)) := []
  /-- 802.1AS port state: 0 disabled, 1 master, 2 slave, 3 passive [R353; 2 bit; reset 0] -/
  gptp : Nat := 0
  /-- asCapable [R355; 1 bit; reset false] -/
  capable : Bool := false
  /-- mean link delay ns [R353; 32 bit; reset 0] -/
  pdelay : BitVec 32 := 0
  /-- rx_frames, tx_frames, rx_drops, gate_oversize, late_dropped, late_sent [R347; 32 bit; reset 0] -/
  rx : Nat := 0
  /-- tx_frames [R351; 32 bit; reset 0] -/
  tx : Nat := 0
  /-- rx_drops [R347; 32 bit; reset 0] -/
  drops : Nat := 0
  /-- gate_oversize [R351; 32 bit; reset 0] -/
  oversize : Nat := 0
  /-- late_dropped [R358; 32 bit; reset 0] -/
  lateDropped : Nat := 0
  /-- late_sent [R358; 32 bit; reset 0] -/
  lateSent : Nat := 0
  /-- raw count up to which the transmitter is busy, the gap between frames included [R351; 64 bit; reset 0] -/
  busy : Nat := 0
  /-- raw count of the last Sync sent [R353; 64 bit; DC 0] -/
  syncRaw : Nat := 0
  /-- raw count of the last Pdelay request sent [R353; 64 bit; DC 0] -/
  pdRaw : Nat := 0
  /-- raw count of the last Announce sent [R353; 64 bit; DC 0] -/
  annRaw : Nat := 0
  /-- 802.1AS messages that wait to be sent: Follow_Up, answers to path delay requests, relayed Sync [R353; list; reset empty] -/
  ptpOut : List Bytes := []
  /-- sequence of the next 802.1AS message [R353; 16 bit; DC 0] -/
  ptpSeq : BitVec 16 := 0
  /-- raw count of the last event per code [R360; 64 bit; reset none] -/
  evRaw : Tab (Option Nat) := []
deriving DecidableEq, Repr

/-- The Ethernet switch and the time-aware system. -/
structure Eth where
  /-- ETH1–ETH6 = 0–5 [R345; 6 ports; reset down] -/
  port : Tab EthPort := []
  /-- switch enabled [R345; 1 bit; DC false] -/
  switchOn : Bool := false
  /-- 802.1AS enabled [R345; 1 bit; DC false] -/
  gptpOn : Bool := false
  /-- learned MAC addresses: (vid, MAC, port, raw count last seen) [R347; 4096 entries; reset empty] -/
  macs : List (Nat × Bytes × Nat × Nat) := []
  /-- host ring parameters of 0x0912 [R356; 24 byte; reset none] -/
  rings : Option Bytes := none
  /-- next transmit, receive descriptor [R356; 10 bit; reset 0] -/
  txNext : Nat := 0
  /-- next receive descriptor [R356; 10 bit; reset 0] -/
  rxNext : Nat := 0
  /-- transmit descriptors to be written back: (index, result) [R356, R359; list; reset empty] -/
  wb : List (Nat × Nat) := []
  /-- raw count of the last descriptor poll [R356; 64 bit; DC 0] -/
  pollRaw : Nat := 0
  /-- buffer_drops [R348; 32 bit; reset 0] -/
  bufferDrops : Nat := 0
  /-- host_rx_drops [R356; 32 bit; reset 0] -/
  hostDrops : Nat := 0
  /-- role: 0 disabled, 1 slave, 2 grandmaster, 3 passive [R354; 2 bit; reset 0] -/
  role : Nat := 0
  /-- grandmaster identity [R355; 64 bit; DC 0] -/
  gm : BitVec 64 := 0
  /-- what the grandmaster announced, from currentUtcOffset on [R353; bytes; DC empty] -/
  gmVec : Bytes := []
  /-- last offset from the master, ns [R354; 32 bit; reset 0] -/
  offset : BitVec 32 := 0
  /-- raw count of the last Sync received from the master [R355; 64 bit; DC 0] -/
  syncRaw : Nat := 0
  /-- Sync messages since the last grandmaster change or loss [R46; 2 bit; reset 0] -/
  syncs : Nat := 0
  /-- frames that left a port: (port, frame, corrected egress stamp) [R352; pin; reset empty] -/
  wire : List (Nat × Bytes × Nat) := []
  /-- raw count of the last switch event per code [R360; 64 bit; reset none] -/
  evRaw : Tab (Option Nat) := []
deriving DecidableEq, Repr

/-! ### Segment display (chapter 16) -/

/-- The segment-display driver. -/
structure Seg where
  /-- 0 OFF, 1 DRIVING, 2 START_IMAGE [R368; 2 bit; reset START_IMAGE] -/
  st : Nat := 2
  /-- the divisor in force is park_div [R363; 1 bit; reset false] -/
  park : Bool := false
  /-- asked for at the next drive-cycle start: ENABLE, DISABLE [R368; 1 bit; reset none] -/
  ask : Option Bool := none
  /-- drive memory [R361; 48 byte; reset 0] -/
  drive : Bytes := List.replicate 48 0
  /-- shadow of the drive memory [R365; 48 byte; reset 0] -/
  shadow : Bytes := List.replicate 48 0
  /-- pending image [R365; 48 byte; reset 0] -/
  pend : Bytes := List.replicate 48 0
  /-- dirty rows [R365; 8 bit; reset 0] -/
  dirty : BitVec 8 := 0
  /-- refresh from the shadow at the next drive-cycle start [R366; 1 bit; reset false] -/
  refresh : Bool := false
  /-- start image of SET_DISPLAY, running [R368; 48 byte; reset 0] -/
  start : Bytes := List.replicate 48 0
  /-- divisor in force [R363; 12 bit; reset 32] -/
  div : Nat := 32
  /-- record in force at the drive (bias, divisors, code) taken at a drive-cycle start [R363; 16 byte; reset empty = default] -/
  inForce : Bytes := []
  /-- compensated VLCD code in force [R364; 6 bit; reset 42] -/
  code : Nat := 42
  /-- compensated code waiting for the next drive-cycle start [R364; 6 bit; reset none] -/
  nextCode : Option Nat := none
  /-- comp_clamped [R364; 1 bit; reset false] -/
  clamped : Bool := false
  /-- vlcd_fault [R364; 1 bit; reset false] -/
  fault : Bool := false
  /-- module temperature beside J5 as last used, °C [R364; 8 bit signed; DC 25] -/
  temp : Int := 25
  /-- crc_errors [R366; 32 bit; reset 0] -/
  crcErrors : Nat := 0
  /-- drive_cycles [R366; 32 bit; reset 0] -/
  cycles : BitVec 32 := 0
  /-- CRC of the last drive cycle [R366; 16 bit; DC 0] -/
  crc : BitVec 16 := 0
  /-- on-time counters in CK_AON ticks (32,768 per second) [R367; 384 x 32 bit seconds; reset 0] -/
  onTicks : Tab Nat := []
  /-- raw count of the last EV116 [R369; 64 bit; reset none] -/
  evRaw : Option Nat := none
deriving DecidableEq, Repr

/-! ### Event fabric and recorder (chapters 17, 18) -/

/-- A raise (R372). -/
structure Raise where
  /-- source [R371; 7 bit; DC 0] -/
  src : Nat
  /-- parameter [R372; 32 bit; DC 0] -/
  param : BitVec 32
  /-- stamp [R372; 64 bit; DC 0] -/
  raw : Nat
  /-- raised by RAISE_TEST [R371; 1 bit; reset false] -/
  test : Bool
  /-- raises of the source were lost before this one [R373; 1 bit; reset false] -/
  lost : Bool
  /-- severity it travels with [R374; 3 bit; DC 0] -/
  sev : Nat
deriving DecidableEq, Repr

/-- One event source. -/
structure EvSrc where
  /-- enabled [R374; 1 bit; reset true] -/
  enabled : Bool := true
  /-- route in force until `newRaw`: the record before the last change [R376; 16 bit + 3 bit; reset none] -/
  old : Option (Bytes × Bool) := none
  /-- raw count from which the present record holds [R376; 64 bit; reset 0] -/
  newRaw : Nat := 0
  /-- raises since module start [R373; 32 bit; reset 0] -/
  raises : Nat := 0
  /-- lost [R373; 32 bit; reset 0] -/
  lost : Nat := 0
  /-- a lost raise is not yet marked [R373; 1 bit; reset false] -/
  lostMark : Bool := false
  /-- parameter of the last raise [R373; 32 bit; reset 0] -/
  param : BitVec 32 := 0
  /-- stamp of the last raise [R373; 64 bit; reset 0] -/
  raw : Nat := 0
  /-- lane accumulator of Lane A: raises not yet in an image as (stamp, parameter), newest first [R373; count and 32 bit; reset empty] -/
  accA : List (Nat × BitVec 32) := []
  /-- lane accumulator of Lane B [R373; count and 32 bit; reset empty] -/
  accB : List (Nat × BitVec 32) := []
deriving DecidableEq, Repr

/-- One interrupt line INT0–INT7. -/
structure IntLine where
  /-- EVT_PEND [R378; 128 bit; reset 0] -/
  pend : BitVec 128 := 0
  /-- EVT_MASK [R378; 128 bit; reset 0] -/
  mask : BitVec 128 := 0
  /-- stamp + 1 of the last raise that set each pend bit [R380; 64 bit each; reset 0] -/
  pendRaw : Tab Nat := []
  /-- queue, head first [R378; 256 entries; reset empty] -/
  q : List Raise := []
  /-- head locked [R380; 1 bit; reset false] -/
  locked : Bool := false
  /-- EVT_Q_DROPS [R378; 32 bit; reset 0] -/
  drops : Nat := 0
deriving DecidableEq, Repr

/-- The event fabric. -/
structure Evt where
  /-- sources EV000–EV127 [R371; 128 sources; reset enabled] -/
  src : Tab EvSrc := []
  /-- INT0–INT7 [R378; 8 lines; reset 0] -/
  line : Tab IntLine := []
  /-- raises on their way to the recorder, in delivery order [R382; list; reset empty] -/
  inbox : List Raise := []
  /-- the image given to Lane A at the last computed frame start: (source, count, parameter) [R377; list; reset empty] -/
  imageA : List (Nat × Nat × BitVec 32) := []
  /-- the image given to Lane B [R377; list; reset empty] -/
  imageB : List (Nat × Nat × BitVec 32) := []
deriving DecidableEq, Repr

/-- A record (Table 18-1). -/
structure LogRec where
  /-- seq [R383; 48 bit; DC 0] -/
  seq : Nat
  /-- code [R383; 16 bit; DC 0] -/
  code : Nat
  /-- severity [R383; 3 bit; DC 0] -/
  sev : Nat
  /-- bits [5:3] of sev_flags: test, lost, volatile [R383; 3 bit; DC false] -/
  test : Bool
  /-- lost [R383; 1 bit; DC false] -/
  lost : Bool
  /-- volatile [R393; 1 bit; DC false] -/
  vol : Bool
  /-- source; 0xFF own [R383; 8 bit; DC 0] -/
  src : Nat
  /-- suppressed [R388; 16 bit; DC 0] -/
  supp : Nat
  /-- op_time, s [R383; 32 bit; DC 0] -/
  opTime : Nat
  /-- power_cycles [R383; 32 bit; DC 0] -/
  cycles : Nat
  /-- raw count [R383; 64 bit; DC 0] -/
  raw : Nat
  /-- 32 parameter bytes [R383; 32 byte; DC 0] -/
  params : Bytes
deriving DecidableEq, Repr

/-- The event recorder. -/
structure Log where
  /-- HEAD_SEQ [R384; 48 bit; reset 1] -/
  head : Nat := 1
  /-- records held in the log bank, in ascending seq [R382; 16384 records; DC empty] -/
  bank : List LogRec := []
  /-- write queue, in seq order [R382; 1024 records; reset empty] -/
  wq : List LogRec := []
  /-- RAM ring, in ascending seq [R390; 256 records; reset empty] -/
  ram : List LogRec := []
  /-- last-gasp ring, oldest first [R390; 16 records; DC empty] -/
  gasp : List LogRec := []
  /-- VOLATILE [R390; 1 bit; reset false] -/
  vol : Bool := false
  /-- the log bank has been found bad and not yet passed a start check [R392; 1 bit; DC false] -/
  bankBad : Bool := false
  /-- last block end reserved while VOLATILE [R393; 48 bit; DC 0] -/
  blockEnd : Nat := 0
  /-- token buckets by code: tokens missing from a full bucket [R387; 7 bit each; reset 0] -/
  missing : Tab Nat := []
  /-- tokens missing from every bucket alike, after burst was raised [R387; 7 bit; reset 0] -/
  short : Nat := 0
  /-- suppressed counts by code [R388; 16 bit each; reset 0] -/
  supp : Tab Nat := []
  /-- unplaced [R386; 32 bit; reset 0] -/
  unplaced : Nat := 0
  /-- suppressed total [R388; 32 bit; reset 0] -/
  suppTotal : Nat := 0
  /-- crc_fails [R383; 32 bit; reset 0] -/
  crcFails : Nat := 0
  /-- places of the bank whose record fails its CRC: seqs [R383; list; DC empty] -/
  badSeqs : List Nat := []
  /-- raw count of the last EV119 and losses since it [R386; 64 bit; reset none] -/
  lossRaw : Option Nat := none
  /-- losses since the last EV119 [R386; 32 bit; reset 0] -/
  losses : Nat := 0
  /-- write failures at the present place [R390; 2 bit; reset 0] -/
  verifyFails : Nat := 0
deriving DecidableEq, Repr

/-! ### Persistent store and update (chapter 19) -/

/-- One entry of a generation's body (R399). -/
structure NvEntry where
  /-- class [R399; 8 bit; DC 0] -/
  cls : Nat
  /-- instance [R399; 16 bit; DC 0] -/
  inst : Nat
  /-- opcode [R399; 16 bit; DC 0] -/
  op : Nat
  /-- parameters [R399; bytes; DC empty] -/
  params : Bytes
deriving DecidableEq, Repr

/-- One settings set and its journal. -/
structure NvSet where
  /-- generations held, newest first: (number, entries) [R399; places; DC empty] -/
  gens : List (Nat × List NvEntry) := []
  /-- place writes since manufacture [R399; 32 bit; DC 0] -/
  writes : Nat := 0
  /-- STORE commands waiting or queued: in-flight commands [R402; list; reset empty] -/
  waiting : List Cmd := []
  /-- the write in progress: (captured entries, its STORE commands, verifications failed) [R401; record; reset none] -/
  writing : Option (List NvEntry × List Cmd × Nat) := none
  /-- changed since the last STORE [R399; 1 bit; reset false] -/
  changed : Bool := false
  /-- raw count of the last completed STORE [R403; 64 bit; reset 0] -/
  lastRaw : Nat := 0
  /-- order in which STOREs began to wait [R401; count; reset 0] -/
  order : Nat := 0
  /-- a STORE was abandoned by a supply loss [R405; 1 bit; DC false] -/
  interrupted : Bool := false
  /-- entries skipped at loading [R400; 1 bit; DC false] -/
  skipped : Bool := false
deriving DecidableEq, Repr

/-- A transfer record of SET_HOURS (Table 19-4). -/
structure Transfer where
  /-- donor_serial [R404; 64 bit; DC 0] -/
  serial : BitVec 64
  /-- donor_machine_s [R404; 32 bit; DC 0] -/
  machine : Nat
  /-- module_s_at [R404; 32 bit; DC 0] -/
  at' : Nat
  /-- module time of adoption, 2^−16 ns [R404; 96 bit; DC 0] -/
  time : Int
deriving DecidableEq, Repr

/-- An ADOPT in progress (R423). -/
structure Adoption where
  /-- its in-flight command [R423; packet; DC none] -/
  cmd : Cmd
  /-- sets still to be written, with their entries [R423; list; reset empty] -/
  todo : List (Nat × List NvEntry)
  /-- mask of the sets written [0x1214; 8 bit; reset 0] -/
  done : Nat := 0
  /-- failed verifications of the set being written [R403; 2 bit; reset 0] -/
  fails : Nat := 0
  /-- donor serial [R423; 64 bit; DC 0] -/
  serial : BitVec 64
  /-- machine_s of the bundle [R423; 32 bit; DC 0] -/
  machine : Nat
  /-- SET_SAFETY record of the bundle [R423; 112 byte; reset none] -/
  safety : Option Bytes
deriving DecidableEq, Repr

/-- The persistent store controller. -/
structure Nvs where
  /-- sets 0–6 [R398; 7 sets; DC empty] -/
  set : Tab NvSet := []
  /-- running SET_APP [R398; 64 KiB; DC 0] -/
  app : Tab Byte := []
  /-- bundle buffer [R423; 1 MiB; reset empty] -/
  bundle : Bytes := []
  /-- module_s, in raw counts of RUN accumulated [R404; 32 bit seconds; DC 0] -/
  moduleS : Nat := 0
  /-- machine_s, in raw counts [R404; 32 bit seconds; DC 0] -/
  machineS : Nat := 0
  /-- power_cycles [R404; 32 bit; DC 0] -/
  powerCycles : Nat := 0
  /-- transfer records, oldest first [R404; 8 records; DC empty] -/
  transfers : List Transfer := []
  /-- SET_HOURS as last written: (module_s, machine_s, power_cycles) [R404; record; DC 0] -/
  hours : Nat × Nat × Nat := (0, 0, 0)
  /-- raw count up to which module_s has been counted [R404; 64 bit; DC 0] -/
  hoursRaw : Nat := 0
  /-- raw count from which the 360 s to the next SET_HOURS write run [R404; 64 bit; DC 0] -/
  hoursLast : Nat := 0
  /-- on-time counters as last written to SET_DISPLAY [R367; 384 x 32 bit; DC 0] -/
  segTicks : Tab Nat := []
  /-- next order number of a waiting STORE [R401; count; reset 1] -/
  next : Nat := 1
  /-- an ADOPT runs [R423; record; reset none] -/
  adopting : Option Adoption := none
  /-- SET_ID: serial [R462; 64 bit; DC 0] -/
  serial : BitVec 64 := 0
  /-- SET_ID: lineage code [R462; 32 bit; DC 0] -/
  lineage : BitVec 32 := 0
  /-- SET_ID: eight MAC addresses [R346; 48 byte; DC empty] -/
  macs : List Bytes := []
  /-- SET_ID: model keys, by identity [R309, R398; 4 x 64 bit; DC empty] -/
  modelKeys : List (BitVec 64) := []
  /-- SET_ID: service credentials [R398; 8 x 64 bit; DC empty] -/
  creds : List (BitVec 64) := []
  /-- SET_ID: public part of the module identity key [R398; 97 byte; DC empty] -/
  identity : Bytes := []
  /-- safety record stored and confirmed in SET_SAFETY [R216; 112 byte; DC none] -/
  safety : Option Bytes := none
deriving DecidableEq, Repr

/-- Slot states, Table 19-6. -/
inductive CodeSlotState where
  | empty
  | staging
  | suspended
  | staged
  | trial
  | confirmed
  | invalid
deriving DecidableEq, Repr

/-- One code slot. -/
structure CodeSlot where
  /-- state [R409; 3 bit; DC EMPTY] -/
  st : CodeSlotState := .empty
  /-- image_id [R406; 16 byte; DC empty] -/
  imageId : Bytes := []
  /-- image size [R406; 25 bit; DC 0] -/
  size : Nat := 0
  /-- bytes of chunk 0 up to its last digest, once chunk 0 is verified [R406; bytes; DC empty] -/
  manifest : Bytes := []
  /-- chunks verified [R411; 384 bit; DC empty] -/
  verified : List Nat := []
  /-- partial chunks: (chunk, bytes so far) [R411; 4 entries; reset empty] -/
  partials : List (Nat × Bytes) := []
  /-- slot writes since manufacture [R409; 16 bit; DC 0] -/
  writes : Nat := 0
  /-- armed for trial in the system bank [R410; 1 bit; DC false] -/
  armed : Bool := false
  /-- raw count of the last chunk [R412; 64 bit; DC 0] -/
  lastRaw : Nat := 0
deriving DecidableEq, Repr

/-- A hitless activation in progress (R414). -/
structure Activation where
  /-- step 1–5 [R414; 3 bit; DC 1] -/
  step : Nat
  /-- its in-flight command [R414; packet; DC none] -/
  cmd : Cmd
  /-- slot activated [R414; 1 bit; DC 0] -/
  slot : Nat
  /-- lane that is reloaded first [R414; lane; DC B] -/
  lane : Lane
  /-- differences counted in step 3 [R414; 32 bit; reset 0] -/
  diffs : Nat
  /-- first frame in SPLIT [R414; 64 bit; reset 0] -/
  splitFrame : Nat
  /-- frame of step 4 [R414; 64 bit; reset 0] -/
  switchFrame : Nat
deriving DecidableEq, Repr

/-- Firmware update. -/
structure Upd where
  /-- slots 0, 1 [R409; 2 slots; DC slot 0 CONFIRMED, slot 1 EMPTY] -/
  slot : Tab CodeSlot := [(0, { st := .confirmed })]
  /-- slot loaded at the last start [R410; 1 bit; reset 0] -/
  running : Nat := 0
  /-- OTP anti-rollback value [R418; 8 bit; DC 0] -/
  otp : Nat := 0
  /-- activation in progress [R414; record; reset none] -/
  act : Option Activation := none
  /-- Reheat mode [R421; 1 bit; reset false] -/
  reheat : Bool := false
  /-- components waiting for a start: bits of the ACTIVATE reply [R416; 5 bit; reset 0] -/
  pending : BitVec 8 := 0
  /-- fw_version of the running firmware [R98; 32 bit; DC 0] -/
  version : BitVec 32 := 0
  /-- an ABORT of a TRIAL slot needs a restart [R420; 1 bit; reset false] -/
  restartNeeded : Bool := false
deriving DecidableEq, Repr

/-! ### Power (chapter 20) -/

/-- Power modes (0x1402 offset 0). -/
inductive PwrMode where
  | sleep
  | park
  | run
  | shutdown
deriving DecidableEq, Repr

/-- The power block. -/
structure Pwr where
  /-- mode [R431; 3 bit; reset PARK] -/
  mode : PwrMode := .park
  /-- reset cause, Table 20-8 [R437; 4 bit; reset 1] -/
  cause : Nat := 1
  /-- bit k: PDk on [R429; 11 bit; reset PD0 and PD1] -/
  domains : BitVec 11 := 0b11
  /-- domains switched off until the next start: faulted, or by DOMAIN [R432; 11 bit; reset 0] -/
  failed : BitVec 11 := 0
  /-- domains tried once more after a fault [R432; 11 bit; reset 0] -/
  retried : BitVec 11 := 0
  /-- domains shed under SHED [R439; 11 bit; reset 0] -/
  shed : BitVec 11 := 0
  /-- milestone of Table 20-6 reached, 0 none [R432; 3 bit; reset 0] -/
  milestone : Nat := 0
  /-- a start is under way [R432; 1 bit; reset false] -/
  starting : Bool := false
  /-- SHUTDOWN: raw counts of its start and of the end of the grace [R433; 2 x 64 bit; reset none] -/
  grace : Option (Nat × Nat) := none
  /-- KEY high [R431; pin; DC false] -/
  key : Bool := false
  /-- WAKE high [R431; pin; DC false] -/
  wake : Bool := false
  /-- raw count of entry into PARK or of WAKE's last fall [R431; 64 bit; DC 0] -/
  parkRaw : Nat := 0
  /-- thermal codes in force [R439; 4 bit; reset 0] -/
  thermal : List Nat := []
  /-- Lane A on VBAT_B, Lane B on VBAT_A [R429; 2 bit; reset false] -/
  feedA : Bool := false
  /-- Lane B on VBAT_A [R429; 1 bit; reset false] -/
  feedB : Bool := false
  /-- supply conditions that stand: code × 8 + index [R441; list; reset empty] -/
  supply : List Nat := []
  /-- CK_APP and CK_VIS halved [R427; 1 bit; reset false] -/
  throttled : Bool := false
  /-- seconds of module time as PD0's count held them when PD1 last went off [R51; 48 bit; DC 0] -/
  secs : Nat := 0
  /-- supply_losses since manufacture [R441; 32 bit; DC 0] -/
  losses : Nat := 0
  /-- clock domains failed, 0–11 [R435; 12 bit; reset empty] -/
  clocks : List Nat := []
  /-- module held in reset by RESET_N [R437; 1 bit; reset false] -/
  inReset : Bool := false
  /-- raw count at which a restart ordered under R421 or R423 is due [R437; 64 bit; reset none] -/
  restartAt : Option Nat := none
  /-- a MODULE_RESET has been accepted: kind [0x1410; 1 bit; reset none] -/
  resetDue : Option Nat := none
  /-- DOMAIN commands waiting for their domain: (in-flight command, raw count by which it has switched) [R429; list; reset empty] -/
  waits : List (Cmd × Nat) := []
  /-- faulted domains that are tried once more: (domain, raw count of the attempt) [R432; list; reset empty] -/
  retryAt : List (Nat × Nat) := []
  /-- SHED: raw count at which PD7 goes off too [R439; 64 bit; reset none] -/
  shedAt : Option Nat := none
deriving DecidableEq, Repr

/-- Publication ring (R112): the entries in its slots, newest first: (sequence, bytes of header and body). -/
structure PubRing where
  /-- next_seq [R112; 32 bit; reset 0] -/
  next : BitVec 32 := 0
  /-- the entries that stand in its slots, newest first [R112; slots; reset empty] -/
  log : List (BitVec 32 × Bytes) := []
deriving DecidableEq, Repr

/-- Why a command stops the model. No command of this block stops: the spec gives every row an effect. -/
inductive Fault where
  /-- never raised: the block has no condition in which the machine itself stops (safe) -/
  | none
deriving DecidableEq, Repr

/-- Why a command is refused. -/
inductive Refusal where
  /-- a row without its meaning yet, rejected by name in Dispatch (safe) -/
  | notModelled (mnemonic : String)
deriving DecidableEq, Repr

/-- The whole module but its SDRAM. -/
structure Mod where
  /-- the model's own counter of free values drawn -/
  fresh : Nat := 0
  /-- power block -/
  pwr : Pwr := {}
  /-- timebase -/
  time : Time := {}
  /-- lanes -/
  lanes : Lanes := {}
  /-- lane statistics -/
  stats : LaneStats := {}
  /-- Command Port -/
  port : Port := {}
  /-- the running configuration: every record written by SET_CONFIG and the other record-writing operations, by
  (class, opcode, instance) key; an empty record stands for the defaults [R98; records; reset defaults] -/
  cfg : Tab Bytes := []
  /-- Schedule Table [R127; 16384 x 16 bit; DC 0] -/
  sched : Tab (BitVec 16) := []
  /-- Coefficient Bank, 22 binary32 per set [R122; 1024 sets; DC 0] -/
  coeff : Tab (List F32) := []
  /-- Loop Engine -/
  loop : LoopEng := {}
  /-- drivers -/
  drv : Drv := {}
  /-- inputs and Frame Exchange -/
  inp : Inp := {}
  /-- Safety Controller -/
  safe : Safe := {}
  /-- GNSS receiver -/
  gnss : Gnss := {}
  /-- Fusion Engine and Yield Accumulator -/
  fuse : Fuse := {}
  /-- camera links and gather buffer -/
  clnk : Clnk := {}
  /-- image pipes and encoder -/
  pipes : Pipes := {}
  /-- vision partitions VA0, VA1 [R307; 2 partitions; reset OFF] -/
  vis : Tab Part := []
  /-- CAN channels -/
  can : Can := {}
  /-- Ethernet -/
  eth : Eth := {}
  /-- segment display -/
  seg : Seg := {}
  /-- event fabric -/
  evt : Evt := {}
  /-- event recorder -/
  log : Log := {}
  /-- persistent store -/
  nvs : Nvs := {}
  /-- firmware update -/
  upd : Upd := {}
  /-- publication rings by class × 65,536 + instance [R111; 64 rings; reset empty] -/
  pubs : Tab PubRing := []
  /-- answer to the last bus access -/
  bus : BusResp := {}
  /-- SDRAM errors corrected [R27; 32 bit; DC 0] -/
  eccCount : BitVec 32 := 0
  /-- poisoned SDRAM lines, by line number [R27; list; reset empty] -/
  poison : List Nat := []
deriving DecidableEq, Repr

/-- The state of the block: the commands waiting, the module, and its SDRAM. -/
structure State where
  /-- commands waiting, first in first out (the model's own queue) -/
  pending : List Instr := []
  /-- the module -/
  m : Mod := {}
  /-- SDRAM, application and shared regions: (address, byte); an unlisted address reads 0 [R28; 16 GiB; DC 0] -/
  mem : List Host.Cell := []
deriving DecidableEq, Repr

/-- The module right after a first power-on, as PD1 has just come up: the raw counter at 0, PD0 and PD1 on, every
other domain off, every register at the Reset entry of its table, no command waiting. -/
def State.reset : State := {}

end Sys2Proof.Machine
end

