-- ==== Sys2Proof/Machine/Ops.lean ====
section
/-! DEFINITION. The named operations the meanings share: instants and module time, the running configuration, free
values, publication entries, domains, and the way a meaning acts on the module. -/

namespace Sys2Proof.Machine

open Sys2Proof

/-! ### Acting on the module -/

/-- A command whose effect lies in the module alone: the SDRAM and the queue stay as they are. -/
def State.act (s : State) (f : Mod → Mod) : Host.Outcome State Fault Refusal := .next { s with m := f s.m }

/-- A free value and the module with its draw counted (log entry 4). -/
def Mod.draw (m : Mod) : BitVec 64 × Mod := (Config.freeWord m.fresh, { m with fresh := m.fresh + 1 })

/-! ### Power domains and planes -/

/-- Domain PDk is on (R11). -/
def Mod.pd (m : Mod) (k : Nat) : Bool := m.pwr.domains.toNat.testBit k

/-- The module runs: out of reset, PD1 on. -/
def Mod.alive (m : Mod) : Bool := m.pd 1 && !m.pwr.inReset

/-! ### Module time (R35–R39) -/

/-- Module time in 2^−16 ns of raw count `c` under record `r`, truncated toward minus infinity (R35). -/
def CorrRec.at (r : CorrRec) (c : Nat) : Int :=
  r.t0 + ((c : Int) - (r.c0 : Int)) * (2 ^ 19 : Nat) * ((2 ^ 40 : Nat) + r.rate) / ((2 ^ 40 : Nat) : Int)

/-- The record in force at raw count `c`, and whether only an older, discarded one held then (R37). -/
def recAt : List CorrRec → Nat → CorrRec × Bool
  | [], _ => ({}, true)
  | [r], c => (r, decide (c < r.c0))
  | r :: t, c => if r.c0 ≤ c then (r, false) else recAt t c

/-- The records that are kept: those that took effect within the last 3,600 s and the one before, up to 8,192 (R37) (log
entry 60). -/
def keepRecs (now : Nat) : List CorrRec → List CorrRec
  | [] => []
  | r :: t => if r.c0 + 450000000000 ≤ now then [r] else r :: keepRecs now t

/-- The record that a scheduled correction makes at its raw count (R36). -/
def Time.made (t : Time) (p : CorrPending) : CorrRec :=
  let old := (recAt t.recs p.rcd.c0).1
  { c0 := p.rcd.c0, t0 := if p.time then p.rcd.t0 else old.at p.rcd.c0, rate := if p.keepRate then old.rate else p.rcd.rate }

/-- The records by which the timebase converts at present: a correction whose raw count has come is in force (R37). -/
def Time.live (t : Time) : List CorrRec :=
  keepRecs t.raw (match t.pending with
    | some p => if p.rcd.c0 ≤ t.raw then (t.made p :: t.recs).take 8192 else t.recs
    | none => t.recs)

/-- The records by which a raw count converts, be it past or to come: those in force so far, and the scheduled one from
its raw count on (R37). -/
def Time.all (t : Time) : List CorrRec :=
  match t.pending with
  | some p => if p.rcd.c0 ≤ t.raw then t.live else t.made p :: t.live
  | none => t.live

/-- Module time of a raw count in 2^−16 ns, and the extrapolated flag (R37) (log entry 60). -/
def Time.conv (t : Time) (c : Nat) : Int × Bool := let p := recAt t.all c; (p.1.at c, p.2)

/-- Units of 2^−16 ns in a second. -/
def unitsPerSec : Int := 65536000000000

/-- The 96-bit layout of Table 02-1 (log entry 60). -/
def mt96 (v : Int) : Nat :=
  let sec := (v / unitsPerSec % ((2 ^ 48 : Nat) : Int)).toNat
  let sub := (v % unitsPerSec).toNat
  sec * 2 ^ 48 + sub

/-- A 96-bit module time field as 2^−16 ns; none where its nanoseconds are invalid (R39). -/
def parse96 (bs : Bytes) (off : Nat) : Option Int :=
  let frac := rd bs off 2
  let ns := rd bs (off + 2) 4
  let sec := rd bs (off + 6) 6
  if ns < 1000000000 then some ((sec : Int) * unitsPerSec + (ns * 65536 + frac : Nat)) else none

/-- The first raw count whose module time under `r` is at or after `v`, not below `c0` (exact inverse of R35). -/
def CorrRec.firstAt (r : CorrRec) (v : Int) : Nat :=
  let n := (v - r.t0) * ((2 ^ 40 : Nat) : Int)
  let d : Int := (2 ^ 19 : Nat) * ((2 ^ 40 : Nat) + r.rate)
  -- least k with k · d ≥ n, since floor (k · d / 2^40) ≥ v − t0 exactly when k · d ≥ n
  let k := -((-n) / d)
  ((r.c0 : Int) + k).toNat

/-- The raw count whose module time is nearest to `v`, the earlier of two equally near (R38). -/
def CorrRec.nearest (r : CorrRec) (v : Int) : Nat :=
  let c := r.firstAt v
  if c = 0 then 0 else if v - r.at (c - 1) ≤ r.at c - v then c - 1 else c

/-- The raw counts that each record, newest first, converts: from its own count, the oldest from 0, up to the next one's. -/
def recSpans : Option Nat → List CorrRec → List (CorrRec × Nat × Option Nat)
  | hi, [] => [({}, 0, hi)]
  | hi, [r] => [(r, 0, hi)]
  | hi, r :: t => (r, r.c0, hi) :: recSpans (some r.c0) t

/-- Of the counts a record converts, the one whose module time is nearest to `v`, with the distance (R38). -/
def nearestIn (v : Int) (p : CorrRec × Nat × Option Nat) : Nat × Nat :=
  let c := max p.2.1 (p.1.nearest v)
  let c := match p.2.2 with | some hi => min c (hi - 1) | none => c
  (c, (p.1.at c - v).natAbs)

/-- The raw count whose module time is nearest to `v`, the earlier of two equally near, whichever record is in force there
(R37, R38). -/
def Time.nearest (t : Time) (v : Int) : Nat :=
  match (recSpans none t.all).map (nearestIn v) with
  | [] => 0
  | b :: l => (l.foldl (fun b p => if p.2 ≤ b.2 then p else b) b).1

/-- The record in force now. -/
def Mod.rec0 (m : Mod) : CorrRec := (recAt m.time.live m.time.raw).1

/-- Module time now, 2^−16 ns. -/
def Mod.mt (m : Mod) : Int := (m.time.conv m.time.raw).1

/-- pub_time: module time now in whole ns (R39). -/
def Mod.ns (m : Mod) : Nat := (m.mt / 65536).toNat

/-- The present raw count (log entry 60). -/
def Mod.now (m : Mod) : Nat := m.time.raw

/-- Carry the raw counter on to the count at which a timed command happens; it never goes back (R31) (log entry 13). -/
def Mod.until (m : Mod) (c : Nat) : Mod := { m with time := { m.time with raw := max m.time.raw c } }

/-! ### The running configuration (R98) -/

/-- Key of a record: opcode of the operation that writes it, and its instance or index (log entry 62). -/
def ckey (op idx : Nat) : Nat := op * 65536 + idx

/-- The record in force; empty where only the defaults hold (log entry 62). -/
def Mod.stored (m : Mod) (op idx : Nat) : Bytes := Tab.get [] m.cfg (ckey op idx)

/-- The record in force, `dflt` where none has been written (log entry 62). -/
def Mod.cfgOr (m : Mod) (op idx : Nat) (dflt : Bytes) : Bytes :=
  let b := m.stored op idx; if b.isEmpty then dflt else b

/-- Write a record (log entry 62). -/
def Mod.setCfg (m : Mod) (op idx : Nat) (b : Bytes) : Mod := { m with cfg := Tab.put [] m.cfg (ckey op idx) b }

/-- The parameters a settings set keeps for (opcode, index): the newest generation's entry, empty if none (R399). -/
def Mod.fromSet (m : Mod) (set op idx : Nat) : Bytes :=
  match (Tab.get {} m.nvs.set set).gens with
  | [] => []
  | (_, es) :: _ =>
    match es.find? fun e => e.op == op && e.inst == idx with
    | some e => e.params
    | none => []

/-- Restore a record from its set (RESET_INSTANCE, Table 04-8). -/
def Mod.restore (m : Mod) (set op idx : Nat) : Mod := m.setCfg op idx (m.fromSet set op idx)

/-- A setting of a set was changed since the last STORE (R399). -/
def Mod.markSet (m : Mod) (set : Nat) : Mod :=
  { m with nvs := { m.nvs with
      set := Tab.put {} m.nvs.set set { Tab.get {} m.nvs.set set with changed := true } } }

/-- `n` bytes from `a` are written: their lines are poisoned no more (R27). -/
def Mod.cleanse (m : Mod) (a n : Nat) : Mod :=
  { m with poison := m.poison.filter fun l => decide (l < a / 64) || decide ((a + n - 1) / 64 < l) }

/-! ### Publication entries (R112) -/

/-- The publication rings of the chapters, in the order of the directory: class, instance, log2 of the slot size (R55,
R176, R228, R239, R261, R266, R304, R313, R320). -/
def pubRings : List (Nat × Nat × Nat) :=
  [(2, 0, 6), (6, 0, 7), (10, 0, 10), (10, 1, 7), (11, 32, 8), (11, 33, 7), (13, 0, 7), (13, 2, 6), (14, 0, 8), (14, 1, 8)]

/-- Number of slots of a ring: a power of two that the module sets (Table 04-15) (log entry 18). -/
def pubSlots (k : Nat) : Nat := 2 ^ ((Config.bufAddr k 1).toNat % 16)

/-- Where the module places the rings: one after another from 0x4_6100_0000, each behind a gap of its own choice (R111,
Table 04-1) (log entry 18). -/
def pubPlaces : Nat → List (Nat × Nat × Nat) → List (Nat × Nat)
  | _, [] => []
  | a, (cls, inst, log2) :: t =>
    let k := cls * 65536 + inst
    let base := a + 1024 * ((Config.bufAddr k 0).toNat % 4096)
    (k, base) :: pubPlaces (base + pubSlots k * 2 ^ log2) t

/-- Address of slot 0 of a ring (R111) (log entry 18). -/
def pubBase (k : Nat) : Nat := ((pubPlaces 0x461000000 pubRings).find? fun p => p.1 == k).elim 0 Prod.snd

/-- One publication entry with a given pub_time in ns, written in full before next_seq advances; it takes the slot of the
entry `slots` before it (R112). The rings lie in PD5's SDRAM (log entry 18). -/
def Mod.publishAt (m : Mod) (cls inst typ : Nat) (ns : Nat) (body : Bytes) : Mod :=
  if m.pd 5 then
    let k := cls * 65536 + inst
    let r : PubRing := Tab.get {} m.pubs k
    let e := le 4 r.next.toNat ++ le 2 (cls * 256 + typ) ++ le 2 body.length ++ le 8 ns ++ body
    let size := 2 ^ ((pubRings.find? fun p => p.1 == cls && p.2.1 == inst).elim 0 fun p => p.2.2)
    Mod.cleanse { m with pubs := Tab.put {} m.pubs k { next := r.next + 1, log := ((r.next, e) :: r.log).take (pubSlots k) } }
      (pubBase k + r.next.toNat % pubSlots k * size) e.length
  else m

/-- One publication entry of the present instant (log entry 18). -/
def Mod.publish (m : Mod) (cls inst typ : Nat) (body : Bytes) : Mod := m.publishAt cls inst typ m.ns body

/-- Where a free choice `a` places a buffer of `n` bytes: in the isochronous region, on a line, below the mirror (R22,
Table 01-6) (log entry 48). -/
def isoPlace (a n : Nat) : Nat := 0x400000000 + a % (0x5FFFF000 - min n 0x5FFFEFC0) / 64 * 64

/-! ### Tables of the state -/

/-- Update an entry of a sparse table. -/
def Tab.upd {α : Type} [DecidableEq α] (d : α) (t : Tab α) (k : Nat) (f : α → α) : Tab α := Tab.put d t k (f (Tab.get d t k))

/-- Every index below `n`, in order, folded. -/
def foldN {β : Type} (n : Nat) (f : β → Nat → β) (b : β) : β := (List.range n).foldl f b

/-- Raw counts in a number of µs. -/
def us (n : Nat) : Nat := n * 125

/-- Raw counts in a number of ms. -/
def ms (n : Nat) : Nat := n * 125000

/-- Raw counts in a number of seconds. -/
def secs (n : Nat) : Nat := n * 125000000

/-- Raw counts of a frame (R41). -/
def frameCounts : Nat := 31250

end Sys2Proof.Machine
end

