-- ==== Sys2Proof/Machine/Flags.lean ====
section
/-! DEFINITION. The event fabric (chapter 17): routes, severities and the raising of an event. -/

namespace Sys2Proof.Machine

open Sys2Proof

/-- Sources whose recorder and Gaffer routes are fixed (R375). -/
def fixedRoute (src : Nat) : Bool := src < 16 || (64 ≤ src && src < 72) || 118 ≤ src

/-- Default severity of a source (Table 17-1). -/
def defaultSev (src : Nat) : Nat :=
  if src < 8 then 5 else if src < 16 then 3 else if src < 32 then 0 else if src < 40 then 3
  else if src < 56 then 4 else if src < 64 then 3 else if src < 72 then 6 else if src < 96 then 2
  else if src < 116 then 3 else if src < 118 then 2
  else match src with
    | 118 => 6 | 119 => 4 | 120 => 1 | 121 => 6 | 122 => 1 | 123 => 4 | 124 => 5 | 125 => 4 | 126 => 5 | _ => 2

/-- The default record of a source: the recorder alone, the Gaffer added for fixed routes (R374). -/
def evtDefault (src : Nat) : Bytes := le 2 (if fixedRoute src then 0xC00 else 0x800) ++ le 1 (defaultSev src) ++ [0]

/-- The record of a source as last written. -/
def Mod.evtRec (m : Mod) (src : Nat) : Bytes := m.cfgOr 0x1003 src (evtDefault src)

/-- One source. -/
def Mod.evSrc (m : Mod) (src : Nat) : EvSrc := Tab.get {} m.evt.src src

/-- The record and enable that hold for a raise stamped `raw` (R376). -/
def Mod.routeAt (m : Mod) (src raw : Nat) : Bytes × Bool :=
  let e := m.evSrc src
  match e.old with
  | some p => if raw < e.newRaw then p else (m.evtRec src, e.enabled)
  | none => (m.evtRec src, e.enabled)

/-- Destinations a raise reaches: the route, only its fixed part while disabled (R375, 0x1006). -/
def Mod.dests (m : Mod) (src raw : Nat) : Nat :=
  let p := m.routeAt src raw
  let route := rd p.1 0 2
  if p.2 then route else if fixedRoute src then Nat.land route 0xC00 else 0

/-- A raise reaches an interrupt line: the pending bit, and the queue if unmasked (R378) (log entry 38). -/
def IntLine.take (l : IntLine) (r : Raise) : IntLine :=
  let l := { l with pend := l.pend ||| BitVec.ofNat 128 (2 ^ r.src), pendRaw := Tab.put 0 l.pendRaw r.src (r.raw + 1) }
  if l.mask.toNat.testBit r.src then
    if l.q.length ≥ 256 then { l with drops := inc32 l.drops } else { l with q := l.q ++ [r] }
  else l

/-- Raises of a source still in its buffer: those the recorder has not taken (R373) (log entry 38). -/
def Evt.held (e : Evt) (src : Nat) : Nat := (e.inbox.filter fun r => r.src == src).length

/-- The interrupt lines of a route take a raise. -/
def Evt.toLines (e : Evt) (d : Nat) (r : Raise) : Evt :=
  { e with line := foldN 8 (fun t n => if d.testBit n then Tab.upd {} t n (fun l => l.take r) else t) e.line }

/-- The recorder's side of a raise. -/
def Evt.toRecorder (e : Evt) (d : Nat) (r : Raise) : Evt :=
  if d.testBit 11 then { e with inbox := e.inbox ++ [r] } else e

/-- The fabric takes a raise of a source (R372, R373): stamp, counts, lane accumulators, lines and recorder. A raise
that finds the source's buffer full is lost for every destination but the lanes (log entry 38). -/
def Evt.raised (e : Evt) (d src : Nat) (param : BitVec 32) (raw sev : Nat) (test : Bool) : Evt :=
  let x : EvSrc := Tab.get {} e.src src
  let x := { x with raises := inc32 x.raises, param := param, raw := raw }
  let x := if !test && d.testBit 8 then { x with accA := (raw, param) :: x.accA } else x
  let x := if !test && d.testBit 9 then { x with accB := (raw, param) :: x.accB } else x
  if e.held src ≥ 8 then
    { e with src := Tab.put {} e.src src { x with lost := inc32 x.lost, lostMark := true } }
  else
    let delivered := Nat.land d 0x8FF != 0
    let r : Raise := { src := src, param := param, raw := raw, test := test, lost := x.lostMark, sev := sev }
    let e := { e with src := Tab.put {} e.src src { x with lostMark := x.lostMark && !delivered } }
    (e.toLines d r).toRecorder d r

/-- Raise an event: stamped with the present raw count (R372). With PD1 off the fabric stops (Table 17-4) (log entry 38). -/
def Mod.raiseT (m : Mod) (src : Nat) (param : BitVec 32) (test : Bool) : Mod :=
  if m.alive then
    let p := m.routeAt src m.now
    { m with evt := m.evt.raised (m.dests src m.now) src param m.now (rd p.1 2 1 % 8) test }
  else m

/-- Raise an event (R372). -/
def Mod.raise (m : Mod) (src : Nat) (param : Nat) : Mod := m.raiseT src (BitVec.ofNat 32 param) false

/-- The usual parameter layout: number in bits [7:0], code in bits [15:8], value in bit 16. -/
def evParam (num code : Nat) (value : Bool) : Nat := num + code * 256 + b2n value * 65536

/-- Raise with the usual parameter layout. -/
def Mod.ev (m : Mod) (src num code : Nat) (value : Bool) : Mod := m.raise src (evParam num code value)

/-- The image of one lane: the raises below the frame-start count, count saturating at 15, last parameter (R377). -/
def accImage (raw : Nat) (acc : List (Nat × BitVec 32)) : Option (Nat × BitVec 32) :=
  match acc.filter fun p => p.1 < raw with
  | [] => none
  | p :: t => some (min 15 (t.length + 1), p.2)

/-- The fabric hands the lanes their images at a frame start (R377); a lane that takes no part in the Marver step
receives none (Table 17-4) (log entry 30). -/
def Evt.images (e : Evt) (raw : Nat) (a b : Bool) : Evt :=
  let ia := if a then e.src.filterMap fun p => (accImage raw p.2.accA).map fun q => (p.1, q.1, q.2) else []
  let ib := if b then e.src.filterMap fun p => (accImage raw p.2.accB).map fun q => (p.1, q.1, q.2) else []
  let keep (l : List (Nat × BitVec 32)) := l.filter fun p => !(p.1 < raw)
  { e with imageA := ia, imageB := ib,
           src := foldN 128 (fun t k =>
             let x := Tab.get {} t k
             if x.accA.isEmpty && x.accB.isEmpty then t
             else Tab.put {} t k { x with accA := keep x.accA, accB := keep x.accB }) e.src }

/-- INTn is asserted while any source is both pending and unmasked (R378). -/
def IntLine.asserted (l : IntLine) : Bool := (l.pend &&& l.mask) != 0

/-- EVT_LINE_STATUS (Table 17-2) (log entry 61). -/
def IntLine.status (l : IntLine) : Nat := b2n l.asserted + l.q.length * 2 + b2n l.locked * 1024

/-- Word `k` of a queue entry (Table 17-3). -/
def Raise.word (r : Raise) (k : Nat) : Nat :=
  match k with
  | 0 => r.src + b2n r.lost * 128 + b2n r.test * 256 + 2 ^ 31
  | 1 => r.param.toNat
  | 2 => r.raw % 2 ^ 32
  | _ => r.raw / 2 ^ 32 % 2 ^ 32

/-- PD5 powers down or resets: every line's pend bits, masks and queues return to their reset values (R380). -/
def Evt.linesOff (e : Evt) : Evt := { e with line := [] }

end Sys2Proof.Machine
end

