-- ==== Sys2Proof/Machine/SafeBase.lean ====
section
/-! DEFINITION. What the Command Port asks of the Safety Controller: pair roles, standstill and service mode. -/

namespace Sys2Proof.Machine

open Sys2Proof

/-- Role of pair 0–11 in the record in force (Table 08-2); 0 without a record. -/
def Safe.role (s : Safe) (k : Nat) : Nat := match s.rcd with | none => 0 | some r => rd r (6 * k) 1

/-- The first pair with a role. -/
def Safe.pairOf (s : Safe) (role : Nat) : Option Nat := (List.range 12).find? fun k => s.role k == role

/-- Channel `c` (0 A, 1 B) of a pair reads run: an NC channel when high, an NO channel when low (R193). -/
def Safe.chRun (s : Safe) (k c : Nat) : Bool :=
  let pol := match s.rcd with | none => 0 | some r => rd r (6 * k + 1) 1
  let lvl := (Tab.get {} s.sin (2 * k + c)).filt
  if pol.testBit c then !lvl else lvl

/-- Both channels of a pair show run. -/
def Safe.pairRun (s : Safe) (k : Nat) : Bool := s.chRun k 0 && s.chRun k 1

/-- Group of output 0–7 in the record in force (Table 08-4); 0 without a record. -/
def Safe.group (s : Safe) (o : Nat) : Nat := match s.rcd with | none => 0 | some r => rd r (72 + o) 1

/-- An output switch pair. -/
def Safe.out (s : Safe) (o : Nat) : Sout := Tab.get {} s.sout o

/-- Output `o` is energised: both switches closed (R186). -/
def Safe.energised (s : Safe) (o : Nat) : Bool := (s.out o).p && (s.out o).j

/-- Some output of a group is energised. -/
def Safe.groupOn (s : Safe) (g : Nat) : Bool := (List.range 8).any fun o => s.group o == g && s.energised o

/-- Standstill: both speeds stopped for 2 s and GROUND_BRAKE de-energised (R215). -/
def Safe.standstill (s : Safe) : Bool := s.spRuns && decide (2001 ≤ s.stillCnt) && !s.groupOn 2

/-- Service mode; a SERVICE pair with a latched fault shows safe (R200, R215). -/
def Safe.serviceMode (s : Safe) : Bool :=
  s.standstill && (match s.pairOf 6 with
    | some k => s.pairRun k && ((Tab.get {} s.pair k : SafePair).fault == 0)
    | none => s.service)

/-- A safety write may go on: standstill and service mode reported, or NO_PARAMS (R107). -/
def Safe.unlocked (s : Safe) : Bool := s.serviceMode || decide (s.st = .noParams)

end Sys2Proof.Machine
end

