-- ==== Sys2Proof/Machine/Port.lean ====
section
/-! DEFINITION. The Command Port's shared operations (chapter 04): completions, the checks of R99, the rights of R106,
and serving one command. -/

namespace Sys2Proof.Machine

open Sys2Proof

/-! ### Status codes (Table 04-7) -/

namespace St
def ok : Nat := 0
def accepted : Nat := 1
def badOpcode : Nat := 0x100
def badParam : Nat := 0x101
def badLength : Nat := 0x102
def badInstance : Nat := 0x103
def busy : Nat := 0x200
def notReady : Nat := 0x201
def noResource : Nat := 0x202
def tooLate : Nat := 0x203
def denied : Nat := 0x300
def locked : Nat := 0x301
def fault : Nat := 0x400
def timeout : Nat := 0x401
def aborted : Nat := 0x402
def laneChanged : Nat := 0x500
end St

/-- What an engine answers to a command: a completion now (`st`), or none yet; the reply; the module after it. -/
structure Res where
  /-- status of the completion written now; none where only the final completion follows later -/
  st : Option Nat
  /-- reply bytes -/
  reply : Bytes := []
  /-- commit frame its completion carries, where not that of R95 -/
  cf : Option Nat := none
  /-- FENCE, BARRIER: what its completion waits for, as (ring, count) -/
  waits : List (Nat × BitVec 32) := []
  /-- the module after the effect -/
  m : Mod

/-- The command has no effect and completes with a status other than OK. -/
def Res.err (m : Mod) (st : Nat) : Res := { st := some st, m := m }

/-- The command is done. -/
def Res.ok (m : Mod) (reply : Bytes := []) : Res := { st := some St.ok, reply := reply, m := m }

/-- The command is started and its final completion follows (R96). -/
def Res.accepted (m : Mod) (reply : Bytes := []) : Res := { st := some St.accepted, reply := reply, m := m }

/-- The command runs and only its final completion will be written. -/
def Res.later (m : Mod) : Res := { st := none, m := m }

/-- One operation of the table of classes. -/
structure Op where
  /-- the parameter lengths it accepts -/
  len : Cmd → Bool
  /-- instances 0 to n − 1 exist -/
  insts : Nat := 1
  /-- the one instance that has the operation, where not all have it -/
  only : Option Nat := none
  /-- its effect commits at its commit frame (R102) -/
  stamped : Cmd → Bool := fun _ => false
  /-- its chapter denies it on every ring -/
  never : Bool := false
  /-- the engine's own checks and the effect -/
  body : Cmd → Mod → Res

/-! ### Rings -/

/-- A ring of the port. -/
def Mod.ring (m : Mod) (r : Nat) : Ring := Tab.get {} m.port.rings r

/-- Write a ring. -/
def Mod.setRing (m : Mod) (r : Nat) (x : Ring) : Mod := { m with port := { m.port with rings := Tab.put {} m.port.rings r x } }

/-- in_flight: commands dispatched whose final completion is not yet written (Table 04-2). -/
def Port.inFlight (p : Port) (r : Nat) : Nat :=
  (p.flight.filter fun f => f.cmd.ring == r).length + (p.laneQ.filter fun f => f.cmd.ring == r).length

/-- Free completion slots: 256 − (cq_tail − cq_head) (R91). -/
def Ring.freeCq (x : Ring) : Nat := 256 - (x.cqTail - x.cqHead).toNat

/-- CP_RING_STATUS (Table 04-2) (log entry 61). -/
def Mod.ringStatus (m : Mod) (r : Nat) : Nat :=
  let x := m.ring r
  x.errCode + b2n (x.errCode != 0) * 16 + b2n (x.enable && x.errCode == 0 && !x.resetting) * 32 + b2n x.cqWait * 64
    + m.port.inFlight r * 256

/-- Count `i` was submitted before count `j` (32-bit counts that wrap, R89). -/
def cntBefore (i j : BitVec 32) : Bool := let d := (j - i).toNat; 0 < d && d < 2 ^ 31

/-! ### Completions (R95–R97) -/

/-- The bytes of a completion (Table 04-5). -/
def completion (opcode tag status frame : Nat) (reply : Bytes) : Bytes :=
  le 2 opcode ++ le 2 tag ++ le 2 status ++ le 2 reply.length ++ le 8 frame ++ reply

/-- The datagram that carries a completion to a service tool (R108), with its tag where the session is proven (log entry 22). -/
def Session.datagram (x : Session) (ring : Nat) (body : Bytes) : Bytes :=
  if x.proven then
    let h := le 1 ring ++ le 1 1 ++ le 2 x.num.toNat ++ le 4 (x.txCounter + 1)
    h ++ body ++ (le 32 (Config.hmacSha256 x.key (h ++ body)).toNat).take 16
  else le 1 ring ++ le 1 0 ++ le 2 x.num.toNat ++ le 4 0 ++ body

/-- A kept tag takes the completion sent for it (R110) (log entry 22). -/
def Kept.took (k : Kept) (bytes : Bytes) (final : Bool) (raw : Nat) : Kept :=
  { k with sent := some bytes, doneRaw := if final then some raw else k.doneRaw }

/-- Sender of the datagrams that come by CAN1 in Reheat mode (log entries 55, 63). -/
def canSender : Nat := 2 ^ 64

/-- The CAN frames a datagram is cut into on CAN1: seven bytes a segment behind its index and LAST (R422) (log entry 55). -/
def segments (d : Bytes) : List CanFrame :=
  let n := (d.length + 6) / 7
  (List.range n).map fun k =>
    { idw := BitVec.ofNat 32 (0x1CEFF10A + 2 ^ 29), dlc := 8,
      data := le 1 (k % 64 + b2n (k + 1 == n) * 128) ++ slice d (7 * k) 7 }

/-- Send a datagram in a ring's session, over UDP or in segments over CAN1 (R108, R422) (log entry 22). -/
def Mod.sendDatagram (m : Mod) (r sender : Nat) (body : Bytes) : Mod :=
  let x := m.ring r
  let d := x.session.datagram r body
  let m := m.setRing r { x with session := { x.session with txCounter := x.session.txCounter + 1 } }
  { m with port := { m.port with
      sent := m.port.sent ++ [(sender, d)]
      segOut := if sender = canSender then m.port.segOut ++ segments d else m.port.segOut } }

/-- On a service ring, send the completion to the sender of the kept tag. -/
def Mod.answerService (m : Mod) (r tag : Nat) (bytes : Bytes) (final : Bool) : Mod :=
  let x := m.ring r
  match x.kept.find? fun k => k.tag.toNat == tag && k.doneRaw.isNone with
  | none => m
  | some k =>
    let kept := x.kept.map fun j => if j == k then j.took bytes final m.now else j
    (m.setRing r { x with kept := kept }).sendDatagram r k.sender bytes

/-- NOTIFY: the ring's event follows the completion (R97). -/
def Mod.notify (m : Mod) (c : Cmd) : Mod :=
  if c.flags.toNat.testBit 2 then m.raise (16 + c.ring) (c.ring + 1 * 256 + c.tag.toNat * 65536) else m

/-- First address of a completion slot of rings 0–11; the other rings lie inside the module (Table 04-1) (log entry 15). -/
def cqAddr (r k : Nat) : Nat := 0x460010000 + r * 0x20000 + k % 256 * 256

/-- First address of a submission slot of rings 0–11 (Table 04-1) (log entry 15). -/
def sqAddr (r k : Nat) : Nat := 0x460000000 + r * 0x20000 + k % 256 * 256

/-- A completion stands in the ring's next completion slot, then cq_tail advances (R91). -/
def Mod.putCq (m : Mod) (r : Nat) (bytes : Bytes) : Mod :=
  let x := m.ring r
  let m := m.setRing r { x with cq := Tab.put [] x.cq (x.cqTail.toNat % 256) bytes, cqTail := x.cqTail + 1 }
  if r < 12 then m.cleanse (cqAddr r x.cqTail.toNat) bytes.length else m

/-- A completion for a packet that is not dispatched (R109, R110): in the ring's next completion slot like any other,
sent to the datagram's sender, with its event under NOTIFY (R97) (log entries 20, 22). -/
def Mod.refuse (m : Mod) (opcode : Nat) (c : Cmd) (status sender : Nat) : Mod :=
  let bytes := completion opcode c.tag.toNat status 0 []
  ((m.putCq c.ring bytes).sendDatagram c.ring sender bytes).notify c

/-- Write one completion into the ring's next completion slot, then advance cq_tail, then raise the ring's event
where NOTIFY is set (R91, R95, R97) (log entry 8). -/
def Mod.complete (m : Mod) (opcode : Nat) (c : Cmd) (status : Nat) (reply : Bytes) (frame : Nat) : Mod :=
  let bytes := completion opcode c.tag.toNat status frame reply
  let m := m.putCq c.ring bytes
  let m := if c.ring = 12 ∨ c.ring = 13 then m.answerService c.ring c.tag.toNat bytes (status != St.accepted) else m
  m.notify c

/-- Write the final completion of a command in flight; nothing where it is no longer in flight, or was discarded by a
ring reset (R92, R96). -/
def Mod.ended (m : Mod) (opcode : Nat) (c : Cmd) (status : Nat) (reply : Bytes) (frame : Nat) : Mod :=
  match m.port.flight.find? fun f => f.opcode == opcode && f.cmd == c with
  | none => m
  | some f =>
    let m := { m with port := { m.port with flight := m.port.flight.erase f } }
    if f.discard then m else m.complete opcode c status reply frame

/-- A FENCE or BARRIER. -/
def Flight.isFence (f : Flight) : Bool := f.opcode == 0x0110 || f.opcode == 0x0111

/-- What the fence at place `i` of the list waits for is done: on each ring it names every command submitted before its
dispatch has been taken and is done, be it in flight or still stamped (0x0110, 0x0111). -/
def Mod.fenceDone (m : Mod) (i : Nat) (f : Flight) : Bool :=
  f.waits.all fun w =>
    !cntBefore (m.ring w.1).sqHead w.2
      && ((m.port.flight.take i).all fun g => g.cmd.ring != w.1)
      && ((m.port.flight.drop (i + 1)).all fun g => g.cmd.ring != w.1 || !cntBefore g.idx w.2)
      && (m.port.laneQ.all fun q => q.cmd.ring != w.1 || !cntBefore q.idx w.2)

/-- Complete the fences that are done, at most `n` of them. -/
def Mod.settleN : Nat → Mod → Mod
  | 0, m => m
  | n + 1, m =>
    match (m.port.flight.zipIdx.find? fun p => p.1.isFence && m.fenceDone p.2 p.1) with
    | none => m
    | some p => Mod.settleN n (m.ended p.1.opcode p.1.cmd St.ok [] 0)

/-- Every fence that is done completes (log entry 36). -/
def Mod.settle (m : Mod) : Mod :=
  if m.port.flight.any Flight.isFence then Mod.settleN m.port.flight.length m else m

/-- A command in flight ends; fences that waited for it end with it. -/
def Mod.finish (m : Mod) (opcode : Nat) (c : Cmd) (status : Nat) (reply : Bytes := []) (frame : Nat := 0) : Mod :=
  (m.ended opcode c status reply frame).settle

/-- Put a command in flight. -/
def Mod.fly (m : Mod) (f : Flight) : Mod := { m with port := { m.port with flight := m.port.flight ++ [f] } }

/-! ### Rights (R106, R107) -/

/-- Operations every ring but 15 may always use (Table 04-13, first row). -/
def freeOp (opcode : Nat) : Bool :=
  let o := opcode % 256
  o == 1 || o == 2 || o == 4 || opcode == 0x1110 || opcode == 0x0213 || opcode == 0x0116

/-- Operations of Table 04-13, third row: SAFE writes, NVS writes to SET_SAFETY or SET_ID, ACTIVATE, CONFIRM, machine
adoption, and the CAN writes on CAN7 and CAN8. 0x0710 is denied without a session by its chapter. -/
def guardedOp (opcode inst : Nat) : Bool :=
  opcode == 0x0703 || opcode == 0x0711 || opcode == 0x0710 || (opcode == 0x1210 && (inst == 2 || inst == 6))
    || opcode == 0x1214 || opcode == 0x1313 || opcode == 0x1314
    || ((opcode == 0x0803 || opcode == 0x0806 || opcode == 0x0807) && (inst == 6 || inst == 7))

/-- Writes that need standstill and service mode (R107). -/
def lockedOp (opcode inst : Nat) : Bool :=
  opcode == 0x0703 || opcode == 0x0711 || (opcode == 0x1210 && inst == 2)
    || ((opcode == 0x0803 || opcode == 0x0806 || opcode == 0x0807) && (inst == 6 || inst == 7))

/-- The ring has the right to the operation (R106, Table 04-13) (log entry 20). -/
def Mod.allowed (m : Mod) (opcode : Nat) (c : Cmd) : Bool :=
  let inst := c.inst.toNat
  if c.ring = 15 then
    -- chapters' own statements: SYS global operations and LANE denied, LOG READ allowed
    if opcode / 256 = 3 then opcode == 0x0302
    else opcode == 0x1110 || ((opcode % 256 == 1 || opcode % 256 == 2 || opcode % 256 == 4))
  else if c.ring = 14 then true
  else
    let session := opcode == 0x0117 || opcode == 0x0118
    if c.ring < 12 then !session && !guardedOp opcode inst
    else freeOp opcode || session || (m.ring c.ring).session.proven

/-! ### The checks of R99 and availability -/

/-- Power domains of which one at least must be on for the class (R11, R19). -/
def classDomains (cls : Nat) : List Nat :=
  match cls with
  | 4 => [2, 3] | 5 => [9] | 6 => [2, 3] | 7 => [4] | 8 => [10] | 9 => [10] | 10 => [8] | 11 => [5] | 12 => [7]
  | 13 => [7] | 14 => [6] | _ => []

/-- The Safety Processor and Jack run: PD4 is on and CK_SAFE has not failed since it came on (R11, R188). -/
def Mod.safeOn (m : Mod) : Bool := m.pd 4 && !m.pwr.clocks.contains 4

/-- The engine of the class is powered and clocked (log entry 10). -/
def Mod.powered (m : Mod) (cls : Nat) : Bool :=
  ((classDomains cls).isEmpty || (classDomains cls).any fun k => m.pd k) && (cls != 7 || m.safeOn)

/-- The operations Reheat mode serves on rings 12 and 13 (R421). -/
def reheatOp (opcode : Nat) : Bool :=
  opcode % 256 == 1 || opcode == 0x0117 || opcode == 0x0118 || opcode == 0x1202 || opcode == 0x1211 || opcode == 0x1302
    || (0x1310 ≤ opcode && opcode ≤ 0x1315) || opcode == 0x1110

/-- The checks of R99 in their order, then what keeps the engine from serving at all; none where the engine's own
checks follow (log entry 10). -/
def Mod.portCheck (m : Mod) (opcode : Nat) (o : Op) (c : Cmd) : Option Nat :=
  if c.plen.toNat > 240 || !o.len c then some St.badLength
  else if o.insts ≤ c.inst.toNat || (o.only.isSome && o.only != some c.inst.toNat) then some St.badInstance
  else if c.rsvd != 0 || c.flags.toNat / 16 != 0
      || (!o.stamped c && (c.flags.toNat.testBit 3 || c.cframe != 0)) then some St.badParam
  else if o.never || !m.allowed opcode c then some St.denied
  else if lockedOp opcode c.inst.toNat && !m.safe.unlocked then some St.locked
  else if m.upd.reheat && !((c.ring = 12 || c.ring = 13) && reheatOp opcode) then some St.notReady
  else if !m.powered (opcode / 256) then some St.notReady
  else if o.stamped c && !m.lanes.run then some St.notReady
  else none

/-! ### Serving -/

/-- Commands arrive on the ring (R19, R436): PD1 is on and out of reset and CK_FAB runs; rings 0–11 need the application
cluster's PD5, ring 15 the Safety Processor's PD4. -/
def Mod.takes (m : Mod) (r : Nat) : Bool :=
  m.alive && m.port.running && (decide (12 ≤ r) || m.pd 5) && (r != 15 || m.safeOn)

/-- The frame named by the low 32 bits of commit_frame, nearest to the current one (R102). -/
def Mod.namedFrame (m : Mod) (cframe : BitVec 32) : Int :=
  (m.lanes.frame : Int) + toSigned 32 (cframe - BitVec.ofNat 32 m.lanes.frame).toNat

/-- The engine's answer is written: a final completion, or ACCEPTED and the command in flight, or the command in
flight with no completion yet (R96). A frame-stamped command that is applied carries the frame (R95) (log entry 9). -/
def Mod.answer (m0 : Mod) (opcode : Nat) (o : Op) (c : Cmd) (r : Res) : Mod :=
  let f : Flight := { cmd := c, opcode := opcode, idx := (m0.ring c.ring).sqHead - 1, waits := r.waits }
  match r.st with
  | none => r.m.fly f
  | some st =>
    if st = St.accepted then (r.m.fly f).complete opcode c st r.reply (if o.stamped c then r.m.lanes.frame else 0)
    else r.m.complete opcode c st r.reply
      (if o.stamped c && (st = St.ok || st = St.fault) then r.cf.getD r.m.lanes.frame else r.cf.getD 0)

/-- A command comes back with LANE_CHANGED, and is counted (R85, R86). -/
def Mod.countChanged (m : Mod) : Mod := { m with stats := { m.stats with laneChanged := inc32 m.stats.laneChanged } }

/-! ### Commit frames (R102, R103) -/

/-- Earliest possible commit frame e (R102). -/
def Mod.earliest (m : Mod) : Nat := if m.now < m.lanes.frameRaw + 28750 then m.lanes.frame + 1 else m.lanes.frame + 2

/-- The first frame, of those a record converts, whose start converts to `v` or later. -/
def frameIn (f0 : Nat) (v : Int) (p : CorrRec × Nat × Option Nat) : Option Nat :=
  let c := max (max p.2.1 (p.1.firstAt v)) f0
  let n := (c - f0 + frameCounts - 1) / frameCounts
  match p.2.2 with
  | some hi => if f0 + n * frameCounts < hi then some n else none
  | none => some n

/-- First frame whose start converts to `v` or later, each start by the record in force there (0x0116, R37) (log entry 36). -/
def Mod.frameAt (m : Mod) (v : Int) : Nat :=
  ((recSpans none m.time.all).reverse.findSome? (frameIn m.lanes.f0 v)).getD 0

/-- The frame an at_time names (0x0112). -/
def Mod.snapFrame (m : Mod) (c : Cmd) : Option Nat := (parse96 c.params 4).map m.frameAt

/-- The latest frame an earlier command of the same ring and engine instance is stamped for (R102). -/
def Mod.laterStamp (m : Mod) (opcode : Nat) (c : Cmd) : Nat :=
  m.port.laneQ.foldl (fun k q =>
    if q.cmd.ring == c.ring && q.opcode / 256 == opcode / 256 && q.cmd.inst == c.inst then max k q.frame else k) 0

/-- A frame-stamped command's own row is its commit in the command phase of the present frame, which ends at 40 µs (R103): it
names no frame, or the present one, and no earlier command of its ring and instance is stamped for a later one (R102)
(log entry 9). -/
def Mod.namesNow (m : Mod) (opcode : Nat) (c : Cmd) : Bool :=
  decide (m.now < m.lanes.frameRaw + us 40) && (c.cframe == 0 || m.namedFrame c.cframe == (m.lanes.frame : Int))
    && decide (m.laterStamp opcode c ≤ m.lanes.frame) && (opcode != 0x0610 || m.now == m.lanes.frameRaw)

/-- The commit frame of a frame-stamped command, or the status it ends with (R102). AT_FRAME on a command that names no
frame is taken as naming the earliest one, so behind a later stamp of its instance it ends TOO_LATE: the model's choice (log entry 67). -/
def Mod.stampFrame (m : Mod) (opcode : Nat) (c : Cmd) : Nat ⊕ Nat :=
  let e := m.earliest
  let exact' := c.flags.toNat.testBit 3
  let base : Nat ⊕ Nat :=
    if opcode = 0x0112 ∧ rd c.params 1 1 = 1 then
      match m.snapFrame c with
      | none => .inr St.badParam
      | some n => if n < e then .inr St.tooLate else .inl n
    else if c.cframe = 0 then .inl e
    else
      let n := m.namedFrame c.cframe
      if n < e then (if exact' then .inr St.tooLate else .inl e)
      else if (m.lanes.frame : Int) + 240000 < n then .inr St.badParam
      else .inl n.toNat
  match base with
  | .inr st => .inr st
  | .inl n =>
    let k := m.laterStamp opcode c
    if n < k then (if exact' then .inr St.tooLate else .inl k) else .inl n

/-- The unit of a lane. -/
def Lanes.get (l : Lanes) : Lane → LaneUnit
  | .a => l.a
  | .b => l.b

/-- Lane of an instance. -/
def laneOf (i : Nat) : Lane := if i = 0 then .a else .b

/-- A lane. -/
def Mod.lane (m : Mod) (l : Lane) : LaneUnit := m.lanes.get l

/-- The state changes so far of the lane a command names (R86) (log entry 29). -/
def Mod.laneMark (m : Mod) (opcode : Nat) (c : Cmd) : Nat :=
  if opcode / 256 = 3 then (m.lane (laneOf c.inst.toNat)).changes else 0

/-! ### Held frames (0x0113) -/

/-- Two spans of frames lie within 16 frames of each other (log entry 26). -/
def spansClose (a b : Nat × Nat) : Bool := decide (a.1 < b.2 + 16) && decide (b.1 < a.2 + 16)

/-- Span of the frames a HOLD_FRAMES for frame `first` holds. -/
def holdSpan (c : Cmd) (first : Nat) : Nat × Nat := (first, first + rd c.params 0 1 - 1)

/-- What keeps a HOLD_FRAMES from being stamped for frame `first` (0x0113). -/
def Mod.holdCheck (m : Mod) (c : Cmd) (first : Nat) : Option Nat :=
  let n := rd c.params 0 1
  if n = 0 ∨ 8 < n ∨ !isZero c.params 1 3 then some St.badParam
  else if m.lanes.holds.any fun h => spansClose h (holdSpan c first) then some St.busy
  else none

/-- The frames of a HOLD_FRAMES are set aside as it is stamped (log entry 26). -/
def Mod.addHold (m : Mod) (c : Cmd) (first : Nat) : Mod :=
  { m with lanes := { m.lanes with holds := m.lanes.holds ++ [holdSpan c first] } }

/-- A command enters both lanes' queues of 512, stamped for a frame, or finds them full (R103) (log entry 9). -/
def Mod.enqueue (m : Mod) (opcode : Nat) (c : Cmd) (frame : Nat) : Mod :=
  if 512 ≤ m.port.laneQ.length then m.complete opcode c St.noResource [] 0
  else
    let q : Stamped := { cmd := c, opcode := opcode, frame := frame, idx := (m.ring c.ring).sqHead - 1, mark := m.laneMark opcode c }
    let m := if opcode = 0x0113 then m.addHold c frame else m
    { m with port := { m.port with laneQ := m.port.laneQ ++ [q] } }

/-- A frame-stamped command is stamped and copied into both lanes' queues (R102, R103) (log entries 9, 10). -/
def Mod.stamp (m : Mod) (opcode : Nat) (c : Cmd) : Mod :=
  match m.stampFrame opcode c with
  | .inr st => m.complete opcode c st [] 0
  | .inl n =>
    match (if opcode = 0x0113 then m.holdCheck c n else none) with
    | some st => m.complete opcode c st [] 0
    | none => m.enqueue opcode c n

/-- Serve one command: the checks of R99, then the engine. A frame-stamped command is applied in the command phase of the
present frame, or else stamped (R102, R103); one whose frame passes while no lane holds the token is not applied (R85)
(log entry 9). -/
def Mod.serve (m : Mod) (opcode : Nat) (o : Op) (c : Cmd) : Mod :=
  if !m.takes c.ring then m else
  match m.portCheck opcode o c with
  | some st => m.complete opcode c st [] 0
  | none =>
    if o.stamped c && !m.namesNow opcode c then m.stamp opcode c
    else if o.stamped c && m.lanes.redundancy == 5 then m.countChanged.complete opcode c St.laneChanged [] 0
    else (m.answer opcode o c (o.body c m)).settle

/-! ### Forms common to the classes (R98) -/

/-- Exactly `n` parameter bytes. -/
def exactly (n : Nat) : Cmd → Bool := fun c => c.plen.toNat == n

/-- Between `a` and `b` parameter bytes. -/
def between (a b : Nat) : Cmd → Bool := fun c => a ≤ c.plen.toNat && c.plen.toNat ≤ b

/-- The reply of GET_INFO: class, instances, firmware, interface revision 1, class data (0xCC01). -/
def Mod.info (m : Mod) (cls insts : Nat) (data : Bytes := []) : Bytes :=
  le 2 cls ++ le 2 insts ++ le 4 m.upd.version.toNat ++ le 4 1 ++ le 4 0 ++ data

/-- An operation that completes with DENIED on every ring. -/
def opNever (insts : Nat) : Op := { len := exactly 0, insts := insts, never := true, body := fun _ m => Res.err m St.denied }

/-- GET_INFO of a class. -/
def opInfo (cls insts : Nat) (data : Mod → Nat → Bytes := fun _ _ => []) : Op :=
  { len := exactly 0, insts := insts, body := fun c m => Res.ok m (m.info cls insts (data m c.inst.toNat)) }

end Sys2Proof.Machine
end

