-- ==== Sys2Proof/Machine/FxBase.lean ====
section
/-! DEFINITION. Writes to the inbound slots of the Frame Exchange (R178, R181). -/

namespace Sys2Proof.Machine

open Sys2Proof

/-- Binding of an inbound slot: the BIND_SLOT parameters in force. Slots 248–255 are bound to SAFE with max_age 12 and
policy FLAG (R181, R217); an unbound slot has owner NONE. -/
def Mod.binding (m : Mod) (slot : Nat) : Bytes :=
  if 248 ≤ slot then le 1 slot ++ le 1 5 ++ le 2 12 ++ zeros 12
  else m.cfgOr 0x0610 slot (le 1 slot ++ zeros 15)

/-- Owner of a slot (R181). -/
def Mod.fxOwner (m : Mod) (slot : Nat) : Nat := rd (m.binding slot) 1 1

/-- A write that lands: value, valid bit and the frame number current when it lands; the age restarts (R178). -/
def FxIn.take (x : FxIn) (value : BitVec 32) (valid : Bool) (frame starts : Nat) : FxIn :=
  { x with value := value, valid := valid, frame := BitVec.ofNat 24 frame, base := starts, written := true,
           writes := inc32 x.writes }

/-- A write dropped: counted against the slot, and EV063 raised with the writer (R181, R185). -/
def Mod.fxDrop (m : Mod) (writer slot : Nat) : Mod :=
  let i := m.inp
  let i := { i with fxIn := Tab.upd {} i.fxIn slot (fun x => { x with drops := inc32 x.drops }),
                    drops := if writer = 1 then inc32 i.drops else i.drops }
  { m with inp := i }.raise 63 (slot + writer * 65536 + 2 ^ 24)

/-- A writer of inbound slots, numbered as the owners of R181, is there to write: the fabric's domain and its own are on
(Table 01-3) (log entry 67). -/
def Mod.writerOn (m : Mod) (writer : Nat) : Bool :=
  m.pd 5 && (match writer with | 3 => m.pd 8 | 4 => m.pd 6 | 5 => m.pd 4 | _ => true)

/-- A 64-bit slot write by a writer numbered as the owners of R181; dropped unless it owns the slot. With CK_FAB failed
no inbound slot is written (R436), and none by a block that is off (R19). -/
def Mod.fxPut (m : Mod) (writer slot : Nat) (value : BitVec 32) (valid : Bool) : Mod :=
  if !m.port.running || !m.writerOn writer then m
  else if m.fxOwner slot = writer then
    { m with inp := { m.inp with fxIn := Tab.upd {} m.inp.fxIn slot (fun x => x.take value valid m.lanes.frame m.inp.starts) } }
  else m.fxDrop writer slot

/-- State of a slot at a capture (R179). -/
def FxIn.stateAt (x : FxIn) (maxAge starts : Nat) : SlotState :=
  if !x.valid || !x.written then .invalid
  else if maxAge ≠ 0 ∧ maxAge < min 65535 (starts - x.base) then .stale
  else .fresh

/-- A slot as captured under its binding (R179, R180). -/
def FxIn.captured (x : FxIn) (bind : Bytes) (starts : Nat) : FxIn :=
  let st := x.stateAt (rd bind 2 2) starts
  { x with
    capState := st
    capValue := if st ≠ .fresh ∧ rd bind 4 1 = 1 then w32 (rd bind 8 4) else x.value
    capRaw := x.value
    capStamp := w32 (x.frame.toNat + b2n x.valid * 2 ^ 31)
    capBase := x.base
    seenFresh := x.seenFresh || st == .fresh }

end Sys2Proof.Machine
end

