-- ==== Sys2Proof/Machine/SafeOps.lean ====
section
/-! DEFINITION. The Safety Controller (chapter 08): the safety cycle, its inputs, Jack, the safety PDUs and the SAFE
class operations. -/

namespace Sys2Proof.Machine

open Sys2Proof

/-! ### Names of the record's fields (Table 08-18) -/

/-- A field of the record in force; 0 without a record. -/
def Safe.fld (s : Safe) (off n : Nat) : Nat := match s.rcd with | none => 0 | some r => rd r off n

/-- CRC-32C of a safety record, checked by the Safety Processor (R216). -/
def crcSp (r : Bytes) : Nat := crc32c r

/-- CRC-32 of a safety record, checked by Jack (R216). -/
def crcJack (r : Bytes) : Nat := crc32 r

/-- One pair of Table 08-18 lies in its ranges. -/
def safePairOk (r : Bytes) (k : Nat) : Bool :=
  let o := 6 * k
  decide (rd r o 1 ≤ 7) && decide (rd r (o + 1) 1 ≤ 3) && decide (10 ≤ rd r (o + 2) 1) && decide (rd r (o + 2) 1 ≤ 100)
    && isZero r (o + 3) 1 && decide (10 ≤ rd r (o + 4) 2) && decide (rd r (o + 4) 2 ≤ 1000)

/-- Pairs of a record with a role. -/
def roleCount (r : Bytes) (role : Nat) : Nat := ((List.range 12).filter fun k => rd r (6 * k) 1 == role).length

/-- A safety record lies in the ranges of Table 08-18, with at most one RESET, SERVICE and SPEED pair (R193). -/
def safeRecordOk (r : Bytes) : Bool :=
  (List.range 12).all (safePairOk r)
    && (List.range 8).all (fun o => decide (rd r (72 + o) 1 ≤ 4) && decide (rd r (80 + o) 1 ≤ 60))
    && decide (50 ≤ rd r 88 2) && decide (rd r 88 2 ≤ 500) && decide (10 ≤ rd r 90 2) && decide (rd r 90 2 ≤ 100)
    && decide (1000 ≤ rd r 92 2) && decide (rd r 92 2 ≤ 20000) && decide (rd r 94 2 ≤ 300)
    && decide (1 ≤ rd r 96 2) && decide (rd r 96 2 ≤ 10000) && decide (1 ≤ rd r 98 2) && decide (rd r 98 2 ≤ 10000)
    && decide (rd r 100 4 < 2 ^ 29) && decide (rd r 104 4 < 2 ^ 29) && isZero r 110 2
    && decide (roleCount r 5 ≤ 1) && decide (roleCount r 6 ≤ 1) && decide (roleCount r 7 ≤ 1)

/-! ### State changes and their events (R218) -/

/-- Write the Safety Controller. -/
def Mod.setSafe (m : Mod) (s : Safe) : Mod := { m with safe := s }

/-- Code of a function state (Table 08-6). -/
def SfState.code : SfState → Nat
  | .safe => 0 | .run => 1 | .decel => 2 | .tripped => 3 | .delay => 4

/-- Code of a controller state (Table 08-15). -/
def SafeState.code : SafeState → Nat
  | .init => 0 | .test => 1 | .waitReset => 2 | .run => 3 | .fault => 4 | .noParams => 5

/-- State of SF1–SF5, index 0–4. -/
def Safe.func (s : Safe) (f : Nat) : SfState := Tab.get .safe s.sf f

/-- A function enters a state; EV065 where it changed. -/
def Mod.setSf (m : Mod) (f : Nat) (x : SfState) : Mod :=
  if m.safe.func f = x then m
  else (m.setSafe { m.safe with sf := Tab.put .safe m.safe.sf f x }).ev 65 f x.code true

/-- Every switch opens. -/
def Safe.allOpen (s : Safe) : Safe :=
  { s with sout := foldN 8 (fun t o => Tab.upd {} t o fun x => { x with p := false, j := false }) s.sout }

/-- The controller enters a state; EV064 where it changed; FAULT de-energises every output (Table 08-15). -/
def Mod.setSafeSt (m : Mod) (x : SafeState) : Mod :=
  if m.safe.st = x then m
  else
    let s := { m.safe with st := x }
    (m.setSafe (if x = .run then { s with darkBase := m.now } else s.allOpen)).ev 64 0 x.code true

/-- A pair fault latches: EV066, or EV070 for SPEED_DISC. A fault that stands is kept (log entry 37). -/
def Mod.latchPair (m : Mod) (k code : Nat) : Mod :=
  let p : SafePair := Tab.get {} m.safe.pair k
  if p.fault ≠ 0 then m
  else
    (m.setSafe { m.safe with pair := Tab.put {} m.safe.pair k { p with fault := code, seenSafe := false } }).ev
      (if code = 4 then 70 else 66) k code true

/-- Functions that use a group: SF1 the ground groups, SF2 THRESH, SF3 UNLOAD (Table 08-5). -/
def groupFn (g : Nat) : Option Nat :=
  if g = 1 ∨ g = 2 then some 0 else if g = 3 then some 1 else if g = 4 then some 2 else none

/-- Open both switches of every output of a group, of output `o` alone where it has none (R203). -/
def Safe.openGroup (s : Safe) (g o : Nat) : Safe :=
  { s with sout := foldN 8 (fun t i =>
      if i = o ∨ (g ≠ 0 ∧ s.group i = g) then Tab.upd {} t i fun x => { x with p := false, j := false } else t) s.sout }

/-- An output fault latches (R203): EV068, both switches of the group open, its functions SAFE; a pin fed from outside
also brings the controller to FAULT. -/
def Mod.latchOut (m : Mod) (o code : Nat) : Mod :=
  if (m.safe.out o).fault ≠ 0 then
    -- a pin that stays high with both switches open, after any fault
    if code = 12 ∧ m.safe.st ≠ .fault then (m.ev 68 o 12 true).setSafeSt .fault else m
  else
    let g := m.safe.group o
    let s := { m.safe with sout := Tab.upd {} m.safe.sout o fun x => { x with fault := code } }
    let m := (m.setSafe (s.openGroup g o)).ev 68 o code true
    let m := match groupFn g with | none => m | some f => m.setSf f .safe
    if code = 12 then m.setSafeSt .fault else m

/-- Some output of a group has a latched fault. -/
def Safe.groupFault (s : Safe) (g : Nat) : Bool := (List.range 8).any fun o => s.group o == g && (s.out o).fault != 0

/-- Service mode entered or left across an operation: EV071 code 20 (Table 08-17). -/
def Mod.watchService (before : Bool) (m : Mod) : Mod :=
  if m.safe.serviceMode = before then m else m.ev 71 0 20 (!before)

/-- An operation, with the event of a change of service mode it brings about (Table 08-17). -/
def Mod.watched (f : Mod → Mod) (m : Mod) : Mod := Mod.watchService m.safe.serviceMode (f m)

/-! ### Speeds (R197) -/

/-- A speed in m/s as an exact fraction. -/
structure Spd where
  num : Nat
  den : Nat
deriving DecidableEq, Repr

/-- v = dist_per_pulse / max(last_period, time_since_last_edge), distance in 0.1 mm and times in raw counts of 8 ns; 0
before any edge. -/
def spd (dist period since : Nat) : Spd := if period = 0 ∧ since = 0 then ⟨0, 1⟩ else ⟨dist * 12500, max period since⟩

/-- Below 0.1 m/s counts as stopped. -/
def Spd.stopped (v : Spd) : Bool := decide (v.num * 10 < v.den)

/-- Lesser speed. -/
def Spd.lt (v w : Spd) : Bool := decide (v.num * w.den < w.num * v.den)

/-- Higher speed. -/
def Spd.max (v w : Spd) : Spd := if v.lt w then w else v

/-- As binary32. -/
def Spd.toF (v : Spd) : F32 := S.ofRat (v.num : Int) v.den

/-- The channels differ by more than max(0.3 m/s, 10 % of the higher). -/
def Spd.differ (v w : Spd) : Bool :=
  let h := v.max w
  let l := if v.lt w then v else w
  -- (h − l) × 10 · dens against 3 and against h
  let d := h.num * l.den - l.num * h.den
  decide (3 * (h.den * l.den) < 10 * d) && decide (h.num * l.den < 10 * d)

/-! ### Pair logic (R198–R200) -/

/-- A pair requests the safe state: a channel shows safe, or a fault is latched. -/
def Safe.request (s : Safe) (k : Nat) : Bool := !s.pairRun k || (Tab.get {} s.pair k : SafePair).fault != 0

/-- Some pair of a role requests the safe state. -/
def Safe.requestOf (s : Safe) (role : Nat) : Bool := (List.range 12).any fun k => s.role k == role && s.request k

/-- One cycle of a pair's discrepancy counter (R199); the SPEED pair compares speeds instead (R197), and a pair without a
role is not compared. -/
def Mod.pairCycle (m : Mod) (k : Nat) : Mod :=
  let s := m.safe
  if s.role k = 7 then m
  else
    let a := s.chRun k 0
    let b := s.chRun k 1
    let differ := a != b && s.role k != 0
    let p : SafePair := Tab.get {} s.pair k
    let p := { p with disc := if differ then min 1023 (p.disc + 1) else 0,
                      seenSafe := p.seenSafe || (p.fault != 0 && !a && !b) }
    let m := m.setSafe { s with pair := Tab.put {} s.pair k p }
    if differ && p.disc == s.fld (6 * k + 4) 2 then m.latchPair k 1 else m

/-- The SPEED pair of a cycle: speeds, discrepancy time and stopped counts (R197, R215) (log entry 37). -/
def Mod.speedCycle (m : Mod) (va vb : Spd) : Mod :=
  match m.safe.pairOf 7 with
  | none => m.setSafe { m.safe with speedA := 0, speedB := 0, stillCnt := 0 }
  | some k =>
    let still := va.stopped && vb.stopped
    let p : SafePair := Tab.get {} m.safe.pair k
    let s := { m.safe with
      speedA := va.toF, speedB := vb.toF
      speedDisc := if va.differ vb then min 1023 (m.safe.speedDisc + 1) else 0
      stillCnt := if still then min 2001 (m.safe.stillCnt + 1) else 0
      pair := Tab.put {} m.safe.pair k { p with seenSafe := p.seenSafe || (p.fault != 0 && still) } }
    let m := m.setSafe s
    if 500 ≤ s.speedDisc then m.latchPair k 4 else m

/-- A fault latched on the SPEED pair while the machine moves is SPEED_DISC, whatever its own code (R219) (log entry 37). -/
def Mod.speedDiscToo (m : Mod) : Mod :=
  match m.safe.pairOf 7 with
  | none => m
  | some k =>
    let p : SafePair := Tab.get {} m.safe.pair k
    if p.fault = 4 ∨ p.discToo then m
    else (m.setSafe { m.safe with pair := Tab.put {} m.safe.pair k { p with discToo := true } }).ev 70 k 4 true

/-- A valid reset clears each latched pair fault whose channels have shown safe together; the RESET pair's clears only
at the next start of PD4 (R200). -/
def Mod.clearPairs (m : Mod) : Mod :=
  foldN 12 (fun m k =>
    let p : SafePair := Tab.get {} m.safe.pair k
    if p.fault ≠ 0 ∧ p.seenSafe ∧ m.safe.role k ≠ 5 then
      let n := m.setSafe { m.safe with pair := Tab.put {} m.safe.pair k { p with disc := 0, fault := 0, seenSafe := false, discToo := false } }
      let n := n.ev (if p.fault = 4 then 70 else 66) k p.fault false
      if p.discToo then n.ev 70 k 4 false else n
    else m) m

/-! ### Output readback (R202) -/

/-- The per-cycle readback check of one output; the code that latches, 0 for none. -/
def readback (p j high low node : Bool) : Nat :=
  if p && j then (if high then 0 else if node then 7 else 6)
  else if !p && !j then (if low then 0 else 12)
  else if p then (if !low then 7 else if !node then 6 else 0)
  else if low then 0 else 6

/-- The readback checks of a cycle: each output's pin and node against its switches as they stood when the inputs were
sampled, before a fault of this cycle opened a group. -/
def Mod.readbacks (m : Mod) (inp : SafeIn) : Mod :=
  let s := m.safe
  foldN 8 (fun m o =>
    let x := s.out o
    let code := readback x.p x.j (inp.pinHigh.toNat.testBit o) (inp.pinLow.toNat.testBit o) (inp.nodeHigh.toNat.testBit o)
    if code = 0 then m else m.latchOut o code) m

/-! ### The functions (R204–R209) -/

/-- Remote demand bits in force: those of the last accepted seq; a communication fault activates STOP_ALL (R212). -/
def Safe.demand (s : Safe) : Nat := Nat.lor (rd s.rxData 0 1 % 16) (b2n s.commFault)

/-- Triggers of SF2. -/
def Safe.trig2 (s : Safe) : Bool :=
  s.requestOf 1 || s.requestOf 2 || s.seatTrip || s.demand.testBit 0 || s.demand.testBit 2

/-- Triggers of SF3. -/
def Safe.trig3 (s : Safe) : Bool :=
  s.requestOf 1 || s.requestOf 3 || s.seatTrip || s.demand.testBit 0 || s.demand.testBit 3

/-- A fault is latched on the SPEED pair. -/
def Safe.speedFault (s : Safe) : Bool :=
  match s.pairOf 7 with | none => false | some k => (Tab.get {} s.pair k : SafePair).fault != 0

/-- Triggers of SF1 but SPEED_DISC, which acts by R206. -/
def Safe.trig1 (s : Safe) : Bool := s.requestOf 1 || s.demand.testBit 0 || s.demand.testBit 1

/-- The ceiling of R205 after `t` ms, in units of 10^−5 × 2^−149 m/s, before its floor at 0. -/
def Safe.ceil (s : Safe) : Int :=
  100000 * S.scaled s.vReq - ((s.fld 88 2 * s.tDecel * 2 ^ 149 : Nat) : Int)

/-- Slot 249: 100.0 outside DECEL, the ceiling in DECEL, 0.0 in SAFE or TRIPPED (Table 08-16). -/
def Safe.slot249 (s : Safe) : F32 :=
  match s.func 0 with
  | .decel => S.ofRat (max 0 s.ceil) (100000 * 2 ^ 149)
  | .safe => 0
  | .tripped => 0
  | _ => 0x42C80000

/-- Check k of R205 step 3: the higher speed is at most max(0.1, v_req − a_min·t) + tol. -/
def Safe.envelopeOk (s : Safe) (v : Spd) : Bool :=
  let lim := max (10000 * 2 ^ 149 : Int) s.ceil + ((s.fld 90 2 * 1000 * 2 ^ 149 : Nat) : Int)
  decide ((v.num : Int) * (100000 * 2 ^ 149 : Nat) ≤ lim * (v.den : Int))

/-- The monitor trips: TRIPPED, the trip line to Jack, EV070 (R206); the latch of SPEED_DISC has already raised its own
EV070 with code 4 (`Mod.latchPair`, `Mod.speedDiscToo`, Table 08-17) (log entry 37). -/
def Mod.sf1Trip (m : Mod) (code : Nat) : Mod :=
  let m := (m.setSf 0 .tripped)
  let m := m.setSafe { m.safe with tripLine := some m.now }
  if code = 4 then m else m.ev 70 ((m.safe.pairOf 7).getD 0) code true

/-- One cycle of SF1. -/
def Mod.sf1Cycle (m : Mod) (v : Spd) (still reset discNow : Bool) : Mod :=
  let s := m.safe
  let active := s.trig1 || s.speedFault
  let m := if active && s.demandRaw.isNone then m.setSafe { s with demandRaw := some m.now }
           else if !active then m.setSafe { s with demandRaw := none } else m
  match m.safe.func 0 with
  | .run =>
    if discNow then (if still then m.setSf 0 .safe else m.sf1Trip 4)
    else if m.safe.trig1 then
      let m := (m.setSafe { m.safe with vReq := v.toF, tDecel := 0 }).setSf 0 .decel
      if still then m.setSf 0 .safe else m
    else m
  | .decel =>
    let m := m.setSafe { m.safe with tDecel := m.safe.tDecel + 1 }
    if discNow && !still then m.sf1Trip 4
    else if still then m.setSf 0 .safe
    else if m.safe.tDecel % 200 = 0 ∧ !m.safe.envelopeOk v then m.sf1Trip 17
    else if m.safe.fld 92 2 ≤ m.safe.tDecel then m.sf1Trip 18
    else m
  | .tripped => if still then m.setSf 0 .safe else m
  | .safe =>
    if reset && still && !active && !m.safe.groupFault 1 && !m.safe.groupFault 2 then
      (m.setSafe { m.safe with jackGround := false, tripLine := none }).setSf 0 .run
    else m
  | .delay => m

/-- SF4 activates the triggers of SF2 and SF3 (R209). -/
def Mod.seatExpire (m : Mod) : Mod :=
  let m := m.setSf 3 .safe
  m.setSafe { m.safe with seatTrip := true, seatRaw := none }

/-- A SEAT pair has a latched fault. -/
def Safe.seatFault (s : Safe) : Bool :=
  (List.range 12).any fun k => s.role k == 4 && (Tab.get {} s.pair k : SafePair).fault != 0

/-- While SF4 is SAFE its trigger comes as in RUN: a SEAT pair requests the safe state for longer than seat_delay, or has a
fault (Table 08-5, R209, R213). -/
def Mod.seatWatch (m : Mod) : Mod :=
  let s := m.safe
  if s.func 3 ≠ .safe then m
  else
    let raw := if s.requestOf 4 then some (s.seatRaw.getD m.now) else none
    let long := raw.elim false fun r => decide (r + ms (100 * s.fld 94 2) ≤ m.now)
    m.setSafe { s with seatRaw := raw, seatTrip := s.seatTrip || s.seatFault || long }

/-- One cycle of SF4, over every SEAT pair (R209). -/
def Mod.sf4Cycle (m : Mod) (reset : Bool) : Mod :=
  let s := m.safe
  match s.func 3 with
  | .run => if s.seatFault then m.seatExpire
            else if s.requestOf 4 then (m.setSafe { s with seatRaw := some m.now }).setSf 3 .delay else m
  | .delay =>
    if s.seatFault then m.seatExpire
    else if !s.requestOf 4 then (m.setSafe { s with seatRaw := none }).setSf 3 .run
    else match s.seatRaw with
      | some r => if r + ms (100 * s.fld 94 2) ≤ m.now then m.seatExpire else m
      | none => m
  | _ => if reset && !s.requestOf 4 then (m.setSafe { s with seatTrip := false }).setSf 3 .run else m

/-- One cycle of SF5: the remote demand; its restart clears a communication fault after 10 sound periods (R212) (log entry 37). -/
def Mod.sf5Cycle (m : Mod) (reset : Bool) : Mod :=
  let s := m.safe
  let m := if s.commFault && reset && decide (10 ≤ s.sound) && rd s.rxData 0 1 % 16 == 0 then
      (m.setSafe { s with commFault := false }).ev 69 0 s.commCode false else m
  let active := m.safe.demand != 0
  match m.safe.func 4 with
  | .run => if active then m.setSf 4 .safe else m
  | _ => if reset && !active then m.setSf 4 .run else m

/-- One cycle of SF2 or SF3. -/
def Mod.sfStop (m : Mod) (f g : Nat) (trig reset : Bool) : Mod :=
  match m.safe.func f with
  | .run => if trig then m.setSf f .safe else m
  | _ => if reset && !trig && !m.safe.groupFault g then m.setSf f .run else m

/-! ### Jack (R186, R199, R209) -/

/-- Channel `c` of a pair reads run in Jack. -/
def Safe.jackRun (s : Safe) (k c : Nat) : Bool :=
  let lvl := (Tab.get {} s.sin (2 * k + c) : SinCh).jfilt
  if (s.fld (6 * k + 1) 1).testBit c then !lvl else lvl

/-- A pair requests the safe state in Jack. -/
def Safe.jackRequest (s : Safe) (k : Nat) : Bool :=
  !(s.jackRun k 0 && s.jackRun k 1) || (Tab.get {} s.pair k : SafePair).jfault

/-- Some pair of a role requests the safe state in Jack. -/
def Safe.jackRequestOf (s : Safe) (role : Nat) : Bool := (List.range 12).any fun k => s.role k == role && s.jackRequest k

/-- Jack permits the J switches of THRESH (3) and UNLOAD (4) by its own SF2, SF3 and SF4. -/
def Safe.jackPermits (s : Safe) (g : Nat) : Bool :=
  !s.jackRequestOf 1 && !s.jseatTrip && !(g == 3 && s.jackRequestOf 2) && !(g == 4 && s.jackRequestOf 3)

/-- A pair in Jack: the time its channels have differed is counted on Jack's own count (R199) (log entry 37). -/
def SafePair.jack (p : SafePair) (a b : Bool) (tDisc now : Nat) : SafePair :=
  let d := if a = b then none else some (p.jdiff.getD now)
  { p with jdiff := d, jfault := p.jfault || d.elim false (fun r => decide (r + ms tDisc ≤ now)),
           jseen := p.jfault && (p.jseen || (!a && !b)) }

/-- Jack acts on its filtered inputs at once: its discrepancy times, its SF4 delay, the time of a new ESTOP demand, and its
switches of THRESH and UNLOAD (R199, R207, R209) (log entry 37). -/
def Mod.jackPoll (m : Mod) : Mod :=
  if !m.safeOn || m.safe.rcd.isNone then m
  else
    let s := m.safe
    let s := { s with pair := foldN 12 (fun t k =>
      if s.role k = 0 ∨ s.role k = 7 then t
      else Tab.upd {} t k fun p => p.jack (s.jackRun k 0) (s.jackRun k 1) (s.fld (6 * k + 4) 2) m.now) s.pair }
    let raw := if s.jackRequestOf 4 then some (s.jseatRaw.getD m.now) else none
    let fault := (List.range 12).any fun k => s.role k == 4 && (Tab.get {} s.pair k : SafePair).jfault
    let s := { s with
      jseatRaw := raw
      jseatTrip := s.jseatTrip || fault || raw.elim false (fun r => decide (r + ms (100 * s.fld 94 2) ≤ m.now))
      estopRaw := if s.jackRequestOf 1 then some (s.estopRaw.getD m.now) else none }
    m.setSafe { s with sout := foldN 8 (fun t o =>
      let g := s.group o
      if (g = 3 ∨ g = 4) ∧ !s.jackPermits g then Tab.upd {} t o fun x => { x with j := false } else t) s.sout }

/-- A valid reset in Jack: its pair faults clear whose channels it has seen safe together, and its SF4 starts again. -/
def Mod.jackReset (m : Mod) : Mod :=
  let s := m.safe
  let s := { s with pair := foldN 12 (fun t k =>
    if s.role k = 5 then t else Tab.upd {} t k fun p => { p with jfault := p.jfault && !p.jseen }) s.pair }
  m.setSafe { s with jseatTrip := s.jseatTrip && s.jackRequestOf 4 }

/-- A switch is held open by the dark test in hand (R202). -/
def Safe.darkOpen (s : Safe) (o : Nat) (jack : Bool) : Bool :=
  match s.dark with
  | some (o', j, _) => o' == o && j == jack
  | none => false

/-- The function that governs an output's group permits it: SF1 in RUN or DECEL, SF2, SF3 in RUN (R205, R209). -/
def Safe.permitted (s : Safe) (o : Nat) : Bool :=
  let g := s.group o
  if g = 1 ∨ g = 2 then decide (s.func 0 = .run ∨ s.func 0 = .decel)
  else if g = 3 then decide (s.func 1 = .run) else if g = 4 then decide (s.func 2 = .run) else false

/-- The controller lets an output be energised: RUN, and no fault in its group (R203, Table 08-15). -/
def Safe.goes (s : Safe) (o : Nat) : Bool := decide (s.st = .run) && !s.groupFault (s.group o)

/-- The P switch of an output is to be closed. -/
def Safe.pClosed (s : Safe) (o : Nat) : Bool := s.goes o && s.permitted o && s.spRuns

/-- The J switch of an output is to be closed; `was`: it is closed now. A J switch of the ground groups stays as it is
until Jack opens it, and closes with the restart of SF1 (R207). -/
def Safe.jClosed (s : Safe) (o : Nat) (was : Bool) : Bool :=
  let g := s.group o
  s.goes o && !s.jackLatch
    && (if g = 1 ∨ g = 2 then !s.jackGround && (decide (s.func 0 = .run) || was) else s.permitted o && s.jackPermits g)

/-- The switches a cycle sets; one under a dark test stays open (R186, R202, R205, R207, R209, R219). -/
def Safe.switches (s : Safe) : Safe :=
  { s with sout := foldN 8 (fun t o => Tab.upd {} t o fun x =>
      { x with p := s.pClosed o && !s.darkOpen o false
               j := s.jClosed o (x.j || s.darkOpen o true) && !s.darkOpen o true }) s.sout }

/-- A dark test whose 300 µs have passed ends: its switch closes again unless it is to be open by now (R202, R219). -/
def Mod.darkPoll (m : Mod) : Mod :=
  match m.safe.dark with
  | none => m
  | some (o, jack, until') =>
    if m.now < until' then m
    else
      let s := { m.safe with dark := none }
      m.setSafe { s with sout := Tab.upd {} s.sout o fun x =>
        if jack then { x with j := s.jClosed o true } else { x with p := s.pClosed o } }

/-! ### Slots and PDU -/

/-- The pair bits of slot 250: channel A and B of pair k show run, whatever the pair's role (R193, Table 08-16) (log entry 37). -/
def Safe.runBits (s : Safe) : Nat :=
  foldN 12 (fun v k => v + b2n (s.chRun k 0) * 2 ^ (2 * k) + b2n (s.chRun k 1) * 2 ^ (2 * k + 1)) 0

/-- Latched pair faults, bit k−1. -/
def Safe.faultBits (s : Safe) : Nat := foldN 12 (fun v k => v + b2n ((Tab.get {} s.pair k : SafePair).fault != 0) * 2 ^ k) 0

/-- Energised outputs, bit n−1. -/
def Safe.outBits (s : Safe) : Nat := foldN 8 (fun v o => v + b2n (s.energised o) * 2 ^ o) 0

/-- Output faults, bit n−1. -/
def Safe.outFaultBits (s : Safe) : Nat := foldN 8 (fun v o => v + b2n ((s.out o).fault != 0) * 2 ^ o) 0

/-- Slot 248 (Table 08-16). -/
def Safe.slot248 (s : Safe) : Nat :=
  s.st.code + (s.func 0).code * 16 + (s.func 1).code * 2 ^ 8 + (s.func 2).code * 2 ^ 12 + (s.func 3).code * 2 ^ 16
    + (s.func 4).code * 2 ^ 20 + b2n s.standstill * 2 ^ 24 + b2n s.serviceMode * 2 ^ 25 + b2n s.degraded * 2 ^ 26
    + b2n s.tickLocal * 2 ^ 27

/-- Slots 248–255 as a cycle has them (Table 08-16). -/
def Safe.slots (s : Safe) : List (BitVec 32) :=
  [ w32 s.slot248, s.slot249, w32 s.runBits, w32 (s.faultBits + s.outBits * 2 ^ 12 + s.outFaultBits * 2 ^ 20),
    s.speedA, s.speedB, w32 (rd s.rxData 0 4), s.cycles ]

/-- The functions that a pair of a role triggers (Table 08-2). -/
def roleFns (role : Nat) : List Nat :=
  match role with
  | 1 => [0, 1, 2]
  | 2 => [1]
  | 3 => [2]
  | 4 => [3]
  | _ => []

/-- A pair permits: both channels run, no fault latched, and every function it triggers has met its restart condition
(R198) (log entry 37). -/
def Safe.permitBits (s : Safe) : Nat :=
  foldN 12 (fun v k => v + b2n (s.role k != 0 && s.role k != 7 && !s.request k
    && (roleFns (s.role k)).all fun f => decide (s.func f = .run)) * 2 ^ k) 0

/-- The higher speed in mm/s, rounded down, saturating at 16 bits. -/
def Safe.mmPerS (s : Safe) : Nat :=
  let v := if S.lt s.speedA s.speedB then s.speedB else s.speedA
  sat16 (S.scaled v * 1000 / ((2 ^ 149 : Nat) : Int)).toNat

/-- Transmit PDU data (Table 08-14). -/
def Safe.txData (s : Safe) : Bytes :=
  le 1 s.st.code ++ le 1 (foldN 5 (fun v f => v + b2n (decide (s.func f = .run)) * 2 ^ f) 0) ++ le 2 s.mmPerS
    ++ le 2 s.permitBits ++ le 1 s.outBits
    ++ le 1 (b2n s.standstill + b2n s.serviceMode * 2 + b2n s.degraded * 4)

/-- CRC of a safety PDU: CRC-32C over the identifier and bytes 0–11 from the channel's initial value (R472). -/
def pduCrc (ch : Nat) (id : Nat) (body : Bytes) : Nat :=
  crcR 0x82F63B78 (if ch = 6 then 0xE00000E3 else 0x10000013) 0xFFFFFFFF (le 4 id ++ body.take 12)

/-- The PDU with its data as it goes out on a channel (Table 08-13): a CAN FD frame of 16 bytes with a 29-bit
identifier. -/
def Safe.pdu (s : Safe) (data : Bytes) (ch : Nat) : CanFrame :=
  let id := s.fld 104 4
  let body := data ++ le 2 s.txSeq.toNat ++ le 1 (s.fld 109 1) ++ le 1 1
  { idw := w32 (id + 2 ^ 29), dlc := 10, fdf := true, data := body ++ le 4 (pduCrc ch id body) }

/-- The own PDU with its data is handed to both safety mailboxes at `raw` and takes the next seq; the 10 ms period starts
again (R211) (log entry 37). -/
def Mod.sendPdu (m : Mod) (data : Bytes) (raw : Nat) : Mod :=
  let s := m.safe
  let ch := Tab.upd {} m.can.ch 6 fun c => { c with mailbox := some (s.pdu data 6) }
  let ch := Tab.upd {} ch 7 fun c => { c with mailbox := some (s.pdu data 7) }
  { m with can := { m.can with ch := ch },
           safe := { s with txSeq := s.txSeq + 1, txLast := data, txRaw := raw } }

/-- The eight slots of a cycle, and its PDU where the data have changed, are due 740 µs after its start (R190, R211). -/
def Mod.stageSlots (m : Mod) (pdu : Bool) : Mod :=
  m.setSafe { m.safe with slotsDue := some (m.now + us 740, m.safe.slots), pduDue := if pdu then some m.safe.txData else none }

/-- The eight slots that wait are written and the PDU sent, where their time has come by `raw` (R190, R211). -/
def Mod.safeSlots (m : Mod) (raw : Nat) : Mod :=
  match m.safe.slotsDue with
  | none => m
  | some (due, vs) =>
    if raw < due then m
    else
      let m := match m.safe.pduDue with | none => m | some d => m.sendPdu d due
      foldN 8 (fun m i => m.fxPut 5 (248 + i) (vs.getD i 0) true)
        (m.setSafe { m.safe with slotsDue := none, pduDue := none })

/-- When the PDU goes that a cycle has staged, if one waits (R211). -/
def Safe.pduWait (s : Safe) : Option Nat := if s.pduDue.isSome then s.slotsDue.map (·.1) else none

/-- The module as a CAN controller meets it: a PDU whose 740 µs have come stands in the safety mailboxes of CAN7 and CAN8
(R211). -/
def Mod.pduReady (m : Mod) (ch : Nat) : Mod := if ch = 6 ∨ ch = 7 then m.safeSlots m.now else m

/-- Bytes 0, 1, 4, 6 or 7 of the transmit data differ from those of the last PDU sent (R211). -/
def Safe.txChanged (s : Safe) : Bool :=
  let d := s.txData
  [0, 1, 4, 6, 7].any fun k => d.getD k 0 != s.txLast.getD k 0

/-! ### The cycle (R190) -/

/-- The Safety Processor runs its cycle: PD4 on and CK_SAFE sound, code loaded, past its start-up test. -/
def Mod.safeCycles (m : Mod) : Bool := m.safeOn && m.safe.spRuns && m.safe.st != .init && m.safe.st != .test

/-- A press of the RESET pair of over 5 s is reported once (R200). -/
def Mod.stuckCheck (m : Mod) : Mod :=
  match m.safe.press, m.safe.pairOf 5 with
  | some r, some k =>
    if !m.safe.stuck && decide (r + secs 5 < m.now) && m.safe.pairRun k then
      (m.setSafe { m.safe with stuck := true }).ev 66 k 5 true
    else m
  | _, _ => m

/-- A communication fault (R212): no seq counts as accepted, STOP_ALL acts, EV069 with its code. The
watchdog leaves the one copy of a first seq that waits for its other. -/
def Mod.commFault (m : Mod) (code : Nat) : Mod :=
  let had := m.safe.commFault
  let m := m.setSafe { m.safe with commFault := true, rxSeq := none, rxPaired := false, singles := 0,
                                   rxFirst := if code = 16 ∧ m.safe.rxSeq = none then m.safe.rxFirst else none,
                                   sound := 0, rxRaw := m.now }
  if had then m else (m.setSafe { m.safe with commCode := code }).ev 69 0 code true

/-- A copy is discarded and counted. -/
def Mod.discardCopy (m : Mod) : Mod := m.setSafe { m.safe with discards := inc32 m.safe.discards }

/-- The flag degraded, with EV069 code 13 where it changes. -/
def Mod.linkDegraded (m : Mod) (b : Bool) : Mod :=
  if m.safe.degraded = b then m else (m.setSafe { m.safe with degraded := b }).ev 69 0 13 b

/-- Once 5 ms have passed since its first copy, an unpaired seq is settled as single: degraded, and a communication fault
at the fourth in a row; where no seq counts as accepted yet, its one copy is discarded and counted (R212) (log entry 37). -/
def Mod.settleSeq (m : Mod) : Mod :=
  match m.safe.rxFirst with
  | none => m
  | some (_, _, _, r) =>
    if m.safe.rxPaired ∨ m.now ≤ r + ms 5 then m
    else match m.safe.rxSeq with
      | none => m.discardCopy.setSafe { m.discardCopy.safe with rxFirst := none }
      | some _ =>
        let m := (m.setSafe { m.safe with rxPaired := true, singles := m.safe.singles + 1, sound := 0 }).linkDegraded true
        if 4 ≤ m.safe.singles then m.commFault 13 else m

/-- Speed of a channel of the SPEED pair at a cycle: no pulse yet reads 0 (R197). -/
def Mod.sensor (m : Mod) (i off : Nat) : Spd :=
  let c : SinCh := Tab.get {} m.safe.sin i
  match c.edge with
  | none => ⟨0, 1⟩
  | some e => spd (m.safe.fld off 2) c.period (m.now - e)

/-- One cycle, from the inputs as sampled at its start to the switches; the slots and the PDU follow 740 µs after its
start. A fault of the SPEED pair that is new since the last cycle acts as SPEED_DISC (R206, R219). -/
def Mod.safetyCycle (m : Mod) (inp : SafeIn) : Mod :=
  if !m.safeCycles then m else
  let svc := m.safe.serviceMode
  let m := ((m.safeSlots m.now).darkPoll.settleSeq).jackPoll
  let m := if inp.tick && m.safe.tickLocal then (m.setSafe { m.safe with tickLocal := false }).ev 64 0 9 false else m
  let m := m.setSafe { m.safe with cycles := m.safe.cycles + 1, cycleRaw := some m.now }
  let k7 := (m.safe.pairOf 7).getD 0
  let va := m.sensor (2 * k7) 96
  let vb := m.sensor (2 * k7 + 1) 98
  let reset := m.safe.resetPulse
  let m := m.setSafe { m.safe with resetPulse := false }
  -- a reset follows the cycles in which the channels were safe together (R200)
  let m := if reset then m.clearPairs else m
  let m := m.readbacks inp
  let m := m.speedCycle va vb
  let m := foldN 12 Mod.pairCycle m
  let m := m.stuckCheck
  let m := if reset ∧ m.safe.st = .waitReset then m.setSafeSt .run else m
  let still := m.safe.pairOf 7 |>.elim false fun _ => va.stopped && vb.stopped
  let discNow := m.safe.speedFault && !m.safe.discSeen
  let m := if discNow && !still then m.speedDiscToo else m
  let m := (m.setSafe { m.safe with discSeen := m.safe.speedFault }).seatWatch
  let m := if m.safe.st = .run then
      let m := m.sf4Cycle reset
      let m := m.sf5Cycle reset
      let m := m.sf1Cycle (va.max vb) still reset discNow
      let m := m.sfStop 1 3 m.safe.trig2 reset
      m.sfStop 2 4 m.safe.trig3 reset
    else m
  let m := m.setSafe m.safe.switches
  let m := if m.safe.service && !m.safe.standstill then m.setSafe { m.safe with service := false } else m
  let m := Mod.watchService svc m
  m.stageSlots (m.safe.rcd.isSome && m.safe.txChanged)

/-- The first multiple of `step` from `base` on that lies at `now` or later and after `last`. -/
def nextFrom (base step now : Nat) (last : Option Nat) : Nat :=
  let t := match last with | some r => max now (r + 1) | none => now
  if t ≤ base then base else base + ((t - base + step - 1) / step) * step

/-- The next tick of the safety cycle: the start of a frame whose number is a multiple of 4, while frames run; else the
cycle's own rhythm of 1 ms (R190, R191). -/
def Mod.nextTick (m : Mod) : Nat :=
  if m.lanes.run && m.lanes.started then nextFrom m.lanes.f0 (4 * frameCounts) m.now m.safe.cycleRaw
  else match m.safe.cycleRaw with
    | some r => max m.now (r + ms 1)
    | none => m.now

/-- SAFETY_CYCLE (R190). -/
def execSafetyCycle (inp : SafeIn) (s : State) : Host.Outcome State Fault Refusal := s.act fun m =>
  if m.safeCycles then (m.until m.nextTick).safetyCycle inp else m

/-- When the Safety Processor starts a cycle itself: 20 µs after the tick it expected, and every 1 ms from then on
(R191) (log entry 37). -/
def Mod.localTick (m : Mod) : Nat :=
  match m.safe.cycleRaw with
  | some r => if m.safe.tickLocal then r + ms 1 else r + ms 1 + us 20
  | none => m.nextTick + us 20

/-- SAFETY_TICK_MISSING (R191): tick_local is set and EV064 raised, then the functions run unchanged. -/
def execSafetyTickMissing (inp : SafeIn) (s : State) : Host.Outcome State Fault Refusal := s.act fun m =>
  if !m.safeCycles then m else
  let m := m.until m.localTick
  let m := if m.safe.tickLocal then m else (m.setSafe { m.safe with tickLocal := true }).ev 64 0 9 true
  m.safetyCycle { inp with tick := false }

/-! ### Test pulses, filters and inputs (R192–R196) -/

/-- Raw counts of the 20 ms between two pulses of a supply. -/
def pulsePeriod : Nat := 2500000

/-- The last pulse of a supply: 0 TPA, 1 TPB. -/
def Safe.pulse (s : Safe) (supply : Nat) : Option Nat := if supply = 0 then s.pulseA else s.pulseB

/-- When the next pulse of a supply starts: TPA at frames multiple of 80, TPB 40 frames later; on CK_SAFE's own rhythm
while the tick is missing or no frame runs (R194). -/
def Mod.nextPulse (m : Mod) (supply : Nat) : Nat :=
  if m.lanes.run && m.lanes.started && !m.safe.tickLocal then
    nextFrom (m.lanes.f0 + supply * 40 * frameCounts) pulsePeriod m.now (m.safe.pulse supply)
  else match m.safe.pulse supply with
    | some r => nextFrom (r + pulsePeriod) pulsePeriod m.now none
    | none => m.now

/-- The Safety Controller gives and checks test pulses: the Safety Processor runs, or Jack alone under the record it has
latched (Table 08-1). -/
def Mod.pulses (m : Mod) : Bool := m.safeOn && (m.safe.spRuns || m.safe.rcd.isSome)

/-- TEST_PULSE (R194): supply 0 is TPA, 1 is TPB. -/
def execTestPulse (supply : Nat) (s : State) : Host.Outcome State Fault Refusal := s.act fun m =>
  if !m.pulses || 1 < supply then m else
  let m := m.until (m.nextPulse supply)
  m.setSafe (if supply = 0 then { m.safe with pulseA := some m.now } else { m.safe with pulseB := some m.now })

/-- A suspicion of one channel at one pulse in the Safety Processor: repeated at the next pulse of the kind it is confirmed
and latches. -/
def Mod.spSuspect (m : Mod) (i : Nat) (cross bad : Bool) : Mod :=
  let c : SinCh := Tab.get {} m.safe.sin i
  let had := if cross then c.suspCross else c.suspSupply
  let c := if cross then { c with suspCross := bad } else { c with suspSupply := bad }
  let m := m.setSafe { m.safe with sin := Tab.put {} m.safe.sin i c }
  if bad && had then m.latchPair (i / 2) (if cross then 3 else 2) else m

/-- The same in Jack, which judges the pulses too and keeps its own pair faults (Table 08-1) (log entry 37). -/
def Mod.jackSuspect (m : Mod) (i : Nat) (cross bad : Bool) : Mod :=
  let c : SinCh := Tab.get {} m.safe.sin i
  let had := if cross then c.jsuspCross else c.jsuspSupply
  let c := if cross then { c with jsuspCross := bad } else { c with jsuspSupply := bad }
  let m := m.setSafe { m.safe with sin := Tab.put {} m.safe.sin i c }
  if bad && had && m.safe.role (i / 2) != 0 then
    m.setSafe { m.safe with pair := Tab.upd {} m.safe.pair (i / 2) fun p => { p with jfault := true } } else m

/-- A suspicion of one channel at one pulse, in each of the two that runs. -/
def Mod.suspect (m : Mod) (i : Nat) (cross bad : Bool) : Mod :=
  let m := if m.safe.spRuns then m.spSuspect i cross bad else m
  if m.safe.rcd.isSome then m.jackSuspect i cross bad else m

/-- Every channel is judged at a pulse of a supply: `levels` are the inputs at 250 µs of the pulse, `before` those just
before and just after (R195). -/
def Mod.judgePulse (m : Mod) (supply : Nat) (levels before : BitVec 24) : Mod :=
  foldN 24 (fun m i =>
    if i % 2 = supply % 2 then m.suspect i false (levels.toNat.testBit i)
    else m.suspect i true (!levels.toNat.testBit i && before.toNat.testBit i)) m

/-- The check of a pulse, 250 µs after its start; Jack acts on it at once (R195). -/
def Mod.pulseCheck (m : Mod) (supply : Nat) (levels before : BitVec 24) : Mod :=
  if !m.pulses then m else
  let m := match m.safe.pulse supply with
    | some r => m.until (r + us 250)
    | none => m
  (m.judgePulse supply levels before).jackPoll

/-- PULSE_CHECK (R195). -/
def execPulseCheck (supply : Nat) (levels before : BitVec 24) (s : State) : Host.Outcome State Fault Refusal :=
  s.act (Mod.watched fun m => m.pulseCheck supply levels before)

/-- Place of an instant in the blanking of a supply whose pulses run through `pulse`: the windows run from 50 µs before to
350 µs after each pulse (R194); none outside them. -/
def blankAt (pulse : Option Nat) (t : Nat) : Option Nat :=
  match pulse with
  | none => none
  | some p =>
    let o := (t + us 50 + pulsePeriod * (p / pulsePeriod + 1) - p) % pulsePeriod
    if o < us 400 then some o else none

/-- The filter sees, at the end of a blank, the level that the input took inside it. -/
def SinCh.afterBlank (c : SinCh) : SinCh :=
  match c.held with
  | some e => { c with seen := c.level, since := e, held := none, blanked := true }
  | none => c

/-- An input takes a level: outside blanking its filter starts again; inside, the filter stands until the blank's end, and
a level that has come back by then has not been seen (R194, R196, R219). -/
def SinCh.take (c : SinCh) (level : Bool) (pulse : Option Nat) (now : Nat) : SinCh :=
  let c := if c.held.elim false (fun e => decide (e ≤ now)) then c.afterBlank else c
  if level = c.level then c
  else match blankAt pulse now with
    | some o => { c with level := level, held := if level = c.seen then none else some (now + (us 400 - o)) }
    | none => { c with level := level, seen := level, since := now, held := none, blanked := false }

/-- An input takes a level. -/
def Mod.sinEdge (m : Mod) (i : Nat) (level : Bool) : Mod :=
  m.setSafe { m.safe with sin := Tab.upd {} m.safe.sin i fun c => c.take level (m.safe.pulse (i % 2)) m.now }

/-- SAFETY_INPUT_EDGE (R196): the raw level changes and the filter starts again. -/
def execSafetyInputEdge (sin : Nat) (level : Bool) (s : State) : Host.Outcome State Fault Refusal := s.act fun m =>
  if 24 ≤ sin then m else m.sinEdge sin level

/-- Filter time of an input in raw counts (R196, R197). -/
def Safe.filterTime (s : Safe) (i : Nat) : Nat := if s.role (i / 2) = 7 then us 20 else us (100 * s.fld (6 * (i / 2) + 2) 1)

/-- When a level that the filter has seen since `since` has been steady for `len` outside blanking (R194, R196). -/
def filterDue (pulse : Option Nat) (since len : Nat) : Nat :=
  match pulse with
  | none => since + len
  | some p =>
    -- offset of `since` in the rhythm, counted from the start of a window
    let o := (since + us 50 + pulsePeriod * (p / pulsePeriod + 1) - p) % pulsePeriod
    let start := if o < us 400 then since + (us 400 - o) else since
    let next := since + (pulsePeriod - o)
    if next < start + len then start + len + us 400 else start + len

/-- The filtered level of a SPEED channel rises: a pulse, timed by its first transition; one inside blanking is ignored
(R197). -/
def SinCh.timed (c : SinCh) : SinCh :=
  if !c.seen || c.blanked then c
  else { c with edge := some c.since, period := match c.edge with | some e => c.since - e | none => 0 }

/-- SAFETY_FILTER_EXPIRY (R196): the filtered states of the Safety Processor and of Jack follow the raw state; a press of
the RESET pair starts when both channels run (R200). -/
def execSafetyFilterExpiry (sin : Nat) (s : State) : Host.Outcome State Fault Refusal := s.act fun m =>
  let c := (Tab.get {} m.safe.sin sin : SinCh).afterBlank
  if 24 ≤ sin ∨ (c.seen = c.filt ∧ c.seen = c.jfilt) ∨ !m.safeOn then m else
  let svc := m.safe.serviceMode
  -- a discrepancy that has lasted its time by now counts, though this level ends it (Table 08-3)
  let m := (m.until (filterDue (m.safe.pulse (sin % 2)) c.since (m.safe.filterTime sin))).darkPoll.jackPoll
  let was := m.safe.pairRun (sin / 2)
  let c := if m.safe.role (sin / 2) = 7 ∧ c.seen ≠ c.filt then c.timed else c
  let c := { c with filt := if m.safe.spRuns then c.seen else c.filt, jfilt := c.seen }
  let m := m.setSafe { m.safe with sin := Tab.put {} m.safe.sin sin c }
  let m := if m.safe.role (sin / 2) = 5 && !was && m.safe.pairRun (sin / 2) then
      m.setSafe { m.safe with press := some m.now } else m
  let m := m.jackPoll
  Mod.watchService svc m

/-- RESET_RELEASE (R200): a press of 0.1–5.0 s gives a valid reset, a longer one ends RESET_STUCK, any other is
ignored. A SERVICE_MODE entry that waits is completed by a valid reset within its 10 s (0x0710). -/
def execResetRelease (s : State) : Host.Outcome State Fault Refusal := s.act fun m =>
  match m.safe.press, m.safe.pairOf 5 with
  | some r, some k =>
    if m.safe.pairRun k then m else
    let d := m.now - r
    let m := if m.safe.stuck then m.ev 66 k 5 false
             else if secs 5 < d then (m.ev 66 k 5 true).ev 66 k 5 false else m
    let faulty := (Tab.get {} m.safe.pair k : SafePair).fault != 0
    let valid := decide (ms 100 ≤ d) && decide (d ≤ secs 5) && !faulty
    let m := m.setSafe { m.safe with press := none, stuck := false, resetPulse := m.safe.resetPulse || valid }
    let m := if valid then m.jackReset else m
    let waits := m.port.flight.filter fun f => f.opcode == 0x0710
    if valid && m.safe.serviceWait.elim false (fun e => decide (m.now ≤ e)) then
      let svc := m.safe.serviceMode
      let m := m.setSafe { m.safe with serviceWait := none, service := m.safe.standstill }
      let m := Mod.watchService svc m
      waits.foldl (fun m f => m.finish 0x0710 f.cmd St.ok) m
    else m
  | _, _ => m

/-! ### Jack's times (R187, R188, R207, R209) and the output tests (R201, R202) -/

/-- Jack opens the J switches of both ground groups until SF1's restart (R207). -/
def Mod.jackOpensGround (m : Mod) : Mod :=
  m.setSafe { m.safe with
    jackGround := true
    sout := foldN 8 (fun t o => if m.safe.group o = 1 ∨ m.safe.group o = 2 then
      Tab.upd {} t o fun x => { x with j := false } else t) m.safe.sout }

/-- Jack acts on the trip line, 2.0 ms after it asserts (R207). -/
def Mod.tripFiltered (m : Mod) : Mod :=
  match m.safe.tripLine with
  | none => m
  | some r => (m.until (r + ms 2)).jackOpensGround

/-- JACK_TRIP_LINE (R207). -/
def execJackTripLine (s : State) : Host.Outcome State Fault Refusal := s.act (Mod.watched Mod.tripFiltered)

/-- When Jack first saw the oldest demand that stands: an ESTOP of its own, or one the Safety Processor signals (R207). -/
def Safe.oldestDemand (s : Safe) : Option Nat :=
  match s.estopRaw, s.demandRaw with
  | some a, some b => some (min a b)
  | some a, none => some a
  | none, b => b

/-- A demand that still stands t_max + 1 s after Jack first saw it opens the J switches of both ground groups (R207). -/
def Mod.backstop (m : Mod) : Mod :=
  match m.safe.oldestDemand with
  | none => m
  | some r =>
    let due := r + ms (m.safe.fld 92 2 + 1000)
    let m := (m.until due).jackPoll
    if m.safe.oldestDemand.elim false (fun t => decide (t + ms (m.safe.fld 92 2 + 1000) ≤ m.now)) then m.jackOpensGround else m

/-- JACK_BACKSTOP (R207). -/
def execJackBackstop (s : State) : Host.Outcome State Fault Refusal := s.act (Mod.watched Mod.backstop)

/-- Jack's SEAT delay passes and it opens the switches of SF2 and SF3; then the Safety Processor's, in which SF4 activates
the triggers of SF2 and SF3 (R209). -/
def Mod.seatPassed (m : Mod) : Mod :=
  if !m.safeOn then m else
  let d := ms (100 * m.safe.fld 94 2)
  let m := match m.safe.jseatRaw with
    | some r => if m.safe.jseatTrip then m else (m.until (r + d)).jackPoll
    | none => m
  match m.safe.seatRaw with
  | some r => if m.safe.func 3 = .delay && m.safe.spRuns then (m.until (r + d)).seatExpire else m
  | none => m

/-- SEAT_DELAY_EXPIRY (R209). -/
def execSeatDelayExpiry (s : State) : Host.Outcome State Fault Refusal := s.act (Mod.watched Mod.seatPassed)

/-- When the next dark test of an output's switch is due: P every dark_period seconds, the outputs 10 ms apart; J 500 ms
after the last P test, where that has not had its J test yet (R202) (log entry 37). -/
def Safe.darkDue (s : Safe) (o : Nat) (jack : Bool) (now : Nat) : Option Nat :=
  let x := s.out o
  if jack then
    match x.darkP with
    | none => none
    | some p => if x.darkJ.elim true (fun j => decide (j < p)) then some (p + ms 500) else none
  else some (nextFrom (s.darkBase + ms (10 * o)) (secs (s.fld (80 + o) 1)) now x.darkP)

/-- At its instant the J switch, or the P switch, of an energised output opens for 300 µs; a switch whose pin does not fall
within 200 µs (`ok` false) is faulted (R202). -/
def Mod.darkTest (m : Mod) (out : Nat) (jack ok : Bool) : Mod :=
  let m := m.darkPoll
  match m.safe.darkDue out jack m.now with
  | none => m
  | some t =>
    if 8 ≤ out ∨ !m.safe.energised out ∨ m.safe.fld (80 + out) 1 = 0 ∨ !m.safe.spRuns then m
    else
      let m := (m.until t).darkPoll
      let m := m.setSafe { m.safe with
        dark := some (out, jack, m.now + us 300)
        sout := Tab.upd {} m.safe.sout out fun x =>
          if jack then { x with j := false, darkJ := some m.now } else { x with p := false, darkP := some m.now } }
      if ok then m else (m.until (m.now + us 200)).latchOut out (if jack then 7 else 6)

/-- DARK_TEST (R202). -/
def execDarkTest (out : Nat) (jack ok : Bool) (s : State) : Host.Outcome State Fault Refusal :=
  s.act (Mod.watched fun m => m.darkTest out jack ok)

/-- LIMITATION_SWITCH_OFF (R201): an output in limitation for 10 ms switches off. -/
def execLimitationSwitchOff (out : Nat) (s : State) : Host.Outcome State Fault Refusal := s.act (Mod.watched fun m =>
  let m := m.darkPoll
  if 8 ≤ out ∨ !m.safe.energised out then m else m.latchOut out 8)

/-- Jack opens every J switch until PD4 restarts (R188). -/
def Safe.jackOpensAll (s : Safe) : Safe :=
  { s with jackLatch := true,
           sout := foldN 8 (fun t o => Tab.upd {} t o fun x => { x with j := false }) s.sout }

/-- JACK_CLOCK_FAIL (R188). -/
def execJackClockFail (s : State) : Host.Outcome State Fault Refusal := s.act fun m =>
  if m.pd 4 then m.setSafe m.safe.jackOpensAll else m

/-- LIFE_LINE_TIMEOUT (R188): 2.0 ms after the life line last toggled, which it does once a cycle. -/
def execLifeLineTimeout (s : State) : Host.Outcome State Fault Refusal := s.act fun m =>
  if !m.pd 4 then m
  else
    let m := match m.safe.cycleRaw with | some r => m.until (r + ms 2) | none => m
    m.setSafe m.safe.jackOpensAll

/-- LOCKSTEP_MISMATCH (R188): every P switch opens and the life line stops. -/
def execLockstepMismatch (s : State) : Host.Outcome State Fault Refusal := s.act fun m =>
  if !m.pd 4 then m else
  m.setSafe { m.safe with spRuns := false,
                          sout := foldN 8 (fun t o => Tab.upd {} t o fun x => { x with p := false }) m.safe.sout }

/-! ### Safety PDUs (R211, R212) -/

/-- Safety PDUs run: the Safety Processor cycles under a record, which alone gives their identifiers (R211, R216) (log entry
37). -/
def Mod.safePdus (m : Mod) : Bool := m.safeCycles && m.safe.rcd.isSome

/-- SAFETY_PDU_TX (R211): the PDU of a cycle goes at its 740 µs, where one waits; else the next goes 10 ms after the last.
So a cycle sends at most one. -/
def execSafetyPduTx (s : State) : Host.Outcome State Fault Refusal := s.act fun m =>
  if !m.safePdus then m
  else match m.safe.pduWait with
  | some due => (m.until due).safeSlots (m.until due).now
  | none => (m.until (m.safe.txRaw + ms 10)).sendPdu m.safe.txData (m.until (m.safe.txRaw + ms 10)).now

/-- A received copy whose identifier, CRC, source and format are right (R212) (log entry 37). -/
def Mod.pduCopy (m : Mod) (ch : Nat) (seq : BitVec 16) (data : Bytes) : Mod :=
  let m := m.settleSeq
  let s := m.safe
  let first : Option (Nat × BitVec 16 × Bytes × Nat) := some (ch, seq, data, m.now)
  match s.rxSeq with
  | none =>
    match s.rxFirst with
    | some (ch', seq', d', _) =>
      if ch' ≠ ch ∧ seq' = seq then
        if d' = data then
          (m.setSafe { s with rxSeq := some seq, rxData := data, rxFirst := first, rxPaired := true, rxRaw := m.now,
                              sound := s.sound + 1, singles := 0 }).linkDegraded false
        else m.commFault 14
      else m.discardCopy.setSafe { m.discardCopy.safe with rxFirst := first }
    | none => m.setSafe { s with rxFirst := first }
  | some a =>
    let d := (seq - a).toNat
    if d = 0 then
      match s.rxFirst with
      | some (ch', _, d', _) =>
        if ch' = ch ∨ s.rxPaired then m.discardCopy
        else if d' = data then
          (m.setSafe { s with rxPaired := true, sound := s.sound + 1, singles := 0, rxRaw := m.now }).linkDegraded false
        else m.commFault 14
      | none => m.discardCopy
    else if d ≤ 3 then
      let single := !s.rxPaired
      let singles := if single then s.singles + 1 else s.singles
      if 4 ≤ singles then m.commFault 13
      else
        let m := m.setSafe { s with rxSeq := some seq, rxData := data, rxFirst := first, rxPaired := false,
                                    rxRaw := m.now, singles := singles, sound := if single ∨ 1 < d then 0 else s.sound }
        if single then m.linkDegraded true else m
    else if d < 2 ^ 15 then m.commFault 15
    else m.discardCopy

/-- A frame on CAN7 (6) or CAN8 (7) is the remote safety PDU, by its 29-bit identifier (R211, R328). -/
def Mod.isSafetyPdu (m : Mod) (ch : Nat) (f : CanFrame) : Bool :=
  (ch == 6 || ch == 7) && m.safe.rcd.isSome && f.fdf && f.idw.toNat % 2 ^ 31 == m.safe.fld 100 4 + 2 ^ 29

/-- The safety mailbox of a channel takes a received copy (R212). -/
def Mod.safetyPdu (m : Mod) (ch : Nat) (id : BitVec 32) (data : Bytes) : Mod :=
  if !m.safeCycles then m
  else if m.safe.rcd.isSome ∧ id.toNat % 2 ^ 29 = m.safe.fld 100 4 ∧ rd data 12 4 = pduCrc ch (id.toNat % 2 ^ 29) data
      ∧ rd data 10 1 = m.safe.fld 108 1 ∧ rd data 11 1 = 1 ∧ data.length = 16 then
    m.pduCopy ch (BitVec.ofNat 16 (rd data 8 2)) (data.take 8)
  else m.discardCopy

/-- PDU_WATCHDOG (R212): no accepted copy for 25 ms. -/
def execPduWatchdog (s : State) : Host.Outcome State Fault Refusal := s.act fun m =>
  if m.safePdus then (m.until (m.safe.rxRaw + ms 25)).commFault 16 else m

/-! ### Start (R213, R214, R216) -/

/-- What survives a start of PD4: the staged record in its area of the system bank, until it has been confirmed and
stored and so comes into force (R423). -/
def Safe.restart (s : Safe) (stored : Option Bytes) : Safe :=
  if s.confirmed && s.staged == stored then {} else { staged := s.staged, confirmed := s.confirmed }

/-- The start-up test (R214): two pulses of each supply in turn, each P and each J switch closed alone, and Jack's lines; a
part that fails latches its fault, and the controller enters FAULT (log entry 37). -/
def Mod.startTest (m : Mod) (t : SafetyTest) : Mod :=
  let m := [(0, t.pulseA), (1, t.pulseB), (0, t.pulseA2), (1, t.pulseB2)].foldl
    (fun (m : Mod) p => m.judgePulse p.1 p.2.1 p.2.2) m
  let m := foldN 8 (fun (m : Mod) o =>
    let code := if !t.pPinLow.toNat.testBit o then 7 else if !t.pNodeHigh.toNat.testBit o then 6
      else if !t.jPinLow.toNat.testBit o then 6 else 0
    if code = 0 then m else m.latchOut o code) m
  if t.lines && m.safe.faultBits == 0 && m.safe.outFaultBits == 0 then m.setSafeSt .waitReset else m.setSafeSt .fault

/-- SAFETY_START (R213): Jack latches the stored record and checks its second CRC, the Safety Processor is loaded and checks
the first, and the start-up test runs. A record that the Safety Processor finds invalid counts as none; one that Jack
finds invalid makes it hold every J switch open until the next start (R187, R216). Both start once with each start of PD4,
and what has made Jack open every J switch before holds on (R188) (log entry 37). -/
def execSafetyStart (test : SafetyTest) (s : State) : Host.Outcome State Fault Refusal := s.act fun m =>
  if !m.safeOn ∨ m.safe.st ≠ .init then m else
  let rcd := if test.spOk then m.nvs.safety else none
  let m := m.setSafe { m.safe.restart m.nvs.safety with
    spRuns := true, rcd := rcd, rxRaw := m.now, txRaw := m.now, jackLatch := m.safe.jackLatch }
  if rcd.isNone then (m.ev 71 0 19 true).setSafeSt .noParams
  else
    let m := if test.jackOk then m else (m.setSafe m.safe.jackOpensAll).ev 71 0 19 true
    (m.setSafeSt .test).startTest test

/-- FOLDBACK (R192): a supply loaded above 150 mA folds back and all of its channels read low. -/
def execFoldback (supply : Nat) (on : Bool) (s : State) : Host.Outcome State Fault Refusal := s.act fun m =>
  if 1 < supply ∨ !m.pd 4 ∨ (if supply = 0 then m.safe.foldA else m.safe.foldB) = on then m else
  let x := if supply = 0 then { m.safe with foldA := on } else { m.safe with foldB := on }
  let x := if on then { x with sin := foldN 12 (fun t k =>
      Tab.upd {} t (2 * k + supply) fun c => c.take false (x.pulse supply) m.now) x.sin } else x
  (m.setSafe x).ev 67 supply (10 + supply) on

/-! ### SAFE class operations -/

/-- Instances of the SAFE class: the controller and pairs share the numbers 0–11. -/
def safeInsts : Nat := 12

/-- 0x0701 -/
def opSafeGetInfo : Op := opInfo 7 safeInsts

/-- 0x0702 (R213). -/
def opSafeGetStatus : Op where
  len := exactly 0
  body := fun _ m =>
    let m := m.darkPoll
    let s := m.safe
    let r := s.rcd
    Res.ok m (le 1 s.st.code
      ++ le 1 (b2n s.standstill + b2n s.serviceMode * 2 + b2n s.degraded * 4 + b2n s.tickLocal * 8)
      ++ (List.range 5).flatMap (fun f => le 1 (s.func f).code) ++ le 1 s.outBits ++ le 1 s.outFaultBits ++ le 1 0
      ++ le 2 s.faultBits ++ le 4 s.runBits ++ le 4 s.speedA.toNat ++ le 4 s.speedB.toNat ++ le 4 s.cycles.toNat
      ++ le 4 s.discards ++ le 4 (r.elim 0 crcSp) ++ le 4 (r.elim 0 crcJack))

/-- 0x0703 (R216): the record is staged and does not take effect. -/
def opSafeSetConfig : Op where
  len := exactly 112
  body := fun c m =>
    if safeRecordOk c.params then
      Res.ok (m.setSafe { m.safe with staged := some (slice c.params 0 112), confirmed := false })
    else Res.err m St.badParam

/-- 0x0704 (R216). -/
def opSafeGetConfig : Op where
  len := exactly 4
  body := fun c m =>
    if 1 < rd c.params 0 1 || !isZero c.params 1 3 then Res.err m St.badParam
    else match (if rd c.params 0 1 = 0 then m.safe.rcd else m.safe.staged) with
      | none => Res.err m St.notReady
      | some r => Res.ok m (r ++ le 4 (crcSp r) ++ le 4 (crcJack r))

/-- 0x0710 (R215) (log entry 37). -/
def opServiceMode : Op where
  len := exactly 4
  body := fun c m =>
    if 1 < rd c.params 0 1 || !isZero c.params 1 3 then Res.err m St.badParam
    else if (m.safe.pairOf 6).isSome then Res.err m St.denied
    else if rd c.params 0 1 = 0 then
      let svc := m.safe.serviceMode
      Res.ok (Mod.watchService svc (m.setSafe { m.safe with service := false }))
    else if !m.safe.standstill then Res.err m St.notReady
    else Res.accepted (m.setSafe { m.safe with serviceWait := some (m.now + secs 10) })

/-- 0x0711 (R216). -/
def opConfirmParams : Op where
  len := exactly 8
  body := fun c m =>
    match m.safe.staged with
    | none => Res.err m St.notReady
    | some r =>
      if rd c.params 0 4 = crcSp r ∧ rd c.params 4 4 = crcJack r then
        Res.ok (m.setSafe { m.safe with confirmed := true })
      else Res.err m St.badParam

/-- SAFE_GET_INFO (R98). -/
def execSafeGetInfo (c : Cmd) (s : State) : Host.Outcome State Fault Refusal := s.act fun m => m.serve 0x0701 opSafeGetInfo c
/-- SAFE_GET_STATUS (R213). -/
def execSafeGetStatus (c : Cmd) (s : State) : Host.Outcome State Fault Refusal := s.act fun m => m.serve 0x0702 opSafeGetStatus c
/-- SAFE_SET_CONFIG (R216). -/
def execSafeSetConfig (c : Cmd) (s : State) : Host.Outcome State Fault Refusal := s.act fun m => m.serve 0x0703 opSafeSetConfig c
/-- SAFE_GET_CONFIG (R216). -/
def execSafeGetConfig (c : Cmd) (s : State) : Host.Outcome State Fault Refusal := s.act fun m => m.serve 0x0704 opSafeGetConfig c
/-- 0x0705: denied on every ring. -/
def opSafeEnable : Op := opNever safeInsts
/-- 0x0706: denied on every ring. -/
def opSafeDisable : Op := opNever safeInsts
/-- 0x0707: denied on every ring. -/
def opSafeResetInstance : Op := opNever safeInsts
/-- SAFE_ENABLE (R106). -/
def execSafeEnable (c : Cmd) (s : State) : Host.Outcome State Fault Refusal := s.act fun m => m.serve 0x0705 opSafeEnable c
/-- SAFE_DISABLE (R106). -/
def execSafeDisable (c : Cmd) (s : State) : Host.Outcome State Fault Refusal := s.act fun m => m.serve 0x0706 opSafeDisable c
/-- SAFE_RESET_INSTANCE (R106). -/
def execSafeResetInstance (c : Cmd) (s : State) : Host.Outcome State Fault Refusal := s.act fun m => m.serve 0x0707 opSafeResetInstance c
/-- SERVICE_MODE (R215). -/
def execServiceMode (c : Cmd) (s : State) : Host.Outcome State Fault Refusal := s.act fun m => m.serve 0x0710 opServiceMode c
/-- CONFIRM_PARAMS (R216). -/
def execConfirmParams (c : Cmd) (s : State) : Host.Outcome State Fault Refusal := s.act fun m => m.serve 0x0711 opConfirmParams c

/-- SERVICE_MODE_TIMEOUT (R215): no valid reset press within 10 s (log entry 37). -/
def execServiceModeTimeout (s : State) : Host.Outcome State Fault Refusal := s.act fun m =>
  match m.safe.serviceWait with
  | none => m
  | some r =>
    let m := m.until r
    let m := m.setSafe { m.safe with serviceWait := none }
    (m.port.flight.filter fun f => f.opcode == 0x0710).foldl (fun (m : Mod) f => m.finish 0x0710 f.cmd St.timeout) m

/-- The SAFE class. -/
def safeOps : List (Nat × Op) :=
  [(0x0701, opSafeGetInfo), (0x0702, opSafeGetStatus), (0x0703, opSafeSetConfig), (0x0704, opSafeGetConfig),
   (0x0705, opSafeEnable), (0x0706, opSafeDisable), (0x0707, opSafeResetInstance), (0x0710, opServiceMode),
   (0x0711, opConfirmParams)]

end Sys2Proof.Machine
end

