-- ==== Sys2Proof/Machine/InpOps.lean ====
section
/-! DEFINITION. Control-plane inputs and the Frame Exchange (chapter 07): events of the inputs, accesses to the slot
window, and the INP class operations. What a frame does with them stands in InpFrame. -/

namespace Sys2Proof.Machine

open Sys2Proof

/-! ### Records (Table 07-9) -/

/-- Kinds of INP instances (Table 07-8). -/
inductive InpKind where
  | ain
  | fin
  | lsn
  | imu
  | sup
deriving DecidableEq, Repr

/-- Kind of an instance. -/
def inpKind (i : Nat) : InpKind :=
  if i < 64 then .ain else if i < 96 then .fin else if i < 104 then .lsn else if i < 107 then .imu else .sup

/-- Record length by kind. -/
def InpKind.len : InpKind → Nat
  | .ain => 12 | .fin => 12 | .lsn => 8 | .imu => 4 | .sup => 4

/-- Default record by kind. -/
def InpKind.dflt : InpKind → Bytes
  | .ain => le 1 0 ++ le 1 0 ++ le 2 0 ++ le 2 65535 ++ le 2 0 ++ le 2 1 ++ le 2 0
  | .fin => le 1 0 ++ le 1 0 ++ le 1 0 ++ le 1 0 ++ le 2 1000 ++ le 2 100 ++ le 4 0
  | .lsn => le 1 0 ++ le 1 0 ++ le 2 500 ++ le 2 200 ++ le 2 0
  | .imu => le 1 1 ++ le 1 1 ++ le 1 0 ++ le 1 0
  | .sup => le 1 0 ++ le 1 0 ++ le 1 3 ++ le 1 0

/-- The record of an instance lies in its ranges. -/
def inpRecordOk (i : Nat) (r : Bytes) : Bool :=
  match inpKind i with
  | .ain => decide (rd r 0 1 ≤ 4) && decide (rd r 1 1 ≤ 8) && decide (rd r 2 2 < rd r 4 2) && decide (1 ≤ rd r 8 2)
      && decide (rd r 8 2 ≤ 1000) && isZero r 10 2
  | .fin => decide (rd r 0 1 ≤ 3) && (rd r 0 1 != 3 || i % 2 == 0) && decide (rd r 1 1 ≤ 2) && decide (rd r 2 1 ≤ 1)
      && decide (rd r 3 1 ≤ 31) && decide (1 ≤ rd r 4 2) && decide (rd r 4 2 ≤ 2000) && decide (20 ≤ rd r 6 2)
      && decide (rd r 6 2 ≤ 2000) && isZero r 8 4
  | .lsn => decide (rd r 0 1 ≤ 2) && isZero r 1 1 && decide (10 ≤ rd r 2 2) && decide (rd r 2 2 ≤ 5000)
      && decide (20 ≤ rd r 4 2) && decide (rd r 4 2 ≤ 2000) && isZero r 6 2
  | .imu => decide (rd r 0 1 ≤ 2) && decide (rd r 1 1 ≤ 2) && decide (rd r 2 1 ≤ 1) && isZero r 3 1
  | .sup => decide (rd r 0 1 ≤ 1) && decide (rd r 1 1 ≤ 1) && decide (rd r 2 1 ≤ 7) && isZero r 3 1

/-- The record of an instance in force. -/
def Mod.inpRec (m : Mod) (i : Nat) : Bytes := m.cfgOr 0x0603 i (inpKind i).dflt

/-- An input instance. -/
def Mod.inpCh (m : Mod) (i : Nat) : InpCh := Tab.get {} m.inp.ch i

/-- Write an input instance. -/
def Mod.setInp (m : Mod) (i : Nat) (x : InpCh) : Mod := { m with inp := { m.inp with ch := Tab.put {} m.inp.ch i x } }

/-- An input event EV056–EV061: instance in bits [15:0], code in [23:16], value in bit 24 (R185). -/
def Mod.inpEv (m : Mod) (src inst code : Nat) (value : Bool) : Mod :=
  m.raise src (inst + code * 65536 + b2n value * 2 ^ 24)

/-! ### Sensor supplies (R177) -/

/-- Retries used: the count is reset after 10 s without a fault (R177) (log entry 34). -/
def InpCh.used (x : InpCh) (now : Nat) : Nat :=
  if !x.latched && !x.cond && x.faultCode != 8 && decide (x.faultRaw + secs 10 ≤ now) then 0 else x.retries

/-- SUP_OVERCURRENT: the supply switches off; after its last retry it latches off. -/
def execSupOvercurrent (sup : Nat) (s : State) : Host.Outcome State Fault Refusal := s.act fun m =>
  let i := 107 + sup
  let x := m.inpCh i
  if 8 ≤ sup ∨ !x.on then m else
  let tries := x.used m.now
  let m := (m.setInp i { x with on := false, faultCode := 8, retries := tries, retryRaw := m.now, faultRaw := m.now }).inpEv
    61 i 8 true
  if rd (m.inpRec i) 2 1 ≤ tries then
    (m.setInp i { m.inpCh i with latched := true }).inpEv 61 i 12 true
  else m

/-- SUP_RETRY: 100 ms after the switch-off the supply is switched on again. -/
def execSupRetry (sup : Nat) (s : State) : Host.Outcome State Fault Refusal := s.act fun m =>
  let i := 107 + sup
  let x := m.inpCh i
  if 8 ≤ sup ∨ x.on ∨ x.latched ∨ !x.enabled ∨ x.faultCode ≠ 8 then m else
  let m := m.until (x.retryRaw + ms 100)
  (m.setInp i { x with on := true, faultCode := 0, retries := x.retries + 1 }).inpEv 61 i 8 false

/-- SUP_TOL: the voltage lies outside ±5 % for 1 ms, or is back within. -/
def execSupTol (sup : Nat) (out : Bool) (s : State) : Host.Outcome State Fault Refusal := s.act fun m =>
  let i := 107 + sup
  let x := m.inpCh i
  if 8 ≤ sup ∨ !x.on ∨ x.cond = out then m else
  (m.setInp i { x with cond := out, faultCode := if out then 9 else 0, retries := x.used m.now, faultRaw := m.now }).inpEv
    61 i 9 out

/-- BIAS_CHECK: the 100 ms bias check of a VR input or a loss sensor (code 6). -/
def execBiasCheck (inst : Nat) (found : Bool) (s : State) : Host.Outcome State Fault Refusal := s.act fun m =>
  let x := m.inpCh inst
  let applies := (inpKind inst = .fin ∧ rd (m.inpRec inst) 0 1 = 2) ∨ inpKind inst = .lsn
  if !decide applies ∨ !x.enabled ∨ x.cond = !found then m else
  (m.setInp inst { x with cond := !found, faultCode := if found then 0 else 6 }).inpEv
    (if inst < 96 then 58 else 59) inst 6 (!found)

/-! ### Edges and impacts (R173–R175) -/

/-- An edge that qualifies is counted and stamped; the period is the raw counts since the one before. -/
def InpCh.counted (x : InpCh) (raw : Nat) (quad : Bool) : InpCh :=
  { x with
    period := match x.edge with | some e => w32 (raw - e) | none => x.period
    edge := some raw
    count := if quad then x.count else x.count + 1 }

/-- The edge selected by the record (rising, falling, both). -/
def edgeSel (edge : Nat) (level : Bool) : Bool := if edge = 0 then level else if edge = 1 then !level else true

/-- An edge of one phase of a QUAD pair: counted on its own input, and the position moves by one, up when A leads B
(R173, R174). -/
def Mod.quadEdge (m : Mod) (ia i : Nat) (level : Bool) : Mod :=
  let raw := m.now - us (rd (m.inpRec ia) 3 1)
  let m := m.setInp i ({ m.inpCh i with level := level }.counted raw (i = ia))
  let a := m.inpCh ia
  let b := m.inpCh (ia + 1)
  let up := if i = ia then a.level != b.level else a.level == b.level
  m.setInp ia { a with pos := if up then a.pos + 1 else a.pos - 1 }

/-- QUALIFYING_EDGE: input FIN `fin` + 1 (0–31) has been stable for filter_us at its new level; the stamp is that of
the first transition. In QUAD position is counted ×4; a change of both phases within one sample is a quadrature error. An
input that is OFF or disabled counts nothing, but its level is followed (R173, R174) (log entry 34). -/
def execQualifyingEdge (fin : Nat) (level both : Bool) (s : State) : Host.Outcome State Fault Refusal := s.act fun m =>
  if 32 ≤ fin then m else
  let i := 64 + fin
  let ia := 64 + fin / 2 * 2
  let a := m.inpCh ia
  let b := m.inpCh (ia + 1)
  let x := m.inpCh i
  if rd (m.inpRec ia) 0 1 = 3 ∧ a.enabled then
    if both ∧ b.enabled then
      let m := if a.quadErr || a.faultCode == 7 then m else m.inpEv 58 ia 7 true
      (m.setInp ia { a with quadErr := true, faultCode := 7, level := !a.level }).setInp (ia + 1)
        { b with quadErr := true, faultCode := 7, level := !b.level }
    else if both then (m.setInp (ia + 1) { b with level := !b.level }).quadEdge ia ia (!a.level)
    else if !x.enabled then m.setInp i { x with level := level }
    else m.quadEdge ia i level
  else
    let raw := m.now - us (rd (m.inpRec i) 3 1)
    let y := { x with level := level }
    let counts := x.enabled && rd (m.inpRec i) 0 1 != 0 && edgeSel (rd (m.inpRec i) 1 1) level
    m.setInp i (if counts then y.counted raw false else y)

/-- IMPACT: the signal of loss sensor `lsn` + 1 exceeds its threshold with the given peak; impacts inside dead_us of
the last one do not count (R175). -/
def execImpact (lsn : Nat) (peak : BitVec 16) (s : State) : Host.Outcome State Fault Refusal := s.act fun m =>
  let i := 96 + lsn
  let x := m.inpCh i
  if 8 ≤ lsn ∨ !x.enabled then m else
  let x := { x with peak := if x.peak.toNat < peak.toNat then peak else x.peak }
  let dead := match x.edge with | some e => decide (m.now < e + us (rd (m.inpRec i) 4 2)) | none => false
  m.setInp i (if rd (m.inpRec i) 2 2 < peak.toNat ∧ !dead then { x with count := x.count + 1, edge := some m.now } else x)

/-! ### The slot window (R178, R181) -/

/-- FX_IN: a 64-bit write to an inbound slot by `writer` (owners of R181; 1 is the application's window). A write from
anyone but the owner, or narrower than 64 bits, is dropped and counted; to the application it is a bus error. -/
def execFxIn (writer slot : Nat) (word : BitVec 64) (narrow : Bool) (s : State) : Host.Outcome State Fault Refusal :=
  s.act fun m =>
  if !m.alive || 256 ≤ slot || !m.writerOn writer then m else
  let drop := narrow || m.fxOwner slot != writer
  let m' := if drop then m.fxDrop writer slot
            else m.fxPut writer slot (BitVec.ofNat 32 word.toNat) (word.toNat.testBit 63)
  if writer = 1 then { m' with bus := { value := 0, error := drop } } else m'

/-! ### INP class operations -/

/-- Set of the INP records. -/
def setModule : Nat := 0

/-- 0x0601 -/
def opInpGetInfo : Op := opInfo 6 115

/-- Elements and flags of GET_STATUS (0x0602). -/
def opInpGetStatus : Op where
  len := exactly 0
  insts := 115
  body := fun c m =>
    let x := m.inpCh c.inst.toNat
    Res.ok m (le 4 x.valA.toNat ++ le 4 x.valB.toNat
      ++ le 2 (b2n x.badA + b2n x.badB * 2 + b2n x.plaus * 4 + b2n x.latched * 8 + b2n x.enabled * 16)
      ++ le 1 x.faultCode ++ le 1 (if inpKind c.inst.toNat = .sup then x.used m.now else 0) ++ le 4 0 ++ le 8 m.lanes.frame)

/-- An input that its record takes out of VR mode has no bias check: code 6 ends (Table 07-2, R185). -/
def Mod.leaveVr (m : Mod) (i : Nat) : Mod :=
  let x := m.inpCh i
  if inpKind i = .fin ∧ rd (m.inpRec i) 0 1 ≠ 2 ∧ x.cond then
    (m.setInp i { x with cond := false, faultCode := if x.faultCode = 6 then 0 else x.faultCode }).inpEv 58 i 6 false
  else m

/-- The B input of a pair that runs in QUAD: its record cannot be written (R174). -/
def Mod.quadB (m : Mod) (i : Nat) : Bool :=
  inpKind i == .fin && i % 2 == 1 && rd (m.inpRec (i - 1)) 0 1 == 3 && (m.inpCh (i - 1)).enabled

/-- 0x0603 (R172, R174): a record commits; a mode change of an AIN flags it bad for 8 frames. -/
def opInpSetConfig : Op where
  len := fun c => c.plen.toNat == (inpKind c.inst.toNat).len || 115 ≤ c.inst.toNat
  insts := 115
  stamped := fun _ => true
  body := fun c m =>
    let i := c.inst.toNat
    let r := slice c.params 0 (inpKind i).len
    if !inpRecordOk i r then Res.err m St.badParam
    else if m.quadB i then Res.err m St.busy
    else
      let x := m.inpCh i
      let m' := if inpKind i = .ain ∧ rd (m.inpRec i) 0 1 ≠ rd r 0 1 then m.setInp i { x with settle := 9 } else m
      Res.ok (((m'.setCfg 0x0603 i r).markSet 0).leaveVr i)

/-- 0x0604 -/
def opInpGetConfig : Op where
  len := exactly 0
  insts := 115
  body := fun c m => Res.ok m (m.inpRec c.inst.toNat)

/-- Start an instance; a supply that is not latched is switched on, one in its 100 ms off time by its retry (R177, R470). -/
def Mod.inpStart (m : Mod) (i : Nat) : Mod :=
  let x := m.inpCh i
  m.setInp i { x with enabled := true, on := if inpKind i = .sup then x.on || (!x.latched && x.faultCode != 8) else x.on }

/-- The code of Table 07-2 that `cond` stands for: a supply outside tolerance, no sensor found. -/
def condCode (i : Nat) : Nat := if inpKind i = .sup then 9 else 6

/-- Event source of a FIN, LSN or SUP instance (Table 07-7). -/
def condSrc (i : Nat) : Nat := if inpKind i = .fin then 58 else if inpKind i = .lsn then 59 else 61

/-- Stop an instance: the conditions judged only while it runs end, with their events; a latched supply stays latched
(R177, R185) (log entry 34). -/
def Mod.inpStop (m : Mod) (i : Nat) : Mod :=
  let x := m.inpCh i
  let oc := decide (inpKind i = .sup) && x.faultCode == 8 && !x.latched
  let m := m.setInp i { x with enabled := false, on := false, cond := false,
                               faultCode := if x.cond || oc then 0 else x.faultCode }
  let m := if x.cond then m.inpEv (condSrc i) i (condCode i) false else m
  if oc then m.inpEv 61 i 8 false else m

/-- 0x0605 (R470) -/
def opInpEnable : Op where
  len := exactly 0
  insts := 115
  stamped := fun _ => true
  body := fun c m => Res.ok (m.inpStart c.inst.toNat)

/-- 0x0606 (R470) -/
def opInpDisable : Op where
  len := exactly 0
  insts := 115
  stamped := fun _ => true
  body := fun c m => Res.ok (m.inpStop c.inst.toNat)

/-- 0x0607 (R177) (log entry 34) -/
def opInpResetInstance : Op where
  len := exactly 0
  insts := 115
  stamped := fun _ => true
  body := fun c m =>
    let i := c.inst.toNat
    let x := m.inpCh i
    let m' := if m.quadB i then m else m.restore 0 0x0603 i
    let moved := inpKind i == .ain && rd (m'.inpRec i) 0 1 != rd (m.inpRec i) 0 1
    let m' := (m'.setInp i { x with
      latched := false, retries := 0, count := 0, pos := 0, plausCnt := 0
      faultCode := if x.cond then condCode i else 0
      settle := if moved then 9 else x.settle
      on := if inpKind i = .sup then x.enabled else x.on }).leaveVr i
    let m' := if inpKind i = .sup ∧ x.faultCode = 8 then m'.inpEv 61 i 8 false else m'
    let m' := if inpKind i = .fin ∧ i % 2 = 0 ∧ x.faultCode = 7 then m'.inpEv 58 i 7 false else m'
    Res.ok (if x.latched then m'.inpEv 61 i 12 false else m')

/-- The fields of a binding are in range (0x0610). -/
def bindOk (r : Bytes) : Bool :=
  decide (rd r 0 1 ≤ 247) && decide (rd r 1 1 ≤ 4) && decide (rd r 2 2 ≤ 65534) && decide (rd r 4 1 ≤ 1)
    && decide (rd r 5 1 ≤ 1) && isZero r 6 2 && isZero r 12 4

/-- A binding takes effect at a frame start: the slot is invalid, as that frame's capture sees it, and its counts are 0
(R182). -/
def Mod.bindSlot (m : Mod) (r : Bytes) : Mod :=
  let k := rd r 0 1
  let m := (m.setCfg 0x0610 k r).markSet 0
  { m with inp := { m.inp with fxIn := Tab.upd {} m.inp.fxIn k fun x =>
      { x with written := false, seenFresh := false, drops := 0, writes := 0 }.captured r m.inp.starts } }

/-- 0x0610 (R182) -/
def opBindSlot : Op where
  len := exactly 16
  stamped := fun _ => true
  body := fun c m =>
    let r := slice c.params 0 16
    if bindOk r then Res.ok (m.bindSlot r) else Res.err m St.badParam

/-- Code of a slot state (0x0611). -/
def SlotState.code : SlotState → Nat
  | .fresh => 0 | .stale => 1 | .invalid => 2

/-- Frame starts since a write, saturating (R178). -/
def Inp.age (i : Inp) (base : Nat) : Nat := min 65535 (i.starts - base)

/-- 0x0611 (R179, R183) (log entry 35) -/
def opReadSlot : Op where
  len := exactly 4
  body := fun c m =>
    let dir := rd c.params 0 1
    let k := rd c.params 1 1
    if 1 < dir ∨ (dir = 1 ∧ 128 ≤ k) ∨ !isZero c.params 2 2 then Res.err m St.badParam
    else if dir = 0 then
      let x : FxIn := Tab.get {} m.inp.fxIn k
      Res.ok m (le 4 x.capValue.toNat ++ le 4 x.capStamp.toNat ++ le 2 (m.inp.age x.capBase) ++ le 1 x.capState.code
        ++ le 1 (m.fxOwner k) ++ le 4 x.drops ++ le 4 x.writes ++ le 8 m.lanes.frame)
    else
      let x : FxOut := Tab.get {} m.inp.fxOut k
      let ok := x.visWritten && x.visStamp.toNat.testBit 31
      Res.ok m (le 4 x.visValue.toNat ++ le 4 x.visStamp.toNat ++ le 2 (m.inp.age x.visBase)
        ++ le 1 (if ok then 0 else 2) ++ le 1 0xFF ++ le 4 0 ++ le 4 x.visWrites ++ le 8 m.lanes.frame)

/-- 0x0612 (R169) -/
def opReadVector : Op where
  len := exactly 4
  body := fun c m =>
    let first := rd c.params 0 2
    let n := rd c.params 2 2
    if n = 0 ∨ 55 < n ∨ 512 < first + n then Res.err m St.badParam
    else
      let els := (List.range n).map fun k => (Tab.get {} m.inp.vec (first + k) : VecEl)
      let bad := foldN n (fun v k => v + b2n (els.getD k {}).bad * 2 ^ k) 0
      Res.ok m (le 2 first ++ le 2 n ++ le 8 m.lanes.computed ++ le 8 bad ++ els.flatMap fun e => le 4 e.val.toNat)

/-- INP_GET_INFO (R98). -/
def execInpGetInfo (c : Cmd) (s : State) : Host.Outcome State Fault Refusal := s.act fun m => m.serve 0x0601 opInpGetInfo c
/-- INP_GET_STATUS (R171). -/
def execInpGetStatus (c : Cmd) (s : State) : Host.Outcome State Fault Refusal := s.act fun m => m.serve 0x0602 opInpGetStatus c
/-- INP_SET_CONFIG (R172). -/
def execInpSetConfig (c : Cmd) (s : State) : Host.Outcome State Fault Refusal := s.act fun m => m.serve 0x0603 opInpSetConfig c
/-- INP_GET_CONFIG (R470). -/
def execInpGetConfig (c : Cmd) (s : State) : Host.Outcome State Fault Refusal := s.act fun m => m.serve 0x0604 opInpGetConfig c
/-- INP_ENABLE (R470). -/
def execInpEnable (c : Cmd) (s : State) : Host.Outcome State Fault Refusal := s.act fun m => m.serve 0x0605 opInpEnable c
/-- INP_DISABLE (R470). -/
def execInpDisable (c : Cmd) (s : State) : Host.Outcome State Fault Refusal := s.act fun m => m.serve 0x0606 opInpDisable c
/-- INP_RESET_INSTANCE (R177). -/
def execInpResetInstance (c : Cmd) (s : State) : Host.Outcome State Fault Refusal := s.act fun m => m.serve 0x0607 opInpResetInstance c
/-- BIND_SLOT (R182). -/
def execBindSlot (c : Cmd) (s : State) : Host.Outcome State Fault Refusal := s.act fun m => m.serve 0x0610 opBindSlot c
/-- READ_SLOT (R179). -/
def execReadSlot (c : Cmd) (s : State) : Host.Outcome State Fault Refusal := s.act fun m => m.serve 0x0611 opReadSlot c
/-- READ_VECTOR (R169). -/
def execReadVector (c : Cmd) (s : State) : Host.Outcome State Fault Refusal := s.act fun m => m.serve 0x0612 opReadVector c

/-- The INP class. -/
def inpOps : List (Nat × Op) :=
  [(0x0601, opInpGetInfo), (0x0602, opInpGetStatus), (0x0603, opInpSetConfig), (0x0604, opInpGetConfig),
   (0x0605, opInpEnable), (0x0606, opInpDisable), (0x0607, opInpResetInstance), (0x0610, opBindSlot),
   (0x0611, opReadSlot), (0x0612, opReadVector)]

end Sys2Proof.Machine
end

