-- ==== Sys2Proof/Machine/LoopLaw.lean ====
section
/-! DEFINITION. The Loop Engine's arithmetic (chapter 05): sources, bins, the law, handovers and one run of a channel. -/

namespace Sys2Proof.Machine

open Sys2Proof

/-! ### Records (Table 05-2) -/

/-- The default record of R471. -/
def loopDflt : Bytes :=
  zeros 3 ++ [1] ++ zeros 70 ++ [1, 1] ++ zeros 16 ++ le 4 0x3F800000 ++ zeros 12 ++ le 4 0x3F800000 ++ zeros 8

/-- The record of a channel in force. -/
def Mod.loopRec (m : Mod) (i : Nat) : Bytes := m.cfgOr 0x0403 i loopDflt

/-- A channel. -/
def Mod.loopCh (m : Mod) (i : Nat) : LoopCh := Tab.get {} m.loop.ch i

/-- Write a channel. -/
def Mod.setLoop (m : Mod) (i : Nat) (x : LoopCh) : Mod :=
  { m with loop := { m.loop with ch := Tab.put {} m.loop.ch i x } }

/-- Divider of a record. -/
def loopDiv (r : Bytes) : Nat := 2 ^ rd r 1 1

/-- Breakpoints of a channel's variable in force (R125). -/
def Mod.breakpoints (m : Mod) (i var : Nat) : List F32 :=
  let b := m.stored 0x0412 (i * 2 + var)
  (List.range (b.length / 4)).map fun k => rdF b (4 * k)

/-! ### Derived values (R118) -/

/-- Fixed-point one of the exponential. -/
def expOne : Nat := 2 ^ 256

/-- Taylor sum of exp(−t) from term `k`, `t` in units of 2^−256. -/
def expSeries (t : Nat) : Nat → Nat → Int → Int → Int
  | 0, _, _, acc => acc
  | n + 1, k, term, acc =>
    let next := -(term * t) / ((expOne * (k + 1) : Nat) : Int)
    expSeries t n (k + 1) next (acc + next)

/-- `x` squared `n` times, in units of 2^−256. -/
def sqTimes : Nat → Nat → Nat
  | 0, x => x
  | n + 1, x => sqTimes n (x * x / expOne)

/-- exp of a binary32 value in −64 … 0, correctly rounded to binary32 (R118). -/
def expF (x : F32) : F32 :=
  let t := (S.scaled x).natAbs * 2 ^ (256 - 149 - 7)
  let y := (expSeries t 60 0 expOne expOne).toNat
  BitVec.ofNat 32 (roundMag fmt32 (sqTimes 7 y) expOne)

/-- The bump factor r of a record (R118). -/
def bumpFactor (r : Bytes) : F32 :=
  -- −d / (4000 · bump_tau), rounded once
  expF (S.ofRat (-((loopDiv r * 2 ^ 149 : Nat) : Int)) (4000 * (S.scaled (rdF r 108)).toNat))

/-- slew × d / 4000, rounded once (R118). -/
def slewStep (r : Bytes) (off : Nat) : F32 := S.ofRat (S.scaled (rdF r off) * loopDiv r) (4000 * 2 ^ 149)

/-! ### Sources (R115) -/

/-- What a source presents to a run. -/
inductive Src where
  /-- its value v -/
  | val (v : F32)
  /-- stale under R135, R136 -/
  | stale
  /-- NaN or infinite: fault code 2 -/
  | bad
deriving DecidableEq, Repr

/-- The raw value in binary32, by the descriptor's format (R115). -/
def srcConvert (fmt : Nat) (raw : BitVec 32) : F32 :=
  match fmt with
  | 0 => raw
  | 1 => S.ofInt (toSigned 32 raw.toNat)
  | 2 => S.ofInt raw.toNat
  | 3 => S.ofInt (toSigned 16 (raw.toNat % 2 ^ 16))
  | _ => S.ofInt ((raw.toNat % 2 ^ 16 : Nat))

/-- v = fma(raw, scale, offset) (R115). -/
def srcForm (r : Bytes) (off : Nat) (raw : BitVec 32) : Src :=
  let x := srcConvert (rd r (off + 1) 1) raw
  let v := S.fma x (rdF r (off + 4)) (rdF r (off + 8))
  if S.isFin x && S.isFin v then .val v else .bad

/-- Read the source described at `off` of the record; `cmd` is the channel's command value for it. -/
def Mod.loopSrc (m : Mod) (r : Bytes) (off : Nat) (cmd : F32) : Src :=
  match rd r off 1 with
  | 0 => .val 0
  | 1 => srcForm r off cmd
  | 2 =>
    let e : VecEl := Tab.get {} m.inp.vec (rd r (off + 2) 2)
    if e.bad then .stale else srcForm r off e.val
  | _ =>
    let x : FxIn := Tab.get {} m.inp.fxIn (rd r (off + 2) 2)
    if x.capState = .fresh then srcForm r off x.capValue else .stale

/-! ### Bins and the window (R125–R127) -/

/-- A value that must be finite (R120, fault code 1). -/
def fin? (x : F32) : Option F32 := if S.isFin x then some x else none

/-- The bin rule of R126; none where an edge is not finite. -/
def binOf (bp : List F32) (j : Nat) (v h : F32) : Option Nat := do
  let c := bp.length
  let half := S.mul h 0x3F000000
  let lo ← if j = 0 ∨ c < j then some true else do
    let e ← fin? (S.sub (bp.getD (j - 1) 0) half); some (S.le e v)
  let hi ← if c ≤ j then some true else do
    let e ← fin? (S.add (bp.getD j 0) half); some (S.lt v e)
  if decide (j ≤ c) && lo && hi then some j else some (bp.filter fun b => S.le b v).length

/-- The Schedule Table entry of a channel for its bins (R127). -/
def Mod.loopEntry (m : Mod) (r : Bytes) (j1 j2 : Nat) : Nat :=
  let rows := rd r 74 1
  let cols := rd r 75 1
  (Tab.get (0 : BitVec 16) m.sched (rd r 72 2 + min j1 (rows - 1) * cols + min j2 (cols - 1))).toNat

/-- Contents of a coefficient set. -/
def Mod.coeffSet (m : Mod) (set : Nat) : List F32 := Tab.get [] m.coeff set

/-! ### The law (R120, R121) -/

/-- One second-order section: its output and new states. -/
def section2 (c : List F32) (k : Nat) (s1 s2 x : F32) : Option (F32 × F32 × F32) := do
  let w n := c.getD (5 * k + n) 0
  let y ← fin? (S.fma (w 0) x s1)
  let p ← fin? (S.fma (S.neg (w 3)) y s2)
  let t1 ← fin? (S.fma (w 1) x p)
  let q ← fin? (S.mul (S.neg (w 4)) y)
  let t2 ← fin? (S.fma (w 2) x q)
  some (y, t1, t2)

/-- The three-pole three-zero section of slots 0 and 1. -/
def section3 (c : List F32) (s1 s2 s3 x : F32) : Option (F32 × F32 × F32 × F32) := do
  let w n := c.getD n 0
  let y ← fin? (S.fma (w 0) x s1)
  let p ← fin? (S.fma (S.neg (w 4)) y s2)
  let t1 ← fin? (S.fma (w 1) x p)
  let q ← fin? (S.fma (S.neg (w 5)) y s3)
  let t2 ← fin? (S.fma (w 2) x q)
  let v ← fin? (S.mul (S.neg (w 6)) y)
  let t3 ← fin? (S.fma (w 3) x v)
  some (y, t1, t2, t3)

/-- The second-order sections of slots `k`, `k + 1`, … (`n` of them). -/
def sectionsFrom (c : List F32) : Nat → Nat → List F32 → F32 → Option (F32 × List F32)
  | 0, _, st, x => some (x, st)
  | n + 1, k, st, x => do
    let (y, t1, t2) ← section2 c k (st.getD (2 * k) 0) (st.getD (2 * k + 1) 0) x
    sectionsFrom c n (k + 1) ((st.set (2 * k) t1).set (2 * k + 1) t2) y

/-- One evaluation of a law up to the feedforward step: u and the new states (R120). `form` is the record's byte. -/
def lawEval (form : Nat) (c st : List F32) (e ff : F32) : Option (F32 × List F32) := do
  let n := form % 8
  let (x, st) ←
    if form.testBit 3 then do
      let (y, t1, t2, t3) ← section3 c (st.getD 0 0) (st.getD 1 0) (st.getD 2 0) e
      sectionsFrom c (n - 2) 2 (((st.set 0 t1).set 1 t2).set 2 t3) y
    else sectionsFrom c n 0 st e
  let u ← fin? (S.mul x (c.getD 20 0))
  let u ← fin? (S.fma ff (c.getD 21 0) u)
  some (u, st)

/-- The blended output fma(w, u_new − u_old, u_old) (R131). -/
def blendMix (w uo un : F32) : Option F32 := do
  let d ← fin? (S.sub un uo)
  fin? (S.fma w d uo)

/-- Not below `lo`: the value itself unless it is strictly less. -/
def atLeast (y lo : F32) : F32 := if S.lt y lo then lo else y

/-- Not above `hi`: the value itself unless it is strictly greater. -/
def atMost (y hi : F32) : F32 := if S.lt hi y then hi else y

/-- The output stage: clamp, slew, clamp (R120). -/
def outStage (r : Bytes) (yPrev u : F32) : Option F32 := do
  let lo := rdF r 88
  let hi := rdF r 92
  let y := atMost (atLeast u lo) hi
  let down := slewStep r 100
  let up := slewStep r 96
  let y ← if S.le down 0 then some y else do let b ← fin? (S.sub yPrev down); some (atLeast y b)
  let y ← if S.le up 0 then some y else do let b ← fin? (S.add yPrev up); some (atMost y b)
  some (atMost (atLeast y lo) hi)

/-- The bump offset's decay of one run; an offset of 0 has none (R130); none where the band's width is not finite
(R120) (log entry 32). -/
def bumpDecay (r : Bytes) (b : F32) : Option F32 :=
  if S.le b 0 && S.le 0 b then some b
  else do
    let b ← fin? (S.mul b (bumpFactor r))
    let band ← fin? (S.sub (rdF r 92) (rdF r 88))
    some (if S.lt (S.abs b) (S.mul band 0x35800000) then 0 else b)

/-- Back-calculation: s1 of section aw_section gains aw_gain × d (R123). -/
def backCalc (r : Bytes) (st : List F32) (d : F32) : Option (List F32) := do
  let k := rd r 78 1
  let j := if (rd r 3 1).testBit 3 && k ≤ 1 then 0 else 2 * k
  let s ← fin? (S.fma (rdF r 104) d (st.getD j 0))
  some (st.set j s)

/-! ### One law run (R129–R133) -/

/-- What the handover step of a law run yields: the law output, the new law's states, the bump offset, and the blend
that stands after the run with its old law's states from before the run. -/
structure Handover where
  u : F32
  states : List F32
  bump : F32
  set : Nat
  /-- the blend after the run, and its old law's states before the run -/
  blend : Option (Blend × List F32)
  /-- a BLEND was refused for want of a place (R132) -/
  refused : Bool
deriving DecidableEq, Repr

/-- A plain evaluation of set `set`. -/
def plainLaw (form : Nat) (c st : List F32) (e ff bump : F32) (set : Nat) : Option Handover := do
  let (u, st') ← lawEval form c st e ff
  some { u := u, states := st', bump := bump, set := set, blend := none, refused := false }

/-- BUMPLESS: the bump offset gains u_old − u_new (R130). -/
def bumplessTo (form : Nat) (cOld cNew st : List F32) (e ff bump : F32) (set : Nat) (refused : Bool) :
    Option Handover := do
  let (uo, _) ← lawEval form cOld st e ff
  let (un, st') ← lawEval form cNew st e ff
  let d ← fin? (S.sub uo un)
  let b ← fin? (S.add bump d)
  some { u := un, states := st', bump := b, set := set, blend := none, refused := refused }

/-- A blend starts: both laws run, w = 0 (R131). -/
def blendTo (form : Nat) (cOld cNew st : List F32) (e ff bump : F32) (old set n : Nat) (oldC : Option (List F32)) :
    Option Handover := do
  let (uo, so) ← lawEval form cOld st e ff
  let (un, st') ← lawEval form cNew st e ff
  let u ← blendMix 0 uo un
  some { u := u, states := st', bump := bump, set := set, refused := false,
         blend := some ({ fromSet := old, states := so, m := 0, n := n, uOld := uo, uNew := un, w := 0, oldC := oldC }, st) }

/-- A blend goes on: m grows by the divider; at w = 1 the new law alone is evaluated (R131). -/
def blendOn (form d : Nat) (cOld cNew : List F32) (x : LoopCh) (b : Blend) (e ff bump : F32) : Option Handover := do
  let k := b.m + d
  if b.n ≤ k then plainLaw form cNew x.states e ff bump x.set
  else do
    let w := S.ofRat k b.n
    let (uo, so) ← lawEval form cOld b.states e ff
    let (un, st') ← lawEval form cNew x.states e ff
    let u ← blendMix w uo un
    some { u := u, states := st', bump := bump, set := x.set, refused := false,
           blend := some ({ b with states := so, m := k, uOld := uo, uNew := un, w := w }, b.states) }

/-- The handover step of a law run in AUTO, for the entry the bins call for (R129–R133). -/
def handover (r : Bytes) (coeff : Nat → List F32) (x : LoopCh) (entry : Nat) (place : Bool) (e ff bump : F32) :
    Option Handover :=
  let form := rd r 3 1
  let set := entry % 1024
  let mode := entry / 1024 % 4
  let n := 2 ^ (entry / 4096)
  if !x.wasAuto then plainLaw form (coeff set) x.states e ff bump set
  else match x.blend with
  | none =>
    let old := x.reseat.getD (coeff x.set)
    if set = x.set then
      if x.reseat.isSome then bumplessTo form old (coeff set) x.states e ff bump set false
      else plainLaw form (coeff set) x.states e ff bump set
    else if mode = 2 then
      if place then blendTo form old (coeff set) x.states e ff bump x.set set n x.reseat
      else bumplessTo form old (coeff set) x.states e ff bump set true
    else if mode = 1 then bumplessTo form old (coeff set) x.states e ff bump set false
    else plainLaw form (coeff set) x.states e ff bump set
  | some b =>
    if set = x.set then blendOn form (loopDiv r) (b.oldC.getD (coeff b.fromSet)) (coeff set) x b e ff bump
    else if mode = 0 then plainLaw form (coeff set) x.states e ff bump set
    else do
      -- the blend collapses onto its new law (R133)
      let ub ← blendMix b.w b.uOld b.uNew
      let d ← fin? (S.sub ub b.uNew)
      let bump ← fin? (S.add bump d)
      if mode = 2 then blendTo form (coeff x.set) (coeff set) x.states e ff bump x.set set n none
      else bumplessTo form (coeff x.set) (coeff set) x.states e ff bump set false

/-- A law run of R120: the channel after it, and whether a BLEND was refused; none on fault code 1 (log entry 31). -/
def lawRun (r : Bytes) (coeff : Nat → List F32) (x : LoopCh) (entry : Nat) (place : Bool) (sp fb ff : F32) :
    Option (LoopCh × Bool) := do
  let e ← fin? (S.sub sp fb)
  let h ← handover r coeff x entry place e ff x.bump
  let base ← fin? (S.add h.u (rdF r 84))
  let bump ← if x.resume then fin? (S.sub x.yPrev base) else some h.bump
  let u ← fin? (S.add base bump)
  let y ← outStage r x.yPrev u
  let limited := !(S.le y u && S.le u y)
  let (st, bl) ←
    if rd r 77 1 = 0 then
      -- FREEZE: both laws keep their states in a limited run
      if limited then some (x.states, h.blend.map fun b => { b.1 with states := b.2 })
      else some (h.states, h.blend.map fun b => b.1)
    else do
      let d ← fin? (S.sub y u)
      let st ← backCalc r h.states d
      match h.blend with
      | none => some (st, none)
      | some b => do let so ← backCalc r b.1.states d; some (st, some { b.1 with states := so })
  some ({ x with states := st, blend := bl, bump := bump, set := h.set, yPrev := y, limited := limited,
                 wasAuto := true, resume := false, e := e, sp := sp, fb := fb }, h.refused)

/-! ### One run of a channel (R120, R134–R136) -/

/-- What a run gives: the channel, the loop events as (source, value) in order, and whether a new blend place is
taken. -/
structure LoopOut where
  ch : LoopCh
  evs : List (Nat × Nat) := []
  took : Bool := false
deriving DecidableEq, Repr

/-- The channel faults to HOLD: the run's results are discarded, the blend dropped (R120, Table 05-8) (log entry 31). -/
def LoopCh.faulted (x : LoopCh) (code : Nat) (evs : List (Nat × Nat)) : LoopOut :=
  { ch := { x with mode := .hold, fault := true, faultCode := code, blend := none, wasAuto := false, reseat := none },
    evs := evs ++ [(32, code)] ++ (if x.mode = .hold then [] else [(39, 3)]) }

/-- The set follows the bin without a handover (R134). -/
def LoopCh.follow (x : LoopCh) (r : Bytes) (set : Nat) : LoopCh × List (Nat × Nat) :=
  ({ x with set := set }, if x.set ≠ set ∧ (rd r 82 2).testBit 0 then [(35, set)] else [])

/-- A scheduling variable's stale condition: its new value and its event (R136). -/
def schedCond (old : Bool) (s : Src) (var : Nat) : Bool × List (Nat × Nat) :=
  let now := decide (s = .stale)
  (now, if now = old then [] else [(36, var * 2 + b2n now)])

/-- The bin of a variable after this run; a stale one keeps its bin, NONE gives bin 0 (R125, R126, R136). -/
def Mod.loopBin (m : Mod) (i var : Nat) (r : Bytes) (old : Nat) (s : Src) : Option Nat :=
  if rd r (40 + 12 * var) 1 = 0 then some 0 else
  match s with
  | .val v => binOf (m.breakpoints i var) old v (rdF r (64 + 4 * var))
  | _ => some old

/-- One run of a channel in MANUAL, AUTO or HOLD; `place` says that a blend place is free (log entries 31, 32). -/
def Mod.loopRun (m : Mod) (i : Nat) (place : Bool) : LoopOut :=
  let r := m.loopRec i
  let x := m.loopCh i
  let sp := m.loopSrc r 4 x.cmdSp
  let fb := m.loopSrc r 16 0
  let ff := m.loopSrc r 28 x.cmdFf
  let v1 := m.loopSrc r 40 0
  let v2 := m.loopSrc r 52 0
  let stale := decide (sp = .stale ∨ fb = .stale ∨ ff = .stale)
  let e33 := if stale = x.stale then [] else [(33, b2n stale)]
  let c1 := schedCond x.sched1 v1 0
  let c2 := schedCond x.sched2 v2 1
  let evs := e33 ++ c1.2 ++ c2.2
  let x := { x with runs := x.runs + 1, stale := stale, sched1 := c1.1, sched2 := c2.1 }
  let auto := decide (x.mode = .auto)
  if v1 = .bad ∨ v2 = .bad ∨ (auto ∧ (sp = .bad ∨ fb = .bad ∨ ff = .bad)) then x.faulted 2 evs
  else match m.loopBin i 0 r x.bin1 v1, m.loopBin i 1 r x.bin2 v2, bumpDecay r x.bump with
  | some j1, some j2, some bump =>
    let y := { x with bin1 := j1, bin2 := j2, bump := bump, fxDue := true, wrote := true }
    let entry := m.loopEntry r j1 j2
    if auto then
      match sp, fb, ff with
      | .val a, .val b, .val f =>
        match lawRun r m.coeffSet y entry place a b f with
        | none => x.faulted 1 evs
        | some (z, refused) =>
          let e34 := if refused then [(34, entry % 1024)] else []
          let e35 := if z.set ≠ x.set ∧ (rd r 82 2).testBit 0 then [(35, z.set)] else []
          let e38 := if z.limited ≠ x.limited ∧ (rd r 82 2).testBit 1 then [(38, b2n z.limited)] else []
          { ch := { z with reseat := none }, evs := evs ++ e34 ++ e35 ++ e38,
            took := x.blend.isNone && z.blend.isSome }
      | _, _, _ =>
        -- a stale source (R135): the run is an AUTO run all the same, and the first one takes its set from the bin
        let f := if x.wasAuto then (y, []) else y.follow r (entry % 1024)
        let z := { f.1 with resume := true, wasAuto := true, reseat := none }
        match rd r 79 1 with
        | 2 =>
          let g := y.follow r (entry % 1024)
          g.1.faulted 3 (evs ++ g.2)
        | 1 =>
          match outStage r x.yPrev (rdF r 112) with
          | none => x.faulted 1 evs
          | some o => { ch := { z with yPrev := o }, evs := evs ++ f.2 }
        | _ => { ch := z, evs := evs ++ f.2 }
    else
      let f := y.follow r (entry % 1024)
      if x.mode = .manual then
        match outStage r x.yPrev x.manual with
        | none => x.faulted 1 evs
        | some o => { ch := { f.1 with yPrev := o, reseat := none }, evs := evs ++ f.2 }
      else { ch := { f.1 with reseat := none }, evs := evs ++ f.2 }
  | _, _, _ => x.faulted 1 evs

/-- Raise a loop event (R140). -/
def Mod.loopEv (m : Mod) (i : Nat) (e : Nat × Nat) : Mod := m.raise e.1 (i + e.2 * 256)

/-- A channel is due in frame `n` (R116). -/
def loopDue (r : Bytes) (n : Nat) : Bool := n % loopDiv r == rd r 2 1

/-- Blend places in use (log entry 31). -/
def LoopEng.places (l : LoopEng) : Nat := (l.ch.filter fun p => p.2.blend.isSome).length

/-- The runs of frame `n`, in channel order; `used` places are taken as it begins (R116, R132). -/
def Mod.loopFrame (m : Mod) (n used : Nat) : Mod :=
  (foldN 64 (fun (p : Mod × Nat) i =>
    let x := p.1.loopCh i
    let r := p.1.loopRec i
    if !loopDue r n then p
    else if x.mode = .off then
      -- OFF: only the current set follows the bin (R134)
      let f := x.follow r (p.1.loopEntry r x.bin1 x.bin2 % 1024)
      (f.2.foldl (fun m e => m.loopEv i e) (p.1.setLoop i f.1), p.2)
    else
      let o := p.1.loopRun i (decide (p.2 < 16))
      (o.evs.foldl (fun m e => m.loopEv i e) (p.1.setLoop i o.ch), p.2 + b2n o.took)) (m, used)).1

end Sys2Proof.Machine
end

