-- ==== Sys2Proof/Machine/LoopOps.lean ====
section
/-! DEFINITION. LOOP class operations (chapter 05) and the mode changes of Table 05-7. -/

namespace Sys2Proof.Machine

open Sys2Proof

/-! ### Record checks (R115, R117, R119, R124) -/

/-- A source descriptor is legal; `sched` for a scheduling variable, `fb` for the feedback (R115). -/
def srcOk (r : Bytes) (off : Nat) (sched fb : Bool) : Bool :=
  let kind := rd r off 1
  let fmt := rd r (off + 1) 1
  let idx := rd r (off + 2) 2
  decide (kind ≤ 3) && decide (fmt ≤ 4) && S.isFin (rdF r (off + 4)) && S.isFin (rdF r (off + 8))
    && (match kind with
        | 0 => idx == 0 && !fb
        | 1 => idx == 0 && !fb && !sched && fmt == 0
        | 2 => decide (idx ≤ 511)
        | _ => decide (idx ≤ 255))

/-- a ≤ x as numbers. -/
def geF (x : F32) (a : Int) : Bool := S.le (S.ofInt a) x

/-- x ≤ a as numbers. -/
def leF (x : F32) (a : Int) : Bool := S.le x (S.ofInt a)

/-- The clamp holds the destination's range, and the index exists (R124). -/
def destOk (kind idx : Nat) (lo hi : F32) : Bool :=
  match kind with
  | 0 => true
  | 1 => decide (idx ≤ 47) && geF lo 0 && leF hi 4000
  | 2 => decide (idx ≤ 47) && geF lo 0 && leF hi 1
  | 3 => decide (idx ≤ 15) && geF lo 0 && leF hi 1
  | 4 => decide (idx ≤ 255)
  | 5 => decide (idx ≤ 127)
  | _ => false

/-- A record keeps every limit of Table 05-2. -/
def loopRecordOk (r : Bytes) : Bool :=
  let n := rd r 3 1 % 8
  let form := rd r 3 1
  decide (1 ≤ rd r 0 1) && decide (rd r 0 1 ≤ 3) && decide (rd r 1 1 ≤ 6) && decide (rd r 2 1 < loopDiv r)
    && decide (form < 16) && decide (1 ≤ n) && decide (n ≤ 4) && (!form.testBit 3 || decide (2 ≤ n))
    && srcOk r 4 false false && srcOk r 16 false true && srcOk r 28 false false && srcOk r 40 true false
    && srcOk r 52 true false
    && [64, 68, 84, 88, 92, 96, 100, 104, 108, 112].all (fun o => S.isFin (rdF r o))
    && geF (rdF r 64) 0 && geF (rdF r 68) 0
    && decide (rd r 72 2 ≤ 16383) && decide (1 ≤ rd r 74 1) && decide (rd r 74 1 ≤ 64) && decide (1 ≤ rd r 75 1)
    && decide (rd r 75 1 ≤ 64) && decide (rd r 72 2 + rd r 74 1 * rd r 75 1 ≤ 16384)
    && destOk (rd r 76 1) (rd r 80 2) (rdF r 88) (rdF r 92)
    && decide (rd r 77 1 ≤ 1) && decide (rd r 78 1 < n) && decide (rd r 79 1 ≤ 2) && decide (rd r 82 2 ≤ 7)
    && S.lt (rdF r 88) (rdF r 92) && geF (rdF r 96) 0 && geF (rdF r 100) 0 && geF (rdF r 104) 0
    && leF (rdF r 104) 1
    -- 1/4,000 ≤ bump_tau ≤ 100
    && decide (((2 ^ 149 : Nat) : Int) ≤ 4000 * S.scaled (rdF r 108)) && leF (rdF r 108) 100
    && isZero r 116 4

/-- The destination a record names: (unit, index); unit 1 DRV, 2 CAN signal, 3 outbound slot. -/
def destKey (r : Bytes) : Option (Nat × Nat) :=
  let idx := rd r 80 2
  match rd r 76 1 with
  | 1 => some (1, idx)
  | 2 => some (1, idx)
  | 3 => some (1, 48 + idx)
  | 4 => some (2, idx)
  | 5 => some (3, idx)
  | _ => none

/-- The loop channel whose record names a destination (R119). -/
def Mod.loopOwner (m : Mod) (unit idx : Nat) : Option Nat :=
  (List.range 64).find? fun i => destKey (m.loopRec i) == some (unit, idx)

/-! ### Modes (R134) -/

/-- Code of a mode (Table 05-7). -/
def LoopMode.code : LoopMode → Nat
  | .off => 0 | .manual => 1 | .auto => 2 | .hold => 3

/-- Mode of an enable_mode or SET_MODE code. -/
def modeOf (n : Nat) : LoopMode := match n with | 0 => .off | 1 => .manual | 2 => .auto | _ => .hold

/-- The outbound slot that a channel's record names, if it names one. -/
def Mod.loopSlot (m : Mod) (i : Nat) : List Nat := if rd (m.loopRec i) 76 1 = 5 then [rd (m.loopRec i) 80 2] else []

/-- Entering OFF: everything cleared, standing stale conditions end (R134). The limited condition is of law runs alone: runs
in MANUAL, in HOLD or on a stale source leave it, and OFF clears it without EV038, both the model's choice where R123 names
no end for them (log entry 31). -/
def LoopCh.toOff (x : LoopCh) : LoopCh :=
  { x with mode := .off, fault := false, faultCode := 0, states := List.replicate 8 0, blend := none, bump := 0,
           yPrev := 0, stale := false, sched1 := false, sched2 := false, limited := false, wasAuto := false,
           resume := false, reseat := none, fxDue := false, wrote := false }

/-- Entering MANUAL, AUTO or HOLD from another mode (Table 05-7). -/
def LoopCh.toMode (x : LoopCh) (mode : LoopMode) : LoopCh :=
  { x with mode := mode, blend := none, wasAuto := false, reseat := none,
           states := if mode = .auto then List.replicate 8 0 else x.states,
           resume := decide (mode = .auto), runs := if x.mode = .off then 0 else x.runs }

/-- Move a channel to a mode; the fault flag is cleared. Every change raises EV039 (R134). -/
def Mod.loopMode (m : Mod) (i : Nat) (mode : LoopMode) : Mod :=
  let x := { m.loopCh i with fault := false, faultCode := 0 }
  if x.mode = mode then m.setLoop i x
  else if mode = .off then
    let m := m.setLoop i x.toOff
    let m := { m with loop := { m.loop with fxOff := m.loopSlot i ++ m.loop.fxOff } }
    let m := if x.stale then m.loopEv i (33, 0) else m
    let m := if x.sched1 then m.loopEv i (36, 0) else m
    let m := if x.sched2 then m.loopEv i (36, 2) else m
    m.loopEv i (39, 0)
  else (m.setLoop i (x.toMode mode)).loopEv i (39, mode.code)

/-- The first frame after an entry into RUN: channels with auto_enable enter their enable_mode (R119, R471) (log entry 30). -/
def Mod.loopEntryRun (m : Mod) : Mod :=
  foldN 64 (fun m i =>
    let r := m.loopRec i
    if (m.loopCh i).mode = .off ∧ (rd r 82 2).testBit 2 ∧ rd r 0 1 ≠ 0 then m.loopMode i (modeOf (rd r 0 1)) else m) m

/-! ### LOOP class operations -/

/-- 0x0401 -/
def opLoopGetInfo : Op := opInfo 4 64

/-- 0x0402 -/
def opLoopGetStatus : Op where
  len := exactly 0
  insts := 64
  body := fun c m =>
    let x := m.loopCh c.inst.toNat
    let f := b2n x.fault + b2n x.stale * 2 + b2n x.blend.isSome * 4 + b2n x.limited * 8 + b2n (x.sched1 || x.sched2) * 16
    Res.ok m (le 1 x.mode.code ++ le 1 f ++ le 1 x.bin1 ++ le 1 x.bin2 ++ le 2 x.set
      ++ le 2 (match x.blend with | some b => b.fromSet | none => 0xFFFF)
      ++ le 4 (match x.blend with | some b => b.w.toNat | none => 0)
      ++ le 4 x.bump.toNat ++ le 4 x.yPrev.toNat ++ le 4 x.e.toNat ++ le 4 x.sp.toNat ++ le 4 x.fb.toNat
      ++ le 4 x.runs.toNat ++ le 1 x.faultCode ++ le 1 m.loop.places ++ le 2 0 ++ le 8 m.lanes.computed)

/-- 0x0403 (R117, R119) -/
def opLoopSetConfig : Op where
  len := exactly 120
  insts := 64
  stamped := fun _ => true
  body := fun c m =>
    let i := c.inst.toNat
    let r := slice c.params 0 120
    let old := m.loopRec i
    let named := match destKey r with
      | none => false
      | some k => (List.range 64).any fun j => j != i && destKey (m.loopRec j) == some k
    let moved := rd old 3 1 != rd r 3 1 || rd old 76 1 != rd r 76 1 || rd old 80 2 != rd r 80 2
    if !loopRecordOk r || named then Res.err m St.badParam
    else if moved ∧ (m.loopCh i).mode ≠ .off then Res.err m St.notReady
    else Res.ok ((m.setCfg 0x0403 i r).markSet 1)

/-- 0x0404 -/
def opLoopGetConfig : Op where
  len := exactly 0
  insts := 64
  body := fun c m => Res.ok m (m.loopRec c.inst.toNat)

/-- 0x0405 (R471) -/
def opLoopEnable : Op where
  len := exactly 0
  insts := 64
  stamped := fun _ => true
  body := fun c m =>
    let i := c.inst.toNat
    let mode := rd (m.loopRec i) 0 1
    if mode = 0 then Res.err m St.notReady
    else if (m.loopCh i).mode = .off then Res.ok (m.loopMode i (modeOf mode))
    else Res.ok m

/-- 0x0406 -/
def opLoopDisable : Op where
  len := exactly 0
  insts := 64
  stamped := fun _ => true
  body := fun c m => Res.ok (m.loopMode c.inst.toNat .off)

/-- 0x0407: OFF, record and breakpoints restored from SET_CAL, else the defaults (R471). -/
def opLoopResetInstance : Op where
  len := exactly 0
  insts := 64
  stamped := fun _ => true
  body := fun c m =>
    let i := c.inst.toNat
    Res.ok ((((m.loopMode i .off).restore 1 0x0403 i).restore 1 0x0412 (2 * i)).restore 1 0x0412 (2 * i + 1))

/-- 0x0410 (R134) -/
def opSetMode : Op where
  len := exactly 8
  insts := 64
  stamped := fun _ => true
  body := fun c m =>
    let i := c.inst.toNat
    let mode := rd c.params 0 1
    if mode = 0 ∨ 3 < mode ∨ !isZero c.params 1 3 ∨ !S.isFin (rdF c.params 4) then Res.err m St.badParam
    else if (m.loopCh i).mode = .off then Res.err m St.notReady
    else
      let x := m.loopCh i
      Res.ok ((m.setLoop i { x with manual := if mode = 1 then rdF c.params 4 else x.manual }).loopMode i (modeOf mode))

/-- 0x0411 (R115) -/
def opSetSetpoint : Op where
  len := exactly 12
  insts := 64
  stamped := fun _ => true
  body := fun c m =>
    let i := c.inst.toNat
    let w := rd c.params 0 1
    let r := m.loopRec i
    if w = 0 ∨ 3 < w ∨ !isZero c.params 1 3 ∨ !S.isFin (rdF c.params 4) ∨ !S.isFin (rdF c.params 8)
        ∨ (w.testBit 0 ∧ rd r 4 1 ≠ 1) ∨ (w.testBit 1 ∧ rd r 28 1 ≠ 1) then Res.err m St.badParam
    else
      let x := m.loopCh i
      Res.ok (m.setLoop i { x with cmdSp := if w.testBit 0 then rdF c.params 4 else x.cmdSp
                                   cmdFf := if w.testBit 1 then rdF c.params 8 else x.cmdFf })

/-- The values rise strictly. -/
def rising : List F32 → Bool
  | [] => true
  | [_] => true
  | a :: b :: t => S.lt a b && rising (b :: t)

/-- 0x0412 (R125) -/
def opSetBreakpoints : Op where
  len := fun c => 8 ≤ c.plen.toNat && c.plen.toNat == 8 + 4 * rd c.params 3 1
  insts := 64
  stamped := fun c => rd c.params 1 1 == 1
  body := fun c m =>
    let i := c.inst.toNat
    let var := rd c.params 0 1
    let final := rd c.params 1 1
    let start := rd c.params 2 1
    let n := rd c.params 3 1
    let total := rd c.params 4 1
    let vals := (List.range n).map fun k => rdF c.params (8 + 4 * k)
    let x := m.loopCh i
    let old := if start = 0 then [] else if var = 0 then x.stage1 else x.stage2
    let buf := old.take start ++ vals ++ old.drop (start + n)
    let vec := buf.take total
    if 1 < var ∨ 1 < final ∨ 62 < start ∨ 56 < n ∨ 63 < start + n ∨ !isZero c.params 5 3 ∨ !vals.all S.isFin
        ∨ old.length < start then Res.err m St.badParam
    else if final = 1 ∧ (63 < total ∨ buf.length < total ∨ !rising vec) then Res.err m St.badParam
    else
      let m := m.setLoop i (if var = 0 then { x with stage1 := buf } else { x with stage2 := buf })
      Res.ok (if final = 1 then (m.setCfg 0x0412 (2 * i + var) (vec.flatMap fun v => le 4 v.toNat)).markSet 1 else m)

/-- 0x0413 (R127) -/
def opWriteSchedule : Op where
  len := fun c => 4 ≤ c.plen.toNat && c.plen.toNat == 4 + 2 * rd c.params 2 2
  stamped := fun _ => true
  body := fun c m =>
    let first := rd c.params 0 2
    let n := rd c.params 2 2
    let ent := fun k => rd c.params (4 + 2 * k) 2
    if n = 0 ∨ 112 < n ∨ 16384 < first + n ∨ (List.range n).any (fun k => ent k / 1024 % 4 == 3) then
      Res.err m St.badParam
    else
      Res.ok (Mod.markSet { m with sched := foldN n (fun t k => Tab.put 0 t (first + k) (BitVec.ofNat 16 (ent k))) m.sched } 1)

/-- The set is a blend side of a channel (R128). -/
def Mod.blendSide (m : Mod) (set : Nat) : Bool :=
  m.loop.ch.any fun p => match p.2.blend with | some b => b.fromSet == set || p.2.set == set | none => false

/-- The set is the current set of a channel that is not OFF (R128). -/
def Mod.setInUse (m : Mod) (set : Nat) : Bool :=
  (List.range 64).any fun i => decide ((m.loopCh i).mode ≠ .off) && (m.loopCh i).set == set

/-- 0x0414 (R128): the set is replaced as a whole; AUTO channels on it reseat from its old contents at their run. -/
def opWriteCoeff : Op where
  len := exactly 92
  stamped := fun _ => true
  body := fun c m =>
    let set := rd c.params 0 2
    let new := (List.range 22).map fun k => rdF c.params (4 + 4 * k)
    if 1023 < set ∨ !isZero c.params 2 2 ∨ !new.all S.isFin then Res.err m St.badParam
    else if m.blendSide set then Res.err m St.busy
    else
      let used := m.setInUse set
      let old := m.coeffSet set
      let m := foldN 64 (fun m i =>
        let x := m.loopCh i
        if x.mode = .auto ∧ x.set = set ∧ x.reseat.isNone then m.setLoop i { x with reseat := some old } else m) m
      let m := { m with coeff := Tab.put [] m.coeff set (if new.all (· == 0) then [] else new) }
      let m := if used && !m.loop.swapped.contains set then
          Mod.raise { m with loop := { m.loop with swapped := set :: m.loop.swapped } } 37 (0xFF + set * 256)
        else m
      Res.ok (m.markSet 1)

/-- 0x0415: the tables as committed. -/
def opReadTable : Op where
  len := exactly 8
  body := fun c m =>
    let what := rd c.params 0 1
    let var := rd c.params 1 1
    let idx := rd c.params 2 2
    let n := rd c.params 4 2
    if !isZero c.params 6 2 then Res.err m St.badParam
    else match what with
    | 0 => if var ≠ 0 ∨ n = 0 ∨ 112 < n ∨ 16384 < idx + n then Res.err m St.badParam
           else Res.ok m ((List.range n).flatMap fun k => le 2 (Tab.get (0 : BitVec 16) m.sched (idx + k)).toNat)
    | 1 => if var ≠ 0 ∨ n ≠ 0 ∨ 1023 < idx then Res.err m St.badParam
           else Res.ok m ((List.range 22).flatMap fun k => le 4 ((m.coeffSet idx).getD k 0).toNat)
    | 2 => if 1 < var ∨ n ≠ 0 ∨ 63 < idx then Res.err m St.badParam
           else
             let bp := m.breakpoints idx var
             Res.ok m (le 1 bp.length ++ zeros 3 ++ bp.flatMap fun v => le 4 v.toNat)
    | _ => Res.err m St.badParam

/-- LOOP_GET_INFO (R98). -/
def execLoopGetInfo (c : Cmd) (s : State) : Host.Outcome State Fault Refusal := s.act fun m => m.serve 0x0401 opLoopGetInfo c
/-- LOOP_GET_STATUS (R134). -/
def execLoopGetStatus (c : Cmd) (s : State) : Host.Outcome State Fault Refusal := s.act fun m => m.serve 0x0402 opLoopGetStatus c
/-- LOOP_SET_CONFIG (R117). -/
def execLoopSetConfig (c : Cmd) (s : State) : Host.Outcome State Fault Refusal := s.act fun m => m.serve 0x0403 opLoopSetConfig c
/-- LOOP_GET_CONFIG (R117). -/
def execLoopGetConfig (c : Cmd) (s : State) : Host.Outcome State Fault Refusal := s.act fun m => m.serve 0x0404 opLoopGetConfig c
/-- LOOP_ENABLE (R134, R471). -/
def execLoopEnable (c : Cmd) (s : State) : Host.Outcome State Fault Refusal := s.act fun m => m.serve 0x0405 opLoopEnable c
/-- LOOP_DISABLE (R134). -/
def execLoopDisable (c : Cmd) (s : State) : Host.Outcome State Fault Refusal := s.act fun m => m.serve 0x0406 opLoopDisable c
/-- LOOP_RESET_INSTANCE (R471). -/
def execLoopResetInstance (c : Cmd) (s : State) : Host.Outcome State Fault Refusal := s.act fun m => m.serve 0x0407 opLoopResetInstance c
/-- SET_MODE (R134). -/
def execSetMode (c : Cmd) (s : State) : Host.Outcome State Fault Refusal := s.act fun m => m.serve 0x0410 opSetMode c
/-- SET_SETPOINT (R115). -/
def execSetSetpoint (c : Cmd) (s : State) : Host.Outcome State Fault Refusal := s.act fun m => m.serve 0x0411 opSetSetpoint c
/-- SET_BREAKPOINTS (R125). -/
def execSetBreakpoints (c : Cmd) (s : State) : Host.Outcome State Fault Refusal := s.act fun m => m.serve 0x0412 opSetBreakpoints c
/-- WRITE_SCHEDULE (R127). -/
def execWriteSchedule (c : Cmd) (s : State) : Host.Outcome State Fault Refusal := s.act fun m => m.serve 0x0413 opWriteSchedule c
/-- WRITE_COEFF (R128). -/
def execWriteCoeff (c : Cmd) (s : State) : Host.Outcome State Fault Refusal := s.act fun m => m.serve 0x0414 opWriteCoeff c
/-- READ_TABLE. -/
def execReadTable (c : Cmd) (s : State) : Host.Outcome State Fault Refusal := s.act fun m => m.serve 0x0415 opReadTable c

/-- The LOOP class. -/
def loopOps : List (Nat × Op) :=
  [(0x0401, opLoopGetInfo), (0x0402, opLoopGetStatus), (0x0403, opLoopSetConfig), (0x0404, opLoopGetConfig),
   (0x0405, opLoopEnable), (0x0406, opLoopDisable), (0x0407, opLoopResetInstance), (0x0410, opSetMode),
   (0x0411, opSetSetpoint), (0x0412, opSetBreakpoints), (0x0413, opWriteSchedule), (0x0414, opWriteCoeff),
   (0x0415, opReadTable)]

end Sys2Proof.Machine
end

