-- ==== Sys2Proof/Machine/DrvBase.lean ====
section
/-! DEFINITION. Valve and power output drivers (chapter 06): words, phases, the boost path, banks and pull-offs. -/

namespace Sys2Proof.Machine

open Sys2Proof

/-! ### Records (0x0503) -/

/-- Record length of a DRV instance. -/
def drvRecLen (i : Nat) : Nat := if i < 48 then 40 else if i < 64 then 8 else 4

/-- Default record of a DRV instance. -/
def drvDflt (i : Nat) : Bytes :=
  if i < 48 then
    [0, 0, 1, 0] ++ le 2 200 ++ le 2 0 ++ le 2 100 ++ zeros 14 ++ le 2 5000 ++ le 2 80 ++ le 2 100
      ++ le 2 1000 ++ le 2 600 ++ [3] ++ zeros 5
  else if i < 64 then [0, 0] ++ le 2 200 ++ [0, 3, 0, 0]
  else if i < 76 then le 2 50 ++ zeros 2
  else [96, 0, 0, 0]

/-- The record of a DRV instance in force. -/
def Mod.drvRec (m : Mod) (i : Nat) : Bytes := m.cfgOr 0x0503 i (drvDflt i)

/-- An OUT or HS channel. -/
def Mod.drvCh (m : Mod) (i : Nat) : OutCh := Tab.get {} m.drv.ch i

/-- Write an OUT or HS channel. -/
def Mod.setDrv (m : Mod) (i : Nat) (x : OutCh) : Mod := { m with drv := { m.drv with ch := Tab.put {} m.drv.ch i x } }

/-- A bank, by DRV instance 64–75. -/
def Mod.bank (m : Mod) (b : Nat) : Bank := Tab.get {} m.drv.bank b

/-- Write a bank. -/
def Mod.setBank (m : Mod) (b : Nat) (x : Bank) : Mod := { m with drv := { m.drv with bank := Tab.put {} m.drv.bank b x } }

/-- A boost converter, by DRV instance 76–78. -/
def Mod.conv (m : Mod) (b : Nat) : Boost := Tab.get {} m.drv.boost b

/-- Write a boost converter. -/
def Mod.setConv (m : Mod) (b : Nat) (x : Boost) : Mod := { m with drv := { m.drv with boost := Tab.put {} m.drv.boost b x } }

/-- Bank of an OUT channel (R141). -/
def bankOf (i : Nat) : Nat := 64 + i / 4

/-- Converter of a bank (Table 06-1). -/
def convOf (b : Nat) : Nat := 76 + (b - 64) / 4

/-- Retries of a channel's record. -/
def retryMax (r : Bytes) (i : Nat) : Nat := if i < 48 then rd r 34 1 else rd r 5 1

/-- Event source of a DRV instance (Table 06-9). -/
def drvSrc (i : Nat) : Nat :=
  if i < 48 then 40 + i / 4 else if i < 56 then 52 else if i < 64 then 53 else if i < 76 then 40 + (i - 64) else 54

/-- A driver event (R166). -/
def Mod.drvEv (m : Mod) (i code : Nat) (value : Bool) : Mod := m.ev (drvSrc i) i code value

/-- A clamp event EV055 (R156). -/
def Mod.clampEv (m : Mod) (i code : Nat) (value : Bool) : Mod := m.ev 55 i code value

/-! ### Phases and the bank switch (R151, R157) -/

/-- Enter a phase at the present raw count. -/
def OutCh.enter (x : OutCh) (p : Phase) (now : Nat) : OutCh := { x with phase := p, phaseRaw := now }

/-- The decay that a selection gives: SLOW while the clamp is unavailable (R155, R156). -/
def OutCh.decayOf (x : OutCh) (sel : Nat) : Nat := if x.clampHot || x.clampLost then 1 else sel

/-- The channel keeps its bank switch closed: it has left OFF or IDLE, and a decay of it is not FAST, in which its low
side and its free-wheel switch are both open (R157). -/
def OutCh.active (x : OutCh) : Bool :=
  match x.phase with
  | .idle => x.mode == 1 || x.mode == 2
  | .decay => x.decayOf x.decay != 0
  | _ => true

/-- The bank switch after a change of one of its channels (R157): it closes when a channel leaves OFF or IDLE in an
enabled bank, and opens when none is active. -/
def Mod.bankSwitch (m : Mod) (b : Nat) : Mod :=
  let x := m.bank b
  let any := (List.range 4).any fun k => (m.drvCh (4 * (b - 64) + k)).active
  m.setBank b { x with closed := any && (x.closed || (x.enabled && !x.latched && !x.held)) }

/-- The boost path of a bank is released: it passes to the head of the queue (R158). -/
def Mod.grantNext (m : Mod) (b : Nat) : Mod :=
  let x := m.bank b
  match x.queue with
  | [] => m.setBank b { x with holder := none }
  | (i, _) :: q => (m.setBank b { x with holder := some i, queue := q }).setDrv i ((m.drvCh i).enter .boost m.now)

/-- A channel gives up the boost path and its request. -/
def Mod.leavePath (m : Mod) (i : Nat) : Mod :=
  let b := bankOf i
  let x := m.bank b
  let m := m.setBank b { x with queue := x.queue.filter fun p => p.1 != i }
  if x.holder = some i then m.grantNext b else m

/-- A request skips: PEAK from the bank line, BOOST_SKIPPED (R158). -/
def Mod.boostSkip (m : Mod) (i : Nat) : Mod :=
  let x := m.drvCh i
  (m.setDrv i { x.enter .peak m.now with boostSkipped := true, skips := inc32 x.skips, faultCode := 11 }).drvEv i 11 true

/-- The rail of a running converter is at or above 80 % of its set voltage when a request is made: measured, a free
value (R160; log entry 4). -/
def Mod.railOk (m : Mod) (b : Nat) : Bool × Mod :=
  let c := m.conv b
  if !c.running || c.latched then (false, m) else let d := m.draw; (d.1.getLsbD 0, d.2)

/-- A converter has stopped: the requests that wait in its banks find no rail and skip (R151, R160). -/
def Mod.railGone (m : Mod) (b : Nat) : Mod :=
  foldN 4 (fun (m : Mod) k =>
    let n := 64 + 4 * (b - 76) + k
    let q := (m.bank n).queue
    q.foldl (fun (m : Mod) p => m.boostSkip p.1) (m.setBank n { m.bank n with queue := [] })) m

/-- Place of a request in the queue: order of arrival, lower instance first at one raw count (R158). -/
def queueIn (q : List (Nat × Nat)) (i raw : Nat) : List (Nat × Nat) :=
  let before := q.filter fun p => p.2 < raw || (p.2 == raw && p.1 < i)
  let after := q.filter fun p => !(p.2 < raw || (p.2 == raw && p.1 < i))
  before ++ (i, raw) :: after

/-- A channel requests the boost path (R158, R160). -/
def Mod.boostRequest (m : Mod) (i : Nat) : Mod :=
  let b := bankOf i
  let (ok, m) := m.railOk (convOf b)
  let x := m.bank b
  if !ok then m.boostSkip i
  else match x.holder with
  | none => (m.setBank b { x with holder := some i }).setDrv i ((m.drvCh i).enter .boost m.now)
  | some _ =>
    if rd (m.drvRec b) 0 2 = 0 then m.boostSkip i
    else
      let y := m.drvCh i
      (m.setBank b { x with queue := queueIn x.queue i m.now }).setDrv i
        { y.enter .wait m.now with waitHot := y.phase != .idle }

/-- A profile is fired (R151, R152). -/
def Mod.phFire (m : Mod) (i : Nat) : Mod :=
  let x := m.drvCh i
  let m := if x.boostSkipped then (m.setDrv i { x with boostSkipped := false }).drvEv i 11 false else m
  let x := m.drvCh i
  let boosted := rd (m.drvRec i) 16 2 ≠ 0
  let again := { x with retriggers := inc32 x.retriggers }
  let m := match x.phase with
    | .idle => if boosted then m.boostRequest i else m.setDrv i (x.enter .peak m.now)
    | .wait => m
    | .boost => m.setDrv i (again.enter .boost m.now)
    | _ => if boosted then (m.setDrv i again).boostRequest i else m.setDrv i (again.enter .peak m.now)
  m.bankSwitch (bankOf i)

/-- A channel goes to zero by dec_off (R155): it decays while it conducts (a PROP or PWM channel with a setpoint or duty
of 0 while it measures 10 mA or more), else it is at zero (log entry 33). -/
def Mod.toZero (m : Mod) (i : Nat) : Mod :=
  let x := m.drvCh i
  let conducting := match x.phase with
    | .boost | .peak | .hold | .decay => true
    | .wait => x.waitHot
    | .idle => (x.mode == 1 || x.mode == 2) && (x.value != 0 || decide (40 ≤ x.cur.toInt))
  let m := if x.phase = .boost ∨ x.phase = .wait then m.leavePath i else m
  let y := { x with due := none, valRaw := 0, dither := none }
  let m := m.setDrv i (if !conducting then { y.enter .idle m.now with value := 0 }
    else if x.phase = .decay then y
    else { y.enter .decay m.now with decay := rd (m.drvRec i) 3 1, value := 0 })
  m.bankSwitch (bankOf i)

/-- A channel goes to zero by dec_off, then to OFF (DISABLE, fault reactions). -/
def Mod.turnOff (m : Mod) (i : Nat) : Mod :=
  if i < 48 then
    let m := m.toZero i
    let x := m.drvCh i
    (m.setDrv i (if x.phase = .decay then x else { x with mode := 0 })).bankSwitch (bankOf i)
  else m.setDrv i { m.drvCh i with mode := 0, value := 0, valRaw := 0 }

/-- The channel may run: enabled, not latched, not held off by a reaction, its bank neither latched nor overheated. -/
def Mod.chOn (m : Mod) (i : Nat) : Bool :=
  let x := m.drvCh i
  let b := m.bank (bankOf i)
  x.en && !x.latched && x.held.isEmpty && (decide (48 ≤ i) || (!b.latched && !b.held))

/-- A decay by the measured current: MIXED turns SLOW below i_mix, and dec_ph ends at i_hold, from where HOLD chops with
SLOW (R155) (log entry 33). -/
def Mod.mixTurn (m : Mod) (i : Nat) : Mod :=
  let x := m.drvCh i
  let r := m.drvRec i
  let mixed := x.decay = 2 ∧ (x.phase = .decay ∨ x.phase = .hold) ∧ x.cur.toInt < rd r 6 2
  let holds := x.phase = .hold ∧ x.decay ≠ 1 ∧ x.cur.toInt ≤ rd r 14 2
  if mixed ∨ holds then m.setDrv i { x with decay := 1 } else m

/-! ### Duties, dither and inrush (R149, R150, R161) -/

/-- The value field in force at a raw count: a new duty counts from its period start on (R149, R161). -/
def OutCh.inForce (x : OutCh) (now : Nat) : BitVec 16 := if now < x.valRaw then x.old else x.value

/-- First period start after `raw` of bank position `q`, whose periods start a quarter period after those of position
q − 1 (R149). -/
def periodStart (anchor freq q raw : Nat) : Nat :=
  let quarters := (raw - anchor) * (4 * freq) / secs 1
  let k := (quarters + 4 - q) / 4
  anchor + ((4 * k + q) * secs 1 + (4 * freq - 1)) / (4 * freq)

/-- The common period start of the channels of a bank that share a frequency; the first of them to run starts it, at an
instant that is free (R149; log entry 4). -/
def Mod.pwmAnchor (m : Mod) (i freq raw : Nat) : Nat × Mod :=
  let mates := if i < 48 then (List.range 4).map (fun k => 4 * (i / 4) + k) else []
  match mates.find? (fun j => j != i && (m.drvCh j).mode == 1 && (m.drvCh j).freq == freq) with
  | some j => ((m.drvCh j).anchor, m)
  | none => let d := m.draw; (raw - d.1.toNat % (secs 1 / freq), d.2)

/-- A PWM channel takes a duty at `raw` (R149, R161). -/
def Mod.pwmTake (m : Mod) (i mode : Nat) (v : BitVec 16) (raw : Nat) : Mod :=
  let x := m.drvCh i
  let freq := if i < 48 then rd (m.drvRec i) 4 2 else rd (m.drvRec i) 2 2
  if x.mode = mode ∧ x.freq = freq ∧ x.value = v then m
  else
    let p := if x.mode = mode ∧ x.freq = freq then (x.anchor, m) else m.pwmAnchor i freq raw
    let old := if x.mode = mode then x.inForce raw else 0
    let from' := periodStart p.1 freq (if i < 48 then i % 4 else 0) raw
    p.2.setDrv i { x with mode := mode, value := v, old := old, valRaw := from', freq := freq, anchor := p.1, phase := .idle,
                          onRaw := if old = 0 ∧ v ≠ 0 then from' else x.onRaw }

/-- The dither as it counts at `now`. -/
def Dither.at' (t : Dither) (now : Nat) : Dither :=
  match t.next with
  | some (from', freq, raw) => if from' ≤ now then { freq := freq, raw := raw } else t
  | none => t

/-- A new dither frequency counts from the next crossing of the mean (R150). -/
def Dither.retune (t : Dither) (freq raw : Nat) : Dither :=
  let t := t.at' raw
  if t.freq = freq then { t with next := none }
  else
    let k := (raw - t.raw) * (2 * t.freq) / secs 1 + 1
    let cross := t.raw + k * secs 1 / (2 * t.freq)
    { t with next := some (cross, freq, if k % 2 = 0 then cross else cross - secs 1 / (2 * freq)) }

/-- A PROP channel takes a setpoint at `raw`; its dither runs on, and a setpoint of 0 stops it (R150). The triangle's
first crossing is free (log entry 4). -/
def Mod.propTake (m : Mod) (i : Nat) (v : BitVec 16) (raw : Nat) : Mod :=
  let x := m.drvCh i
  let r := m.drvRec i
  let freq := rd r 8 2
  let x := { x with mode := 2, value := v, valRaw := 0, phase := .idle }
  if !(rd r 1 1).testBit 1 || v == 0 then m.setDrv i { x with dither := none }
  else match x.dither with
  | some t => m.setDrv i { x with dither := some (t.retune freq raw) }
  | none =>
    let d := m.draw
    d.2.setDrv i { x with dither := some { freq := freq, raw := raw - d.1.toNat % (secs 1 / freq) } }

/-- Triangle of `pp` peak to peak at a raw count, times the counts of a second. -/
def Dither.wave (t : Dither) (pp now : Nat) : Int :=
  let c := secs 1
  let p := (now - t.raw) * t.freq % c
  if 4 * p < c then (2 * pp * p : Nat)
  else if 4 * p < 3 * c then (pp * c : Nat) - (2 * pp * p : Nat)
  else (2 * pp * p : Nat) - (2 * pp * c : Nat)

/-- Current that the regulator of a PROP channel aims at, in 0.25 mA: the setpoint and its dither, limited to 0–4,000 mA
(R150). -/
def OutCh.command (x : OutCh) (r : Bytes) (now : Nat) : Int :=
  let w := match x.dither with
    | some t => (t.at' now).wave (rd r 10 2) now / (secs 1 : Nat)
    | none => 0
  if x.value = 0 then 0 else max 0 (min 16000 (x.value.toNat + w))

/-- Current limit of an HS output, mA: 20 A for 5 ms after a switch-on with inrush LAMP (R161). -/
def OutCh.hsLimit (x : OutCh) (r : Bytes) (now : Nat) : Nat :=
  if rd r 4 1 = 1 ∧ x.onRaw ≤ now ∧ now < x.onRaw + ms 5 then 20000 else 12000

/-- The channel takes its mode and value at `raw`, a frame start or the end of a retry. -/
def Mod.applyAt (m : Mod) (raw i : Nat) : Mod :=
  let x := m.drvCh i
  let mode := rd (m.drvRec i) 0 1
  let v := BitVec.ofNat 16 x.word.toNat
  if !m.chOn i || mode == 0 then (if x.mode = 0 ∨ x.phase = .decay then m else m.turnOff i)
  else if i < 48 then
    let m := if mode = 3 then m.setDrv i { x with mode := 3, value := 0, valRaw := 0, dither := none }
      else if mode = 2 then m.propTake i v raw
      else m.pwmTake i mode v raw
    m.bankSwitch (bankOf i)
  else if mode = 2 then m.pwmTake i mode v raw
  else m.setDrv i { x with mode := mode, value := v, valRaw := 0, phase := .idle,
                           onRaw := if (x.mode = 0 ∨ x.inForce raw = 0) ∧ v ≠ 0 then raw else x.onRaw }

/-- The channel takes its mode and value now. -/
def Mod.applyMode (m : Mod) (i : Nat) : Mod := m.applyAt m.now i

/-- Retries used: the count is reset after 10 s without the fault (R164). -/
def OutCh.used (x : OutCh) (now : Nat) : Nat := if x.retryRaw + secs 10 ≤ now then 0 else x.retries

/-! ### Output words (R144–R147) -/

/-- The loop channel that owns an OUT or HS instance, and its dest_kind (R146). -/
def Mod.drvOwner (m : Mod) (i : Nat) : Option (Nat × Nat) :=
  (m.loopOwner 1 i).map fun j => (j, rd (m.loopRec j) 76 1)

/-- A destination kind matches a driver mode (R147). -/
def kindFits (i kind mode : Nat) : Bool :=
  if 48 ≤ i then mode == 1 || mode == 2 else if kind = 1 then mode == 2 else mode == 1

/-- The value field a loop output gives (R146). -/
def loopValue (kind : Nat) (y : F32) : Nat :=
  (S.rne (S.scaled y * (if kind = 1 then 4 else 65535)) (2 ^ 149)).toNat

/-- The word latched for a channel, and whether it is of the wrong kind (R144, R147). -/
def Mod.drvWord (m : Mod) (i : Nat) : BitVec 32 × Bool :=
  let x := m.drvCh i
  let mode := rd (m.drvRec i) 0 1
  if !x.en || mode == 0 then (0, false)
  else match m.drvOwner i with
  | some (j, kind) =>
    let l := m.loopCh j
    if kindFits i kind mode then (w32 (if l.mode = .off then 0 else loopValue kind l.yPrev), false) else (0, true)
  | none => if i < 48 ∧ mode = 3 then (x.fireReq, false) else (w32 x.want.toNat, false)

/-- Latch the word of a channel (R144). -/
def Mod.latchWord (m : Mod) (i : Nat) : Mod :=
  m.setDrv i { m.drvCh i with word := (m.drvWord i).1, fresh := true }

/-- The output latch of a computed frame (R43). -/
def Mod.drvLatch (m : Mod) : Mod := foldN 64 Mod.latchWord m

/-- A newly latched word is applied at the frame start `raw` (R144, R145, R147). -/
def Mod.applyWord (m : Mod) (raw i : Nat) : Mod :=
  let x := m.drvCh i
  if !x.fresh then m
  else
    let wrong := (m.drvWord i).2
    let m := m.setDrv i { x with fresh := false, fireReq := 0, wrongKind := wrong,
                                 faultCode := if wrong && !x.wrongKind then 12 else x.faultCode }
    let m := if wrong = x.wrongKind then m else m.drvEv i 12 wrong
    let m := m.applyAt raw i
    let w := x.word.toNat
    if i < 48 ∧ (m.drvCh i).mode = 3 ∧ m.chOn i ∧ (w.testBit 24 ∨ w.testBit 25) then
      m.setDrv i { m.drvCh i with due := some (raw + us (bits w 23 16)), dueStop := w.testBit 25 }
    else m

/-- The drivers at a frame start with the token held: words, banks and converters as commanded (R144, R167). -/
def Mod.drvApply (m : Mod) (raw : Nat) : Mod :=
  if !m.pd 9 || m.lanes.driving.isNone then m
  else
    let m := foldN 12 (fun m k =>
      let x := m.bank (64 + k)
      m.setBank (64 + k) { x with enabled := x.en && !x.latched }) m
    let m := foldN 3 (fun m k =>
      let x := m.conv (76 + k)
      let run := x.en && !x.latched && !x.held
      let m := m.setConv (76 + k) { x with running := run, railRaw := if run && !x.running then raw else x.railRaw }
      if run then m else m.railGone (76 + k)) m
    let m := foldN 64 (fun m i => m.applyWord raw i) m
    let m := foldN 12 (fun m k => m.bankSwitch (64 + k)) m
    { m with drv := { m.drv with pulled := false } }

/-- The hardware pull-offs act (R167): every switch opens, and every instance is OFF. -/
def Mod.pullOff (m : Mod) : Mod :=
  { m with drv := { m.drv with
      pulled := true
      ch := foldN 64 (fun t i => Tab.upd {} t i fun x =>
        { x with mode := 0, phase := .idle, value := 0, valRaw := 0, dither := none, want := 0, fireReq := 0, word := 0, fresh := false, due := none,
                 en := false }) m.drv.ch
      bank := foldN 12 (fun t k => Tab.upd {} t (64 + k) fun x =>
        { x with en := false, enabled := false, closed := false, holder := none, queue := [] }) m.drv.bank
      boost := foldN 3 (fun t k => Tab.upd {} t (76 + k) fun x => { x with en := false, running := false }) m.drv.boost } }

/-- The first frame after an entry into RUN: channels with auto_enable are enabled with value 0 (R167) (log entries 30, 33). -/
def Mod.drvEntryRun (m : Mod) : Mod :=
  foldN 64 (fun m i =>
    let r := m.drvRec i
    let x := m.drvCh i
    if (rd r 1 1).testBit 0 ∧ rd r 0 1 ≠ 0 ∧ !x.latched then m.setDrv i { x with en := true, want := 0, fireReq := 0 }
    else m) m

/-! ### Faults (R164) -/

/-- A channel latches: off by dec_off, and it stays OFF until CLEAR_FAULT. -/
def Mod.latchCh (m : Mod) (i : Nat) : Mod :=
  let m := m.setDrv i { m.drvCh i with latched := true, en := false, want := 0, fireReq := 0 }
  m.turnOff i

/-- The four channels of a bank go to zero. -/
def Mod.bankOff (m : Mod) (b : Nat) : Mod :=
  let m := foldN 4 (fun m k => let i := 4 * (b - 64) + k; if (m.drvCh i).mode = 0 then m else m.turnOff i) m
  m.bankSwitch b

/-- A bank latches. -/
def Mod.latchBank (m : Mod) (b : Nat) (code : Nat) : Mod :=
  (m.setBank b { m.bank b with latched := true, en := false, enabled := false, faultCode := code }).bankOff b

/-- A detection on a channel: its flag stands and its event is raised, again for a retry that meets it again (R164) (log entry 64). -/
def Mod.flagCh (m : Mod) (i code : Nat) : Mod :=
  let x := m.drvCh i
  (m.setDrv i { x with flags := if x.flags.contains code then x.flags else code :: x.flags, faultCode := code }).drvEv
    i code true

/-- The trips within a window, with one more now; the fourth latches. -/
def trip (ts : List Nat) (now window : Nat) : List Nat := now :: ts.filter fun t => now < t + window

/-- Driver status word of an instance as the feedback image carries it (elements 384–447, Table 07-1). -/
def OutCh.status (x : OutCh) : Nat :=
  let ph := if x.mode = 3 then (match x.phase with
    | .idle => 0 | .wait => 1 | .boost => 2 | .peak => 3 | .hold => 4 | .decay => 5) else 0
  ph + b2n x.latched * 8 + b2n (x.clampHot || x.clampLost) * 16 + b2n x.boostSkipped * 32
    + b2n (x.flags.contains 1 || x.flags.contains 2) * 64 + b2n (x.flags.contains 6) * 128 + x.faultCode % 256 * 256

end Sys2Proof.Machine
end

