-- ==== Sys2Proof/Machine/DrvOps.lean ====
section
/-! DEFINITION. Driver events and DRV class operations (chapter 06). -/

namespace Sys2Proof.Machine

open Sys2Proof

/-! ### The profile's instants (R151–R153, R158) -/

/-- PH_FIRE_INSTANT: at fire_us of its frame the profile starts or restarts. -/
def execPhFireInstant (inst : Nat) (s : State) : Host.Outcome State Fault Refusal := s.act fun m =>
  let x := m.drvCh inst
  match x.due with
  | some t =>
    if 48 ≤ inst ∨ x.dueStop ∨ x.mode ≠ 3 then m
    else ((m.until t).setDrv inst { x with due := none }).phFire inst
  | none => m

/-- PROFILE_STOP: a stop at fire_us ends the profile (R153). -/
def execProfileStop (inst : Nat) (s : State) : Host.Outcome State Fault Refusal := s.act fun m =>
  let x := m.drvCh inst
  match x.due with
  | some t =>
    if 48 ≤ inst ∨ !x.dueStop ∨ x.mode ≠ 3 then m
    else
      let m := (m.until t).setDrv inst { x with due := none, dueStop := false }
      if x.phase = .idle ∨ x.phase = .decay then m else m.toZero inst
  | none => m

/-- BOOST_WAIT_EXPIRY: a request still queued BOOST_WAIT after it was made skips (R158). -/
def execBoostWaitExpiry (inst : Nat) (s : State) : Host.Outcome State Fault Refusal := s.act fun m =>
  let b := bankOf inst
  let x := m.bank b
  match x.queue.find? fun p => p.1 == inst with
  | some (_, t) =>
    let m := (m.until (t + us (rd (m.drvRec b) 0 2))).setBank b { x with queue := x.queue.filter fun p => p.1 != inst }
    m.boostSkip inst
  | none => m

/-- BOOST_END: BOOST ends at i_peak, or at t_boost_max, and releases the path (R151). -/
def execBoostEnd (inst : Nat) (reached : Bool) (s : State) : Host.Outcome State Fault Refusal := s.act fun m =>
  let x := m.drvCh inst
  if x.phase ≠ .boost then m
  else
    let m := if reached then m else m.until (x.phaseRaw + us (rd (m.drvRec inst) 16 2))
    (m.setDrv inst { x.enter .peak m.now with boostTimeout := !reached }).leavePath inst

/-- PEAK_END: t_peak after PEAK began the profile goes to HOLD, by dec_ph down to i_hold (R151, R155). -/
def execPeakEnd (inst : Nat) (s : State) : Host.Outcome State Fault Refusal := s.act fun m =>
  let x := m.drvCh inst
  if x.phase ≠ .peak then m
  else
    let m := m.until (x.phaseRaw + us (rd (m.drvRec inst) 18 2))
    (m.setDrv inst { x.enter .hold m.now with decay := rd (m.drvRec inst) 2 1 }).mixTurn inst

/-- HOLD_END: t_hold has elapsed, if it is not 0; the profile decays by dec_off (R151). -/
def execHoldEnd (inst : Nat) (s : State) : Host.Outcome State Fault Refusal := s.act fun m =>
  let x := m.drvCh inst
  let t := rd (m.drvRec inst) 20 4
  if x.phase ≠ .hold ∨ t = 0 then m else (m.until (x.phaseRaw + us t)).toZero inst

/-- DECAY_END: the current falls below 10 mA; a channel that was turned off is OFF then (R151, R157). -/
def execDecayEnd (inst : Nat) (s : State) : Host.Outcome State Fault Refusal := s.act fun m =>
  let x := m.drvCh inst
  if 48 ≤ inst ∨ x.phase ≠ .decay then m
  else (m.setDrv inst { x.enter .idle m.now with mode := if m.chOn inst then x.mode else 0 }).bankSwitch (bankOf inst)

/-! ### Diagnostics (Table 06-8) -/

/-- SHORT_BAT: retry up to retry_max, the count reset after 10 s clean, then latch. -/
def Mod.shortBat (m : Mod) (i : Nat) : Mod :=
  let x := m.drvCh i
  let tries := x.used m.now
  let m := (m.setDrv i { x with retries := tries, retryRaw := m.now }).flagCh i 3
  if tries < retryMax (m.drvRec i) i then (m.setDrv i { m.drvCh i with held := 3 :: x.held.filter (· != 3) }).turnOff i else m.latchCh i

/-- OT_CHANNEL: off by dec_off; the fourth trip in 60 s latches. -/
def Mod.otChannel (m : Mod) (i : Nat) : Mod :=
  let x := m.drvCh i
  let ts := trip x.trips m.now (secs 60)
  let m := (m.setDrv i { x with trips := ts }).flagCh i 7
  if ts.length < 4 then (m.setDrv i { m.drvCh i with held := 7 :: x.held.filter (· != 7) }).turnOff i else m.latchCh i

/-- A detection on an OUT or HS channel (log entry 64). -/
def Mod.detectCh (m : Mod) (i code : Nat) : Mod :=
  let x := m.drvCh i
  if x.latched ∨ (x.flags.contains code ∧ (x.held.contains code ∨ (code ≠ 3 ∧ code ≠ 7))) then m
  else match code with
  | 2 => if i < 48 then m.flagCh i 2 else m
  | 3 => m.shortBat i
  | 4 => if i < 48 then (m.flagCh i 4).latchBank (bankOf i) 4 else (m.flagCh i 4).latchCh i
  | 5 => (m.flagCh i 5).latchCh i
  | 6 => if 48 ≤ i then m
         else if (rd (m.drvRec i) 1 1).testBit 2 then (m.flagCh i 6).latchCh i else m.flagCh i 6
  | 7 => m.otChannel i
  | _ => m

/-- A detection on a bank: OT_BANK, the BANK_OC warning, or (0x109) the BANK_OC trip. -/
def Mod.detectBank (m : Mod) (b code : Nat) : Mod :=
  let x := m.bank b
  if x.latched then m
  else match code with
  | 8 =>
    if x.held then m else
    let ts := trip x.trips m.now (secs 60)
    let m := (m.setBank b { x with trips := ts, flags := 8 :: x.flags.filter (· != 8), faultCode := 8, held := true }).drvEv b 8 true
    if ts.length < 4 then m.bankOff b else m.latchBank b 8
  | 9 => if x.flags.contains 9 then m
         else (m.setBank b { x with flags := 9 :: x.flags, faultCode := 9 }).drvEv b 9 true
  | 0x109 => ((m.setBank b { x with flags := 0x109 :: x.flags }).drvEv b 9 true).latchBank b 9
  | _ => m

/-- A detection on a converter (13) or on its VACT feed (14). -/
def Mod.detectConv (m : Mod) (b code : Nat) : Mod :=
  let x := m.conv b
  match code with
  | 13 =>
    if x.held ∨ x.latched then m else
    let ts := trip x.trips m.now (secs 3600)
    let m := m.setConv b { x with trips := ts, flags := 13 :: x.flags.filter (· != 13), faultCode := 13, held := true,
                                  running := false,
                                  latched := decide (4 ≤ ts.length), en := x.en && decide (ts.length < 4) }
    (m.drvEv b 13 true).railGone b
  | 14 => if x.flags.contains 14 then m
          else (m.setConv b { x with flags := 14 :: x.flags, faultCode := 14 }).drvEv b 14 true
  | _ => m

/-- DRV_FAULT_DETECT: a condition of Table 06-8 is detected and the hardware reacts, without a lane. Code 0x109 is
the row "> 12 A, or 40 A for 50 µs" of code 9. -/
def execDrvFaultDetect (inst code : Nat) (s : State) : Host.Outcome State Fault Refusal := s.act fun m =>
  if !m.pd 9 then m
  else if inst < 64 then m.detectCh inst code
  else if inst < 76 then m.detectBank inst code
  else if inst < 79 then m.detectConv inst code
  else m

/-- A standing flag of a channel ends, with its event. -/
def Mod.unflagCh (m : Mod) (i code : Nat) : Mod :=
  let x := m.drvCh i
  if x.flags.contains code then (m.setDrv i { x with flags := x.flags.filter (· != code) }).drvEv i code false else m

/-- A standing flag of a bank ends; the BANK_OC trip (0x109) has code 9. -/
def Mod.unflagBank (m : Mod) (b code : Nat) : Mod :=
  let x := m.bank b
  if x.flags.contains code then (m.setBank b { x with flags := x.flags.filter (· != code) }).drvEv b (code % 256) false else m

/-- A standing flag of a converter or feed ends. -/
def Mod.unflagConv (m : Mod) (b code : Nat) : Mod :=
  let x := m.conv b
  if x.flags.contains code then (m.setConv b { x with flags := x.flags.filter (· != code) }).drvEv b code false else m

/-- DRV_RETRY: a shorted channel 100 ms after its shut-off, a cooled channel or bank, or a converter 1 s after its
shut-off comes back; where two reactions hold a channel off, each has its own return; whether the condition still holds
shows after it (log entry 64). -/
def execDrvRetry (inst : Nat) (s : State) : Host.Outcome State Fault Refusal := s.act fun m =>
  if inst < 64 then
    let x := m.drvCh inst
    if x.latched then m
    else if x.held = [3] ∨ (x.held.contains 3 ∧ x.retryRaw + ms 100 ≤ m.now) then
      let m := m.until (x.retryRaw + ms 100)
      (m.setDrv inst { x with held := x.held.filter (· != 3), retries := x.retries + 1, retryRaw := m.now }).applyMode inst
    else if x.held.contains 7 then (m.setDrv inst { x with held := x.held.filter (· != 7) }).applyMode inst
    else m
  else if inst < 76 then
    if (m.bank inst).latched ∨ !(m.bank inst).held then m
    else
      let m := m.setBank inst { m.bank inst with held := false }
      foldN 4 (fun m k => m.applyMode (4 * (inst - 64) + k)) m
  else if inst < 79 then
    let x := m.conv inst
    if x.latched ∨ !x.held then m
    else
      let m := m.until ((x.trips.headD 0) + secs 1)
      m.setConv inst { x with held := false, running := x.en, railRaw := m.now }
  else m

/-- OPEN_LOAD_TEST: the 100 ms test of an OFF or IDLE channel with open_test set; a test that passes clears OPEN_OFF
and OPEN_ON. -/
def execOpenLoadTest (inst : Nat) (isOpen : Bool) (s : State) : Host.Outcome State Fault Refusal := s.act fun m =>
  let x := m.drvCh inst
  let on := (rd (m.drvRec inst) 1 1).testBit (if inst < 48 then 3 else 1)
  if 64 ≤ inst ∨ !m.pd 9 ∨ !on ∨ !(x.mode == 0 || (x.mode == 3 && x.phase == .idle)) then m
  else if isOpen then (if x.flags.contains 1 then m else m.flagCh inst 1)
  else (m.unflagCh inst 1).unflagCh inst 2

/-- CLAMP_UNAVAILABLE: the clamp temperature passes 165 °C (15) or falls below 140 °C, or a FAST decay shows the
clamp faulty (10), which stands until CLEAR_FAULT (R156). -/
def execClampUnavailable (inst code : Nat) (on : Bool) (s : State) : Host.Outcome State Fault Refusal := s.act fun m =>
  let x := m.drvCh inst
  if 48 ≤ inst then m
  else if code = 15 then
    if x.clampHot = on then m
    else ((m.setDrv inst { x with clampHot := on, faultCode := if on then 15 else x.faultCode }).clampEv inst 15 on).bankSwitch
      (bankOf inst)
  else if code = 10 ∧ on ∧ !x.clampLost then
    ((m.setDrv inst { x with clampLost := true, faultCode := 10 }).clampEv inst 10 true).bankSwitch (bankOf inst)
  else m

/-- DIAGNOSTIC_CLEARING: a flag or warning that does not latch clears when its condition no longer holds; codes 3, 7, 8
and 13 after the retry that showed it (log entry 64). -/
def execDiagnosticClearing (inst code : Nat) (s : State) : Host.Outcome State Fault Refusal := s.act fun m =>
  if inst < 64 then
    let x := m.drvCh inst
    if x.latched then m
    else if code = 2 ∨ code = 6 ∨ ((code = 3 ∨ code = 7) ∧ x.held.contains code = false) then m.unflagCh inst code else m
  else if inst < 76 then
    let x := m.bank inst
    if code = 9 ∨ (code = 8 ∧ !x.latched ∧ !x.held) then m.unflagBank inst code else m
  else if inst < 79 then
    let x := m.conv inst
    if code = 14 ∨ (code = 13 ∧ !x.latched ∧ !x.held) then m.unflagConv inst code else m
  else m

/-! ### DRV class operations -/

/-- 0x0501 -/
def opDrvGetInfo : Op := opInfo 5 79

/-- Channel report of GET_STATUS. -/
def Mod.drvStatusCh (m : Mod) (i : Nat) : Bytes × Mod :=
  let x := m.drvCh i
  let d := m.draw
  let owner := (m.drvOwner i).map (·.1)
  let warning := (i < 48 && (m.bank (bankOf i)).flags.contains 9)
    || (m.conv (if i < 48 then convOf (bankOf i) else if i < 53 then 76 else if i < 58 then 77 else 78)).flags.contains 14
  let fl := b2n x.latched + b2n owner.isSome * 2 + b2n (x.clampHot || x.clampLost) * 4 + b2n x.boostSkipped * 8
    + b2n (x.flags.contains 1 || x.flags.contains 2) * 16 + b2n (x.flags.contains 6) * 32 + b2n warning * 64
  (le 1 x.mode ++ le 1 (x.status % 8) ++ le 2 fl ++ le 2 x.cur.toNat ++ le 2 (x.inForce m.now).toNat ++ le 1 x.faultCode
    ++ le 1 (x.used m.now) ++ le 1 d.1.toNat ++ le 1 (owner.getD 0xFF) ++ le 4 x.retriggers ++ le 4 x.skips
    ++ le 8 m.lanes.frame, d.2)

/-- Bank or converter report of GET_STATUS; its current, voltage and temperature are measured values. -/
def Mod.drvStatusBank (m : Mod) (i : Nat) : Bytes × Mod :=
  let d := m.draw
  let meas := le 2 d.1.toNat ++ le 2 (d.1.toNat / 2 ^ 16) ++ le 1 (d.1.toNat / 2 ^ 32) ++ zeros 3 ++ le 8 m.lanes.frame
  if i < 76 then
    let x := m.bank i
    (le 1 (b2n x.closed + b2n x.latched * 2 + b2n x.holder.isSome * 4) ++ le 1 (x.holder.getD 0xFF)
      ++ le 1 x.queue.length ++ le 1 x.faultCode ++ meas, d.2)
  else
    let x := m.conv i
    (le 1 (b2n x.running + b2n x.latched * 2) ++ le 1 0xFF ++ le 1 0 ++ le 1 x.faultCode ++ meas, d.2)

/-- 0x0502 (R164) -/
def opDrvGetStatus : Op where
  len := exactly 0
  insts := 79
  body := fun c m =>
    let i := c.inst.toNat
    let p := if i < 64 then m.drvStatusCh i else m.drvStatusBank i
    Res.ok p.2 p.1

/-- A value lies in a range. -/
def inRange (v a b : Nat) : Bool := decide (a ≤ v) && decide (v ≤ b)

/-- A DRV record keeps its limits (0x0503, R154). -/
def drvRecordOk (i : Nat) (r : Bytes) : Bool :=
  if i < 48 then
    decide (rd r 0 1 ≤ 3) && decide (rd r 1 1 ≤ 15) && decide (rd r 2 1 ≤ 2) && decide (rd r 3 1 ≤ 2)
      && inRange (rd r 4 2) 50 5000 && inRange (rd r 8 2) 50 400 && decide (rd r 10 2 ≤ 2000)
      && decide (rd r 12 2 ≤ 32000) && decide (rd r 14 2 ≤ 16000) && decide (rd r 14 2 ≤ rd r 12 2)
      && decide (rd r 16 2 ≤ 2000) && decide (rd r 18 2 ≤ 10000) && inRange (rd r 24 2) 100 10000
      && inRange (rd r 28 2) 10 1000 && decide (1 ≤ rd r 30 2) && decide (1 ≤ rd r 32 2) && decide (rd r 34 1 ≤ 7)
      && isZero r 35 5 && (!(rd r 2 1 == 2 || rd r 3 1 == 2) || decide (rd r 6 2 < rd r 12 2))
      && (decide (rd r 12 2 ≤ 16000) || decide (rd r 16 2 + rd r 18 2 ≤ 10000))
  else if i < 64 then
    decide (rd r 0 1 ≤ 2) && decide (rd r 1 1 ≤ 3) && inRange (rd r 2 2) 100 1000 && decide (rd r 4 1 ≤ 1)
      && decide (rd r 5 1 ≤ 7) && isZero r 6 2
  else if i < 76 then decide (rd r 0 2 ≤ 200) && isZero r 2 2
  else inRange (rd r 0 1) 48 96 && isZero r 1 3

/-- 0x0503 (R148, R154) -/
def opDrvSetConfig : Op where
  len := fun c => c.plen.toNat == drvRecLen c.inst.toNat || 79 ≤ c.inst.toNat
  insts := 79
  stamped := fun _ => true
  body := fun c m =>
    let i := c.inst.toNat
    let r := slice c.params 0 (drvRecLen i)
    let x := m.drvCh i
    if !drvRecordOk i r then Res.err m St.badParam
    else if i < 64 ∧ rd r 0 1 ≠ rd (m.drvRec i) 0 1 ∧ (x.en ∨ x.mode ≠ 0) then Res.err m St.notReady
    else
      let moved := decide (76 ≤ i) && rd r 0 1 != rd (m.drvRec i) 0 1
      let m := (m.setCfg 0x0503 i r).markSet 0
      Res.ok (if moved then m.setConv i { m.conv i with railRaw := m.now } else m)

/-- 0x0504 -/
def opDrvGetConfig : Op where
  len := exactly 0
  insts := 79
  body := fun c m => Res.ok m (m.drvRec c.inst.toNat)

/-- After a write, the word of a channel is latched anew: the write commits before its frame's output latch. -/
def Mod.relatch (m : Mod) (i : Nat) : Mod := if i < 64 then m.latchWord i else m

/-- Instance `i` is commanded off. -/
def Mod.drvDisable (m : Mod) (i : Nat) : Mod :=
  if i < 64 then (m.setDrv i { m.drvCh i with en := false, want := 0, fireReq := 0 }).relatch i
  else if i < 76 then
    let m := m.setBank i { m.bank i with en := false }
    foldN 4 (fun m k =>
      let j := 4 * (i - 64) + k
      (m.setDrv j { m.drvCh j with en := false, want := 0, fireReq := 0 }).relatch j) m
  else m.setConv i { m.conv i with en := false }

/-- 0x0505 (R148, R157) (log entry 33) -/
def opDrvEnable : Op where
  len := exactly 0
  insts := 79
  stamped := fun _ => true
  body := fun c m =>
    let i := c.inst.toNat
    if i < 64 then
      let x := m.drvCh i
      if x.latched then Res.err m St.notReady
      else if x.en ∨ rd (m.drvRec i) 0 1 = 0 then Res.ok m
      else Res.ok ((m.setDrv i { x with en := true, want := 0, fireReq := 0 }).relatch i)
    else if i < 76 then
      if (m.bank i).latched then Res.err m St.notReady else Res.ok (m.setBank i { m.bank i with en := true })
    else if (m.conv i).latched then Res.err m St.notReady
    else Res.ok (m.setConv i { m.conv i with en := true })

/-- 0x0506 (R146, R155) -/
def opDrvDisable : Op where
  len := exactly 0
  insts := 79
  stamped := fun _ => true
  body := fun c m => Res.ok (m.drvDisable c.inst.toNat)

/-- Every flag, latch and retry count of an instance clears, each flag with its end event; an instance that a reaction
held off stays OFF until ENABLE (R156, R164, 0x0513) (log entry 33). -/
def Mod.drvClear (m : Mod) (i : Nat) : Mod :=
  if i < 64 then
    let x := m.drvCh i
    let m := x.flags.foldl (fun m code => m.unflagCh i code) m
    let m := if x.boostSkipped then m.drvEv i 11 false else m
    let m := if x.wrongKind then m.drvEv i 12 false else m
    let m := if x.clampLost then m.clampEv i 10 false else m
    m.setDrv i { m.drvCh i with latched := false, retries := 0, trips := [], boostSkipped := false, wrongKind := false,
                                clampLost := false, held := [], en := x.en && x.held.isEmpty }
  else if i < 76 then
    let x := m.bank i
    let m := x.flags.foldl (fun m code => m.unflagBank i code) m
    let m := if x.latched then foldN 4 (fun m k => m.unflagCh (4 * (i - 64) + k) 4) m else m
    m.setBank i { m.bank i with latched := false, trips := [], held := false, en := x.en && !x.held }
  else
    let x := m.conv i
    let m := x.flags.foldl (fun m code => m.unflagConv i code) m
    m.setConv i { m.conv i with latched := false, trips := [], held := false, en := x.en && !x.held }

/-- 0x0507 -/
def opDrvResetInstance : Op where
  len := exactly 0
  insts := 79
  stamped := fun _ => true
  body := fun c m =>
    let i := c.inst.toNat
    let m := ((m.drvDisable i).restore 0 0x0503 i).drvClear i
    Res.ok (if i < 64 then m.setDrv i { m.drvCh i with faultCode := 0, retriggers := 0, skips := 0 }
      else if i < 76 then m.setBank i { m.bank i with faultCode := 0 }
      else m.setConv i { m.conv i with faultCode := 0 })

/-- 0x0510 (R146) -/
def opSetOutput : Op where
  len := exactly 4
  insts := 64
  stamped := fun _ => true
  body := fun c m =>
    let i := c.inst.toNat
    let x := m.drvCh i
    let v := rd c.params 0 2
    let mode := rd (m.drvRec i) 0 1
    if !isZero c.params 2 2 then Res.err m St.badParam
    else if (m.drvOwner i).isSome then Res.err m St.busy
    else if i < 48 ∧ (mode = 3 ∨ (mode = 2 ∧ 16000 < v)) then Res.err m St.badParam
    else if x.latched ∨ !x.en then Res.err m St.notReady
    else Res.ok ((m.setDrv i { x with want := BitVec.ofNat 16 v }).relatch i)

/-- The body of PH_FIRE and PH_STOP: `b` is the word's bit 24 or 25 (R144). -/
def phOrder (b : Nat) (c : Cmd) (m : Mod) : Res :=
  let i := c.inst.toNat
  let x := m.drvCh i
  if !isZero c.params 1 3 then Res.err m St.badParam
  else if (m.drvOwner i).isSome then Res.err m St.busy
  else if 249 < rd c.params 0 1 ∨ rd (m.drvRec i) 0 1 ≠ 3 then Res.err m St.badParam
  else if x.latched ∨ !x.en then Res.err m St.notReady
  else Res.ok ((m.setDrv i { x with fireReq := w32 (rd c.params 0 1 * 65536 + 2 ^ b) }).relatch i)

/-- 0x0511 (R151, R152) -/
def opPhFire : Op := { len := exactly 4, insts := 48, stamped := fun _ => true, body := phOrder 24 }

/-- 0x0512 (R153) -/
def opPhStop : Op := { len := exactly 4, insts := 48, stamped := fun _ => true, body := phOrder 25 }

/-- 0x0513 (R164) -/
def opClearFault : Op where
  len := exactly 0
  insts := 79
  stamped := fun _ => true
  body := fun c m => Res.ok (m.drvClear c.inst.toNat)

/-- DRV_GET_INFO (R98). -/
def execDrvGetInfo (c : Cmd) (s : State) : Host.Outcome State Fault Refusal := s.act fun m => m.serve 0x0501 opDrvGetInfo c
/-- DRV_GET_STATUS (R164). -/
def execDrvGetStatus (c : Cmd) (s : State) : Host.Outcome State Fault Refusal := s.act fun m => m.serve 0x0502 opDrvGetStatus c
/-- DRV_SET_CONFIG (R148, R154). -/
def execDrvSetConfig (c : Cmd) (s : State) : Host.Outcome State Fault Refusal := s.act fun m => m.serve 0x0503 opDrvSetConfig c
/-- DRV_GET_CONFIG (R148). -/
def execDrvGetConfig (c : Cmd) (s : State) : Host.Outcome State Fault Refusal := s.act fun m => m.serve 0x0504 opDrvGetConfig c
/-- DRV_ENABLE (R148, R157, R167). -/
def execDrvEnable (c : Cmd) (s : State) : Host.Outcome State Fault Refusal := s.act fun m => m.serve 0x0505 opDrvEnable c
/-- DRV_DISABLE (R143, R146, R155). -/
def execDrvDisable (c : Cmd) (s : State) : Host.Outcome State Fault Refusal := s.act fun m => m.serve 0x0506 opDrvDisable c
/-- DRV_RESET_INSTANCE (R164). -/
def execDrvResetInstance (c : Cmd) (s : State) : Host.Outcome State Fault Refusal := s.act fun m => m.serve 0x0507 opDrvResetInstance c
/-- SET_OUTPUT (R146). -/
def execSetOutput (c : Cmd) (s : State) : Host.Outcome State Fault Refusal := s.act fun m => m.serve 0x0510 opSetOutput c
/-- PH_FIRE (R151, R152). -/
def execPhFire (c : Cmd) (s : State) : Host.Outcome State Fault Refusal := s.act fun m => m.serve 0x0511 opPhFire c
/-- PH_STOP (R153). -/
def execPhStop (c : Cmd) (s : State) : Host.Outcome State Fault Refusal := s.act fun m => m.serve 0x0512 opPhStop c
/-- CLEAR_FAULT (R156, R164). -/
def execClearFault (c : Cmd) (s : State) : Host.Outcome State Fault Refusal := s.act fun m => m.serve 0x0513 opClearFault c

/-- The DRV class. -/
def drvOps : List (Nat × Op) :=
  [(0x0501, opDrvGetInfo), (0x0502, opDrvGetStatus), (0x0503, opDrvSetConfig), (0x0504, opDrvGetConfig),
   (0x0505, opDrvEnable), (0x0506, opDrvDisable), (0x0507, opDrvResetInstance), (0x0510, opSetOutput),
   (0x0511, opPhFire), (0x0512, opPhStop), (0x0513, opClearFault)]

end Sys2Proof.Machine
end

