-- ==== Sys2Proof/Machine/EthBase.lean ====
section
/-! DEFINITION. Ethernet records, ports and the roles of the time-aware system (R345, R353–R355), which the TIME engine
and the switch share. -/

namespace Sys2Proof.Machine

open Sys2Proof

/-! ### Records -/

/-- A port. -/
def Mod.eport (m : Mod) (k : Nat) : EthPort := Tab.get {} m.eth.port k

/-- Write a port. -/
def Mod.setEport (m : Mod) (k : Nat) (x : EthPort) : Mod := { m with eth := { m.eth with port := Tab.put {} m.eth.port k x } }

/-- Correction constants at reset: ingress_ns, egress_ns (Table 15-2). -/
def ethConst (k : Nat) : Nat × Nat := if k < 4 then (232, 168) else (1512, 856)

/-- The default record of an instance (0x0903). -/
def ethDefault (k : Nat) : Bytes :=
  if k < 6 then [1, 0] ++ le 2 1 ++ le 2 (ethConst k).1 ++ le 2 (ethConst k).2 ++ zeros 4
  else if k = 6 then le 2 4001 ++ [0x3F, 0] ++ le 4 0x00FAC688 ++ le 4 0xA9FE4408 ++ le 2 300 ++ zeros 2
  else [246, 0xFD, 0, 0]

/-- The record in force of an instance. -/
def Mod.ethRec (m : Mod) (k : Nat) : Bytes := m.cfgOr 0x0903 k (ethDefault k)

/-- A VLAN table entry: members and untag bits; none where the table has none. -/
def Mod.vlan (m : Mod) (vid : Nat) : Option (Nat × Nat) :=
  let p := m.stored 0x0911 vid
  if p.isEmpty || rd p 2 1 == 0 then none else some (rd p 2 1, rd p 3 1)

/-- The module's MAC address of an index (R346). -/
def Mod.mac (m : Mod) (k : Nat) : Bytes := slice (m.nvs.macs.getD k []) 0 6

/-! ### Port events (R360) -/

/-- A port event; codes 3 to 5 at most once a second. -/
def Mod.portEv (m : Mod) (k code : Nat) (on : Bool) : Mod :=
  if code < 3 then m.ev (88 + k) k code on
  else
    let x := m.eport k
    let due := match Tab.get none x.evRaw code with | some t => decide (t + secs 1 ≤ m.now) | none => true
    if due then (m.setEport k { x with evRaw := Tab.put none x.evRaw code (some m.now) }).ev (88 + k) k code on else m

/-! ### 802.1AS roles (R353–R355) -/

/-- Grandmaster-capable: the source in use is GNSS, no holdover, priority1 below 255 (R354). -/
def Mod.gmCapable (m : Mod) : Bool := m.time.src == 1 && !m.time.holdover && decide (rd (m.ethRec 7) 0 1 < 255)

/-- priority1 as announced (R354). -/
def Mod.announced (m : Mod) : Nat := if m.gmCapable then rd (m.ethRec 7) 0 1 else 255

/-- A gPTP event, EV095 (R355, R360). -/
def Mod.gptpEv (m : Mod) (code : Nat) (on : Bool) : Mod := m.ev 95 7 code on

/-- The module's clock identity: EUI-64 of the first port's address. -/
def Mod.clockId (m : Mod) : BitVec 64 := let a := m.mac 2; BitVec.ofNat 64 (rd (slice a 0 3 ++ [0xFF, 0xFE] ++ slice a 3 3) 0 8)

/-- Interval of Sync messages in raw counts: 2^logSyncInterval s. -/
def Mod.syncInterval (m : Mod) : Nat := secs 1 / 2 ^ (-(rdI (m.ethRec 7) 1 1)).toNat

/-- Sync has been missing for 3 intervals: the raw count at which it is lost (Table 02-6). -/
def Mod.syncEnd (m : Mod) : Nat := m.eth.syncRaw + 3 * m.syncInterval

/-- The condition of Table 02-6 holds for a source: GNSS gives a valid time solution (R238); the module is an 802.1AS slave
that has had two Sync messages from its grandmaster, the last less than 3 Sync intervals ago; PPS_IN had an accepted edge
within the last 2 s (log entry 65). -/
def Mod.srcOk (m : Mod) (s : Nat) : Bool :=
  match s with
  | 1 => m.gnss.fix != 0
  | 2 => m.pd 10 && m.eth.role == 1 && decide (2 ≤ m.eth.syncs) && decide (m.now < m.syncEnd)
  | 3 => match m.time.ppsInLast with | some c => decide (m.now < c + secs 2) | none => false
  | _ => true

/-- Since when each source has been available without a break, brought up to the present: done at every happening that can
begin or end it (R49) (log entry 65). -/
def Mod.seeSources (m : Mod) : Mod :=
  { m with time := { m.time with availSince := [1, 2, 3].foldl (fun (a : Tab Nat) k =>
      Tab.upd 0 a k fun x => if !m.srcOk k then 0 else if x = 0 then m.now + 1 else x) m.time.availSince } }

/-- Sync is lost: EV095 code 3, and the source is not available until 2 new Sync messages (R355, Table 02-6) (log entry 53). -/
def Mod.syncLoss (m : Mod) : Mod :=
  if m.eth.syncs = 0 then m else (Mod.gptpEv { m with eth := { m.eth with syncs := 0 } } 3 true).seeSources

/-- The time-aware system takes part on a port. -/
def Mod.gptpPort (m : Mod) (k : Nat) : Bool :=
  let x := m.eport k
  m.eth.gptpOn && x.enabled && x.link && (rd (m.ethRec k) 1 1).testBit 1

/-- A port has no more part in 802.1AS: asCapable falls, Sync is lost where it was the slave (R355) (log entry 53). -/
def Mod.gptpGone (m : Mod) (k : Nat) : Mod :=
  let x := m.eport k
  let m := m.setEport k { x with gptp := 0, capable := false, ptpOut := [] }
  let m := if x.capable then m.gptpEv 4 false else m
  if x.gptp = 2 then m.syncLoss else m

/-- A port that takes part is master until an announced clock is better; one that does not has no state (log entry 53). -/
def Mod.gptpPorts (m : Mod) : Mod :=
  foldN 6 (fun (m : Mod) k =>
    let x := m.eport k
    if m.gptpPort k then (if x.gptp = 0 then m.setEport k { x with gptp := 1 } else m)
    else if x.gptp ≠ 0 ∨ x.capable then m.gptpGone k else m) m

/-- Role from the port states: slave where a port is slave; else grandmaster where capable; else passive; each change of
role, and of the grandmaster's identity, raises EV095 (log entry 53). -/
def Mod.gptpRole (m : Mod) (gm : BitVec 64) : Mod :=
  let m := m.gptpPorts
  let slave := (List.range 6).any fun k => (m.eport k).gptp == 2
  let role := if !m.eth.gptpOn then 0 else if slave then 1 else if m.gmCapable then 2 else 3
  let gm := if role = 1 then gm else if role = 2 then m.clockId else m.eth.gm
  let old := m.eth
  let m := { m with eth := { old with role := role, gm := gm, syncs := if gm = old.gm ∧ role = 1 then old.syncs else 0 } }
  let m := if role = old.role then m else m.gptpEv 1 true
  (if gm = old.gm then m else m.gptpEv 2 true).seeSources

end Sys2Proof.Machine
end

