-- ==== Sys2Proof/Machine/TimeEng.lean ====
section
/-! DEFINITION. The timebase and the TIME engine (chapter 02): corrections, PPS_OUT edges, sources, the TIME class. -/

namespace Sys2Proof.Machine

open Sys2Proof

/-! ### Records in force -/

/-- SET_SOURCE parameters in force; default GNSS, then IEEE 802.1AS (R46, 0x0210). -/
def Mod.srcRec (m : Mod) : Bytes :=
  m.cfgOr 0x0210 0 ([2, 1, 2, 0] ++ le 4 280 ++ le 4 20000 ++ le 4 1000)

/-- SET_PPS parameters in force (0x0212). -/
def Mod.ppsRec (m : Mod) : Bytes :=
  m.cfgOr 0x0212 0 ([0, 2] ++ le 2 100 ++ zeros 4 ++ le 2 m.time.taiUtc ++ zeros 6)

/-- The list of sources (R46). -/
def Mod.sources (m : Mod) : List Nat :=
  let r := m.srcRec
  (List.range (rd r 0 1)).map fun k => rd r (1 + k) 1

/-- FREE_RUN is the source in use: it is listed alone (Table 02-6). -/
def Mod.freeRun (m : Mod) : Bool := m.sources == [0]

/-- The source in use; none while no listed source is available (R49, R50). -/
def Mod.inUse (m : Mod) : Option Nat :=
  if m.freeRun then some 0 else if m.time.holdover || m.time.src == 0 then none else some m.time.src

/-- TB_STATUS (Table 02-3) (log entry 61). -/
def Time.status (t : Time) : Nat :=
  t.src + b2n t.holdover * 4 + b2n t.unsynced * 8 + b2n t.ref * 16 + b2n (t.slew != 0) * 32 + b2n t.pending.isSome * 64
    + b2n t.leapPending * 128 + t.taiUtc % 65536 * 65536

/-- Signed 32-bit saturation. -/
def satI32 (v : Int) : Int := max (-(2 ^ 31 - 1 : Nat)) (min (2 ^ 31 - 1 : Nat) v)

/-! ### Edges (R52) -/

/-- The second nearest to a module time. -/
def nearestSec (v : Int) : Int := (v + unitsPerSec / 2) / unitsPerSec

/-- The first top of second at or after a module time. -/
def topFrom (v : Int) : Int := -(-v / unitsPerSec) * unitsPerSec

/-- The raw count of the next PPS_OUT edge under the record in force: nearest to the next top of second (R52). After a
record that set the time since the last edge, the first top of the new run of seconds; before the first edge, and where
the edge due was passed over, the first top from now (log entry 65). -/
def Time.nextEdge (t : Time) : Nat :=
  let r := (recAt t.live t.raw).1
  let now := r.nearest (topFrom (r.at t.raw))
  match t.lastEdge with
  | none => now
  | some e =>
    -- a record that set the time may itself start within half a count of a top of second
    let half := (r.at (r.c0 + 1) - r.t0 + 1) / 2 + 1
    let c := r.nearest (if e < r.c0 then topFrom (r.t0 - half) else (nearestSec (t.conv e).1 + 1) * unitsPerSec)
    if c < t.raw then now else c

/-! ### Corrections (R36, R37) -/

/-- A step is added to the offset of every self-clocked source, and to the offsets it is formed from (R254). -/
def Fuse.moveOffsets (f : Fuse) (step : Int) : Fuse :=
  { f with clockStep := true, src := foldN 32 (fun t k => Tab.upd {} t k fun x =>
      { x with o := x.o.map (· + step), xs := x.xs.map (· + step), resync := x.resync.map fun l => l.map (· + step) }) f.src }

/-- A step of module time took effect: EV011 with the step in ns, the flags of the next entries (R48, R227, R261). -/
def Mod.stepped (m : Mod) (step : Int) (disciplined : Bool) : Mod :=
  let m := { m with
    time := { m.time with stepFlag := true, stepSize := step, unsynced := m.time.unsynced && !disciplined }
    gnss := { m.gnss with clockStep := true, stepSince := m.gnss.stepSince + step, clk := m.gnss.clk.map fun (p : Nat × ClkSol) => (p.1, { p.2 with step := p.2.step + step }) }
    fuse := m.fuse.moveOffsets step }
  m.raise 11 (satI32 (S.rne step 65536) % (2 ^ 32 : Nat)).toNat

/-- The SCHEDULE_CORRECTION in flight gets its final completion (R96). -/
def Mod.endCorrection (m : Mod) (st : Nat) : Mod :=
  match m.port.flight.find? (fun f => f.opcode == 0x0211) with
  | some f => m.finish 0x0211 f.cmd st
  | none => m

/-- The scheduled correction takes effect at its raw count (R36, R37). -/
def Mod.correct (m : Mod) : Mod :=
  match m.time.pending with
  | none => m
  | some p =>
    let m := m.until p.rcd.c0
    let told := (recAt m.time.recs p.rcd.c0).1.at p.rcd.c0
    let new := m.time.made p
    let m := { m with time := { m.time with pending := none, slew := p.slew, slewOld := m.time.slew, recs := m.time.live } }
    let m := if p.time then m.stepped (new.t0 - told) (!p.cmd) else m
    if p.cmd then (m.raise 15 0).endCorrection St.ok else m

/-- A correction whose raw count has come takes effect (R37). -/
def Mod.timePoll (m : Mod) : Mod :=
  match m.time.pending with
  | some p => if p.rcd.c0 ≤ m.now then m.correct else m
  | none => m

/-- CORRECTION_EFFECT: the scheduled record takes effect (R36). -/
def execCorrectionEffect (s : State) : Host.Outcome State Fault Refusal := s.act fun m => m.correct

/-! ### A PPS_OUT edge (R46–R50, R466) -/

/-- SET_SOURCE and SET_PPS parameters act from this edge. A command correction still pending is ABORTED when the list
leaves FREE_RUN (0x0211); a leap second commanded is announced (R52). -/
def Mod.edgeRecords (m : Mod) : Mod :=
  let m := match m.time.nextSource with
    | none => m
    | some r =>
      let m := Mod.setCfg { m with time := { m.time with nextSource := none } } 0x0210 0 r
      match m.time.pending with
      | some p =>
        if p.cmd && !m.freeRun then
          Mod.endCorrection { m with time := { m.time with pending := none } } St.aborted
        else m
      | none => m
  match m.time.nextPps with
  | none => m
  | some r =>
    let byCommand := rd m.ppsRec 5 1 == 1
    let m := Mod.setCfg { m with time := { m.time with nextPps := none } } 0x0212 0 r
    if rd r 5 1 = 1 then
      let m := (Mod.setCfg { m with time := { m.time with taiUtc := rd r 8 2 } } 0x0212 1 (slice r 8 2)).markSet 0
      if rd r 6 1 ≠ 0 ∧ rd r 10 6 ≠ 0 then
        { m with time := { m.time with leap := some (rdI r 6 1, rd r 10 6), leapPending := true } }.raise 12
          (rd r 6 1 + 256)
      else { m with time := { m.time with leap := none, leapPending := false } }
    else if byCommand && m.time.leapPending then { m with time := { m.time with leap := none, leapPending := false } }
    else m

/-- The phase error against PPS_IN: its last accepted edge marks the nearest whole second of module time as the record in
force now gives it, so the error lies within half a second and moves no whole second (R53) (log entry 65). -/
def Mod.ppsInError (m : Mod) : Int :=
  match m.time.ppsInLast with
  | some c => let v := m.rec0.at c; v - nearestSec v * unitsPerSec
  | none => 0

/-- The clock bias of a solution, module time minus GPS time, carried on to a raw count by its drift (1 ppb is 1 ns a
second) and by the steps of module time since, in 2^−16 ns (R227, R238); none where it is not finite (log entry 65). -/
def ClkSol.units (c : ClkSol) (raw : Nat) : Option Int :=
  if D.isFin c.bias && S.isFin c.drift then
    some (S.rne (D.scaled c.bias * 65536) (2 ^ 1074) + S.rne (S.scaled c.drift * ((raw - c.raw : Nat) : Int) * 65536) (2 ^ 149 * 125000000)
      + c.step)
  else none

/-- The phase error the receiver gives for the present raw count: the clock solution of the solving antenna, where it has
one, which on an epoch is that epoch's own (R238, R241) (log entry 65). -/
def Mod.gnssError (m : Mod) : Option Int :=
  let k := b2n m.gnss.onAnt2
  match m.gnss.clk.find? fun p => p.1 == k with
  | some p => p.2.units m.now
  | none => none

/-- The sources that are available at an edge (Table 02-6), each with its phase error where it gives one: PPS_IN's is the
module's own stamp and GNSS's the receiver's clock solution; `offered` has the others (R46, R53, R238). -/
def Mod.available (m : Mod) (offered : List (Nat × Int)) : List (Nat × Option Int) :=
  ([1, 2, 3].filter m.srcOk).map fun s =>
    let e := (offered.find? fun p => p.1 == s).map Prod.snd
    (s, match s with
      | 3 => some m.ppsInError
      | 1 => m.gnssError.orElse fun _ => e
      | _ => e)

/-- A source is judged lost (Table 02-6): GNSS once no valid time solution has come for 2 s, the others as soon as they are
not available (log entry 65). -/
def Mod.srcLost (m : Mod) (s : Nat) : Bool :=
  match s with
  | 1 => m.gnss.fix == 0 && (match m.gnss.timeLostRaw with | some c => decide (c + secs 2 ≤ m.now) | none => true)
  | _ => !m.srcOk s

/-- The source in use is judged lost: EV009 still names it (R49, Table 02-7). -/
def Mod.loseSource (m : Mod) : Mod :=
  match m.inUse with
  | some src => if src = 0 ∨ m.time.lost ∨ !m.srcLost src then m
      else { m with time := { m.time with lost := true } }.raise 9 (src + 512 + src * 65536)
  | none => m

/-- The source to use from this edge, and the code of EV009 (R49): the one in use unless it is lost or no longer
listed; a higher one after 10 s. -/
def Mod.pickSource (m : Mod) (avail : List Nat) : Option Nat × Nat :=
  if m.freeRun then (some 0, 1)
  else
    let list := m.sources
    match m.inUse with
    | some s =>
      if m.time.lost || m.srcLost s || !list.contains s then (list.find? (avail.contains ·), 1)
      else
        let higher := list.takeWhile (· != s)
        match higher.find? fun h => avail.contains h
            && decide (Tab.get 0 m.time.availSince h + secs 10 ≤ m.now + 1) with
        | some h => (some h, 3)
        | none => (some s, 1)
    | none => (list.find? (avail.contains ·), 1)

/-- A source number as EV009 carries it; 0xFF none. -/
def srcCode : Option Nat → Nat
  | some s => s
  | none => 0xFF

/-- The choice of source at an edge: EV009 on a change from `old`, the source in use up to the edge; EV010 on entering
and leaving holdover (R49, R50). Before the first source and in holdover TB_STATUS.src keeps the source last in use (log entry 65). -/
def Mod.chooseSource (m : Mod) (old : Option Nat) (avail : List Nat) : Mod :=
  let (new, code) := m.pickSource avail
  let m := { m with time := { m.time with lost := false } }
  let m := if new = old then m
    else m.raise 9 (srcCode new + code * 256 + srcCode old * 65536)
  match new with
  | none =>
    if m.time.holdover then m
    else { m with time := { m.time with holdover := true, holdRaw := m.now } }.raise 10 (256 + 65536)
  | some s =>
    let was := m.time.holdover
    let m := { m with time := { m.time with
      src := s, holdover := false, inUseSince := if new = old then m.time.inUseSince else m.now } }
    if was then m.raise 10 256 else m

/-- Floor of a source's uncertainty, ns (R466). -/
def srcFloor (s : Nat) : Nat := match s with | 1 => 20 | 2 => 100 | 3 => 50 | _ => 0

/-- 10 ppm in 2^−40. -/
def ppm10 : Int := 10995116

/-- The correction that a measured phase error orders for the next edge (R47, R48): a slew in force counts as acted
already, as the worked example of chapter 02 has it, where the pseudocode of R47 would slew once more; the sub-second part
of a step lies in (−0.5 s, +0.5 s]; an uncertainty beyond 32 bits is saturated (log entry 65). `f` is the frequency
estimate, whose estimator the spec does not give (log entry 4). -/
def Mod.discipline (m : Mod) (s : Nat) (e : Int) : Mod :=
  let c := m.now
  let (w, m) := m.draw
  let f := toSigned 32 (w.toNat % 2 ^ 32)
  let r := m.rec0
  -- the error that remains once a slew in force from this edge has acted
  let rest := if r.c0 = c then e + m.time.slew * unitsPerSec / (2 ^ 40 : Nat) else e
  let u := srcFloor s + (-((-(e.natAbs : Int)) / 65536)).toNat
  let m := { m with time := { m.time with
    freq := f, unc := min 0xFFFFFFFE u, errPs := satI32 (S.rne (e * 1000) 65536) } }
  let p : CorrPending :=
    if m.time.unsynced ∨ 1000 * 65536 < rest.natAbs then
      let src := m.mt - e
      let top := (-((-(src - unitsPerSec / 2)) / unitsPerSec) + 1) * unitsPerSec
      let line : CorrRec := { c0 := c, t0 := src, rate := f }
      let c1 := line.nearest top
      { rcd := { c0 := c1, t0 := line.at c1, rate := f }, time := true, slew := 0, keepRate := false, cmd := false }
    else
      let term := max (-ppm10) (min ppm10 (S.rne (-rest * (2 ^ 40 : Nat)) unitsPerSec.toNat))
      { rcd := { c0 := m.time.nextEdge, t0 := 0, rate := satI32 (f + term) }, time := false, slew := term,
        keepRate := false, cmd := false }
  { m with time := { m.time with pending := some p } }

/-- The uncertainty in holdover: u0 + d t + a t² / 2, rounded up to whole ns, saturated (R50) (log entry 65). -/
def Mod.holdUnc (m : Mod) : Nat :=
  let r := m.srcRec
  let d := if m.time.ref then rd r 8 4 else rd r 4 4
  let n := m.now - m.time.holdRaw
  -- t = n / 125e6 s; aging is 1e-12 per day: a t²/2 = aging · t² / 172,800,000 ns
  let den := 125000000 * 125000000 * 172800000
  let num := d * n * 125000000 * 172800000 + rd r 12 4 * n * n
  if m.time.u0 = 0xFFFFFFFF then 0xFFFFFFFF else min 0xFFFFFFFE (m.time.u0 + (num + den - 1) / den)

/-- The second label of an edge at TAI second `sec`, the flag LEAP, and the leap second's progress (R52). EV012 tells of a
leap second applied at its start; tai_utc increases at its end (log entry 65). -/
def Mod.leapEdge (m : Mod) (sec : Int) : Int × Bool × Mod :=
  match m.time.leap with
  | none => (sec - m.time.taiUtc, false, m)
  | some (step, at') =>
    if sec = at' + 1 then
      let m := { m with time := { m.time with leapPending := false } }.raise 12 ((step % 256).toNat + 512)
      if 0 < step then (sec - m.time.taiUtc - 1, true, m)
      else
        let m := { m with time := { m.time with leap := none, taiUtc := m.time.taiUtc - 1 } }
        (sec - m.time.taiUtc, false, m)
    else if (at' : Int) + 1 < sec then
      let tai := if 0 < step then m.time.taiUtc + 1 else m.time.taiUtc - 1
      -- a step of module time passed over the leap second itself
      let m := if m.time.leapPending then m.raise 12 ((step % 256).toNat + 512) else m
      let m := { m with time := { m.time with leap := none, leapPending := false, taiUtc := tai } }
      (sec - tai, false, m)
    else (sec - m.time.taiUtc, false, m)

/-- The leap count of the navigation data at an edge, where SET_PPS selects it: it acts from the next edge, and a leap
second under way ends first (R52) (log entry 65). -/
def Mod.navLeap (m : Mod) (nav : Option NavLeap) : Mod :=
  match nav with
  | none => m
  | some n =>
    if rd m.ppsRec 5 1 = 1 ∨ (m.time.leap.isSome ∧ m.time.leapPending = false) then m
    else
      let m := { m with time := { m.time with taiUtc := n.tai } }
      if n.step = 0 then { m with time := { m.time with leap := none, leapPending := false } }
      else if m.time.leap = some (n.step, n.at') then m
      else { m with time := { m.time with leap := some (n.step, n.at'), leapPending := true } }.raise 12
        ((n.step % 256).toNat + 256)

/-- The uncertainty reported from this edge (R50, R466). -/
def Mod.edgeUnc (m : Mod) : Nat :=
  if m.time.unsynced || m.freeRun then 0xFFFFFFFF
  else if m.time.holdover then m.holdUnc
  else m.time.unc

/-- The edge nearest to the next top of second. Picoseconds and nanoseconds of the entry and of EV011 are rounded to the
nearest, ties to even (log entry 65). -/
def Mod.ppsOutEdge (m : Mod) (avail : List (Nat × Int)) (nav : Option NavLeap) : Mod :=
  -- a correction due by the edge takes effect first
  let due := match m.time.pending with
    | some p => (p.time && !p.cmd) || decide (p.rcd.c0 ≤ m.time.nextEdge)
    | none => false
  let m := if due then m.correct else m
  let c := m.time.nextEdge
  let prev := m.time.lastEdge
  let m := m.until c
  -- the slew of the second that ends here: the one before a record that takes effect at this very edge
  let slewed := (if m.rec0.c0 = c then m.time.slewOld else m.time.slew) != 0
  let m := { m with time := { m.time with lastEdge := some c } }
  let sec := nearestSec (m.time.conv c).1
  let avail := m.available avail
  let codes : List Nat := avail.map Prod.fst
  let old := m.inUse
  let m := m.loseSource.edgeRecords
  let m := m.seeSources
  let m := m.chooseSource old codes
  -- the source decides whether the module may be grandmaster (R354)
  let m := m.gptpRole m.eth.gm
  let m := match m.inUse with
    | some s => match avail.find? (fun (p : Nat × Option Int) => p.1 == s) with
      | some (_, some e) => m.discipline s e
      | _ => m
    | none => m
  let m := { m with time := { m.time with unc := m.edgeUnc, u0 := if m.inUse.isSome then m.edgeUnc else m.time.u0 } }
  let (utc, leap, m) := m.leapEdge sec
  let (w, m) := match prev with | some e => (c - e, m) | none => let d := m.draw; (d.1.toNat, d.2)
  let r := m.ppsRec
  let scale := rd r 1 1
  let label := if scale = 0 then sec else if scale = 1 then sec - 19 else utc
  let t := m.time
  let measured := match m.inUse with | some s => s != 0 | none => false
  let flags := b2n t.holdover + b2n t.stepFlag * 2 + b2n slewed * 4 + b2n t.unsynced * 8 + b2n m.freeRun * 16
    + b2n t.ref * 32 + b2n leap * 64 + b2n (rd r 0 1 == 0) * 128
  let body := le 8 c ++ leI 6 label ++ le 1 scale ++ le 1 t.src ++ le 2 flags ++ le 2 0
    ++ leI 4 (S.rne (((t.conv c).1 - sec * unitsPerSec) * 1000) 65536) ++ le 4 w
    ++ leI 4 m.rec0.rate ++ leI 4 (if measured then t.errPs else 0) ++ le 4 t.unc
  let m := (m.publish 2 0 1 body).navLeap nav
  { m with time := { m.time with stepFlag := false, ppsOut := if rd r 0 1 = 1 then some c else none } }.raise 14 0

/-- PPS_OUT_EDGE. `avail` lists the phase errors measured at this edge from outside (module time minus source time,
2^−16 ns); which sources are available, Table 02-6 says. `nav` is the leap count the navigation data give at it. -/
def execPpsOutEdge (avail : List (Nat × Int)) (nav : Option NavLeap) (s : State) : Host.Outcome State Fault Refusal :=
  s.act fun m => if m.alive then m.ppsOutEdge avail nav else m

/-- When the source in use will have been without a solution or an edge for 2 s (Table 02-6). -/
def Mod.lossAt (m : Mod) : Nat :=
  match m.inUse with
  | some 1 => if m.gnss.fix = 0 then (m.gnss.timeLostRaw.map (· + secs 2)).getD m.now else m.now
  | some 3 => (m.time.ppsInLast.map (· + secs 2)).getD m.now
  | _ => m.now

/-- SOURCE_LOST: the source in use is judged lost under Table 02-6, 2 s after its last solution or edge (R49, Table 02-7). -/
def execSourceLost (s : State) : Host.Outcome State Fault Refusal := s.act fun m =>
  if m.alive then (m.until m.lossAt).loseSource else m

/-- PPS_IN_EDGE: an edge of the configured polarity at the present raw count (R53). -/
def execPpsInEdge (s : State) : Host.Outcome State Fault Refusal := s.act fun m =>
  let m := m.seeSources
  let ok := match m.time.ppsInLast with
    | none => true
    | some c => decide ((m.mt - (m.time.conv c).1 - unitsPerSec).natAbs ≤ 100000 * 65536)
  if ok then Mod.seeSources { m with time := { m.time with ppsInLast := some m.now } }
  else { m with time := { m.time with ppsInRejects := inc32 m.time.ppsInRejects } }.raise 13 0

/-- Level of the PPS_OUT pin: high for the configured width from each edge while enabled (R52). -/
def Mod.ppsPin (m : Mod) : Bool :=
  match m.time.ppsOut with
  | some c => decide (c ≤ m.now) && decide (m.now < c + ms (rd m.ppsRec 2 2))
  | none => false

/-! ### The read window (R40) -/

/-- TB_MT_LO: a read captures module time for the reading core. -/
def Mod.readMtLo (m : Mod) (core : Nat) : Mod :=
  let v := BitVec.ofNat 96 (mt96 m.mt)
  let cap := Tab.upd {} m.time.cap core fun x => { x with mt := v, mtRaw := BitVec.ofNat 64 m.now }
  { m with time := { m.time with cap := cap }, bus := { value := BitVec.ofNat 64 v.toNat, error := false } }

/-- TB_MT_LO read (R40). -/
def execTbMtLo (core : Nat) (s : State) : Host.Outcome State Fault Refusal := s.act fun m => m.readMtLo core

/-- TB_CONV_IN: a write converts a raw count (R35, R37). -/
def execTbConvIn (core : Nat) (raw : BitVec 64) (s : State) : Host.Outcome State Fault Refusal := s.act fun m =>
  let p := m.time.conv raw.toNat
  let cap := Tab.upd {} m.time.cap core fun x =>
    { x with convIn := raw, conv := BitVec.ofNat 96 (mt96 p.1), extrap := p.2 }
  { m with time := { m.time with cap := cap }, bus := { value := 0, error := false } }

/-! ### TIME class operations -/

/-- 0x0201 -/
def opTimeGetInfo : Op := opInfo 2 1

/-- The reply of READ_TIME (0x0213): every field describes one raw count. -/
def Mod.readTime (m : Mod) : Bytes :=
  le 8 m.now ++ le 12 (mt96 m.mt) ++ le 2 m.time.status ++ le 2 m.time.taiUtc ++ le 8 m.lanes.frame
    ++ le 8 m.lanes.frameRaw ++ le 4 m.time.unc ++ leI 4 m.rec0.rate

/-- 0x0202 (R467) -/
def opTimeGetStatus : Op := { len := exactly 0, body := fun _ m => Res.ok m m.readTime }

/-- 0x0203 (R467) -/
def opTimeSetConfig : Op := { len := exactly 0, body := fun _ m => Res.ok m }

/-- 0x0204 (R467) -/
def opTimeGetConfig : Op := { len := exactly 0, body := fun _ m => Res.ok m (m.srcRec ++ m.ppsRec) }

/-- 0x0205 (R467) -/
def opTimeEnable : Op := opNever 1

/-- 0x0206 (R467) -/
def opTimeDisable : Op := opNever 1

/-- 0x0207 (R467) -/
def opTimeResetInstance : Op := opNever 1

/-- 0x0210 (R46) -/
def opSetSource : Op where
  len := exactly 16
  body := fun c m =>
    let r := slice c.params 0 16
    let n := rd r 0 1
    let ok := (List.range 3).all fun k =>
      let v := rd r (1 + k) 1
      if k < n then decide (v ≤ 3) && (v != 0 || n == 1) else v == 0
    if n = 0 ∨ 3 < n ∨ !ok then Res.err m St.badParam
    else Res.ok { m with time := { m.time with nextSource := some r } }

/-- 0x0211 (R36, R37) -/
def opScheduleCorrection : Op where
  len := exactly 32
  body := fun c m =>
    let p := c.params
    let what := rd p 8 1
    let at' := rd p 0 8
    let setTime := what.testBit 0
    match (if setTime then parse96 p 16 else some 0) with
    | none => Res.err m St.badParam
    | some t =>
      if what = 0 ∨ 3 < what ∨ !isZero p 9 7 then Res.err m St.badParam
      else if !m.freeRun then Res.err m St.denied
      else if m.time.pending.isSome then Res.err m St.busy
      else if at' < m.now + 1250 then Res.err m St.tooLate
      else if 8192 ≤ (m.time.recs.filter fun r => m.now < r.c0 + secs 3600).length then Res.err m St.noResource
      else
        let rcd : CorrRec := { c0 := at', t0 := t, rate := rdI p 28 4 }
        Res.accepted { m with time := { m.time with
          pending := some { rcd := rcd, time := setTime, slew := 0, keepRate := !what.testBit 1, cmd := true } } }

/-- 0x0212 (R52) -/
def opSetPps : Op where
  len := exactly 16
  body := fun c m =>
    let r := slice c.params 0 16
    let step := rdI r 6 1
    if 1 < rd r 0 1 ∨ 2 < rd r 1 1 ∨ !(1 ≤ rd r 2 2 && rd r 2 2 ≤ 500 : Bool) ∨ 1 < rd r 4 1 ∨ 1 < rd r 5 1
        ∨ (step ≠ 0 ∧ step ≠ 1 ∧ step ≠ -1) ∨ !isZero r 7 1 then Res.err m St.badParam
    else Res.ok { m with time := { m.time with nextPps := some r } }

/-- 0x0213 -/
def opReadTime : Op := { len := exactly 0, body := fun _ m => Res.ok m m.readTime }

/-- TIME_GET_INFO (R98). -/
def execTimeGetInfo (c : Cmd) (s : State) : Host.Outcome State Fault Refusal := s.act fun m => m.serve 0x0201 opTimeGetInfo c
/-- TIME_GET_STATUS (R467). -/
def execTimeGetStatus (c : Cmd) (s : State) : Host.Outcome State Fault Refusal := s.act fun m => m.serve 0x0202 opTimeGetStatus c
/-- TIME_SET_CONFIG (R467). -/
def execTimeSetConfig (c : Cmd) (s : State) : Host.Outcome State Fault Refusal := s.act fun m => m.serve 0x0203 opTimeSetConfig c
/-- TIME_GET_CONFIG (R467). -/
def execTimeGetConfig (c : Cmd) (s : State) : Host.Outcome State Fault Refusal := s.act fun m => m.serve 0x0204 opTimeGetConfig c
/-- TIME_ENABLE (R467). -/
def execTimeEnable (c : Cmd) (s : State) : Host.Outcome State Fault Refusal := s.act fun m => m.serve 0x0205 opTimeEnable c
/-- TIME_DISABLE (R467). -/
def execTimeDisable (c : Cmd) (s : State) : Host.Outcome State Fault Refusal := s.act fun m => m.serve 0x0206 opTimeDisable c
/-- TIME_RESET_INSTANCE (R467). -/
def execTimeResetInstance (c : Cmd) (s : State) : Host.Outcome State Fault Refusal := s.act fun m => m.serve 0x0207 opTimeResetInstance c
/-- SET_SOURCE (R46). -/
def execSetSource (c : Cmd) (s : State) : Host.Outcome State Fault Refusal := s.act fun m => m.serve 0x0210 opSetSource c
/-- SCHEDULE_CORRECTION (R36). -/
def execScheduleCorrection (c : Cmd) (s : State) : Host.Outcome State Fault Refusal := s.act fun m => m.serve 0x0211 opScheduleCorrection c
/-- SET_PPS (R52). -/
def execSetPps (c : Cmd) (s : State) : Host.Outcome State Fault Refusal := s.act fun m => m.serve 0x0212 opSetPps c
/-- READ_TIME (R35). -/
def execReadTime (c : Cmd) (s : State) : Host.Outcome State Fault Refusal := s.act fun m => m.serve 0x0213 opReadTime c

/-- The TIME class. -/
def timeOps : List (Nat × Op) :=
  [(0x0201, opTimeGetInfo), (0x0202, opTimeGetStatus), (0x0203, opTimeSetConfig), (0x0204, opTimeGetConfig),
   (0x0205, opTimeEnable), (0x0206, opTimeDisable), (0x0207, opTimeResetInstance), (0x0210, opSetSource),
   (0x0211, opScheduleCorrection), (0x0212, opSetPps), (0x0213, opReadTime)]

end Sys2Proof.Machine
end

