-- ==== Sys2Proof/Machine/CanOps.lean ====
section
/-! DEFINITION. CAN FD channels (chapter 14): FIFOs, transmission, the heartbeat, error states, lane PDUs, the CAN class. -/

namespace Sys2Proof.Machine

open Sys2Proof

/-! ### Records and channels -/

/-- Default record of a channel (Table 14-7). auto_enable is set, as Table 20-6 has heartbeats run at 120 ms. -/
def canDflt (ch : Nat) : Bytes :=
  [0, if ch = 6 ∨ ch = 7 then 17 else 16, 0, 16, if ch = 0 then 4 else 2, 16] ++ le 2 63 ++ [16, 1, 31, 8, 8, 32]
    ++ le 2 10 ++ le 4 (0x98FF0A00 + ch) ++ le 2 1 ++ zeros 2

/-- The record in force; fd always reads 1 on CAN7 and CAN8 (R323). In Reheat mode CAN1 runs on its defaults (R339). -/
def Mod.canRec (m : Mod) (ch : Nat) : Bytes := if m.upd.reheat then canDflt ch else m.cfgOr 0x0803 ch (canDflt ch)

/-- A channel. -/
def Mod.canCh (m : Mod) (ch : Nat) : CanCh := Tab.get {} m.can.ch ch

/-- Write a channel. -/
def Mod.setCan (m : Mod) (ch : Nat) (x : CanCh) : Mod := { m with can := { m.can with ch := Tab.put {} m.can.ch ch x } }

/-- A receive event (R344). -/
def Mod.canRxEv (m : Mod) (ch code : Nat) : Mod := m.ev (72 + 2 * ch) ch code true

/-- A state or error event (R344). -/
def Mod.canStEv (m : Mod) (ch code : Nat) (value : Bool) : Mod := m.ev (73 + 2 * ch) ch code value

/-- An event raised at most once per second per channel (R344). -/
def Mod.canLimited (m : Mod) (ch code : Nat) : Mod :=
  let x := m.canCh ch
  let quiet := match Tab.get none x.evRaw code with | some t => decide (t + secs 1 ≤ m.now) | none => true
  if quiet then (m.setCan ch { x with evRaw := Tab.put none x.evRaw code (some m.now) }).canStEv ch code true else m

/-! ### Error states (R340, R341) -/

/-- The error state follows the counters; WARNING and ERROR_PASSIVE start and end with their events (R340). -/
def Mod.canCounters (m : Mod) (ch : Nat) : Mod :=
  let x := m.canCh ch
  let warn := decide (96 ≤ x.tec) || decide (96 ≤ x.rec')
  let passive := decide (128 ≤ x.tec) || decide (128 ≤ x.rec')
  let m := m.setCan ch { x with warn := warn, st := if passive then 2 else 1 }
  let m := if warn != x.warn then m.canStEv ch 3 warn else m
  if passive != (x.st == 2) then m.canStEv ch 4 passive else m

/-- Bus-off: the FIFO freezes, CAN_ALONE clears, recovery AUTO starts at once (R341, R343). -/
def Mod.busOff (m : Mod) (ch : Nat) : Mod :=
  let x := m.canCh ch
  let auto := rd (m.canRec ch) 2 1 = 0
  let m := m.setCan ch { x with st := if auto then 4 else 3, tec := 256, alone := false, parked := false, acks := 0,
                                busOffs := inc32 x.busOffs, attempt := none }
  let m := if x.alone then m.canStEv ch 6 false else m
  m.canStEv ch 5 true

/-- The counters have changed after a transmission or reception error. -/
def Mod.canAfter (m : Mod) (ch : Nat) : Mod :=
  if 256 ≤ (m.canCh ch).tec then (m.canCounters ch).busOff ch else m.canCounters ch

/-- BUS_OFF_RECOVERED: 128 × 11 recessive bits have been seen; the channel is error active (R340, R341). -/
def execBusOffRecovered (ch : Nat) (s : State) : Host.Outcome State Fault Refusal := s.act fun m =>
  let x := m.canCh ch
  if x.st ≠ 4 then m
  else
    let m := m.setCan ch { x with st := 1, tec := 0, rec' := 0, warn := false }
    let m := if x.warn then m.canStEv ch 3 false else m
    (m.canStEv ch 4 false).canStEv ch 5 false

/-- RECEIVE_ERROR: an error on a received CAN frame raises REC by `inc`; with `inc` 0 it is a protocol exception,
which the channel handles when pex is set and which is a form error otherwise (R324, R340, R344) (log entry 54). -/
def execReceiveError (ch inc : Nat) (s : State) : Host.Outcome State Fault Refusal := s.act fun m =>
  let x := m.canCh ch
  if 8 ≤ ch ∨ !(x.st == 1 || x.st == 2) then m
  else if inc = 0 ∧ (rd (m.canRec ch) 1 1).testBit 2 then m.canLimited ch 9
  else (m.setCan ch { x with rec' := min 255 (x.rec' + max 1 inc) }).canAfter ch

/-! ### Receive FIFOs (R328–R333) -/

/-- Words of an entry but for `dropped` (Table 14-2). -/
def canWords (f : CanFrame) (gap : Nat) (seq : BitVec 32) (sof : Nat) : List (BitVec 32) :=
  let n := f.data.length
  let w0 := f.idw.toNat % 2 ^ 31 + 2 ^ 31
  let w1 := f.dlc.toNat + b2n f.fdf * 16 + b2n f.brs * 32 + b2n f.esi * 64 + n % 128 * 256 + gap * 65536
  [w32 w0, w32 w1, seq, w32 sof] ++ (List.range ((n + 3) / 4)).map fun k => w32 (rd f.data (4 * k) 4)

/-- A CAN frame is written to a FIFO; one that finds it full is dropped from it alone (R331). -/
def RxFifo.write (x : RxFifo) (f : CanFrame) (seq : BitVec 32) (sof : Nat) : RxFifo :=
  if x.q.length ≥ 512 then { x with drops := inc32 x.drops, gap := sat16 (x.gap + 1) }
  else { x with q := x.q ++ [{ words := canWords f x.gap seq sof, seq := seq }], gap := 0 }

/-- Count `i` is at or before count `j` (32-bit counts that wrap). -/
def seqLe (i j : BitVec 32) : Bool := i == j || cntBefore i j

/-- The lane's FIFO is written: STANDBY, ACTIVE or SPLIT (R332). -/
def LaneState.hears (s : LaneState) : Bool := s == .standby || s == .active || s == .split

/-- rx_seq of the last entry written to a lane's FIFO. -/
def RxFifo.lastSeq (x : RxFifo) : BitVec 32 := match x.q.getLast? with | some e => e.seq | none => x.limit

/-- Only entries up to the limit are readable (R332). -/
def RxFifo.bound (x : RxFifo) (limit : BitVec 32) : RxFifo :=
  { x with limit := limit, avail := (x.q.filter fun e => seqLe e.seq limit).length }

/-- Of the application's FIFO every entry is readable (R330). -/
def RxFifo.opened (x : RxFifo) : RxFifo := { x with limit := x.lastSeq, avail := x.q.length }

/-- CAN_RXF_STATUS (Table 14-3). -/
def RxFifo.status (x : RxFifo) : Nat := x.avail + b2n x.locked * 1024

/-- The lane releases every readable entry (R332) (log entry 54). -/
def RxFifo.release (x : RxFifo) : RxFifo := { x with q := x.q.drop x.avail, avail := 0, locked := false }

/-- The lanes' agreed snapshots at a frame start: the lower of the two, or the own one in simplex (R332). -/
def CanCh.snapshot (x : CanCh) (a b : Bool) : CanCh :=
  let sa := x.fifoA.lastSeq
  let sb := x.fifoB.lastSeq
  let lim := if a && b then (if seqLe sa sb then sa else sb) else if a then sa else sb
  { x with fifoA := if a then x.fifoA.bound lim else x.fifoA, fifoB := if b then x.fifoB.bound lim else x.fifoB }

/-- The snapshots of every channel (R332). -/
def Mod.canSnapshot (m : Mod) : Mod :=
  let a := m.lanes.a.st.hears
  let b := m.lanes.b.st.hears
  { m with can := { m.can with ch := foldN 8 (fun t k => Tab.upd {} t k fun x => x.snapshot a b) m.can.ch } }

/-- The release at the commit decision of a computed frame (R332) (log entry 30). -/
def Mod.canRelease (m : Mod) : Mod :=
  { m with can := { m.can with ch := foldN 8 (fun t k => Tab.upd {} t k fun x =>
      { x with fifoA := x.fifoA.release, fifoB := x.fifoB.release }) m.can.ch } }

/-- The release of a computed frame whose commit decision has come, 200 µs after its start; a second one in the frame finds
nothing left to release (R332) (log entry 30). -/
def Mod.canDue (m : Mod) : Mod :=
  if m.lanes.started && decide (m.lanes.computed = m.lanes.frame) && decide (m.lanes.heldRun = 0)
      && decide (m.lanes.frameRaw + us 200 ≤ m.now) then m.canRelease else m

/-- A CAN frame received without error is written, at its end, to the three FIFOs (R328); its stamp is the raw count of its
SOF, less 15 (R334) (log entries 4, 54). -/
def Mod.canTake (m : Mod) (ch : Nat) (frame : CanFrame) : Mod :=
  let m := m.canDue
  let x := m.canCh ch
  if 8 ≤ ch ∨ !m.pd 10 ∨ !(x.st == 1 || x.st == 2) then m
  else
    let (v, m) := if x.rec' < 128 then ((0 : BitVec 64), m) else m.draw
    let seq := x.rxSeq + 1
    let sof := (m.now - frame.age - 15) % 2 ^ 32
    let la := m.lanes.a.st.hears
    let lb := m.lanes.b.st.hears
    let full := decide (512 ≤ x.app.q.length)
    let mark := rd (m.canRec ch) 20 2
    let lastDrop : Option Nat := Tab.get none x.evRaw 2
    let m := m.setCan ch { x with
      rxSeq := seq, acks := 0, alone := false, parked := false,
      -- a received frame lowers REC; from above 127 to a value the standard leaves open in 119–127
      rec' := if 128 ≤ x.rec' then 119 + v.toNat % 9 else x.rec' - 1
      app := (x.app.write frame seq sof).opened
      rxDrops := if full then inc32 x.rxDrops else x.rxDrops
      fifoA := if la then x.fifoA.write frame seq sof else x.fifoA
      fifoB := if lb then x.fifoB.write frame seq sof else x.fifoB
      evRaw := if full then Tab.put none x.evRaw 2 (some m.now) else x.evRaw }
    let m := if x.alone then m.canStEv ch 6 false else m
    let m := if full then
        (match lastDrop with
         | some t => if t + secs 1 ≤ m.now then m.canRxEv ch 2 else m
         | none => m.canRxEv ch 2)
      else if x.app.q.length + 1 = mark then m.canRxEv ch 1 else m
    m.canCounters ch

/-- Reading word `w` of the head (R330): the word, and the FIFO after it. -/
def RxFifo.read (x : RxFifo) (w : Nat) (readable : Nat) : BitVec 32 × RxFifo :=
  match x.q with
  | [] => (0, x)
  | e :: q =>
    if readable = 0 then (0, x)
    else if w = 0 then (e.words.getD 0 0, { x with locked := true })
    else if !x.locked then (0, x)
    else if w + 1 = e.words.length then (e.words.getD w 0, { x with q := q, locked := false, avail := x.avail - 1 })
    else (e.words.getD w 0, x)

/-- A lane's FIFO of a channel. -/
def CanCh.fifo (x : CanCh) : Lane → RxFifo
  | .a => x.fifoA
  | .b => x.fifoB

/-- Write a lane's FIFO. -/
def CanCh.setFifo (x : CanCh) (l : Lane) (f : RxFifo) : CanCh :=
  match l with
  | .a => { x with fifoA := f }
  | .b => { x with fifoB := f }

/-- A lane reads a word of the head of a channel's FIFO (R330, R332). -/
def Mod.laneHead (m : Mod) (lane : Lane) (ch word : Nat) : Mod :=
  let m := m.canDue
  let f := (m.canCh ch).fifo lane
  let p := f.read word f.avail
  { m.setCan ch ((m.canCh ch).setFifo lane p.2) with bus := { value := BitVec.ofNat 64 p.1.toNat, error := false } }

/-- CAN_RXF_HEAD[w] read by a lane (R330). -/
def execCanRxfHead (lane : Lane) (ch word : Nat) (s : State) : Host.Outcome State Fault Refusal := s.act fun m =>
  if 8 ≤ ch ∨ 20 ≤ word then { m with bus := { value := 0, error := true } } else m.laneHead lane ch word

/-- A lane reads CAN_RXF_DROPS, which clears it (Table 14-3). -/
def Mod.laneDrops (m : Mod) (lane : Lane) (ch : Nat) : Mod :=
  let x := m.canCh ch
  let f := x.fifo lane
  { m.setCan ch (x.setFifo lane { f with drops := 0 }) with bus := { value := BitVec.ofNat 64 f.drops, error := false } }

/-- A lane reads a register of its window, `o` from its start; at an offset without a register it gets a bus error (R29,
R330, Table 14-3). -/
def Mod.readLane (m : Mod) (l : Lane) (o : Nat) : Mod :=
  let ch := o / 0x100
  let k := o % 0x100
  if k < 0x50 ∧ k % 4 = 0 then m.laneHead l ch (k / 4)
  else if k = 0x50 then { m.canDue with bus := { value := BitVec.ofNat 64 ((m.canDue.canCh ch).fifo l).status, error := false } }
  else if k = 0x54 then { m with bus := { value := BitVec.ofNat 64 ((m.canCh ch).fifo l).limit.toNat, error := false } }
  else if k = 0x58 then m.laneDrops l ch
  else { m with bus := { value := 0, error := true } }

/-- CAN_RXF_DROPS: the count since the last read, cleared by the read (Table 14-3). -/
def execCanRxfDrops (reader : Option Lane) (ch : Nat) (s : State) : Host.Outcome State Fault Refusal := s.act fun m =>
  if 8 ≤ ch then { m with bus := { value := 0, error := true } }
  else
    let x := m.canCh ch
    match reader with
    | some l => m.laneDrops l ch
    | none =>
      { m.setCan ch { x with app := { x.app with drops := 0 } } with
        bus := { value := BitVec.ofNat 64 x.app.drops, error := false } }

/-! ### Transmission (R335, R339–R343) -/

/-- Code of a lane state (Table 03-2). -/
def LaneState.code : LaneState → Nat
  | .off => 0 | .loading => 1 | .resync => 2 | .standby => 3 | .active => 4 | .silent => 5 | .stopped => 6 | .split => 7

/-- Heartbeat data (Table 14-5). -/
def Mod.hbData (m : Mod) (count : BitVec 8) : Bytes :=
  let st := if m.upd.reheat then 2 else if m.pwr.mode = .shutdown then 3 else if m.lanes.run then 1 else 0
  let l := m.lanes
  le 1 (st + l.redundancy * 16) ++ le 1 (l.a.st.code + l.b.st.code * 16)
    ++ le 1 (b2n (l.token == some .b) + b2n (l.heldRun != 0) * 2 + b2n m.log.vol * 4 + b2n m.time.holdover * 8
        + b2n (m.safe.st == .run) * 16)
    ++ [count] ++ le 4 (if l.started then l.frame else 0)

/-- The heartbeat frame: classical, 8 bytes, identifier hb_id (R339) (log entry 54). -/
def Mod.hbFrame (m : Mod) (ch : Nat) : CanFrame :=
  let id := rd (m.canRec ch) 16 4
  { idw := w32 (id % 2 ^ 29 + b2n (id.testBit 31) * 2 ^ 29), dlc := 8, data := m.hbData ((m.canCh ch).hbCount - 1) }

/-- What the channel offers at an arbitration opportunity: safety mailbox, heartbeat, FIFO head (R335); in Reheat mode CAN1
has the segments of answers in place of its FIFO (R422). Frozen and paused FIFOs offer nothing (R341, R342) (log entries 54, 55). -/
def Mod.canOffer (m : Mod) (ch : Nat) : Option (TxPick × CanFrame) :=
  let x := m.canCh ch
  match x.mailbox with
  | some f => some (.mailbox, f)
  | none =>
    if x.hbDue && !(x.alone && x.hbTried) then some (.heartbeat, m.hbFrame ch)
    else if x.parked then none
    else match x.tx with
    | e :: _ => some (.fifo, e.frame)
    | [] => if m.upd.reheat && ch == 0 then m.port.segOut.head?.map fun f => (.segment, f) else none

/-- ARBITRATION_OPPORTUNITY: the channel offers one CAN frame and stamps its SOF; an FD frame's ESI tells that the channel
is error passive (R324, R334, R335) (log entry 54). -/
def execArbitrationOpportunity (ch : Nat) (s : State) : Host.Outcome State Fault Refusal := s.act fun m =>
  let m := m.pduReady ch
  let x := m.canCh ch
  if 8 ≤ ch ∨ !m.pd 10 ∨ !(x.st == 1 || x.st == 2) ∨ x.attempt.isSome ∨ rd (m.canRec ch) 0 1 ≠ 0 then m
  else match m.canOffer ch with
  | none => m
  | some (pick, f) =>
    let tx := match pick, x.tx with
      | .fifo, e :: t => { e with attempts := sat16 (e.attempts + 1) } :: t
      | _, t => t
    let f := { f with esi := f.fdf && x.st == 2 }
    m.setCan ch { x with attempt := some (pick, f, m.now - 15), tx := tx, hbTried := x.hbTried || pick == .heartbeat }

/-- The safety mailbox once the attempt with frame `f` is over: a newer PDU that came meanwhile waits for its own (R211,
R323). -/
def CanCh.mailboxAfter (x : CanCh) (pick : TxPick) (f : CanFrame) : Option CanFrame :=
  if pick = .mailbox ∧ x.mailbox.map (·.data) = some f.data then none else x.mailbox

/-- A removed entry: its CONFIRM command completes with ABORTED (R343). -/
def Mod.canDropped (m : Mod) (es : List TxEntry) : Mod :=
  es.foldl (fun m e => match e.confirm with | some c => m.finish 0x0811 c St.aborted | none => m) m

/-- The ABORTs that waited for the end of the head's attempt act (R343). -/
def Mod.canAborts (m : Mod) (ch : Nat) (sent : Bool) : Mod :=
  let x := m.canCh ch
  if x.aborts.isEmpty then m
  else
    let removed := if sent then [] else x.tx.take 1
    let m := m.setCan ch { x with aborts := [], tx := if sent then x.tx else x.tx.drop 1 }
    let m := m.canDropped removed
    let p := x.aborts.foldl (fun (p : Mod × Nat) a =>
      (p.1.finish 0x0812 a.1 St.ok (le 1 (a.2 + p.2) ++ zeros 3), 0)) (m, removed.length)
    p.1

/-- A transmission succeeds (R335). -/
def Mod.canSent (m : Mod) (ch : Nat) (pick : TxPick) (f : CanFrame) (sof : Nat) : Mod :=
  let x := m.canCh ch
  let (tdc, m) := if f.fdf && f.brs && (rd (m.canRec ch) 1 1).testBit 1 then m.draw else (BitVec.ofNat 64 x.tdcMeas.toNat, m)
  let m := m.setCan ch { x with
    attempt := none, acks := 0, tec := x.tec - 1, txFrames := inc32 x.txFrames, tdcMeas := BitVec.ofNat 8 tdc.toNat
    mailbox := x.mailboxAfter pick f
    hbDue := x.hbDue && pick != .heartbeat
    tx := if pick = .fifo then x.tx.drop 1 else x.tx }
  let m := { m with can := { m.can with wire := m.can.wire ++ [(ch, f, sof)] },
                    port := { m.port with segOut := if pick = TxPick.segment then m.port.segOut.drop 1 else m.port.segOut } }
  let m := match pick, x.tx with
    | .fifo, e :: _ => (match e.confirm with
      | some c => m.finish 0x0811 c St.ok (le 8 sof ++ le 2 e.attempts ++ zeros 2)
      | none => m)
    | _, _ => m
  m.canCounters ch

/-- An acknowledgement error: counted, and CAN_ALONE when ack_limit is reached (R342). TEC does not rise while error
passive. -/
def Mod.canAckError (m : Mod) (ch : Nat) (pick : TxPick) (f : CanFrame) : Mod :=
  let x := m.canCh ch
  let n := x.acks + 1
  let limit := rd (m.canRec ch) 3 1
  let alone := limit ≠ 0 ∧ limit ≤ n ∧ !x.alone
  let m := m.setCan ch { x with
    attempt := none, acks := min 255 n, tec := if x.st = 2 then x.tec else x.tec + 8
    alone := x.alone || decide alone, parked := x.parked || decide alone
    mailbox := if x.alone then x.mailboxAfter pick f else x.mailbox }
  if alone then m.canStEv ch 6 true else m

/-- CAN_TX_END: the attempt in progress ends. An unsuccessful one is repeated; while CAN_ALONE the safety mailbox
makes one attempt per PDU (R323, R335, R342). -/
def execCanTxEnd (ch : Nat) (result : TxEnd) (s : State) : Host.Outcome State Fault Refusal := s.act fun m =>
  let x := m.canCh ch
  match x.attempt with
  | none => m
  | some (pick, f, sof) =>
    let left := if x.alone then x.mailboxAfter pick f else x.mailbox
    let m := match result with
      | .sent => m.canSent ch pick f sof
      | .lostArbitration => m.setCan ch { x with attempt := none, mailbox := left }
      | .ackError => (m.canAckError ch pick f).canAfter ch
      | .otherError => (m.setCan ch { x with attempt := none, tec := x.tec + 8, mailbox := left }).canAfter ch
    if pick = .fifo then m.canAborts ch (result == .sent) else m

/-- HEARTBEAT_DUE: hb_period ms after the last, counted from ENABLE; one still unsent is replaced and counted (R339) (log entry 54). -/
def execHeartbeatDue (ch : Nat) (s : State) : Host.Outcome State Fault Refusal := s.act fun m =>
  let x := m.canCh ch
  let p := ms (rd (m.canRec ch) 14 2)
  if 8 ≤ ch ∨ !m.pd 10 ∨ x.st = 0 ∨ p = 0 then m
  else
    let due := x.enRaw + ((x.hbRaw - x.enRaw) / p + 1) * p
    let m := (m.until due).setCan ch { x with hbDue := true, hbTried := false, hbRaw := due, hbCount := x.hbCount + 1,
                                              hbMissed := if x.hbDue then inc32 x.hbMissed else x.hbMissed }
    if x.hbDue then m.canLimited ch 8 else m

/-- A CAN frame enters the transmit FIFO; none where it is full. -/
def CanCh.enqueue (x : CanCh) (e : TxEntry) : Option CanCh :=
  if x.tx.length ≥ 64 then none else some { x with tx := x.tx ++ [e] }

/-! ### Lane PDUs and signals (R337, R338) -/

/-- Record of a lane PDU; channel 0xFF unused. -/
def Mod.pduRec (m : Mod) (k : Nat) : Bytes := m.cfgOr 0x0815 k (le 1 k ++ [0xFF] ++ zeros 14)

/-- Record of a signal slot; PDU 0xFF unused. -/
def Mod.sigRec (m : Mod) (k : Nat) : Bytes := m.cfgOr 0x0816 k (le 1 k ++ [0xFF] ++ zeros 18)

/-- Bit positions of a field, least significant first (R338). -/
def sigBits (r : Bytes) : List Nat :=
  let start := rd r 2 2
  let n := rd r 4 1
  if rd r 5 1 = 0 then (List.range n).map fun k => start + k
  else
    let step := fun (p : Nat) => if p % 8 = 0 then p + 15 else p - 1
    ((List.range n).foldl (fun (q : List Nat × Nat) _ => (q.2 :: q.1, step q.2)) ([], start)).1

/-- Raw field contents for a loop output (R338). -/
def sigEncode (r : Bytes) (y : F32) : BitVec 32 :=
  let n := rd r 4 1
  if rd r 6 1 = 2 then y
  else
    let q := S.div (S.sub y (rdF r 12)) (rdF r 8)
    let lo : Int := if rd r 6 1 = 1 then -(2 ^ (n - 1) : Nat) else 0
    let hi : Int := if rd r 6 1 = 1 then (2 ^ (n - 1) : Nat) - 1 else (2 ^ n : Nat) - 1
    let v := if S.isFin q then max lo (min hi (S.toIntRne q)) else if S.lt q 0 then lo else hi
    w32 (v % (2 ^ 32 : Nat)).toNat

/-- The value a slot holds: its loop's output, or off_raw (R338). -/
def Mod.sigValue (m : Mod) (k : Nat) : BitVec 32 :=
  let r := m.sigRec k
  match m.loopOwner 2 k with
  | some j => if !(m.loopCh j).wrote then w32 (rd r 16 4) else sigEncode r (m.loopCh j).yPrev
  | none => w32 (rd r 16 4)

/-- Signal slots that name a PDU. -/
def Mod.pduSigs (m : Mod) (pdu : Nat) : List Nat := (List.range 256).filter fun k => rd (m.sigRec k) 1 1 == pdu

/-- Set or clear a bit of a byte string. -/
def setBit (bs : Bytes) (b : Nat) (v : Bool) : Bytes :=
  let old := bs.getD (b / 8) 0
  let mask := BitVec.ofNat 8 (2 ^ (b % 8))
  bs.set (b / 8) (if v then old ||| mask else old &&& ~~~mask)

/-- Bytes touched by a slot read 0 before its bits are placed; the others read `fill`. -/
def Mod.pduData (m : Mod) (pdu : Nat) : Bytes :=
  let r := m.pduRec pdu
  let sigs := m.pduSigs pdu
  let covered := sigs.flatMap fun k => (sigBits (m.sigRec k)).map (· / 8)
  let base := (List.range (rd r 3 1)).map fun b => if covered.contains b then (0 : Byte) else BitVec.ofNat 8 (rd r 12 1)
  sigs.foldl (fun bs k =>
    let v := (m.sigValue k).toNat
    let ps := sigBits (m.sigRec k)
    (List.range ps.length).foldl (fun bs j => setBit bs (ps.getD j 0) (v.testBit j)) bs) base

/-- DLC of a data length. -/
def dlcOf (n : Nat) : Nat :=
  if n ≤ 8 then n else if n ≤ 12 then 9 else if n ≤ 16 then 10 else if n ≤ 20 then 11 else if n ≤ 24 then 12
  else if n ≤ 32 then 13 else if n ≤ 48 then 14 else 15

/-- A CAN frame from TRANSMIT-like fields; a remote frame carries no data (R324). -/
def canFrameOf (id flags : Nat) (data : Bytes) : CanFrame :=
  { idw := w32 id, dlc := BitVec.ofNat 4 (dlcOf data.length), fdf := flags.testBit 0, brs := flags.testBit 1
    data := if id.testBit 30 then [] else data }

/-- The due PDUs of a computed frame are built and latched; the slots take their values (R337). -/
def Mod.pduBuild (m : Mod) (n : Nat) : Mod :=
  let due := (List.range 32).filter fun k =>
    let r := m.pduRec k
    rd r 1 1 != 0xFF && rd r 8 2 != 0 && n % rd r 8 2 == rd r 10 2
  let sig := foldN 256 (fun t k => if (m.stored 0x0816 k).isEmpty then t else Tab.put none t k (some (m.sigValue k))) m.can.sig
  { m with can := { m.can with
      sig := sig
      latched := due.map fun k =>
        let r := m.pduRec k
        (k, rd r 1 1, canFrameOf (rd r 4 4) (rd r 2 1) (m.pduData k)) } }

/-- At a frame start the Arbiter passes the latched PDUs into their FIFOs, in ascending PDU number; one that finds the
FIFO full is dropped and counted (R335, R337). -/
def Mod.pduEnter (m : Mod) : Mod :=
  let l := m.can.latched
  let m := { m with can := { m.can with latched := [] } }
  if m.lanes.driving.isNone then m
  else l.foldl (fun (m : Mod) (p : Nat × Nat × CanFrame) =>
    let x := m.canCh p.2.1
    if x.st = 0 ∨ rd (m.canRec p.2.1) 0 1 = 1 then m
    else match x.enqueue { frame := p.2.2, app := false, confirm := none, attempts := 0 } with
    | some y => m.setCan p.2.1 y
    | none => (m.setCan p.2.1 { x with txOverflow := inc32 x.txOverflow }).canLimited p.2.1 7) m

/-! ### CAN class operations -/

/-- 0x0801 -/
def opCanGetInfo : Op := opInfo 8 8

/-- 0x0802 -/
def opCanGetStatus : Op where
  len := exactly 0
  insts := 8
  body := fun c m =>
    let ch := c.inst.toNat
    let x := m.canCh ch
    let r := m.canRec ch
    let fl := b2n x.alone + b2n (x.st == 3 || x.st == 4) * 2 + b2n (rd r 0 1 == 1) * 4 + b2n ((rd r 1 1).testBit 3) * 8
    Res.ok m (le 1 x.st ++ le 1 fl ++ le 2 x.tec ++ le 2 x.rec' ++ le 2 x.app.q.length ++ le 1 x.tx.length
      ++ le 1 x.tdcMeas.toNat ++ le 2 (match x.tx with | e :: _ => e.attempts | [] => 0) ++ le 4 x.rxSeq.toNat
      ++ le 4 x.txFrames ++ le 4 x.rxDrops ++ le 4 x.txOverflow ++ le 4 x.busOffs ++ le 4 x.hbMissed)

/-- A channel record is legal (Table 14-7, R323, R325). -/
def canRecordOk (ch : Nat) (r : Bytes) : Bool :=
  let n := rd r 4 1 * (1 + rd r 6 2 + rd r 8 1)
  let d := rd r 9 1 * (1 + rd r 10 1 + rd r 11 1)
  let hb := rd r 14 2
  decide (rd r 0 1 ≤ 2) && decide (rd r 1 1 ≤ 31) && decide (rd r 2 1 ≤ 1)
    && inRange (rd r 4 1) 1 32 && inRange (rd r 5 1) 1 128 && inRange (rd r 6 2) 2 256 && inRange (rd r 8 1) 1 128
    && inRange (rd r 9 1) 1 32 && inRange (rd r 10 1) 1 32 && inRange (rd r 11 1) 1 16 && inRange (rd r 12 1) 1 16
    && decide (rd r 13 1 ≤ 127) && (hb == 0 || inRange hb 5 1000) && decide (bits (rd r 16 4) 30 29 = 0)
    && inRange (rd r 20 2) 1 512 && isZero r 22 2
    -- 80 MHz / n between 125 kbit/s and 1 Mbit/s; 80 MHz / d at most 8 Mbit/s and not below the nominal rate
    && decide (80 ≤ n) && decide (n ≤ 640) && decide (10 ≤ d) && decide (d ≤ n)
    && decide (rd r 5 1 ≤ rd r 8 1) && decide (rd r 12 1 ≤ rd r 11 1)
    && !((rd r 1 1).testBit 1 && decide (2 < rd r 9 1))
    && !((ch == 6 || ch == 7) && (rd r 0 1 != 0 || !(rd r 1 1).testBit 0))

/-- 0x0803 (R323, R325) -/
def opCanSetConfig : Op where
  len := exactly 24
  insts := 8
  body := fun c m =>
    let ch := c.inst.toNat
    let r := slice c.params 0 24
    let old := m.canRec ch
    let moved := rd r 0 1 != rd old 0 1 || rd r 1 1 % 8 != rd old 1 1 % 8 || slice r 4 10 != slice old 4 10
    if !canRecordOk ch r then Res.err m St.badParam
    else if moved ∧ (m.canCh ch).st ≠ 0 then Res.err m St.notReady
    else Res.ok ((m.setCfg 0x0803 ch r).markSet 0)

/-- 0x0804 -/
def opCanGetConfig : Op where
  len := exactly 0
  insts := 8
  body := fun c m => Res.ok m (m.canRec c.inst.toNat)

/-- A channel joins the bus: rx_seq starts at 0, and the heartbeat counts from now (R328, R339). -/
def Mod.canEnable (m : Mod) (ch : Nat) : Mod :=
  let x := m.canCh ch
  if x.st ≠ 0 then m
  else m.setCan ch { x with st := 1, tec := 0, rec' := 0, rxSeq := 0, acks := 0, enRaw := m.now, hbRaw := m.now,
                            hbDue := false, hbTried := false }

/-- A channel leaves the bus: both of its application's FIFOs are emptied, CONFIRM and waiting ABORT commands end, and
conditions that stand end (R343). -/
def Mod.canDisable (m : Mod) (ch : Nat) : Mod :=
  let x := m.canCh ch
  if x.st = 0 then m
  else
    let m := m.setCan ch { x with st := 0, tec := 0, rec' := 0, alone := false, parked := false, acks := 0, warn := false,
                                  tx := [], attempt := none, aborts := [], hbDue := false, mailbox := none,
                                  app := { x.app with q := [], locked := false }.opened }
    let m := m.canDropped x.tx
    let m := x.aborts.foldl (fun (m : Mod) a => m.finish 0x0812 a.1 St.ok (le 1 a.2 ++ zeros 3)) m
    let m := if x.warn then m.canStEv ch 3 false else m
    -- a channel that went bus-off was error passive, and its code 4 has not ended
    let m := if 2 ≤ x.st then m.canStEv ch 4 false else m
    let m := if x.st = 3 ∨ x.st = 4 then m.canStEv ch 5 false else m
    if x.alone then m.canStEv ch 6 false else m

/-- PD10 goes off: every channel is OFF and the lanes see no entries (R343, R322). -/
def Mod.canPowerOff (m : Mod) : Mod :=
  foldN 8 (fun m ch =>
    let m := m.canDisable ch
    m.setCan ch { m.canCh ch with fifoA := {}, fifoB := {} }) m

/-- 0x0805 -/
def opCanEnable : Op where
  len := exactly 0
  insts := 8
  body := fun c m => Res.ok (m.canEnable c.inst.toNat)

/-- 0x0806 (R343) -/
def opCanDisable : Op where
  len := exactly 0
  insts := 8
  body := fun c m => Res.ok (m.canDisable c.inst.toNat)

/-- 0x0807 (R333) -/
def opCanResetInstance : Op where
  len := exactly 0
  insts := 8
  body := fun c m =>
    let ch := c.inst.toNat
    let m := (m.canDisable ch).restore 0 0x0803 ch
    Res.ok (m.setCan ch { m.canCh ch with rxDrops := 0, txOverflow := 0, txFrames := 0, busOffs := 0, hbMissed := 0,
                                          app := {} })

/-- As many whole entries as fit, at most `n` (0x0810). -/
def takeEntries : Nat → Nat → List RxEntry → List RxEntry
  | 0, _, _ => []
  | _, _, [] => []
  | n + 1, room, e :: t => if 4 * e.words.length ≤ room then e :: takeEntries n (room - 4 * e.words.length) t else []

/-- 0x0810 (R330, R333) -/
def opRxRead : Op where
  len := exactly 4
  insts := 8
  body := fun c m =>
    let ch := c.inst.toNat
    let n := rd c.params 0 1
    let x := m.canCh ch
    if n = 0 ∨ 8 < n ∨ !isZero c.params 1 3 then Res.err m St.badParam
    else
      let es := takeEntries n 232 x.app.q
      let q := x.app.q.drop es.length
      let m' := m.setCan ch { x with app := { x.app with q := q, drops := 0, locked := false }.opened }
      Res.ok m' (le 1 es.length ++ le 1 0 ++ le 2 q.length ++ le 4 x.app.drops
        ++ es.flatMap fun e => e.words.flatMap fun w => le 4 w.toNat)

/-- A data length is legal: 0–8, with fdf also the longer ones (0x0811). -/
def canLenOk (n : Nat) (fdf : Bool) : Bool := decide (n ≤ 8) || (fdf && [12, 16, 20, 24, 32, 48, 64].contains n)

/-- 0x0811 (R335) -/
def opTransmit : Op where
  len := fun c => 8 ≤ c.plen.toNat && c.plen.toNat == 8 + rd c.params 5 1
  insts := 8
  body := fun c m =>
    let ch := c.inst.toNat
    let id := rd c.params 0 4
    let fl := rd c.params 4 1
    let n := rd c.params 5 1
    let r := m.canRec ch
    let x := m.canCh ch
    if 2 ^ 31 ≤ id ∨ 7 < fl ∨ !isZero c.params 6 2 ∨ !canLenOk n (fl.testBit 0)
        ∨ (fl.testBit 0 ∧ (!(rd r 1 1).testBit 0 ∨ id.testBit 30)) then Res.err m St.badParam
    else if x.st = 0 ∨ rd r 0 1 = 1 then Res.err m St.notReady
    else
      let confirm := fl.testBit 2
      let e : TxEntry := { frame := canFrameOf id fl (slice c.params 8 n), app := true,
                           confirm := if confirm then some c else none, attempts := 0 }
      match x.enqueue e with
      | none => Res.err m St.noResource
      | some y => if confirm then Res.accepted (m.setCan ch y) else Res.ok (m.setCan ch y)

/-- 0x0812 (R343): the head of an attempt in progress is removed when the attempt ends. -/
def opCanAbort : Op where
  len := exactly 4
  insts := 8
  body := fun c m =>
    let ch := c.inst.toNat
    let scope := rd c.params 0 1
    let x := m.canCh ch
    if 2 < scope ∨ !isZero c.params 1 3 then Res.err m St.badParam
    else if x.st = 0 then Res.err m St.notReady
    else
      let busy := match x.attempt with | some (.fifo, _, _) => true | _ => false
      let hit := fun (j : Nat) (e : TxEntry) => scope == 2 || (scope == 1 && e.app) || (scope == 0 && j == 0)
      let tagged := (List.range x.tx.length).zip x.tx
      let head := match x.tx with | e :: _ => busy && hit 0 e | [] => false
      let gone := tagged.filter fun p => hit p.1 p.2 && !(head && p.1 == 0)
      let kept := tagged.filter fun p => !(hit p.1 p.2 && !(head && p.1 == 0))
      let y := { x with tx := kept.map (·.2) }
      let m' := (m.setCan ch (if head then { y with aborts := x.aborts ++ [(c, gone.length)] } else y)).canDropped (gone.map (·.2))
      if head then Res.later m' else Res.ok m' (le 1 gone.length ++ zeros 3)

/-- 0x0813 (R341, R343) -/
def opRecover : Op where
  len := exactly 0
  insts := 8
  body := fun c m =>
    let ch := c.inst.toNat
    let x := m.canCh ch
    if x.st = 3 then Res.ok (m.setCan ch { x with st := 4 }) else Res.err m St.notReady

/-- 0x0814 (R342, R343) -/
def opResume : Op where
  len := exactly 0
  insts := 8
  body := fun c m =>
    let ch := c.inst.toNat
    let x := m.canCh ch
    if !(x.st == 1 || x.st == 2) then Res.err m St.notReady
    else
      let m' := m.setCan ch { x with alone := false, parked := false, acks := 0 }
      Res.ok (if x.alone then m'.canStEv ch 6 false else m')

/-- 0x0815 (R337) -/
def opSetLanePdu : Op where
  len := exactly 16
  stamped := fun _ => true
  body := fun c m =>
    let r := slice c.params 0 16
    let ch := rd r 1 1
    let fdf := (rd r 2 1).testBit 0
    let id := rd r 4 4
    if 31 < rd r 0 1 ∨ (7 < ch ∧ ch ≠ 0xFF) ∨ 3 < rd r 2 1 ∨ !canLenOk (rd r 3 1) fdf ∨ 2 ^ 31 ≤ id
        ∨ (fdf ∧ id.testBit 30) ∨ !inRange (rd r 8 2) 1 4000 ∨ rd r 8 2 ≤ rd r 10 2 ∨ !isZero r 13 3 then
      Res.err m St.badParam
    else Res.ok ((m.setCfg 0x0815 (rd r 0 1) r).markSet 0)

/-- The field of a signal record lies in its PDU and overlaps no other slot of it (0x0816). -/
def Mod.sigFits (m : Mod) (r : Bytes) : Bool :=
  let pdu := rd r 1 1
  let ps := sigBits r
  pdu == 0xFF ||
    (ps.all (fun p => decide (p < 8 * rd (m.pduRec pdu) 3 1))
      && (m.pduSigs pdu).all fun k => k == rd r 0 1 || (sigBits (m.sigRec k)).all fun p => !ps.contains p)

/-- 0x0816 (R338) -/
def opSetSignal : Op where
  len := exactly 20
  stamped := fun _ => true
  body := fun c m =>
    let r := slice c.params 0 20
    let n := rd r 4 1
    if (31 < rd r 1 1 ∧ rd r 1 1 ≠ 0xFF) ∨ 511 < rd r 2 2 ∨ !inRange n 1 32 ∨ 1 < rd r 5 1 ∨ 2 < rd r 6 1
        ∨ (rd r 6 1 = 2 ∧ n ≠ 32) ∨ !isZero r 7 1 ∨ !S.isFin (rdF r 8) ∨ !S.isFin (rdF r 12)
        ∨ S.scaled (rdF r 8) = 0 ∨ !m.sigFits r then Res.err m St.badParam
    else Res.ok ((m.setCfg 0x0816 (rd r 0 1) r).markSet 0)

/-- CAN_GET_INFO (R98). -/
def execCanGetInfo (c : Cmd) (s : State) : Host.Outcome State Fault Refusal := s.act fun m => m.serve 0x0801 opCanGetInfo c
/-- CAN_GET_STATUS (R340). -/
def execCanGetStatus (c : Cmd) (s : State) : Host.Outcome State Fault Refusal := s.act fun m => m.serve 0x0802 opCanGetStatus c
/-- CAN_SET_CONFIG (R323, R325). -/
def execCanSetConfig (c : Cmd) (s : State) : Host.Outcome State Fault Refusal := s.act fun m => m.serve 0x0803 opCanSetConfig c
/-- CAN_GET_CONFIG (R325). -/
def execCanGetConfig (c : Cmd) (s : State) : Host.Outcome State Fault Refusal := s.act fun m => m.serve 0x0804 opCanGetConfig c
/-- CAN_ENABLE (R328). -/
def execCanEnable (c : Cmd) (s : State) : Host.Outcome State Fault Refusal := s.act fun m => m.serve 0x0805 opCanEnable c
/-- CAN_DISABLE (R343). -/
def execCanDisable (c : Cmd) (s : State) : Host.Outcome State Fault Refusal := s.act fun m => m.serve 0x0806 opCanDisable c
/-- CAN_RESET_INSTANCE (R323, R333). -/
def execCanResetInstance (c : Cmd) (s : State) : Host.Outcome State Fault Refusal := s.act fun m => m.serve 0x0807 opCanResetInstance c
/-- RX_READ (R330). -/
def execRxRead (c : Cmd) (s : State) : Host.Outcome State Fault Refusal := s.act fun m => m.serve 0x0810 opRxRead c
/-- TRANSMIT (R335). -/
def execTransmit (c : Cmd) (s : State) : Host.Outcome State Fault Refusal := s.act fun m => m.serve 0x0811 opTransmit c
/-- CAN_ABORT (R343). -/
def execCanAbort (c : Cmd) (s : State) : Host.Outcome State Fault Refusal := s.act fun m => m.serve 0x0812 opCanAbort c
/-- RECOVER (R341). -/
def execRecover (c : Cmd) (s : State) : Host.Outcome State Fault Refusal := s.act fun m => m.serve 0x0813 opRecover c
/-- RESUME (R342). -/
def execResume (c : Cmd) (s : State) : Host.Outcome State Fault Refusal := s.act fun m => m.serve 0x0814 opResume c
/-- SET_LANE_PDU (R337). -/
def execSetLanePdu (c : Cmd) (s : State) : Host.Outcome State Fault Refusal := s.act fun m => m.serve 0x0815 opSetLanePdu c
/-- SET_SIGNAL (R338). -/
def execSetSignal (c : Cmd) (s : State) : Host.Outcome State Fault Refusal := s.act fun m => m.serve 0x0816 opSetSignal c

/-- The CAN class. -/
def canOps : List (Nat × Op) :=
  [(0x0801, opCanGetInfo), (0x0802, opCanGetStatus), (0x0803, opCanSetConfig), (0x0804, opCanGetConfig),
   (0x0805, opCanEnable), (0x0806, opCanDisable), (0x0807, opCanResetInstance), (0x0810, opRxRead),
   (0x0811, opTransmit), (0x0812, opCanAbort), (0x0813, opRecover), (0x0814, opResume), (0x0815, opSetLanePdu),
   (0x0816, opSetSignal)]

end Sys2Proof.Machine
end

