-- ==== Sys2Proof/Machine/InpFrame.lean ====
section
/-! DEFINITION. What a frame does with the inputs and the Frame Exchange (chapter 07): sampling, agreement, the capture of
the inbound slots, the outbound slots and the mirror. -/

namespace Sys2Proof.Machine

open Sys2Proof

/-! ### Samples (R168, R171–R177) -/

/-- Elements whose delivery to a lane failed its link check (code 11). -/
def linkBad (f : FrameIn) : Lane → List Nat
  | .a => f.linkBadA
  | .b => f.linkBadB

/-- The lane's reference channel is off (code 3). -/
def convBad (f : FrameIn) : Lane → Bool
  | .a => f.convBadA
  | .b => f.convBadB

/-- A sensor supply 1–8 fails the inputs that name it: off, latched, or outside tolerance (R177). -/
def Mod.supBad (m : Mod) (sup : Nat) : Bool := let x := m.inpCh (106 + sup); !x.on || x.cond

/-- An AIN works: enabled, and its mode not OFF. -/
def Mod.ainOn (m : Mod) (i : Nat) : Bool := (m.inpCh i).enabled && rd (m.inpRec i) 0 1 != 0

/-- The code of Table 07-2 that flags a lane's AIN sample bad, 0 for none; where several hold, the first of
11, 4, 3, 1, 2 (log entry 34). -/
def Mod.ainCode (m : Mod) (f : FrameIn) (lane : Lane) (i : Nat) : Nat :=
  let r := m.inpRec i
  let x := m.inpCh i
  let v := (match lane with | .a => x.valA | .b => x.valB).toNat
  if !m.ainOn i then 0
  else if (linkBad f lane).contains i then 11
  else if rd r 1 1 ≠ 0 ∧ m.supBad (rd r 1 1) then 4
  else if convBad f lane then 3
  else if v < rd r 2 2 then 1
  else if rd r 4 2 < v then 2
  else 0

/-- A pair of frequency inputs, named by its A input, runs in QUAD (log entry 34). -/
def Mod.quadPair (m : Mod) (ia : Nat) : Bool := rd (m.inpRec ia) 0 1 == 3 && (m.inpCh ia).enabled

/-- A lane's sample of element `idx` of Table 07-1 at the frame start `raw`. -/
def Mod.sampleEl (m : Mod) (f : FrameIn) (raw : Nat) (lane : Lane) (idx : Nat) : VecEl :=
  let link := (linkBad f lane).contains idx
  if idx < 64 then
    let x := m.inpCh idx
    if !m.ainOn idx then { val := 0, bad := true }
    else { val := match lane with | .a => x.valA | .b => x.valB, bad := m.ainCode f lane idx != 0 || x.settle != 0 }
  else if idx < 160 then
    let i := 64 + idx % 32
    let ia := i / 2 * 2
    let x := m.inpCh i
    let r := m.inpRec i
    let quad := m.quadPair ia
    if !x.enabled || (!quad && rd r 0 1 == 0) then { val := 0, bad := true }
    else
      let live := match x.edge with | some e => decide (raw < e + ms (rd r 4 2)) | none => false
      let val := if idx < 96 then (if live then x.period else 0)
        else if idx < 128 then (if quad && i = ia then x.pos else x.count)
        else (match x.edge with | some e => w32 e | none => 0)
      { val := val, bad := link || (quad && x.quadErr) || (!quad && rd r 0 1 == 2 && x.cond) }
  else if idx < 176 then
    let x := m.inpCh (96 + idx % 8)
    if !x.enabled then { val := 0, bad := true }
    else { val := if idx < 168 then x.count else w32 x.peak.toNat, bad := link || x.cond || convBad f lane }
  else if idx < 197 then
    let k := if idx < 194 then (idx - 176) / 6 else idx - 194
    let x := m.inpCh (104 + k)
    if !x.enabled then { val := 0, bad := true }
    else { val := if idx < 194 then x.imu.getD ((idx - 176) % 6) 0 else x.imuRaw,
           bad := link || (match lane with | .a => x.badA | .b => x.badB) }
  else if 200 ≤ idx ∧ idx < 216 then
    let x := m.inpCh (107 + idx % 8)
    if !x.enabled ∨ !x.on then { val := 0, bad := true }
    else { val := if idx < 208 then x.valA else w32 x.ma.toNat, bad := link || x.cond }
  else if 320 ≤ idx ∧ idx < 384 then { val := w32 (m.drvCh (idx - 320)).cur.toNat, bad := link }
  else if 384 ≤ idx ∧ idx < 448 then { val := w32 (m.drvCh (idx - 384)).status, bad := link }
  else {}

/-- The elements of the input an element belongs to (Table 07-1). -/
def elGroup (idx : Nat) : List Nat :=
  if 64 ≤ idx ∧ idx < 160 then [64 + idx % 32, 96 + idx % 32, 128 + idx % 32]
  else if 160 ≤ idx ∧ idx < 176 then [160 + idx % 8, 168 + idx % 8]
  else if 176 ≤ idx ∧ idx < 197 then
    let k := if idx < 194 then (idx - 176) / 6 else idx - 194
    (194 + k) :: (List.range 6).map fun j => 176 + 6 * k + j
  else if 200 ≤ idx ∧ idx < 216 then [200 + idx % 8, 208 + idx % 8]
  else [idx]

/-- First element of an instance (0x0602). -/
def firstEl (i : Nat) : Nat := if i < 96 then i else if i < 104 then 64 + i else if i < 107 then 176 + 6 * (i - 104) else 93 + i

/-- Lane A's sample is flagged bad and Lane B's is not, input by input (Table 03-5). -/
def Mod.useB (m : Mod) (f : FrameIn) (raw idx : Nat) : Bool :=
  let g := elGroup idx
  let ga := g.any fun k => (m.sampleEl f raw .a k).bad
  let gb := g.any fun k => (m.sampleEl f raw .b k).bad
  if ga != gb then ga else (m.sampleEl f raw .a idx).bad && !(m.sampleEl f raw .b idx).bad

/-- The element a computed frame uses: agreed in duplex (R63, R170), the computing lane's own in simplex (R65, R67).
In odd frames the IMU elements keep their previous values and flags (R176) (log entry 34). -/
def Mod.agreeEl (m : Mod) (f : FrameIn) (n raw : Nat) (own : Option Lane) (idx : Nat) : VecEl :=
  if n % 2 = 1 ∧ 176 ≤ idx ∧ idx < 197 then Tab.get {} m.inp.vec idx
  else match own with
  | some l => if 256 ≤ idx ∧ idx < 320 then {} else m.sampleEl f raw l idx
  | none =>
    let pick := fun (k : Nat) => m.sampleEl f raw (if m.useB f raw k then .b else .a) k
    if 256 ≤ idx ∧ idx < 320 then
      let o := m.sampleEl f raw (if m.useB f raw (idx - 256) then .a else .b) (idx - 256)
      { val := (pick (idx - 256)).val - o.val, bad := o.bad }
    else pick idx

/-- The lane whose code an AIN event carries. -/
def Mod.usedLane (m : Mod) (f : FrameIn) (raw : Nat) (own : Option Lane) (i : Nat) : Lane :=
  match own with
  | some l => l
  | none => if m.useB f raw i then .b else .a

/-! ### What every frame start does -/

/-- A lane's domain is on: its converters sample (R168). -/
def Mod.laneOn (m : Mod) : Lane → Bool
  | .a => m.pd 2
  | .b => m.pd 3

/-- The code GET_STATUS shows of an AIN (0x0602): Lane A's, else Lane B's, else 5 while its plausibility condition stands
(log entry 34). -/
def Mod.ainShown (m : Mod) (f : FrameIn) (i : Nat) : Nat :=
  let a := if m.laneOn .a then m.ainCode f .a i else 0
  let b := if m.laneOn .b then m.ainCode f .b i else 0
  if a ≠ 0 then a else if b ≠ 0 then b else if (m.inpCh i).plaus then 5 else 0

/-- A frame start, held or not, is one of the 8 frames that follow a mode change (R172). -/
def Mod.settling (m : Mod) : Mod := foldN 64 (fun m i => m.setInp i { m.inpCh i with settle := (m.inpCh i).settle - 1 }) m

/-- The wires are sampled at the frame start (R168): analog codes, IMU samples in even frames, supplies, drivers. -/
def Mod.wires (m : Mod) (f : FrameIn) (n raw : Nat) : Mod :=
  let m := foldN 64 (fun m i => if m.ainOn i then m else m.setInp i { m.inpCh i with valA := 0, valB := 0 }) m
  let m := f.ain.foldl (fun (m : Mod) s =>
    if 64 ≤ s.idx ∨ !m.ainOn s.idx then m
    else m.setInp s.idx { m.inpCh s.idx with valA := w32 s.a.toNat, valB := w32 s.b.toNat }) m
  let m := f.sup.foldl (fun (m : Mod) s =>
    if 8 ≤ s.1 then m
    else m.setInp (107 + s.1) { m.inpCh (107 + s.1) with valA := w32 s.2.1.toNat, valB := w32 s.2.1.toNat, ma := s.2.2 }) m
  let m := f.drv.foldl (fun (m : Mod) s => if 64 ≤ s.inst then m else (m.setDrv s.inst { m.drvCh s.inst with cur := s.cur }).mixTurn s.inst) m
  if n % 2 = 1 then m
  else foldN 3 (fun m k =>
    let x := m.inpCh (104 + k)
    match f.imu.find? fun s => s.imu == k with
    | none => m.setInp (104 + k) { x with badA := true, badB := true, imuRaw := w32 raw }
    | some s =>
      let m := m.setInp (104 + k) { x with imu := (List.range 6).map fun j => s.vals.getD j 0, imuRaw := w32 raw,
                                           badA := s.badA, badB := s.badB }
      if !x.enabled then m
      else m.publishAt 6 0 1 ((m.time.conv raw).1 / 65536).toNat (le 8 raw ++ le 1 k ++ le 1 (b2n (s.badA || s.badB) + b2n s.sat * 2) ++ zeros 2
        ++ (List.range 6).flatMap fun j => le 4 (s.vals.getD j 0).toNat)) m

/-- GET_STATUS's view of the samples, and the conditions judged at every frame start: codes 3, 7, 10 and 11 (log entry 34). -/
def Mod.inpJudge (m : Mod) (f : FrameIn) (raw : Nat) : Mod :=
  foldN 115 (fun m i =>
    let x := m.inpCh i
    let a := m.sampleEl f raw .a (firstEl i)
    let b := m.sampleEl f raw .b (firstEl i)
    let y := { x with valA := if m.laneOn .a then a.val else x.valA, badA := if m.laneOn .a then a.bad else x.badA,
                      valB := if m.laneOn .b then b.val else x.valB, badB := if m.laneOn .b then b.bad else x.badB,
                      faultCode := if inpKind i = .ain then m.ainShown f i else x.faultCode }
    match inpKind i with
    | .fin =>
      if x.quadErr then m.setInp i y
      else if x.faultCode = 7 then
        let m := m.setInp i { y with faultCode := 0 }
        if i % 2 = 0 then m.inpEv 58 i 7 false else m
      else m.setInp i y
    | .lsn | .imu =>
      let cs := if !x.enabled then []
        else if i < 104 then (if f.convBadA || f.convBadB then [3] else [])
        else
          let lk := (elGroup (firstEl i)).any fun e => f.linkBadA.contains e || f.linkBadB.contains e
          (if x.badA || x.badB then [10] else []) ++ (if lk then [11] else [])
      let own := if i < 104 ∧ x.cond then 6 else 0
      -- an IMU's own flags stay those of its sample, for the odd frames
      let y := if i < 104 then y else { y with badA := x.badA, badB := x.badB }
      let m := m.setInp i { y with stand := cs, faultCode := if own ≠ 0 then own else cs.headD 0 }
      let src := if i < 104 then 59 else 60
      let m := (x.stand.filter fun c => !cs.contains c).foldl (fun m c => m.inpEv src i c false) m
      (cs.filter fun c => !x.stand.contains c).foldl (fun m c => m.inpEv src i c true) m
    | _ => m.setInp i y) m

/-! ### The agreed vector of a computed frame (R169) -/

/-- Plausibility of an AIN after the vector is formed (Table 07-2, code 5) (log entry 34). -/
def Mod.plausCheck (m : Mod) (i : Nat) (d : VecEl) : Mod :=
  let x := m.inpCh i
  let r := m.inpRec i
  let limit := rd r 6 2
  let above := limit != 0 && !d.bad && decide (limit < (toSigned 32 d.val.toNat).natAbs)
  let cnt := if above then min 1000 (x.plausCnt + 1) else 0
  let starts := above && !x.plaus && decide (rd r 8 2 ≤ cnt)
  let ends := x.plaus && !above && (!d.bad || limit == 0)
  let m := m.setInp i { x with plausCnt := cnt, plaus := (x.plaus || starts) && !ends }
  if starts then m.inpEv 57 i 5 true else if ends then m.inpEv 57 i 5 false else m

/-- The vector is formed, EV056 and EV057 follow it, an illegal transition of a QUAD pair has flagged its elements bad, and
the peaks start again (R169, R171, R175, R185). -/
def Mod.agree (m : Mod) (f : FrameIn) (n raw : Nat) (own : Option Lane) : Mod :=
  let old := m.inp.vec
  let vec : Tab VecEl := (List.range 512).filterMap fun k =>
    let e := m.agreeEl f n raw own k
    if e = {} then none else some (k, e)
  let codes := (List.range 64).map fun i => m.ainCode f (m.usedLane f raw own i) i
  let m := { m with inp := { m.inp with vec := vec } }
  let m := foldN 64 (fun m i =>
    let was := (Tab.get {} old i : VecEl).bad
    let bad := (Tab.get {} vec i : VecEl).bad
    let code := codes.getD i 0
    let x := m.inpCh i
    let m := m.setInp i { x with badCode := code }
    let m := if bad && !was then m.inpEv 56 i code true else if was && !bad then m.inpEv 56 i x.badCode false else m
    m.plausCheck i (Tab.get {} vec (256 + i))) m
  let m := foldN 64 (fun m i =>
    let x := m.inpCh i
    if x.faultCode = 0 ∧ x.plaus then m.setInp i { x with faultCode := 5 }
    else if x.faultCode = 5 ∧ !x.plaus then m.setInp i { x with faultCode := 0 } else m) m
  let m := foldN 32 (fun m i => m.setInp (64 + i) { m.inpCh (64 + i) with quadErr := false }) m
  foldN 8 (fun m k => m.setInp (96 + k) { m.inpCh (96 + k) with peak := 0 }) m

/-- The first frame after an entry into RUN: inputs run, and supplies with auto_enable are switched on (R470) (log entry 30). -/
def Mod.inpEntryRun (m : Mod) : Mod :=
  foldN 115 (fun m i =>
    let x := m.inpCh i
    if i < 107 then m.setInp i { x with enabled := true }
    else if (rd (m.inpRec i) 1 1).testBit 0 then m.inpStart i
    else m.setInp i { x with enabled := false, on := false }) m

/-! ### The Frame Exchange (R178–R184) -/

/-- Every inbound slot is captured and judged; EV062 follows a slot that leaves fresh or returns (R180, R185) (log entry 35). -/
def Mod.capture (m : Mod) : Mod :=
  foldN 256 (fun m k =>
    let x : FxIn := Tab.get {} m.inp.fxIn k
    let b := m.binding k
    let y := x.captured b m.inp.starts
    let m := { m with inp := { m.inp with fxIn := Tab.put {} m.inp.fxIn k y } }
    if !(rd b 5 1).testBit 0 || !x.seenFresh then m
    else if x.capState = .fresh ∧ y.capState ≠ .fresh then m.raise 62 (k + y.capState.code * 65536 + 2 ^ 24)
    else if x.capState ≠ .fresh ∧ y.capState = .fresh then m.raise 62 k
    else m) m

/-- Outbound slots as last written become visible together (R16). -/
def Inp.show (i : Inp) : Inp :=
  { i with fxOut := foldN 128 (fun t k => Tab.upd {} t k fun x =>
                      { x with visValue := x.value, visStamp := x.stamp, visWritten := x.written, visBase := x.base, visWrites := x.writes }) i.fxOut,
           visFrame := i.outFrame }

/-- One outbound slot is written in frame `n` (R183). -/
def Mod.fxOutPut (m : Mod) (slot : Nat) (value : BitVec 32) (valid : Bool) (n : Nat) : Mod :=
  if 128 ≤ slot then m
  else { m with inp := { m.inp with fxOut := Tab.upd {} m.inp.fxOut slot fun x =>
    { x with value := value, stamp := w32 (n % 2 ^ 24 + b2n valid * 2 ^ 31), written := true, base := m.inp.starts,
               writes := inc32 x.writes } } }

/-- The slots of channels that went OFF: their stamps are marked invalid, and nothing else of them changes (Table 05-5). -/
def Mod.offSlots (m : Mod) (ks : List Nat) : Mod := ks.foldl (fun (m : Mod) k =>
  { m with inp := { m.inp with fxOut := Tab.upd {} m.inp.fxOut k fun x => { x with stamp := x.stamp &&& 0x7FFFFFFF } } }) m

/-- The active lane writes the outbound slots of a computed frame: loop outputs and lane software (R124, R183) (log entry 35). -/
def Mod.outbound (m : Mod) (f : FrameIn) (n : Nat) : Mod :=
  let m := { m with loop := { m.loop with fxOff := [] } }.offSlots m.loop.fxOff
  let m := foldN 64 (fun m i =>
    let x := m.loopCh i
    let r := m.loopRec i
    if !x.fxDue then m
    else
      let m := m.setLoop i { x with fxDue := false }
      if rd r 76 1 = 5 then m.fxOutPut (rd r 80 2) x.yPrev true n else m) m
  let m := f.soft.foldl (fun (m : Mod) p => m.fxOutPut p.1 p.2.1 p.2.2 n) m
  { m with inp := { m.inp with outFrame := n } }

/-- Value in the low word, stamp in the high word. -/
def slotWord (value stamp : BitVec 32) : BitVec 64 := BitVec.ofNat 64 (value.toNat + stamp.toNat * 2 ^ 32)

/-- The mirror is rewritten in frame `n` (R184); it lies in PD5's SDRAM (log entries 35, 61). -/
def Mod.writeMirror (m : Mod) (n : Nat) : Mod :=
  if !m.pd 5 then m
  else
    let inb := foldN 256 (fun (t : Tab (BitVec 64)) k =>
      let x : FxIn := Tab.get {} m.inp.fxIn k; Tab.put 0 t k (slotWord x.capRaw x.capStamp)) []
    let outb := foldN 128 (fun (t : Tab (BitVec 64)) k =>
      let x : FxOut := Tab.get {} m.inp.fxOut k; Tab.put 0 t k (slotWord x.visValue x.visStamp)) []
    Mod.cleanse { m with inp := { m.inp with mirror := { begin' := n, done := n, inb := inb, outb := outb } } } 0x45FFFF000 3136

end Sys2Proof.Machine
end

