-- ==== Sys2Proof/Machine/LaneBase.lean ====
section
/-! DEFINITION. The duplex lanes (chapter 03): silence, redundancy, rejoin, state transfer and the loss of both lanes, as
the frame, the lane events and the activation share them. -/

namespace Sys2Proof.Machine

open Sys2Proof

/-! ### Lanes and redundancy -/

/-- The other lane. -/
def other : Lane → Lane
  | .a => .b
  | .b => .a

/-- Instance of a lane (R5). -/
def laneIdx : Lane → Nat
  | .a => 0
  | .b => 1

/-- Write a lane. -/
def Mod.setLane (m : Mod) (l : Lane) (u : LaneUnit) : Mod :=
  { m with lanes := match l with | .a => { m.lanes with a := u } | .b => { m.lanes with b := u } }

/-- A lane's fault event, EV001 or EV002 (R87). -/
def Mod.laneEv (m : Mod) (l : Lane) (code : Nat) : Mod := m.raise (1 + laneIdx l) code

/-- The lane's power domain is on (Table 01-1). -/
def Mod.lanePowered (m : Mod) (l : Lane) : Bool := match l with | .a => m.pd 2 | .b => m.pd 3

/-- A lane's unit in a new state. Its SILENT line, once set, stays set until it takes part in frames again (log entry
25); a STOPPED lane stays barred while it is without power (log entry 28). -/
def LaneUnit.enter (u : LaneUnit) (st : LaneState) : LaneUnit :=
  { u with
    st := st, changes := u.changes + 1, ready := u.ready && st.hears
    silent := st == .silent || (u.silent && !st.hears)
    barred := st == .stopped || (u.barred && st == .off) }

/-- A lane changes state; in a state in which it hears nothing its receive FIFOs are held empty (R332). -/
def Mod.toState (m : Mod) (l : Lane) (st : LaneState) : Mod :=
  let u := m.lane l
  if u.st = st then m
  else
    let m := m.setLane l (u.enter st)
    if st.hears then m
    else { m with can := { m.can with ch := foldN 8 (fun t k => Tab.upd {} t k fun x =>
      x.setFifo l { x.fifo l with q := [], avail := 0, locked := false }) m.can.ch } }

/-- The redundancy takes a value; EV000 follows a change (R87). -/
def Mod.setRed (m : Mod) (v : Nat) : Mod :=
  if m.lanes.redundancy = v then m else Mod.raise { m with lanes := { m.lanes with redundancy := v } } 0 v

/-- The redundancy as the lanes' states give it (Table 03-3); a lane that is barred keeps the reason it stopped for, and
the rejoin limit is the only reason not set before. -/
def Lanes.redValue (l : Lanes) : Nat :=
  match l.token with
  | none => 5
  | some t =>
    let o := l.get (other t)
    if o.st = .standby ∨ o.st = .split then 0
    else if o.barred then (if l.redundancy = 2 ∨ l.redundancy = 3 then l.redundancy else 4)
    else 1

/-- The redundancy follows the lanes (log entry 24). -/
def Mod.redund (m : Mod) : Mod := m.setRed m.lanes.redValue

/-- The lane that is ACTIVE. -/
def Lanes.active (l : Lanes) : Option Lane :=
  if l.a.st = .active then some .a else if l.b.st = .active then some .b else none

/-- A lane computes: STANDBY, ACTIVE or SPLIT (Table 03-2). -/
def Mod.computes (m : Mod) (l : Lane) : Bool := (m.lane l).st.hears

/-- The LANE record in force (0x0303). -/
def Mod.laneRec (m : Mod) : Bytes := m.cfgOr 0x0303 0 [0, 3, 0, 0]

/-! ### Commands that end with a lane event -/

/-- Every SET_REDUNDANCY that waits for the rejoin ends (0x0311). -/
def Mod.endRejoin (m : Mod) (st frame : Nat) : Mod :=
  (m.port.flight.filter fun f => f.opcode == 0x0311).foldl (fun (m : Mod) f => m.finish 0x0311 f.cmd st [] frame) m

/-- The armed FORCE_TAKEOVER ends (0x0310). -/
def Mod.endForced (m : Mod) (st : Nat) (reply : Bytes) (frame : Nat) : Mod :=
  (m.port.flight.filter fun f => f.opcode == 0x0310).foldl (fun (m : Mod) f => m.finish 0x0310 f.cmd st reply frame) m

/-- Stamped commands that come back with LANE_CHANGED (R85). -/
def Mod.returnChanged (m : Mod) (qs : List Stamped) : Mod :=
  qs.foldl (fun (m : Mod) q =>
    let m := m.countChanged
    if q.discard then m else m.complete q.opcode q.cmd St.laneChanged [] 0) m

/-- Reply of ACTIVATE (0x1313). -/
def Activation.bytes (a : Activation) (pending : BitVec 8) : Bytes :=
  le 1 0 ++ le 1 pending.toNat ++ zeros 2 ++ le 4 a.diffs ++ le 8 a.switchFrame

/-- An update event: the slot, a code of Table 19-10, value 1 (R424). -/
def Mod.updEv (m : Mod) (src slot code : Nat) : Mod := m.ev src slot code true

/-- The activation ends without a new version: the slot is STAGED again and the command completes (R417). -/
def Mod.actAbort (m : Mod) (st : Nat) : Mod :=
  match m.upd.act with
  | none => m
  | some a =>
    let s : CodeSlot := Tab.get {} m.upd.slot a.slot
    let m := { m with upd := { m.upd with act := none, slot := Tab.put {} m.upd.slot a.slot { s with st := .staged } } }
    let m := { m with lanes := { m.lanes with a := { m.lanes.a with newVersion := false },
                                              b := { m.lanes.b with newVersion := false } } }
    (m.updEv 123 a.slot 4).finish 0x1313 a.cmd st (a.bytes m.upd.pending)

/-! ### Silence and rejoin (R58, R79) -/

/-- Rejoins of a lane within the last hour (R79) (log entry 28). -/
def Mod.rejoinsOf (m : Mod) (l : Lane) : List Nat := (m.lane l).rejoins.filter fun t => m.now < t + secs 3600

/-- A SILENT lane whose rejoins are used up is STOPPED; with rejoin MANUAL it stays SILENT (R79). -/
def Mod.limitRejoin (m : Mod) (l : Lane) : Mod :=
  if rd m.laneRec 0 1 = 0 ∧ rd m.laneRec 1 1 ≤ (m.rejoinsOf l).length then
    (m.toState l .stopped).endRejoin St.fault 0
  else m

/-- Effects on a transfer of a lane that drops out: one that receives or gives ends it. -/
def Mod.dropPunty (m : Mod) (l : Lane) : Mod :=
  let gives := m.lanes.active == some l
  { m with lanes := { m.lanes with
      punty := m.lanes.punty.filter fun p => !(p.recv == l) && !gives
      retry := m.lanes.retry.filter fun p => !(p.1 == l) } }

/-- A lane's fault event, and its self-faults counted (R58, 0x0312). -/
def Mod.faultEv (m : Mod) (l : Lane) (check : Nat) : Mod :=
  let m := m.laneEv l check
  if inRange check 1 6 then
    { m with stats := match l with
        | .a => { m.stats with faultsA := inc32 m.stats.faultsA }
        | .b => { m.stats with faultsB := inc32 m.stats.faultsB } }
  else m

/-- A lane goes silent (R58): its half releases the token, and its fault event carries the check code. An activation
whose new lane goes silent before it has the token ends (R417) (log entry 25). -/
def Mod.goSilent (m : Mod) (l : Lane) (check : Nat) : Mod :=
  let m := m.dropPunty l
  let m := { m.toState l .silent with lanes := { (m.toState l .silent).lanes with
      token := if m.lanes.token = some l then none else m.lanes.token } }
  let m := m.faultEv l check
  match m.upd.act with
  | some a => if a.lane = l ∧ a.step ≤ 4 then m.actAbort St.aborted else m
  | none => m

/-- A self-fault outside a restart: silent, then the rejoin rules; the redundancy follows unless the token is free (log entry 25). -/
def Mod.selfFault (m : Mod) (l : Lane) (check : Nat) : Mod :=
  let m := (m.goSilent l check).limitRejoin l
  if m.lanes.token.isSome then m.redund else m

/-- A transfer into a lane in RESYNC starts at the next frame and copies from the frame after that: a yield in 1,000,001,
copying from 1,000,003 (R75, Table 03-9) (log entry 28). -/
def Mod.startPunty (m : Mod) (l : Lane) : Mod :=
  { m with lanes := { m.lanes with
      punty := some { recv := l, start := m.lanes.frame + 1, left := m.lanes.image }, retry := none } }

/-- A frame of a transfer: 96 KiB are copied, and blocks of 256 bytes that the active lane has written meanwhile are to
be copied again; how many is a free value (R75) (log entries 4, 28). -/
def Mod.puntyStep (m : Mod) : Mod :=
  match m.lanes.punty with
  | none => m
  | some p =>
    if m.lanes.frame ≤ p.start then m
    else
      let d := m.draw
      let left := min m.lanes.image (p.left - 98304 + 256 * d.1.toNat)
      { d.2 with lanes := { d.2.lanes with punty := some { p with left := left } } }

/-- A lane yields or diverged: RESYNC without a reload (R66, R74, R79). -/
def Mod.toResync (m : Mod) (l : Lane) : Mod := (m.toState l .resync).startPunty l

/-! ### Settings as stored (R70, R400) -/

/-- The settings set that holds the records of an operation (Table 19-2). -/
def setOf (op : Nat) : Nat := if op / 256 = 4 ∨ op / 256 = 0x0B then 1 else if op = 0x0F11 then 3 else 0

/-- Entries of the newest generation of a set (R400). -/
def Mod.setEntries (m : Mod) (set : Nat) : List NvEntry :=
  match (Tab.get {} m.nvs.set set : NvSet).gens with
  | [] => []
  | (_, es) :: _ => es

/-- Opcodes of the entries this firmware knows (R400) (log entry 12). -/
def knownEntry (op : Nat) : Bool :=
  [0x0212, 0x0303, 0x0403, 0x0412, 0x0413, 0x0414, 0x0503, 0x0603, 0x0610, 0x0703, 0x0803, 0x0815, 0x0816, 0x0903, 0x0911].contains op
    || [0x0A03, 0x0B03, 0x0B10, 0x0C03, 0x0C10, 0x0D03, 0x0D10, 0x0D12, 0x0E03, 0x0F03, 0x0F11, 0x1003, 0x1103, 0x1212, 0x1403].contains op
    || op == 0

/-- One stored entry takes force, unless its opcode is not known: a record, Schedule Table entries or a coefficient set (R399). -/
def Mod.replay (m : Mod) (e : NvEntry) : Mod :=
  if e.op = 0x0413 then
    { m with sched := foldN (rd e.params 2 2) (fun t k =>
        Tab.put 0 t (rd e.params 0 2 + k) (BitVec.ofNat 16 (rd e.params (4 + 2 * k) 2))) m.sched }
  else if e.op = 0x0414 then
    { m with coeff := Tab.put [] m.coeff (rd e.params 0 2) ((List.range 22).map fun k => rdF e.params (4 + 4 * k)) }
  else if knownEntry e.op then m.setCfg e.op e.inst e.params
  else m

/-- The records of the operations `of` become those of the stored generations of SET_MODULE and SET_CAL. -/
def Mod.reload (m : Mod) (of : Nat → Bool) : Mod :=
  let m := { m with
    cfg := m.cfg.filter fun p => !of (p.1 / 65536)
    sched := if of 0x0413 then [] else m.sched
    coeff := if of 0x0414 then [] else m.coeff }
  (((m.setEntries 0) ++ (m.setEntries 1)).filter fun e => of e.op).foldl Mod.replay m

/-- Operations whose records the lanes hold: LANE, LOOP, DRV, the inputs, lane PDUs and signals (log entry 28). -/
def laneRecords (op : Nat) : Bool :=
  op / 256 == 3 || op / 256 == 4 || op / 256 == 5 || op == 0x0603 || op == 0x0815 || op == 0x0816

/-! ### No lane (R70, R71) -/

/-- The lanes that have power are loaded; the loads of a lane without power have failed at once (R70, R71) (log entry 28). -/
def Mod.beginLoads (m : Mod) : Mod :=
  let m := [Lane.a, Lane.b].foldl (fun (m : Mod) l => m.toState l (if m.lanePowered l then .loading else .off)) m
  let none' := fun (l : Lane) => if m.lanePowered l then none else some false
  { m with lanes := { m.lanes with restart := true, loaded := (none' .a, none' .b) } }

/-- A lane is excluded: STOPPED, or barred where it has no power. -/
def Mod.stopLane (m : Mod) (l : Lane) : Mod :=
  if m.lanePowered l then m.toState l .stopped else m.setLane l { m.lane l with barred := true }

/-- No half holds the token: pull-offs act, LIFE stops, the lanes are reset and loaded from the confirmed slot, and
the stamped commands come back (R70, R85, R167) (log entries 27, 28). R78 keeps an exclusion until DUPLEX or a module
restart, R71 puts Lane B in STANDBY after NO_LANE; that the exclusions end here is the model's choice (log entry 28). -/
def Mod.noLane (m : Mod) : Mod :=
  let m := (m.actAbort St.aborted).beginLoads
  let m := foldN 64 (fun (m : Mod) i => m.loopMode i .off) m
  let m := { m with
    lanes := { m.lanes with
      token := none, driving := none, punty := none, retry := none, takeover := none, diff := none, life := false,
      faultRun := 0, tickRun := 0, heldRun := 0, holds := []
      a := { m.lanes.a with abandoned := 0, barred := false, ordered := false }
      b := { m.lanes.b with abandoned := 0, barred := false, ordered := false } }
    loop := { fxOff := m.loop.fxOff } }
  let m := (m.pullOff).reload laneRecords
  let m := { m with can := { m.can with latched := [] } }
  let m := m.setRed 5
  let held := m.port.laneQ
  let m := { m with port := { m.port with laneQ := [] } }
  let m := (m.returnChanged held).settle
  let forced := m.port.flight.filter fun f => f.opcode == 0x0310
  forced.foldl (fun (m : Mod) f => m.countChanged.finish 0x0310 f.cmd St.laneChanged) m

/-- The token moves to a lane, which is active from now on (R69). The token given for the first time at a start or a
restart counts as a move too (log entry 24). -/
def Mod.tokenTo (m : Mod) (l : Lane) : Mod :=
  let m := m.toState l .active
  let m := { m with
    lanes := { m.lanes with token := some l, lastTakeover := m.lanes.frame }
    stats := { m.stats with takeovers := inc32 m.stats.takeovers } }
  m.raise 3 (laneIdx l)

/-- The restart after NO_LANE: both loads have ended (R71). -/
def Mod.restartLanes (m : Mod) (okA okB : Bool) : Mod :=
  if !okA && !okB then m.beginLoads
  else
    let lead : Lane := if okA then .a else .b
    let m := { m with lanes := { m.lanes with restart := false, entry := true, loaded := (none, none) } }
    let m := m.tokenTo lead
    let m := m.setLane lead { m.lane lead with ready := true }
    if okA && okB then
      let m := m.toState .b .standby
      let m := m.setLane .b { m.lane .b with ready := true }
      (m.redund).endRejoin St.ok m.lanes.frame
    else
      let l := other lead
      if m.lanePowered l then ((m.toState l .silent).limitRejoin l).redund else m.redund

end Sys2Proof.Machine
end

