-- ==== Sys2Proof/Machine/SysOps.lean ====
section
/-! DEFINITION. The SYS class (chapter 04): fences, held frames, the snapshot's reading, frames and time, sessions. The
snapshot's image is built where every class is known, in Registry. -/

namespace Sys2Proof.Machine

open Sys2Proof

/-! ### Common operations (R469) -/

/-- 0x0101 (Table 04-9) -/
def opSysGetInfo : Op := opInfo 1 1 fun m _ =>
  [0x42, 0] ++ [0x49, 0x58, 0x5A, 0x38, 0x2D, 0x41, 0x34, 0x38] ++ zeros 6 ++ le 8 m.nvs.serial.toNat ++ le 4 m.nvs.lineage.toNat

/-- 0x0102 -/
def opSysGetStatus : Op := { len := exactly 0, body := fun _ m => Res.ok m }
/-- 0x0103 -/
def opSysSetConfig : Op := { len := exactly 0, body := fun _ m => Res.ok m }
/-- 0x0104 -/
def opSysGetConfig : Op := { len := exactly 0, body := fun _ m => Res.ok m }
/-- 0x0105 -/
def opSysEnable : Op := opNever 1
/-- 0x0106 -/
def opSysDisable : Op := opNever 1
/-- 0x0107 -/
def opSysResetInstance : Op := opNever 1

/-! ### Fences (R100, R104) -/

/-- 0x0110: done when every earlier command of its ring is done. -/
def opFence : Op where
  len := exactly 0
  body := fun c m => { st := none, waits := [(c.ring, (m.ring c.ring).sqHead)], m := m }

/-- 0x0111: done when every command submitted on the named rings before it was dispatched is done (log entry 36). -/
def opBarrier : Op where
  len := exactly 4
  body := fun c m =>
    let mask := Nat.lor (rd c.params 0 2) (2 ^ c.ring)
    if !isZero c.params 2 2 then Res.err m St.badParam
    else
      let waits := ((List.range 16).filter fun r => mask.testBit r).map fun r =>
        (r, if r = c.ring then (m.ring r).sqHead else (m.ring r).sqTail)
      { st := none, waits := waits, m := m }

/-! ### Held frames (0x0113) -/

/-- 0x0113 as it completes in the first held frame. -/
def opHoldFrames : Op where
  len := exactly 4
  stamped := fun _ => true
  body := fun c m => Res.ok m (le 8 m.lanes.frame ++ le 8 (holdSpan c m.lanes.frame).2)

/-- HOLD_FRAMES: stamped as R102 says; the frame it is stamped for is the first held one (R72, R104). -/
def Mod.serveHold (m : Mod) (c : Cmd) : Mod :=
  if !m.takes c.ring then m else
  match m.portCheck 0x0113 opHoldFrames c with
  | some st => m.complete 0x0113 c st [] 0
  | none => m.stamp 0x0113 c

/-! ### Snapshots (R105) -/

/-- A read or release of the snapshot waits on the ring: those after it wait behind it (R100). -/
def Port.snapHeld (p : Port) (r : Nat) : Bool :=
  p.flight.any fun f => f.cmd.ring == r && (f.opcode == 0x0114 || f.opcode == 0x0115)

/-- The answer of a SNAPSHOT_READ whose turn has come: its status, reply, and whether it counts as one of the frame's 64. -/
def Mod.snapAnswer (m : Mod) (c : Cmd) : Nat × Bytes × Bool :=
  let off := rd c.params 0 4
  let n := rd c.params 4 2
  match m.port.snap with
  | none => (St.notReady, [], false)
  | some s =>
    if s.image.length < off + n then (St.badParam, [], false)
    else (St.ok, le 4 off ++ le 2 n ++ zeros 2 ++ slice s.image off n, true)

/-- 0x0114: at most 64 reads a frame over all rings; further reads wait. -/
def opSnapshotRead : Op where
  len := exactly 8
  body := fun c m =>
    let n := rd c.params 4 2
    if n = 0 ∨ 232 < n ∨ !isZero c.params 6 2 then Res.err m St.badParam
    else if m.port.snapHeld c.ring then Res.later m
    else
      let a := m.snapAnswer c
      if !a.2.2 then Res.err m a.1
      else if 64 ≤ m.port.snapReads then Res.later m
      else Res.ok { m with port := { m.port with snapReads := m.port.snapReads + 1 } } a.2.1

/-- 0x0115 -/
def opSnapshotRelease : Op where
  len := exactly 0
  body := fun c m =>
    if m.port.snapHeld c.ring then Res.later m
    else match m.port.snap with
      | none => Res.err m St.notReady
      | some _ => Res.ok { m with port := { m.port with snap := none } }

/-- SNAPSHOT_EXPIRY: 60 s after its completion the snapshot is discarded (R105). -/
def execSnapshotExpiry (s : State) : Host.Outcome State Fault Refusal := s.act fun m =>
  match m.port.snap with
  | none => m
  | some x => { m.until (x.doneRaw + secs 60) with port := { m.port with snap := none } }

/-- One waiting read or release is served, unless the frame's reads are used up or an earlier one of its ring still
waits (0x0114, R100). -/
def Mod.serveWaiting (a : Mod × List Nat) (f : Flight) : Mod × List Nat :=
  let m := a.1
  if a.2.contains f.cmd.ring then a
  else if f.opcode = 0x0115 then
    match m.port.snap with
    | none => (m.finish 0x0115 f.cmd St.notReady, a.2)
    | some _ => (Mod.finish { m with port := { m.port with snap := none } } 0x0115 f.cmd St.ok, a.2)
  else
    let r := m.snapAnswer f.cmd
    if r.2.2 && decide (64 ≤ m.port.snapReads) then (m, f.cmd.ring :: a.2)
    else
      let n := m.port.snapReads + b2n r.2.2
      (Mod.finish { m with port := { m.port with snapReads := n } } 0x0114 f.cmd r.1 r.2.1, a.2)

/-- Waiting reads and releases of the snapshot are served as a new frame begins (0x0114). -/
def Mod.servedReads (m : Mod) : Mod :=
  let m := { m with port := { m.port with snapReads := 0 } }
  ((m.port.flight.filter fun f => f.opcode == 0x0114 || f.opcode == 0x0115).foldl Mod.serveWaiting (m, [])).1

/-! ### Frames and time (0x0116) -/

/-- 0x0116 (log entry 36) -/
def opFrameAtTime : Op where
  len := exactly 12
  body := fun c m =>
    match parse96 c.params 0 with
    | none => Res.err m St.badParam
    | some v =>
      let n := m.frameAt v
      let raw := m.lanes.f0 + n * frameCounts
      if !m.lanes.started then Res.err m St.notReady
      else if n < m.earliest then Res.err m St.tooLate
      else Res.ok m (le 8 n ++ le 8 raw ++ le 4 (((m.time.conv raw).1 - v) / 65536).toNat)

/-! ### Sessions (R109) -/

/-- `n` bytes of a draw, for nonces and session numbers (log entry 4). -/
def drawBytes : Nat → Mod → Bytes × Mod
  | 0, m => ([], m)
  | n + 1, m =>
    let d := m.draw
    let r := drawBytes n d.2
    (BitVec.ofNat 8 d.1.toNat :: r.1, r.2)

/-- 0x0117: a new session by ECDH key agreement; one that was open on the ring is closed. -/
def opSessionOpen : Op where
  len := exactly 116
  body := fun c m =>
    let pub := slice c.params 16 97
    if !isZero c.params 113 3 ∨ !Config.isP384Point pub then Res.err m St.badParam
    else
      let d := m.draw
      let k := m.fresh
      let num := BitVec.ofNat 16 (d.1.toNat % 65535 + 1)
      let q := drawBytes 16 d.2
      let reply := le 2 num.toNat ++ zeros 2 ++ q.1 ++ ((List.range 97).map fun j => Config.ephemeralKey k j) ++ zeros 3
      let head := slice c.params 0 116 ++ reply
      let full := reply ++ (List.range 96).map fun j => Config.moduleSign k head j
      let key := Config.sessionKey k pub (slice c.params 0 16 ++ q.1)
      let x := q.2.ring c.ring
      Res.ok (q.2.setRing c.ring { x with session :=
        { opened := true, num := num, key := le 32 key.toNat, transcript := slice c.params 0 116 ++ full,
          lastRaw := m.now } }) full

/-- 0x0118: a service credential proves the session. -/
def opSessionProve : Op where
  len := exactly 104
  body := fun c m =>
    let x := m.ring c.ring
    let cred := BitVec.ofNat 64 (rd c.params 0 8)
    if !x.session.opened then Res.err m St.notReady
    else if !m.nvs.creds.contains cred || !Config.credVerify cred x.session.transcript (slice c.params 8 96) then
      Res.err m St.denied
    else Res.ok (m.setRing c.ring { x with session := { x.session with proven := true } }) ([1, 0, 0, 0] ++ le 4 60)

/-- SESSION_IDLE_TIMEOUT: idle_s seconds without an accepted datagram close the session (0x0118). -/
def execSessionIdleTimeout (ring : Nat) (s : State) : Host.Outcome State Fault Refusal := s.act fun m =>
  let x := m.ring ring
  if !x.session.opened then m
  else (m.until (x.session.lastRaw + secs 60)).setRing ring { x with session := {} }

/-- SYS_GET_INFO (R469). -/
def execSysGetInfo (c : Cmd) (s : State) : Host.Outcome State Fault Refusal := s.act fun m => m.serve 0x0101 opSysGetInfo c
/-- SYS_GET_STATUS (R469). -/
def execSysGetStatus (c : Cmd) (s : State) : Host.Outcome State Fault Refusal := s.act fun m => m.serve 0x0102 opSysGetStatus c
/-- SYS_SET_CONFIG (R469). -/
def execSysSetConfig (c : Cmd) (s : State) : Host.Outcome State Fault Refusal := s.act fun m => m.serve 0x0103 opSysSetConfig c
/-- SYS_GET_CONFIG (R469). -/
def execSysGetConfig (c : Cmd) (s : State) : Host.Outcome State Fault Refusal := s.act fun m => m.serve 0x0104 opSysGetConfig c
/-- SYS_ENABLE (R469). -/
def execSysEnable (c : Cmd) (s : State) : Host.Outcome State Fault Refusal := s.act fun m => m.serve 0x0105 opSysEnable c
/-- SYS_DISABLE (R469). -/
def execSysDisable (c : Cmd) (s : State) : Host.Outcome State Fault Refusal := s.act fun m => m.serve 0x0106 opSysDisable c
/-- SYS_RESET_INSTANCE (R469). -/
def execSysResetInstance (c : Cmd) (s : State) : Host.Outcome State Fault Refusal := s.act fun m => m.serve 0x0107 opSysResetInstance c
/-- FENCE (R100). -/
def execFence (c : Cmd) (s : State) : Host.Outcome State Fault Refusal := s.act fun m => m.serve 0x0110 opFence c
/-- BARRIER (R104). -/
def execBarrier (c : Cmd) (s : State) : Host.Outcome State Fault Refusal := s.act fun m => m.serve 0x0111 opBarrier c
/-- HOLD_FRAMES (R72). -/
def execHoldFrames (c : Cmd) (s : State) : Host.Outcome State Fault Refusal := s.act fun m => m.serveHold c
/-- SNAPSHOT_READ (R105). -/
def execSnapshotRead (c : Cmd) (s : State) : Host.Outcome State Fault Refusal := s.act fun m => m.serve 0x0114 opSnapshotRead c
/-- SNAPSHOT_RELEASE (R105). -/
def execSnapshotRelease (c : Cmd) (s : State) : Host.Outcome State Fault Refusal := s.act fun m => m.serve 0x0115 opSnapshotRelease c
/-- FRAME_AT_TIME (R104). -/
def execFrameAtTime (c : Cmd) (s : State) : Host.Outcome State Fault Refusal := s.act fun m => m.serve 0x0116 opFrameAtTime c
/-- SESSION_OPEN (R109). -/
def execSessionOpen (c : Cmd) (s : State) : Host.Outcome State Fault Refusal := s.act fun m => m.serve 0x0117 opSessionOpen c
/-- SESSION_PROVE (R109). -/
def execSessionProve (c : Cmd) (s : State) : Host.Outcome State Fault Refusal := s.act fun m => m.serve 0x0118 opSessionProve c

/-- The SYS class but SNAPSHOT. -/
def sysOps : List (Nat × Op) :=
  [(0x0101, opSysGetInfo), (0x0102, opSysGetStatus), (0x0103, opSysSetConfig), (0x0104, opSysGetConfig),
   (0x0105, opSysEnable), (0x0106, opSysDisable), (0x0107, opSysResetInstance), (0x0110, opFence), (0x0111, opBarrier),
   (0x0113, opHoldFrames), (0x0114, opSnapshotRead), (0x0115, opSnapshotRelease), (0x0116, opFrameAtTime),
   (0x0117, opSessionOpen), (0x0118, opSessionProve)]

end Sys2Proof.Machine
end

