-- ==== Sys2Proof/Machine/EvtOps.lean ====
section
/-! DEFINITION. The event fabric's class and registers (chapter 17): EVT operations and the interrupt lines. -/

namespace Sys2Proof.Machine

open Sys2Proof

/-! ### Routes (R374–R376) -/

/-- A source's record and enable change: raises stamped before the start of the next frame keep the old ones (R376). -/
def Mod.setRoute (m : Mod) (src : Nat) (enabled : Bool) (write : Mod → Mod) : Mod :=
  let p := m.routeAt src m.now
  let m := write m
  { m with evt := { m.evt with src := Tab.upd {} m.evt.src src fun x =>
      { x with enabled := enabled, old := some p, newRaw := m.lanes.frameRaw + frameCounts } } }

/-- 0x1001 -/
def opEvtGetInfo : Op := opInfo 16 128

/-- 0x1002 -/
def opEvtGetStatus : Op where
  len := exactly 0
  insts := 128
  body := fun c m =>
    let i := c.inst.toNat
    let x := m.evSrc i
    let p := m.routeAt i m.now
    Res.ok m (slice p.1 0 2 ++ le 1 (rd p.1 2 1) ++ le 1 (b2n x.enabled + b2n (fixedRoute i) * 2) ++ le 4 x.raises
      ++ le 4 x.lost ++ le 4 x.param.toNat ++ le 8 x.raw)

/-- 0x1003 (R375, R376) -/
def opEvtSetConfig : Op where
  len := exactly 4
  insts := 128
  stamped := fun _ => true
  body := fun c m =>
    let i := c.inst.toNat
    let r := slice c.params 0 4
    let route := rd r 0 2
    if 4096 ≤ route ∨ 7 < rd r 2 1 ∨ !isZero r 3 1 ∨ (fixedRoute i ∧ Nat.land route 0xC00 ≠ 0xC00) then
      Res.err m St.badParam
    else Res.ok (m.setRoute i (m.evSrc i).enabled fun m => (m.setCfg 0x1003 i r).markSet 0)

/-- 0x1004 -/
def opEvtGetConfig : Op where
  len := exactly 0
  insts := 128
  body := fun c m => Res.ok m (m.routeAt c.inst.toNat m.now).1

/-- 0x1005 -/
def opEvtEnable : Op where
  len := exactly 0
  insts := 128
  stamped := fun _ => true
  body := fun c m => Res.ok (m.setRoute c.inst.toNat true id)

/-- 0x1006 -/
def opEvtDisable : Op where
  len := exactly 0
  insts := 128
  stamped := fun _ => true
  body := fun c m => Res.ok (m.setRoute c.inst.toNat false id)

/-- 0x1007 -/
def opEvtResetInstance : Op where
  len := exactly 0
  insts := 128
  stamped := fun _ => true
  body := fun c m =>
    let i := c.inst.toNat
    let m := m.setRoute i true fun m => m.restore 0 0x1003 i
    Res.ok { m with evt := { m.evt with src := Tab.upd {} m.evt.src i fun x => { x with raises := 0, lost := 0 } } }

/-- 0x1010: one raise with the test flag, to the routed INT lines and the recorder (log entry 38). -/
def opRaiseTest : Op where
  len := exactly 4
  insts := 128
  body := fun c m => Res.ok (m.raiseT c.inst.toNat (w32 (rd c.params 0 4)) true)

/-- 0x1011 -/
def opGetRoutes : Op where
  len := exactly 4
  body := fun c m =>
    let first := rd c.params 0 1
    if (first ≠ 0 ∧ first ≠ 64) ∨ !isZero c.params 1 3 then Res.err m St.badParam
    else
      let rs := (List.range 64).map fun k => (m.routeAt (first + k) m.now).1
      Res.ok m (rs.flatMap (fun r => slice r 0 2) ++ rs.flatMap fun r => slice r 2 1)

/-! ### Interrupt line registers (R379, R380) -/

/-- The answer of a bus access. -/
def Mod.answered (m : Mod) (v : Nat) : Mod := { m with bus := { value := BitVec.ofNat 64 v, error := false } }

/-- An access to a reserved address ends in a bus error (R29). -/
def Mod.busError (m : Mod) : Mod := { m with bus := { value := 0, error := true } }

/-- One interrupt line. -/
def Mod.intLine (m : Mod) (n : Nat) : IntLine := Tab.get {} m.evt.line n

/-- Write an interrupt line. -/
def Mod.setLine (m : Mod) (n : Nat) (l : IntLine) : Mod :=
  { m with evt := { m.evt with line := Tab.put {} m.evt.line n l } }

/-- Word `w` of a 128-bit array replaced. -/
def putWord (a : BitVec 128) (w : Nat) (v : BitVec 32) : BitVec 128 :=
  let k := 32 * w
  BitVec.ofNat 128 (a.toNat - bits a.toNat (k + 31) k * 2 ^ k + v.toNat * 2 ^ k)

/-- EVT_PEND[w] written: a 1 clears the pending bit of raises stamped before the write. -/
def execEvtPend (line word : Nat) (v : BitVec 32) (s : State) : Host.Outcome State Fault Refusal := s.act fun m =>
  if 8 ≤ line ∨ 4 ≤ word then m.busError
  else
    let l := m.intLine line
    let pend := foldN 32 (fun p k =>
      let src := 32 * word + k
      if v.getLsbD k && decide (Tab.get 0 l.pendRaw src ≤ m.now) then p &&& ~~~(BitVec.ofNat 128 (2 ^ src)) else p) l.pend
    (m.setLine line { l with pend := pend }).answered 0

/-- EVT_MASK[w] written. -/
def execEvtMask (line word : Nat) (v : BitVec 32) (s : State) : Host.Outcome State Fault Refusal := s.act fun m =>
  if 8 ≤ line ∨ 4 ≤ word then m.busError
  else
    let l := m.intLine line
    (m.setLine line { l with mask := putWord l.mask word v }).answered 0

/-- EVT_Q_HEAD[k] read: word 0 locks the head, word 3 of a locked head releases it; other words of an unlocked head,
and every word of an empty queue, read 0. -/
def Mod.readHead (m : Mod) (line word : Nat) : Mod :=
  let l := m.intLine line
  match l.q with
  | [] => m.answered 0
  | r :: t =>
    if word = 0 then (m.setLine line { l with locked := true }).answered (r.word 0)
    else if !l.locked then m.answered 0
    else if word = 3 then (m.setLine line { l with q := t, locked := false }).answered (r.word 3)
    else m.answered (r.word word)

/-- EVT_Q_HEAD[k] read (R380). -/
def execEvtQHead (line word : Nat) (s : State) : Host.Outcome State Fault Refusal := s.act fun m =>
  if 8 ≤ line ∨ 4 ≤ word then m.busError else m.readHead line word

/-- EVT_Q_DROPS read: the count, cleared by the read. -/
def Mod.readDrops (m : Mod) (line : Nat) : Mod :=
  let l := m.intLine line
  (m.setLine line { l with drops := 0 }).answered l.drops

/-- EVT_Q_DROPS read (R379). -/
def execEvtQDrops (line : Nat) (s : State) : Host.Outcome State Fault Refusal := s.act fun m =>
  if 8 ≤ line then m.busError else m.readDrops line

/-- EVT_GET_INFO (R98). -/
def execEvtGetInfo (c : Cmd) (s : State) : Host.Outcome State Fault Refusal := s.act fun m => m.serve 0x1001 opEvtGetInfo c
/-- EVT_GET_STATUS (R373). -/
def execEvtGetStatus (c : Cmd) (s : State) : Host.Outcome State Fault Refusal := s.act fun m => m.serve 0x1002 opEvtGetStatus c
/-- EVT_SET_CONFIG (R376). -/
def execEvtSetConfig (c : Cmd) (s : State) : Host.Outcome State Fault Refusal := s.act fun m => m.serve 0x1003 opEvtSetConfig c
/-- EVT_GET_CONFIG (R374). -/
def execEvtGetConfig (c : Cmd) (s : State) : Host.Outcome State Fault Refusal := s.act fun m => m.serve 0x1004 opEvtGetConfig c
/-- EVT_ENABLE (R374). -/
def execEvtEnable (c : Cmd) (s : State) : Host.Outcome State Fault Refusal := s.act fun m => m.serve 0x1005 opEvtEnable c
/-- EVT_DISABLE (R375). -/
def execEvtDisable (c : Cmd) (s : State) : Host.Outcome State Fault Refusal := s.act fun m => m.serve 0x1006 opEvtDisable c
/-- EVT_RESET_INSTANCE (R374). -/
def execEvtResetInstance (c : Cmd) (s : State) : Host.Outcome State Fault Refusal := s.act fun m => m.serve 0x1007 opEvtResetInstance c
/-- RAISE_TEST (R371). -/
def execRaiseTest (c : Cmd) (s : State) : Host.Outcome State Fault Refusal := s.act fun m => m.serve 0x1010 opRaiseTest c
/-- GET_ROUTES (R374). -/
def execGetRoutes (c : Cmd) (s : State) : Host.Outcome State Fault Refusal := s.act fun m => m.serve 0x1011 opGetRoutes c

/-- The EVT class. -/
def evtOps : List (Nat × Op) :=
  [(0x1001, opEvtGetInfo), (0x1002, opEvtGetStatus), (0x1003, opEvtSetConfig), (0x1004, opEvtGetConfig),
   (0x1005, opEvtEnable), (0x1006, opEvtDisable), (0x1007, opEvtResetInstance), (0x1010, opRaiseTest),
   (0x1011, opGetRoutes)]

end Sys2Proof.Machine
end

