-- ==== Sys2Proof/Machine/HoursBase.lean ====
section
/-! DEFINITION. The hour meters of SET_HOURS (R404): seconds of the control plane in RUN. -/

namespace Sys2Proof.Machine

open Sys2Proof

/-- Raw counts of RUN not yet added to the meters. -/
def Mod.runCounts (m : Mod) : Nat := if m.lanes.run then m.now - m.nvs.hoursRaw else 0

/-- The running module_s, in seconds (R383, R404). -/
def Mod.moduleSec (m : Mod) : Nat := (m.nvs.moduleS + m.runCounts) / secs 1

/-- The running machine_s, in seconds. -/
def Mod.machineSec (m : Mod) : Nat := (m.nvs.machineS + m.runCounts) / secs 1

/-- Bring the meters up to the present raw count. -/
def Mod.countHours (m : Mod) : Mod :=
  let k := m.runCounts
  { m with nvs := { m.nvs with moduleS := m.nvs.moduleS + k, machineS := m.nvs.machineS + k, hoursRaw := m.now } }

end Sys2Proof.Machine
end

