-- ==== Sys2Proof/Machine/LogOps.lean ====
section
/-! DEFINITION. The event recorder (chapter 18): acceptance, the log bank, the RAM ring, rate limits and the LOG class. -/

namespace Sys2Proof.Machine

open Sys2Proof

/-! ### Records (R383) -/

/-- The recorder's record in force (0x1103). -/
def Mod.logRec (m : Mod) : Bytes := m.cfgOr 0x1103 0 ([8, 0] ++ le 2 1)

/-- The 64 bytes of a record (Table 18-1). -/
def LogRec.bytes (r : LogRec) : Bytes :=
  let b := le 6 r.seq ++ le 2 r.code ++ le 1 (r.sev + b2n r.test * 8 + b2n r.lost * 16 + b2n r.vol * 32) ++ le 1 r.src
    ++ le 2 r.supp ++ le 4 r.opTime ++ le 4 r.cycles ++ le 8 r.raw ++ slice r.params 0 32
  b ++ le 4 (crc32 b)

/-- A record whose CRC fails, as it is returned. -/
def badRecord : Bytes := List.replicate 6 0xFF ++ zeros 58

/-- Records the log can hold: the bank's places, or the RAM ring's while VOLATILE (R382, R391). -/
def Log.places (l : Log) : Nat := if l.vol then 256 else 16384

/-- Records held where new ones go: the RAM ring while VOLATILE, else the bank and the write queue (log entry 39). -/
def Log.held (l : Log) : List LogRec := if l.vol then l.ram else l.bank ++ l.wq

/-- Every record that can be read, in ascending seq (R385, R391). -/
def Log.readable (l : Log) : List LogRec :=
  if l.vol then (l.bank.filter fun r => !l.badSeqs.contains r.seq) ++ l.ram else l.bank ++ l.wq

/-- OLDEST_SEQ (R384). -/
def Log.oldest (l : Log) : Nat := match l.readable with | [] => l.head | r :: _ => r.seq

/-- Lowest severity held, 8 for none. -/
def Log.sMin (l : Log) : Nat := l.held.foldl (fun k r => min k r.sev) 8

/-- Insert in ascending seq. -/
def insertRec (r : LogRec) : List LogRec → List LogRec
  | [] => [r]
  | x :: t => if r.seq < x.seq then r :: x :: t else x :: insertRec r t

/-- The victim of a full log for an arriving severity: the oldest held record of the lowest severity (R386) (log entry 39). -/
def Log.victim (l : Log) (sev : Nat) : Option LogRec :=
  if l.sMin ≤ 5 ∨ l.sMin ≤ sev then l.held.find? fun r => r.sev == l.sMin else none

/-- Take a held record out. -/
def Log.without (l : Log) (seq : Nat) : Log :=
  let keep := fun (xs : List LogRec) => xs.filter fun r => r.seq != seq
  if l.vol then { l with ram := keep l.ram } else { l with bank := keep l.bank, wq := keep l.wq }

/-- Place a record; none where it cannot be placed (R386). -/
def Log.place (l : Log) (r : LogRec) : Option Log :=
  let room : Option Log :=
    if l.held.length < l.places then some l else (l.victim r.sev).map fun x => l.without x.seq
  match room with
  | none => none
  | some l =>
    if l.vol then some { l with ram := insertRec { r with vol := true } l.ram }
    else if l.wq.length ≥ 1024 then none
    else some { l with wq := l.wq ++ [r] }

/-- A record could not be placed: unplaced, and EV119 at most once per second (R386) (log entry 39). -/
def Mod.logLoss (m : Mod) : Mod :=
  let l := { m.log with unplaced := inc32 m.log.unplaced, losses := inc32 m.log.losses }
  let quiet := match l.lossRaw with | some t => decide (t + secs 1 ≤ m.now) | none => true
  if quiet then Mod.raise { m with log := { l with losses := 0, lossRaw := some m.now } } 119 l.losses
  else { m with log := l }

/-- A record takes the next sequence number and is placed (R384, R386); while VOLATILE numbers are reserved in blocks
of 256 (R393). -/
def Mod.logPut (m : Mod) (r : LogRec) : Mod :=
  let l := m.log
  let l := { l with head := l.head + 1,
                    blockEnd := if l.vol && decide (l.blockEnd < l.head) then l.head + 255 else l.blockEnd }
  let r := { r with seq := m.log.head }
  match l.place r with
  | some l => { m with log := l }
  | none => Mod.logLoss { m with log := l }

/-- One of the recorder's own records (Table 18-2). -/
def Mod.ownRec (m : Mod) (code sev : Nat) (params : Bytes) : LogRec :=
  { seq := m.log.head, code := code, sev := sev, test := false, lost := false, vol := false, src := 0xFF, supp := 0,
    opTime := m.moduleSec, cycles := m.nvs.powerCycles, raw := m.now, params := slice params 0 32 }

/-! ### Acceptance and rate limits (R382, R387, R388) -/

/-- The recorder takes the next raise delivered to it: suppressed by its bucket, or recorded (R387, R388) (log entry 39). -/
def Mod.recordAccept (m : Mod) : Mod :=
  match m.evt.inbox with
  | [] => m
  | r :: t =>
    let m := { m with evt := { m.evt with inbox := t } }
    let code := r.src * 256 + bits r.param.toNat 15 8
    let l := m.log
    let gone := l.short + Tab.get 0 l.missing code
    if rd m.logRec 0 1 ≤ gone then
      { m with log := { l with supp := Tab.upd 0 l.supp code (fun k => sat16 (k + 1)), suppTotal := inc32 l.suppTotal } }
    else
      let x : LogRec := { m.ownRec code r.sev (le 4 r.param.toNat) with
        test := r.test, lost := r.lost, src := r.src, raw := r.raw, supp := Tab.get 0 l.supp code }
      let m := { m with log := { l with missing := Tab.upd 0 l.missing code (· + 1), supp := Tab.put 0 l.supp code 0 } }
      m.logPut x

/-- RECORD_ACCEPT (R382). -/
def execRecordAccept (s : State) : Host.Outcome State Fault Refusal := s.act Mod.recordAccept

/-- The recorder empties its inbox and its write queue into the bank (R405, R433). -/
def Mod.logDrain (m : Mod) : Mod :=
  let m := foldN m.evt.inbox.length (fun (m : Mod) _ => m.recordAccept) m
  { m with log := { m.log with wq := [], bank := m.log.bank ++ m.log.wq } }

/-- RECORD_WRITE: the head of the write queue is written to the bank, or fails its verification (R382, R390). The
records of the bank named in `decayed` no longer pass their CRC when they are read (R383) (log entry 39). -/
def execRecordWrite (found : BankLook) (s : State) : Host.Outcome State Fault Refusal := s.act fun m =>
  let gone := found.decayed.filter fun q => !m.log.badSeqs.contains q && m.log.bank.any fun r => r.seq == q
  let m := { m with log := { m.log with badSeqs := m.log.badSeqs ++ gone } }
  match m.log.wq with
  | [] => m
  | r :: t =>
    if found.verified then { m with log := { m.log with wq := t, bank := m.log.bank ++ [r], verifyFails := 0 } }
    else { m with log := { m.log with verifyFails := min 2 (m.log.verifyFails + 1) } }

/-- BUCKET_REFILL: every refill_s seconds of raw count each bucket takes a token, up to burst (R387). -/
def execBucketRefill (s : State) : Host.Outcome State Fault Refusal := s.act fun m =>
  let p := secs (rd m.logRec 2 2)
  let m := m.until ((m.now / p + 1) * p)
  if m.log.short ≠ 0 then { m with log := { m.log with short := m.log.short - 1 } }
  else { m with log := { m.log with
      missing := (m.log.missing.map fun p => (p.1, p.2 - 1)).filter fun p => p.2 != 0 } }

/-- Keep the last 16 records of the last-gasp ring. -/
def lastGasp (g : List LogRec) : List LogRec := g.drop (g.length - 16)

/-- EV118: VOLATILE starts or ends (R390, R392). -/
def Mod.logStateEv (m : Mod) (on : Bool) : Mod := m.raise 118 (1 * 256 + b2n on * 65536)

/-- BANK_FAILED: the recorder writes the last-gasp copy, goes on in the RAM ring, and the queued records go there
(R390, R394). Cause 1 needs two failed verifications, cause 3 more than 64 CRC failures on reading (log entry 39). -/
def execBankFailed (cause place : Nat) (s : State) : Host.Outcome State Fault Refusal := s.act fun m =>
  if m.log.vol ∨ !inRange cause 1 3 ∨ (cause = 1 ∧ m.log.verifyFails < 2) ∨ (cause = 3 ∧ m.log.crcFails ≤ 64) then m
  else
    let r := m.ownRec 0x8002 7 (le 2 (if cause = 2 then 0xFFFF else place) ++ le 1 cause)
    let l := m.log
    let queued := l.wq
    let l := { l with head := l.head + 1, gasp := lastGasp (l.gasp ++ [r]), vol := true, bankBad := true, wq := [],
                      ram := [{ r with vol := true }], verifyFails := 0 }
    let m := queued.foldl (fun (m : Mod) x =>
      match m.log.place x with
      | some l => { m with log := l }
      | none => m.logLoss) { m with log := l }
    m.logStateEv true

/-- The start of PD1 (R383, R384, R387, R392, R393): numbers resume, buckets are full, and a START record comes first.
The start check of a bank that had failed passes here; one that fails is a BANK_FAILED of cause 2 (log entry 39). -/
def Mod.logStart (m : Mod) (cause : Nat) : Mod :=
  let l := m.log
  let top := fun (xs : List LogRec) => xs.foldl (fun k r => max k r.seq) 0
  let l2 := { l with head := max 1 (max (max (top (l.bank ++ l.wq)) (top l.gasp)) l.blockEnd + 1),
                     missing := [], short := 0, supp := [], unplaced := 0, suppTotal := 0, crcFails := 0,
                     lossRaw := none, losses := 0, verifyFails := 0, vol := false, bankBad := false, ram := [],
                     bank := l.bank ++ l.wq, wq := [] }
  let m := { m with log := l2, evt := { m.evt with inbox := [] } }
  let m := m.logPut (m.ownRec 0x8004 1 (le 1 cause))
  if l.vol then (m.logPut (m.ownRec 0x8003 5 (le 4 l.ram.length))).logStateEv false else m

/-! ### LOG class operations -/

/-- 0x1101 -/
def opLogGetInfo : Op := opInfo 17 1

/-- 0x1102 -/
def opLogGetStatus : Op where
  len := exactly 0
  body := fun _ m =>
    let l := m.log
    let smin := l.sMin
    Res.ok m (le 6 l.head ++ le 6 l.oldest ++ le 2 (min 16384 l.readable.length)
      ++ le 1 (b2n l.vol + b2n (decide (l.places ≤ l.held.length)) * 2) ++ le 1 (if smin = 8 then 0xFF else smin)
      ++ le 4 l.unplaced ++ le 4 l.suppTotal ++ le 4 l.crcFails ++ le 1 l.gasp.length ++ zeros 3)

/-- 0x1103: buckets above the new burst are cut to it; below it they fill with the ticks. -/
def opLogSetConfig : Op where
  len := exactly 4
  body := fun c m =>
    let r := slice c.params 0 4
    let burst := rd r 0 1
    if !inRange burst 1 64 ∨ !isZero r 1 1 ∨ !inRange (rd r 2 2) 1 3600 then Res.err m St.badParam
    else
      let old := rd m.logRec 0 1
      let l := m.log
      let cut := old - burst
      let l := if old ≤ burst then { l with short := l.short + (burst - old) }
        else
          let short := l.short - cut
          { l with short := short,
                   missing := (l.missing.map fun (p : Nat × Nat) => (p.1, l.short + p.2 - cut - short)).filter fun p => p.2 != 0 }
      Res.ok ((Mod.setCfg { m with log := l } 0x1103 0 r).markSet 0)

/-- 0x1104 -/
def opLogGetConfig : Op := { len := exactly 0, body := fun _ m => Res.ok m m.logRec }
/-- 0x1105 -/
def opLogEnable : Op := opNever 1
/-- 0x1106 -/
def opLogDisable : Op := opNever 1

/-- 0x1107 -/
def opLogResetInstance : Op where
  len := exactly 0
  body := fun _ m => Res.ok (Mod.restore { m with log := { m.log with missing := [], short := 0 } } 0 0x1103 0)

/-- A record as LOG READ returns it. -/
def Log.shown (l : Log) (r : LogRec) : Bytes := if l.badSeqs.contains r.seq then badRecord else r.bytes

/-- 0x1110 (R385, R395) -/
def opLogRead : Op where
  len := exactly 12
  body := fun c m =>
    let area := rd c.params 0 1
    let max := rd c.params 1 1
    let sev := rd c.params 2 1
    let from_ := rd c.params 4 6
    let l := m.log
    if 1 < area ∨ 3 < max ∨ 7 < sev ∨ !isZero c.params 3 1 ∨ !isZero c.params 10 2 then Res.err m St.badParam
    else
      let src := if area = 0 then l.readable else l.gasp
      let oldest := match src with | [] => l.head | r :: _ => r.seq
      let rs := (src.filter fun r => from_ ≤ r.seq && sev ≤ r.sev).take max
      let next := match rs.getLast? with | some r => r.seq + 1 | none => from_
      let bad := (rs.filter fun r => area == 0 && l.badSeqs.contains r.seq).length
      Res.ok { m with log := { l with crcFails := sat32 (l.crcFails + bad) } }
        (le 6 l.head ++ le 6 oldest ++ le 6 next ++ le 1 rs.length ++ le 1 (b2n l.vol) ++ le 4 l.unplaced
          ++ rs.flatMap fun r => if area = 0 then l.shown r else r.bytes)

/-- 0x1111 (R389) -/
def opLogClear : Op where
  len := exactly 8
  body := fun c m =>
    let upTo := rd c.params 0 6
    let sev := rd c.params 6 1
    if 7 < sev ∨ !isZero c.params 7 1 then Res.err m St.badParam
    else
      let l := m.log
      let hit := fun (r : LogRec) => decide (r.seq ≤ upTo) && decide (r.sev ≤ sev)
      let keep := fun (xs : List LogRec) => xs.filter fun r => !hit r
      let removed := (l.held.filter hit).length
      let l2 := if l.vol then { l with ram := keep l.ram } else { l with bank := keep l.bank, wq := keep l.wq }
      let m := { m with log := l2 }
      let r := m.ownRec 0x8001 3 (le 4 removed ++ le 6 upTo ++ le 1 sev ++ le 1 c.ring)
      Res.ok (m.logPut r) (le 4 removed ++ le 6 l.head ++ zeros 2)

/-- LOG_GET_INFO (R98). -/
def execLogGetInfo (c : Cmd) (s : State) : Host.Outcome State Fault Refusal := s.act fun m => m.serve 0x1101 opLogGetInfo c
/-- LOG_GET_STATUS (R384). -/
def execLogGetStatus (c : Cmd) (s : State) : Host.Outcome State Fault Refusal := s.act fun m => m.serve 0x1102 opLogGetStatus c
/-- LOG_SET_CONFIG (R387). -/
def execLogSetConfig (c : Cmd) (s : State) : Host.Outcome State Fault Refusal := s.act fun m => m.serve 0x1103 opLogSetConfig c
/-- LOG_GET_CONFIG (R387). -/
def execLogGetConfig (c : Cmd) (s : State) : Host.Outcome State Fault Refusal := s.act fun m => m.serve 0x1104 opLogGetConfig c
/-- LOG_ENABLE (R98). -/
def execLogEnable (c : Cmd) (s : State) : Host.Outcome State Fault Refusal := s.act fun m => m.serve 0x1105 opLogEnable c
/-- LOG_DISABLE (R98). -/
def execLogDisable (c : Cmd) (s : State) : Host.Outcome State Fault Refusal := s.act fun m => m.serve 0x1106 opLogDisable c
/-- LOG_RESET_INSTANCE (R387). -/
def execLogResetInstance (c : Cmd) (s : State) : Host.Outcome State Fault Refusal := s.act fun m => m.serve 0x1107 opLogResetInstance c
/-- LOG_READ (R385). -/
def execLogRead (c : Cmd) (s : State) : Host.Outcome State Fault Refusal := s.act fun m => m.serve 0x1110 opLogRead c
/-- LOG_CLEAR (R389). -/
def execLogClear (c : Cmd) (s : State) : Host.Outcome State Fault Refusal := s.act fun m => m.serve 0x1111 opLogClear c

/-- The LOG class. -/
def logOps : List (Nat × Op) :=
  [(0x1101, opLogGetInfo), (0x1102, opLogGetStatus), (0x1103, opLogSetConfig), (0x1104, opLogGetConfig),
   (0x1105, opLogEnable), (0x1106, opLogDisable), (0x1107, opLogResetInstance), (0x1110, opLogRead),
   (0x1111, opLogClear)]

end Sys2Proof.Machine
end

