-- ==== Sys2Proof/Machine/SegOps.lean ====
section
/-! DEFINITION. The backup instrument segment display (chapter 16): drive cycles, VLCD, the on-time counters, the start
image and the SEG class. -/

namespace Sys2Proof.Machine

open Sys2Proof

/-! ### Records and counters -/

/-- The display's record (0x0F03): 1/4 bias, code 42, run_div 32, park_div 512, −12 mV/°C, 20 mV, auto_enable. -/
def Mod.segRec (m : Mod) : Bytes :=
  m.cfgOr 0x0F03 0 ([0, 42] ++ le 2 32 ++ le 2 512 ++ leI 2 (-12) ++ le 2 20 ++ [1] ++ zeros 5)

/-- Ticks of CK_AON in a second (R363). -/
def aonHz : Nat := 32768

/-- On-time counter of a segment, in seconds (R367). -/
def Seg.onSec (x : Seg) (i : Nat) : Nat := Tab.get 0 x.onTicks i / aonHz

/-- Sum of the 384 counters, in seconds. -/
def Seg.onSum (x : Seg) : Nat := x.onTicks.foldl (fun k p => k + p.2 / aonHz) 0

/-- mean_on_s (R364). -/
def Seg.meanOn (x : Seg) : Nat := x.onSum / 384

/-- CRC-16/CCITT of the drive memory or its shadow (R366). -/
def segCrc (bs : Bytes) : Nat := crcL 16 0x1021 0xFFFF bs

/-- A park divisor: 16–64, or one of the slow rates (R363). -/
def parkDivOk (d : Nat) : Bool := inRange d 16 64 || [128, 256, 512, 1024, 2048].contains d

/-- The VLCD code of the target (R364): num / den is the target in codes. Nearest; a tie takes either neighbour. -/
def vlcdTarget (code : Nat) (tc : Int) (stress : Nat) (t : Int) (onSum : Nat) (up : Bool) : Int :=
  let hours : Int := (384 * 3600000 : Nat)
  let den : Int := hours * 3000
  let num : Int := code * den + 63 * (tc * (t - 25) * hours + (stress * onSum : Nat))
  let q := num / den
  let r := num % den
  if 2 * r < den then q else if 2 * r > den ∨ up then q + 1 else q

/-- Compensated code of a record, clamped, and whether it was clamped (log entry 40). -/
def Mod.vlcdCode (m : Mod) (r : Bytes) (t : Int) (up : Bool) : Nat × Bool :=
  let k := vlcdTarget (rd r 1 1) (rdI r 6 2) (rd r 8 2) t m.seg.onSum up
  ((max 0 (min 63 k)).toNat, decide (k < 0) || decide (63 < k))

/-! ### Images in SET_DISPLAY -/

/-- The start image of the newest generation of SET_DISPLAY; all off without one. -/
def Mod.storedImage (m : Mod) : Bytes :=
  let b := m.fromSet 3 0x0F11 0
  if b.isEmpty then zeros 48 else slice b 4 48

/-- The driver as PD1 comes up: it shows the stored start image, unless auto_enable is 0 outside Reheat mode (R368) (log entry 40). -/
def Mod.segUp (m : Mod) : Mod :=
  let img := m.storedImage
  let x : Seg := { start := img, drive := img, shadow := img, pend := img, onTicks := m.nvs.segTicks,
                   st := if (rd m.segRec 10 1).testBit 0 || m.upd.reheat then 2 else 0, code := rd m.segRec 1 1 }
  { m with seg := x }

/-- PD1 goes off or the module enters reset: the glass blanks (R368). -/
def Mod.segOff (m : Mod) : Mod := { m with seg := { m.seg with st := 0, ask := none } }

/-! ### Lines (R361, R362) -/

/-- a of the bias 1/a in force. -/
def Seg.biasOf (x : Seg) : Nat := if rd x.inForce 0 1 = 1 then 3 else 4

/-- Level of COM(c+1) in slot `r`, in units of VLCD/a (Table 16-1). A driver that is off holds every line at SGND (R368). -/
def Seg.comLevel (x : Seg) (r c : Nat) (positive : Bool) : Nat :=
  let a := x.biasOf
  if x.st = 0 then 0 else if c = r then (if positive then a else 0) else if positive then 1 else a - 1

/-- Level of SEG(b+1) in slot `r`, in units of VLCD/a: row `r` of the drive memory drives it (R361, Table 16-1). -/
def Seg.segLevel (x : Seg) (r b : Nat) (positive : Bool) : Nat :=
  let a := x.biasOf
  let on := (x.drive.getD (6 * r + b / 8) 0).toNat.testBit (b % 8)
  if x.st = 0 then 0 else if on then (if positive then 0 else a) else if positive then 2 else a - 2

/-- VLCD of the code in force, in µV to the nearest (R364). -/
def Seg.vlcdMicro (x : Seg) : Nat := 3000000 + (2 * x.code * 3000000 + 63) / 126

/-! ### Drive cycles (R362–R366) -/

/-- Copy the dirty rows of the pending image over an image (R365). -/
def copyRows (dirty : BitVec 8) (pend img : Bytes) : Bytes :=
  (List.range 48).map fun k => if dirty.toNat.testBit (k / 6) then pend.getD k 0 else img.getD k 0

/-- DRIVE_CYCLE_START (R363, R365, R366, R368): a mode asked for, the record and the code take force, a refresh comes
first, then the dirty rows (log entry 40). -/
def execDriveCycleStart (s : State) : Host.Outcome State Fault Refusal := s.act fun m =>
  if !m.alive then m else
  let x := m.seg
  if x.ask = some false then { m with seg := { x with ask := none, st := 0 } }
  else
    let st := if x.ask = some true ∧ x.st = 0 then 1 else x.st
    if st = 0 then { m with seg := { x with ask := none } }
    else
      let r := m.segRec
      let park := decide (m.pwr.mode = .park)
      let base := x.refresh
      let img := if base then x.shadow else x.drive
      let changed := !x.inForce.isEmpty && x.inForce != r
      let d := m.draw
      let cc := m.vlcdCode r x.temp (d.1.toNat.testBit 0)
      let m := if changed then d.2 else m
      { m with seg := { x with
          ask := none
          st := if x.dirty = 0 then st else 1
          inForce := r, park := park, div := if park then rd r 4 2 else rd r 2 2
          code := if x.inForce.isEmpty then rd r 1 1 else if changed then cc.1 else x.nextCode.getD x.code
          clamped := if changed then cc.2 else x.clamped
          nextCode := none, refresh := false
          drive := copyRows x.dirty x.pend img
          shadow := copyRows x.dirty x.pend x.shadow
          dirty := 0 } }

/-- Bits of an image changed by an upset in the drive memory. -/
def flipBits (img : Bytes) (flips : List Nat) : Bytes :=
  flips.foldl (fun b i => if i < 384 then b.set (i / 8) (b.getD (i / 8) 0 ^^^ BitVec.ofNat 8 (2 ^ (i % 8))) else b) img

/-- Segment index `i` is on in an image (R361). -/
def segOn (img : Bytes) (i : Nat) : Bool := (img.getD (6 * (i / 48) + i % 48 / 8) 0).toNat.testBit (i % 48 % 8)

/-- The counters after a drive cycle of 16 × div ticks (R363, R367). -/
def Seg.counted (x : Seg) : Seg :=
  { x with onTicks := foldN 384 (fun t i =>
      if segOn x.drive i then Tab.upd 0 t i (fun k => min (k + 16 * x.div) (0xFFFFFFFF * aonHz)) else t) x.onTicks }

/-- DRIVE_CYCLE_END (R366): the counters advance, and the CRC of the drive memory is compared with its shadow's. -/
def execDriveCycleEnd (flips : List Nat) (s : State) : Host.Outcome State Fault Refusal := s.act fun m =>
  if !m.alive || m.seg.st == 0 then m else
  let x := m.seg.counted
  let x := { x with drive := flipBits x.drive flips, cycles := x.cycles + 1 }
  let x := { x with crc := BitVec.ofNat 16 (segCrc x.drive) }
  if segCrc x.drive = segCrc x.shadow then { m with seg := x }
  else
    let x := { x with crcErrors := inc32 x.crcErrors, refresh := true }
    let quiet := match x.evRaw with | some t => decide (t + secs 1 ≤ m.now) | none => true
    if quiet then Mod.ev { m with seg := { x with evRaw := some m.now } } 116 0 1 true else { m with seg := x }

/-- VLCD_COMPENSATION (R364): the code of the target waits for the next drive-cycle start. -/
def execVlcdCompensation (temp : Int) (s : State) : Host.Outcome State Fault Refusal := s.act fun m =>
  if !m.alive then m else
  let d := m.draw
  let m := d.2
  let cc := m.vlcdCode m.segRec temp (d.1.toNat.testBit 0)
  { m with seg := { m.seg with temp := temp, nextCode := some cc.1, clamped := cc.2 } }

/-- VLCD_REG (R364, R369). -/
def execVlcdReg (out : Bool) (s : State) : Host.Outcome State Fault Refusal := s.act fun m =>
  if !m.alive || m.seg.fault == out then m else
  Mod.ev { m with seg := { m.seg with fault := out } } 117 0 1 out

/-! ### SEG class operations -/

/-- 0x0F01 -/
def opSegGetInfo : Op := opInfo 15 1

/-- 0x0F02 -/
def opSegGetStatus : Op where
  len := exactly 0
  body := fun _ m =>
    let x := m.seg
    let d := m.draw
    Res.ok d.2 (le 1 x.st ++ le 1 (b2n x.park + b2n x.clamped * 2 + b2n x.fault * 4 + b2n (x.dirty != 0) * 8)
      ++ le 2 x.div ++ le 1 x.code ++ leI 1 x.temp ++ le 2 d.1.toNat ++ le 4 x.crcErrors ++ le 4 x.cycles.toNat
      ++ le 2 x.crc.toNat ++ zeros 2 ++ le 4 x.meanOn)

/-- A record of 0x0F03 is legal. -/
def segRecordOk (r : Bytes) : Bool :=
  decide (rd r 0 1 ≤ 1) && decide (rd r 1 1 ≤ 63) && inRange (rd r 2 2) 16 64 && parkDivOk (rd r 4 2)
    && decide (-50 ≤ rdI r 6 2) && decide (rdI r 6 2 ≤ 50) && decide (rd r 8 2 ≤ 200) && decide (rd r 10 1 ≤ 1)
    && isZero r 11 5

/-- 0x0F03: takes force at the next drive-cycle start. -/
def opSegSetConfig : Op where
  len := exactly 16
  body := fun c m =>
    let r := slice c.params 0 16
    if segRecordOk r then Res.ok ((m.setCfg 0x0F03 0 r).markSet 0) else Res.err m St.badParam

/-- 0x0F04: the record in force, which a driven glass takes at a drive-cycle start. -/
def opSegGetConfig : Op where
  len := exactly 0
  body := fun _ m => Res.ok m (if m.seg.st = 0 ∨ m.seg.inForce.isEmpty then m.segRec else m.seg.inForce)

/-- 0x0F05 -/
def opSegEnable : Op where
  len := exactly 0
  body := fun _ m => Res.ok { m with seg := { m.seg with ask := some true } }

/-- 0x0F06 -/
def opSegDisable : Op where
  len := exactly 0
  body := fun _ m => Res.ok { m with seg := { m.seg with ask := some false } }

/-- 0x0F07: the counters are kept. -/
def opSegResetInstance : Op where
  len := exactly 0
  body := fun _ m =>
    Res.ok (Mod.restore { m with seg := { m.seg with ask := some false, crcErrors := 0 } } 0 0x0F03 0)

/-- One masked row write into the pending image (R365). -/
def Seg.writeRow (x : Seg) (row : Nat) (value mask : Bytes) : Seg :=
  { x with
    pend := (List.range 48).map fun k =>
      let old := x.pend.getD k 0
      let mk := mask.getD (k % 6) 0
      if k / 6 = row then (old &&& ~~~ mk) ||| (value.getD (k % 6) 0 &&& mk) else old
    dirty := x.dirty ||| BitVec.ofNat 8 (2 ^ row) }

/-- 0x0F10 (R365) -/
def opWriteRows : Op where
  len := fun c => 4 ≤ c.plen.toNat && c.plen.toNat == 4 + 16 * rd c.params 0 1
  body := fun c m =>
    let n := rd c.params 0 1
    let bad := (List.range n).any fun j =>
      7 < rd c.params (4 + 16 * j) 1 || !isZero c.params (5 + 16 * j) 1 || !isZero c.params (18 + 16 * j) 2
    if n = 0 ∨ 8 < n ∨ !isZero c.params 1 3 ∨ bad then Res.err m St.badParam
    else Res.ok { m with seg := foldN n (fun (x : Seg) j =>
      x.writeRow (rd c.params (4 + 16 * j) 1) (slice c.params (6 + 16 * j) 6) (slice c.params (12 + 16 * j) 6)) m.seg }

/-- 0x0F11: into the running SET_DISPLAY. -/
def opSetStartImage : Op where
  len := fun c => c.plen.toNat == (if rd c.params 0 1 = 0 then 52 else 4)
  body := fun c m =>
    let src := rd c.params 0 1
    if 1 < src ∨ !isZero c.params 1 3 then Res.err m St.badParam
    else Res.ok (Mod.markSet { m with seg := { m.seg with
      start := if src = 0 then slice c.params 4 48 else m.seg.drive } } 3)

/-- 0x0F12 (R367) -/
def opReadCounters : Op where
  len := exactly 4
  body := fun c m =>
    let first := rd c.params 0 2
    let n := rd c.params 2 2
    if n = 0 ∨ 59 < n ∨ 383 < first ∨ 384 < first + n then Res.err m St.badParam
    else Res.ok m (le 2 first ++ le 2 n ++ (List.range n).flatMap fun k => le 4 (m.seg.onSec (first + k)))

/-- 0x0F13 (R367) -/
def opClearCounters : Op where
  len := exactly 0
  body := fun _ m => Res.ok { m with seg := { m.seg with onTicks := [] } }

/-- 0x0F14 -/
def opReadImage : Op where
  len := exactly 4
  body := fun c m =>
    if 1 < rd c.params 0 1 ∨ !isZero c.params 1 3 then Res.err m St.badParam
    else Res.ok m (if rd c.params 0 1 = 0 then m.seg.drive else m.seg.start)

/-- SEG_GET_INFO (R98). -/
def execSegGetInfo (c : Cmd) (s : State) : Host.Outcome State Fault Refusal := s.act fun m => m.serve 0x0F01 opSegGetInfo c
/-- SEG_GET_STATUS (R364). -/
def execSegGetStatus (c : Cmd) (s : State) : Host.Outcome State Fault Refusal := s.act fun m => m.serve 0x0F02 opSegGetStatus c
/-- SEG_SET_CONFIG (R363). -/
def execSegSetConfig (c : Cmd) (s : State) : Host.Outcome State Fault Refusal := s.act fun m => m.serve 0x0F03 opSegSetConfig c
/-- SEG_GET_CONFIG (R363). -/
def execSegGetConfig (c : Cmd) (s : State) : Host.Outcome State Fault Refusal := s.act fun m => m.serve 0x0F04 opSegGetConfig c
/-- SEG_ENABLE (R368). -/
def execSegEnable (c : Cmd) (s : State) : Host.Outcome State Fault Refusal := s.act fun m => m.serve 0x0F05 opSegEnable c
/-- SEG_DISABLE (R368). -/
def execSegDisable (c : Cmd) (s : State) : Host.Outcome State Fault Refusal := s.act fun m => m.serve 0x0F06 opSegDisable c
/-- SEG_RESET_INSTANCE (R368). -/
def execSegResetInstance (c : Cmd) (s : State) : Host.Outcome State Fault Refusal := s.act fun m => m.serve 0x0F07 opSegResetInstance c
/-- WRITE_ROWS (R365). -/
def execWriteRows (c : Cmd) (s : State) : Host.Outcome State Fault Refusal := s.act fun m => m.serve 0x0F10 opWriteRows c
/-- SET_START_IMAGE (R368). -/
def execSetStartImage (c : Cmd) (s : State) : Host.Outcome State Fault Refusal := s.act fun m => m.serve 0x0F11 opSetStartImage c
/-- READ_COUNTERS (R367). -/
def execReadCounters (c : Cmd) (s : State) : Host.Outcome State Fault Refusal := s.act fun m => m.serve 0x0F12 opReadCounters c
/-- CLEAR_COUNTERS (R367). -/
def execClearCounters (c : Cmd) (s : State) : Host.Outcome State Fault Refusal := s.act fun m => m.serve 0x0F13 opClearCounters c
/-- READ_IMAGE (R365). -/
def execReadImage (c : Cmd) (s : State) : Host.Outcome State Fault Refusal := s.act fun m => m.serve 0x0F14 opReadImage c

/-- The SEG class. -/
def segOps : List (Nat × Op) :=
  [(0x0F01, opSegGetInfo), (0x0F02, opSegGetStatus), (0x0F03, opSegSetConfig), (0x0F04, opSegGetConfig),
   (0x0F05, opSegEnable), (0x0F06, opSegDisable), (0x0F07, opSegResetInstance), (0x0F10, opWriteRows),
   (0x0F11, opSetStartImage), (0x0F12, opReadCounters), (0x0F13, opClearCounters), (0x0F14, opReadImage)]

end Sys2Proof.Machine
end

