-- ==== Sys2Proof/Machine/NvsOps.lean ====
section
/-! DEFINITION. The persistent store (chapter 19): generations, STORE, the hour meter's writes, the settings bundle and
the NVS class. -/

namespace Sys2Proof.Machine

open Sys2Proof

/-! ### Entries of a generation (R399) -/

/-- A settings set. -/
def Mod.nvSet (m : Mod) (k : Nat) : NvSet := Tab.get {} m.nvs.set k

/-- Write a settings set's journal state. -/
def Mod.setNv (m : Mod) (k : Nat) (x : NvSet) : Mod := { m with nvs := { m.nvs with set := Tab.put {} m.nvs.set k x } }

/-- Operations whose index stands in the first parameter byte. -/
def indexed (op : Nat) : Bool := [0x0610, 0x0815, 0x0816, 0x0B10, 0x0C10, 0x0D10].contains op

/-- The set a running record belongs to; none for records that are not stored: SET_SOURCE, SET_PPS but its tai_utc. -/
def storedIn (op idx : Nat) : Option Nat :=
  if op = 0x0210 ∨ (op = 0x0212 ∧ idx = 0) then none else some (setOf op)

/-- Instance a stored record's write operation names. -/
def NvEntry.wireInst (e : NvEntry) : Nat :=
  if e.op = 0x0412 then e.inst / 2
  else if e.op = 0x0B10 then 32
  else if e.op = 0x0911 then 6
  else if indexed e.op ∨ e.op = 0x0D12 ∨ e.op = 0x0212 then 0
  else e.inst

/-- Parameters of a stored record's write operation. -/
def NvEntry.wireParams (e : NvEntry) : Bytes :=
  if e.op = 0x0412 then [BitVec.ofNat 8 (e.inst % 2), 1, 0] ++ le 1 (e.params.length / 4) ++ le 1 (e.params.length / 4)
    ++ zeros 3 ++ e.params
  else if e.op = 0x0D12 then le 1 (e.inst / 2) ++ le 1 (e.inst % 2) ++ le 2 0 ++ le 2 (e.params.length / 2) ++ zeros 2 ++ e.params
  else if e.op = 0x0212 then [0, 2] ++ le 2 100 ++ zeros 4 ++ slice e.params 0 2 ++ zeros 6
  else e.params

/-- An entry of a generation: class, instance, opcode, length, and the parameters padded to 4 bytes (R399). -/
def NvEntry.wire (e : NvEntry) : Bytes :=
  let p := e.wireParams
  le 1 e.cls ++ [0] ++ le 2 e.wireInst ++ le 2 e.op ++ le 2 p.length ++ p ++ zeros ((4 - p.length % 4) % 4)

/-- The record an entry of a generation stands for. -/
def NvEntry.ofWire (cls inst op : Nat) (p : Bytes) : NvEntry :=
  if op = 0x0412 then { cls := cls, inst := 2 * inst + rd p 0 1, op := op, params := p.drop 8 }
  else if op = 0x0D12 then { cls := cls, inst := 2 * rd p 0 1 + rd p 1 1, op := op, params := p.drop 8 }
  else if op = 0x0212 then { cls := cls, inst := 1, op := op, params := slice p 8 2 }
  else if op = 0x0911 then { cls := cls, inst := rd p 0 2, op := op, params := p }
  else if indexed op then { cls := cls, inst := rd p 0 1, op := op, params := p }
  else { cls := cls, inst := inst, op := op, params := p }

/-- The entries of a body, at most `n`; none where it does not end at an entry's end (log entry 12). -/
def parseBody : Nat → Bytes → Option (List NvEntry)
  | _, [] => some []
  | 0, _ => none
  | n + 1, b =>
    let len := rd b 6 2
    let size := 8 + (len + 3) / 4 * 4
    if b.length < size then none
    else (parseBody n (b.drop size)).map fun t => NvEntry.ofWire (rd b 0 1) (rd b 2 2) (rd b 4 2) (slice b 8 len) :: t

/-- A generation: the 32-byte header (magic, set, format 1, number, body length, CRC-32C) and its body (log entry 12). -/
def generation (set num : Nat) (body : Bytes) : Bytes :=
  let h := fun (crc : Nat) =>
    le 4 Config.genMagic.toNat ++ le 1 set ++ [1] ++ zeros 2 ++ le 4 num ++ le 4 body.length ++ le 4 crc ++ zeros 12
  h (crc32c (h 0 ++ body)) ++ body

/-- The bytes of a set's stored generation (R399). -/
def NvSet.bytes (x : NvSet) (set : Nat) : Bytes :=
  match x.gens with
  | [] => []
  | (n, es) :: _ => generation set n (es.flatMap NvEntry.wire)

/-! ### Running contents (R401) -/

/-- Consecutive Schedule Table entries in use, from a block of 100. -/
def Mod.schedBlock (m : Mod) (k : Nat) : Option NvEntry :=
  let n := min 100 (16384 - 100 * k)
  let v := (List.range n).map fun j => Tab.get (0 : BitVec 16) m.sched (100 * k + j)
  if v.all (· == 0) then none
  else some { cls := 4, inst := 0, op := 0x0413, params := le 2 (100 * k) ++ le 2 n ++ v.flatMap fun x => le 2 x.toNat }

/-- Table 19-4 of the running hour meters. -/
def Mod.hoursRecord (m : Mod) : Bytes :=
  le 4 m.moduleSec ++ le 4 m.machineSec ++ le 4 m.nvs.powerCycles ++ le 1 m.nvs.transfers.length ++ zeros 3
    ++ m.nvs.transfers.flatMap fun t =>
      le 8 t.serial.toNat ++ le 4 t.machine ++ le 4 t.at' ++ le 12 (mt96 t.time) ++ zeros 4

/-- A block of 4,096 bytes of SET_APP (log entry 12). -/
def Mod.appBlock (m : Mod) (k : Nat) : Option NvEntry :=
  if m.nvs.app.any fun p => p.1 / 4096 == k then
    some { cls := 18, inst := 4, op := 0x1212,
           params := le 4 (4096 * k) ++ le 2 4096 ++ zeros 2 ++ (List.range 4096).map fun j => Tab.get 0 m.nvs.app (4096 * k + j) }
  else none

/-- The on-time counters, in seconds, as SET_DISPLAY holds them (R367). -/
def counterBytes (t : Tab Nat) : Bytes := (List.range 384).flatMap fun k => le 4 (Tab.get 0 t k / aonHz)

/-- Entries of SET_DISPLAY. -/
def displayEntries (image : Bytes) (ticks : Tab Nat) : List NvEntry :=
  [{ cls := 15, inst := 0, op := 0x0F11, params := zeros 4 ++ image },
   { cls := 15, inst := 0, op := 0, params := counterBytes ticks }]

/-- The entry of a SET_SAFETY record with its two CRCs (R216). -/
def safetyEntry (r : Bytes) : NvEntry :=
  { cls := 7, inst := 0, op := 0x0703, params := r ++ le 4 (crc32c r) ++ le 4 (crc32 r) }

/-- The record a STORE of SET_SAFETY writes: the confirmed staged one, else the stored one (R216). -/
def Mod.storableSafety (m : Mod) : Option Bytes :=
  match m.safe.staged with
  | some r => if m.safe.confirmed then some r else none
  | none => m.nvs.safety

/-- The running contents of a set (R401). -/
def Mod.running (m : Mod) (set : Nat) : List NvEntry :=
  if set ≤ 1 then
    let recs := m.cfg.filterMap fun p =>
      let op := p.1 / 65536
      let idx := p.1 % 65536
      if storedIn op idx = some set then some { cls := op / 256, inst := idx, op := op, params := p.2 : NvEntry } else none
    if set = 0 then recs
    else recs ++ (List.range 164).filterMap m.schedBlock
      ++ m.coeff.map fun p => { cls := 4, inst := 0, op := 0x0414, params := le 2 p.1 ++ zeros 2 ++ p.2.flatMap fun v => le 4 v.toNat }
  else if set = 2 then (match m.storableSafety with | some r => [safetyEntry r] | none => [])
  else if set = 3 then displayEntries m.seg.start m.seg.onTicks
  else if set = 4 then (List.range 16).filterMap m.appBlock
  else [{ cls := 18, inst := 5, op := 0, params := m.hoursRecord }]

/-! ### Writing (R399, R403) -/

/-- Places of a set's journal (Table 19-2). -/
def nvPlaces (set : Nat) : Nat := [2, 2, 2, 16, 2, 64, 1].getD set 1

/-- Writes of the most-worn place: the places take the writes in turn (log entry 12). -/
def NvSet.worn (x : NvSet) (set : Nat) : Nat := (x.writes + nvPlaces set - 1) / nvPlaces set

/-- A place of the set takes a write; EV121 code 4 as a place passes 90,000 writes (R424). -/
def Mod.wear (m : Mod) (set : Nat) : Mod :=
  let x := m.nvSet set
  let y := { x with writes := x.writes + 1 }
  let m := m.setNv set y
  if x.worn set ≤ 90000 ∧ 90000 < y.worn set then m.ev 121 set 4 true else m

/-- The highest generation number of a set. -/
def NvSet.top (x : NvSet) : Nat := match x.gens with | [] => 0 | (n, _) :: _ => n

/-- A generation is written into the place of the oldest one (R399). -/
def Mod.putGen (m : Mod) (set : Nat) (es : List NvEntry) : Mod :=
  let m := m.wear set
  let x := m.nvSet set
  m.setNv set { x with gens := ((x.top + 1, es) :: x.gens).take (nvPlaces set) }

/-- A write fails its verification: the place holds no valid generation; the newest one is never touched (R399, R403). -/
def Mod.failGen (m : Mod) (set : Nat) : Mod :=
  let m := m.wear set
  let x := m.nvSet set
  m.setNv set { x with gens := x.gens.take (max 1 (nvPlaces set - 1)) }

/-- SET_HOURS is written (R404). -/
def Mod.writeHours (m : Mod) : Mod :=
  let m := m.countHours
  let m := m.putGen 5 (m.running 5)
  { m with nvs := { m.nvs with
      hours := (m.nvs.moduleS / secs 1, m.nvs.machineS / secs 1, m.nvs.powerCycles), hoursLast := m.now } }

/-- HOURS_WRITE: every 360 s of raw count in RUN (R404). -/
def execHoursWrite (s : State) : Host.Outcome State Fault Refusal := s.act fun m =>
  if m.lanes.run then (m.until (m.nvs.hoursLast + secs 360)).writeHours else m

/-- The on-time counters are written to SET_DISPLAY beside the stored start image (R367). -/
def Mod.writeCounters (m : Mod) : Mod :=
  let m := m.putGen 3 (displayEntries m.storedImage m.seg.onTicks)
  { m with nvs := { m.nvs with segTicks := foldN 384 (fun t k =>
      Tab.put 0 t k (Tab.get 0 m.seg.onTicks k / aonHz * aonHz)) [] } }

/-- COUNTER_WRITE: every 60 min, or at an orderly entry to PARK or SLEEP (R367, R369). -/
def execCounterWrite (ok : Bool) (s : State) : Host.Outcome State Fault Refusal := s.act fun m =>
  if !m.alive then m else if ok then m.writeCounters else (m.wear 3).ev 117 0 2 true

/-! ### STORE (R401–R403) -/

/-- A set that is being written. -/
def Nvs.busySet (n : Nvs) : Option Nat := (List.range 6).find? fun k => (Tab.get {} n.set k : NvSet).writing.isSome

/-- The set whose oldest waiting STORE came first (R401). -/
def Nvs.nextSet (n : Nvs) : Option Nat :=
  (List.range 6).foldl (fun (b : Option Nat) k =>
    let x : NvSet := Tab.get {} n.set k
    if x.waiting.isEmpty then b
    else match b with
      | some j => if x.order < (Tab.get {} n.set j : NvSet).order then some k else b
      | none => some k) none

/-- STORE_TAKEN: the writer takes the next set and captures its running contents (R401) (log entry 12). -/
def execStoreTaken (s : State) : Host.Outcome State Fault Refusal := s.act fun m =>
  if m.nvs.busySet.isSome || m.nvs.adopting.isSome then m
  else match m.nvs.nextSet with
    | none => m
    | some k =>
      let x := m.nvSet k
      m.setNv k { x with writing := some (m.running k, x.waiting, 0), waiting := [], order := 0, changed := false }

/-- What a written generation of a set makes the stored record: SET_SAFETY's, the display's counters. -/
def Mod.storedNow (m : Mod) (set : Nat) (es : List NvEntry) : Mod :=
  if set = 2 then { m with nvs := { m.nvs with safety := es.head?.map fun e => slice e.params 0 112 } }
  else if set = 3 then
    { m with nvs := { m.nvs with segTicks := foldN 384 (fun t k =>
        Tab.put 0 t k (match es.find? (fun e => e.op == 0) with | some e => rd e.params (4 * k) 4 * aonHz | none => 0)) [] } }
  else m

/-- A write of a STORE ends: a generation, or after the second failure FAULT (R403). -/
def Mod.storeEnds (m : Mod) (k : Nat) (verified : Bool) : Mod :=
  let x := m.nvSet k
  match x.writing with
  | none => m
  | some (es, cs, fails) =>
    if verified then
      let m := (m.putGen k es).storedNow k es
      let y := m.nvSet k
      let m := m.setNv k { y with writing := none, lastRaw := m.now, interrupted := false }
      let m := m.ev 120 k 1 true
      cs.foldl (fun (m : Mod) c => m.finish 0x1210 c St.ok (le 4 y.top ++ le 1 cs.length ++ zeros 3)) m
    else if fails = 0 then
      let m := m.failGen k
      m.setNv k { m.nvSet k with writing := some (es, cs, 1) }
    else
      let m := m.failGen k
      let m := m.setNv k { m.nvSet k with writing := none, changed := true }
      let m := m.ev 121 k 1 true
      cs.foldl (fun (m : Mod) c => m.finish 0x1210 c St.fault) m

/-! ### Adoption (R423) -/

/-- Length of the bundle's header. -/
def bundleHead : Nat := 64

/-- The sections of a bundle, at most `n`: (set, generation bytes) (log entry 12). -/
def bundleSections : Nat → Bytes → Option (List (Nat × Bytes))
  | _, [] => some []
  | 0, _ => none
  | n + 1, b =>
    let len := rd b 4 4
    if b.length < 8 + len ∨ !isZero b 1 3 then none
    else (bundleSections n (b.drop (8 + len))).map fun t => (rd b 0 1, slice b 8 len) :: t

/-- A section's generation, with its header and CRC checked: the entries of its body (log entry 12). -/
def sectionEntries (set : Nat) (g : Bytes) : Option (List NvEntry) :=
  let body := g.drop 32
  let crc := crc32c (slice g 0 16 ++ zeros 16 ++ body)
  if g.length < 32 ∨ rd g 0 4 ≠ Config.genMagic.toNat ∨ rd g 4 1 ≠ set ∨ rd g 5 1 ≠ 1 ∨ rd g 12 4 ≠ body.length
      ∨ rd g 16 4 ≠ crc then none
  else parseBody body.length body

/-- The parsed sections of a bundle. -/
def bundleSets (b : Bytes) : Option (List (Nat × List NvEntry)) :=
  let body := b.take (b.length - 96)
  if b.length < bundleHead + 96 ∨ rd b 0 4 ≠ 0x444E424B ∨ rd b 4 2 ≠ 1 then none
  else match bundleSections 7 (body.drop bundleHead) with
    | none => none
    | some xs =>
      let es := xs.map fun p => (p.1, sectionEntries p.1 p.2)
      let mask := xs.foldl (fun k p => Nat.lor k (2 ^ p.1)) 0
      if es.any (fun p => p.2.isNone || decide (5 < p.1)) ∨ mask ≠ rd b 32 1 ∨ (xs.map (·.1)).eraseDups.length ≠ xs.length
          ∨ !mask.testBit 5 then none
      else some (es.map fun p => (p.1, p.2.getD []))

/-- The set being written is done, or adoption ends: the staged safety record, the hour meter and a transfer record
(R423, R404). -/
def Mod.adoptEnds (m : Mod) (a : Adoption) (ok : Bool) : Mod :=
  let reply := le 8 a.serial.toNat ++ le 1 a.done ++ zeros 3 ++ le 4 a.machine
  let m := { m with nvs := { m.nvs with adopting := none } }
  if !ok then m.finish 0x1214 a.cmd St.fault
  else
    let m := m.countHours
    let t : Transfer := { serial := a.serial, machine := a.machine, at' := m.moduleSec, time := m.mt }
    let ts := m.nvs.transfers ++ [t]
    let m := { m with nvs := { m.nvs with machineS := secs a.machine, transfers := ts.drop (ts.length - 8) } }
    let m := match a.safety with
      | some r => { m with safe := { m.safe with staged := some r, confirmed := false } }
      | none => m
    let m := m.writeHours
    let m := { m with pwr := { m.pwr with restartAt := some (m.now + secs 1) } }
    (m.ev 120 0 2 true).finish 0x1214 a.cmd St.ok reply

/-- A write of an ADOPT ends (R403, R423). -/
def Mod.adoptStep (m : Mod) (a : Adoption) (verified : Bool) : Mod :=
  match a.todo with
  | [] => m.adoptEnds a true
  | (k, es) :: t =>
    if verified then
      let m := (m.putGen k es).storedNow k es
      let a := { a with todo := t, done := a.done + 2 ^ k, fails := 0 }
      if t.isEmpty then m.adoptEnds a true else { m with nvs := { m.nvs with adopting := some a } }
    else
      let m := m.failGen k
      if a.fails = 0 then { m with nvs := { m.nvs with adopting := some { a with fails := 1 } } }
      else (m.ev 121 k 1 true).adoptEnds a false

/-- STORE_WRITTEN: the writer's generation is verified, or is not (R403). -/
def execStoreWritten (verified : Bool) (s : State) : Host.Outcome State Fault Refusal := s.act fun m =>
  match m.nvs.adopting with
  | some a => m.adoptStep a verified
  | none =>
    match m.nvs.busySet with
    | some k => m.storeEnds k verified
    | none => m

/-! ### Loading (R400) -/

/-- The bytes of SET_APP from its entries. -/
def appOf (es : List NvEntry) : Tab Byte :=
  es.foldl (fun t e =>
    let off := rd e.params 0 4
    foldN (rd e.params 4 2) (fun t k => Tab.put 0 t (off + k) (e.params.getD (8 + k) 0)) t) []

/-- Every set loads its newest valid generation; one without takes the defaults and EV121 code 2 (R400), and a STORE
that a supply loss abandoned is reported with code 3 (R405) (log entry 12). -/
def Mod.loadSets (m : Mod) : Mod :=
  let m := { m with cfg := [], sched := [], coeff := [] }
  let m := ((m.setEntries 0) ++ (m.setEntries 1)).foldl Mod.replay m
  let tai := m.stored 0x0212 1
  let m := { m with time := { m.time with taiUtc := if tai.isEmpty then 37 else rd tai 0 2 } }
  let m := { m with nvs := { m.nvs with
      app := appOf (m.setEntries 4)
      moduleS := secs m.nvs.hours.1, machineS := secs m.nvs.hours.2.1, powerCycles := m.nvs.hours.2.2
      hoursRaw := m.now, hoursLast := m.now, bundle := [], adopting := none } }
  let m := foldN 6 (fun (m : Mod) k =>
    let x := m.nvSet k
    let m := m.setNv k { x with
      waiting := [], writing := none, order := 0, changed := false, lastRaw := 0, interrupted := false
      skipped := (m.setEntries k).any (fun e => !knownEntry e.op) }
    if x.interrupted then m.ev 121 k 3 true else m) m
  foldN 6 (fun (m : Mod) k => if (m.nvSet k).gens.isEmpty then m.ev 121 k 2 true else m) m

/-! ### NVS class operations -/

/-- 0x1201 -/
def opNvsGetInfo : Op := opInfo 18 7

/-- 0x1202 (R399) -/
def opNvsGetStatus : Op where
  len := exactly 0
  insts := 7
  body := fun c m =>
    let k := c.inst.toNat
    let x := m.nvSet k
    let st := match x.writing, x.waiting with
      | none, [] => 0 | none, _ => 1 | some _, [] => 2 | some _, _ => 3
    Res.ok m (le 1 st ++ le 1 (b2n x.changed + b2n (x.gens.isEmpty && k != 6) * 2 + b2n x.skipped * 4) ++ le 1 (nvPlaces k)
      ++ le 1 (if k = 6 then 1 else x.gens.length) ++ le 4 x.top ++ le 4 x.writes ++ le 2 (x.worn k / 100) ++ zeros 2
      ++ le 8 x.lastRaw)

/-- 0x1203 -/
def opNvsSetConfig : Op := { len := exactly 0, insts := 7, body := fun _ m => Res.ok m }
/-- 0x1204 -/
def opNvsGetConfig : Op := { len := exactly 0, insts := 7, body := fun _ m => Res.ok m }
/-- 0x1205 -/
def opNvsEnable : Op := opNever 7
/-- 0x1206 -/
def opNvsDisable : Op := opNever 7
/-- 0x1207 -/
def opNvsResetInstance : Op := opNever 7

/-- 0x1210 (R401, R402): the command waits with the others of its set. -/
def opNvsStore : Op where
  len := exactly 0
  insts := 7
  body := fun c m =>
    let k := c.inst.toNat
    if k = 6 then Res.err m St.denied
    else if k = 2 ∧ m.storableSafety.isNone then Res.err m St.notReady
    else
      let x := m.nvSet k
      let first := x.waiting.isEmpty
      let m := m.setNv k { x with waiting := x.waiting ++ [c], order := if first then m.nvs.next else x.order }
      Res.accepted (if first then { m with nvs := { m.nvs with next := m.nvs.next + 1 } } else m)

/-- 0x1211 (R399) -/
def opReadSet : Op where
  len := exactly 8
  insts := 7
  body := fun c m =>
    let k := c.inst.toNat
    let off := rd c.params 0 4
    let n := rd c.params 4 2
    let which := rd c.params 6 1
    let x := m.nvSet k
    let data := if which = 1 then (List.range 65536).map fun j => Tab.get 0 m.nvs.app j
      else if k = 6 then m.nvs.identity else x.bytes k
    if n = 0 ∨ 224 < n ∨ 1 < which ∨ !isZero c.params 7 1 ∨ (which = 1 ∧ k ≠ 4) ∨ data.length < off + n then
      Res.err m St.badParam
    else Res.ok m (le 4 off ++ le 2 n ++ zeros 2 ++ le 4 (if which = 1 then 0 else x.top) ++ zeros 4 ++ slice data off n)

/-- 0x1212 -/
def opWriteApp : Op where
  len := fun c => 8 ≤ c.plen.toNat && c.plen.toNat == 8 + rd c.params 4 2
  insts := 7
  only := some 4
  body := fun c m =>
    let off := rd c.params 0 4
    let n := rd c.params 4 2
    if n = 0 ∨ 232 < n ∨ 65535 < off ∨ 65536 < off + n ∨ !isZero c.params 6 2 then Res.err m St.badParam
    else Res.ok (Mod.markSet { m with nvs := { m.nvs with
      app := foldN n (fun t k => Tab.put 0 t (off + k) (c.params.getD (8 + k) 0)) m.nvs.app } } 4)

/-- 0x1213 (R423) -/
def opBundleLoad : Op where
  len := fun c => 8 ≤ c.plen.toNat && c.plen.toNat == 8 + rd c.params 4 2
  insts := 7
  only := some 0
  body := fun c m =>
    let off := rd c.params 0 4
    let n := rd c.params 4 2
    let buf := if off = 0 then [] else m.nvs.bundle
    if n = 0 ∨ 224 < n ∨ !isZero c.params 6 2 ∨ off ≠ buf.length ∨ 1048576 < off + n then Res.err m St.badParam
    else Res.ok { m with nvs := { m.nvs with bundle := buf ++ slice c.params 8 n } }

/-- What ADOPT takes from a bundle: the sets to write, the serial number, the hour meter and the safety record (R423). -/
def adoptionOf (c : Cmd) (b : Bytes) (sets : List (Nat × List NvEntry)) : Adoption :=
  let entries := fun (k : Nat) => (sets.find? fun p => p.1 == k).map (·.2)
  let hours := match entries 5 with | some (e :: _) => rd e.params 4 4 | _ => 0
  let safety := match entries 2 with | some (e :: _) => some (slice e.params 0 112) | _ => none
  { cmd := c, todo := sets.filter fun p => [0, 1, 3, 4].contains p.1, serial := BitVec.ofNat 64 (rd b 12 8),
    machine := hours, safety := safety }

/-- 0x1214 (R423) (log entry 12) -/
def opAdopt : Op where
  len := exactly 8
  insts := 7
  only := some 0
  body := fun c m =>
    let n := rd c.params 0 4
    let b := m.nvs.bundle.take n
    if !isZero c.params 4 4 then Res.err m St.badParam
    else if !m.safe.standstill ∧ m.safe.st ≠ .noParams then Res.err m St.locked
    else if m.nvs.bundle.length < n then Res.err m St.badParam
    else match bundleSets b with
      | none => Res.err m St.badParam
      | some sets =>
        let cred := BitVec.ofNat 64 (rd b 36 8)
        if rd b 8 4 ≠ m.nvs.lineage.toNat ∨ !m.nvs.creds.contains cred
            ∨ !Config.credVerify cred (b.take (n - 96)) (b.drop (n - 96)) then Res.err m St.denied
        else if m.upd.act.isSome || m.nvs.busySet.isSome || m.nvs.adopting.isSome then Res.err m St.notReady
        else
          Res.accepted { m with nvs := { m.nvs with adopting := some (adoptionOf c b sets) } }

/-- NVS_GET_INFO (R98). -/
def execNvsGetInfo (c : Cmd) (s : State) : Host.Outcome State Fault Refusal := s.act fun m => m.serve 0x1201 opNvsGetInfo c
/-- NVS_GET_STATUS (R399). -/
def execNvsGetStatus (c : Cmd) (s : State) : Host.Outcome State Fault Refusal := s.act fun m => m.serve 0x1202 opNvsGetStatus c
/-- NVS_SET_CONFIG (R98). -/
def execNvsSetConfig (c : Cmd) (s : State) : Host.Outcome State Fault Refusal := s.act fun m => m.serve 0x1203 opNvsSetConfig c
/-- NVS_GET_CONFIG (R98). -/
def execNvsGetConfig (c : Cmd) (s : State) : Host.Outcome State Fault Refusal := s.act fun m => m.serve 0x1204 opNvsGetConfig c
/-- NVS_ENABLE (R98). -/
def execNvsEnable (c : Cmd) (s : State) : Host.Outcome State Fault Refusal := s.act fun m => m.serve 0x1205 opNvsEnable c
/-- NVS_DISABLE (R98). -/
def execNvsDisable (c : Cmd) (s : State) : Host.Outcome State Fault Refusal := s.act fun m => m.serve 0x1206 opNvsDisable c
/-- NVS_RESET_INSTANCE (R98). -/
def execNvsResetInstance (c : Cmd) (s : State) : Host.Outcome State Fault Refusal := s.act fun m => m.serve 0x1207 opNvsResetInstance c
/-- NVS_STORE (R401). -/
def execNvsStore (c : Cmd) (s : State) : Host.Outcome State Fault Refusal := s.act fun m => m.serve 0x1210 opNvsStore c
/-- READ_SET (R399). -/
def execReadSet (c : Cmd) (s : State) : Host.Outcome State Fault Refusal := s.act fun m => m.serve 0x1211 opReadSet c
/-- WRITE_APP (R398). -/
def execWriteApp (c : Cmd) (s : State) : Host.Outcome State Fault Refusal := s.act fun m => m.serve 0x1212 opWriteApp c
/-- BUNDLE_LOAD (R423). -/
def execBundleLoad (c : Cmd) (s : State) : Host.Outcome State Fault Refusal := s.act fun m => m.serve 0x1213 opBundleLoad c
/-- ADOPT (R423). -/
def execAdopt (c : Cmd) (s : State) : Host.Outcome State Fault Refusal := s.act fun m => m.serve 0x1214 opAdopt c

/-- The NVS class. -/
def nvsOps : List (Nat × Op) :=
  [(0x1201, opNvsGetInfo), (0x1202, opNvsGetStatus), (0x1203, opNvsSetConfig), (0x1204, opNvsGetConfig),
   (0x1205, opNvsEnable), (0x1206, opNvsDisable), (0x1207, opNvsResetInstance), (0x1210, opNvsStore),
   (0x1211, opReadSet), (0x1212, opWriteApp), (0x1213, opBundleLoad), (0x1214, opAdopt)]

end Sys2Proof.Machine
end

