-- ==== Sys2Proof/Machine/MemOps.lean ====
section
/-! DEFINITION. SDRAM as the engines reach it: bytes of the application and shared regions (Table 01-6). -/

namespace Sys2Proof.Machine

open Sys2Proof

/-- First address of the application region (Table 01-6). -/
def appBase : Nat := 0x80000000

/-- First address after the application region. -/
def appEnd : Nat := 0x400000000

/-- `n` bytes from `a` lie in the application region (log entry 15). -/
def inApp (a n : Nat) : Bool := decide (appBase ≤ a) && decide (a + n ≤ appEnd)

/-- An address in SDRAM (Table 01-6) (log entry 14). -/
def isSdram (a : Nat) : Bool := decide (0x80000000 ≤ a) && decide (a < 0x480000000)

/-- The byte at an address; one that nothing has written reads 0 (log entry 6). Off SDRAM, and in a poisoned line, where
the reader takes a bus error (R27), it is a free value (log entry 14). -/
def State.readByte (s : State) (a : Nat) : Byte :=
  if isSdram a && !s.m.poison.contains (a / 64) then Tab.get 0 s.mem a else Config.freeByte a

/-- Write one byte; the list keeps its canonical form. The line is poisoned no more (R27); off SDRAM nothing is written (log entries 6, 14). -/
def State.writeByte (s : State) (a : Nat) (b : Byte) : State :=
  if isSdram a then { s with mem := Tab.put 0 s.mem a b, m := s.m.cleanse a 1 } else s

/-- `n` bytes from an address, in ascending order. -/
def State.readMem (s : State) (a n : Nat) : Bytes := (List.range n).map fun k => s.readByte (a + k)

/-- Write bytes from an address upwards. -/
def State.writeMem (s : State) (a : Nat) : Bytes → State
  | [] => s
  | b :: t => (s.writeByte a b).writeMem (a + 1) t

/-! ### What the module keeps in the isochronous and shared regions -/

/-- One entry of the publication directory (Table 04-15) (log entry 18). -/
def Mod.dirEntry (m : Mod) (cls inst log2 : Nat) : Bytes :=
  let k := cls * 65536 + inst
  le 1 cls ++ le 1 log2 ++ le 2 inst ++ le 4 (pubSlots k) ++ le 8 (pubBase k)
    ++ le 4 (Tab.get {} m.pubs k : PubRing).next.toNat ++ zeros 12

/-- The publication directory at 0x4_6020_0000: 64 entries of 32 bytes (R111) (log entry 18). -/
def Mod.directory (m : Mod) : Bytes :=
  (pubRings.flatMap fun p => m.dirEntry p.1 p.2.1 p.2.2) ++ zeros (32 * (64 - pubRings.length))

/-- The byte at an offset of a publication ring: the entry whose sequence falls in that slot stands in it (R112). -/
def PubRing.byteAt (x : PubRing) (slots size o : Nat) : Byte :=
  match x.log.find? fun e => e.1.toNat % slots == o / size with
  | some e => e.2.getD (o % size) 0
  | none => 0

/-- The publication ring that holds an address, and the byte there (log entry 18). -/
def Mod.pubByte (m : Mod) (a : Nat) : Option Byte :=
  (pubRings.find? fun p => let k := p.1 * 65536 + p.2.1
    decide (pubBase k ≤ a) && decide (a < pubBase k + pubSlots k * 2 ^ p.2.2)).map fun p =>
      let k := p.1 * 65536 + p.2.1
      (Tab.get {} m.pubs k : PubRing).byteAt (pubSlots k) (2 ^ p.2.2) (a - pubBase k)

/-- The Frame Exchange mirror at 0x4_5FFF_F000, byte by byte (R184) (log entry 35). -/
def Mirror.byteAt (x : Mirror) (o : Nat) : Byte :=
  let slot := fun (t : Tab (BitVec 64)) (k : Nat) => (le 8 (Tab.get 0 t (k / 8)).toNat).getD (k % 8) 0
  if o < 8 then (le 8 x.begin').getD o 0
  else if o < 16 then (le 8 x.done).getD (o - 8) 0
  else if 64 ≤ o ∧ o < 2112 then slot x.inb (o - 64)
  else if 2112 ≤ o ∧ o < 3136 then slot x.outb (o - 2112)
  else 0

/-- First address of the mirror (R184). -/
def mirrorBase : Nat := 0x45FFFF000

/-- What the module itself keeps at an address of the isochronous or shared region: the mirror, ring slots of rings 0–11,
the publication directory and the publication rings (R184, Table 04-1) (log entry 15). -/
def Mod.keptByte (m : Mod) (a : Nat) : Option Byte :=
  if inRange a mirrorBase (mirrorBase + 3135) then some (m.inp.mirror.byteAt (a - mirrorBase))
  else if inRange a 0x460000000 0x46017FFFF then
    let o := a - 0x460000000
    let x := m.ring (o / 0x20000)
    let t := if o % 0x20000 < 0x10000 then x.sq else x.cq
    some ((Tab.get [] t (o % 0x10000 / 256) : Bytes).getD (o % 256) 0)
  else if inRange a 0x460200000 0x4602007FF then some (m.directory.getD (a - 0x460200000) 0)
  else m.pubByte a

/-! ### Errors (R27) -/

/-- An SDRAM error (R27): a corrected one is counted; an uncorrectable one poisons its line (log entry 66). -/
def State.sdramError (s : State) (line : Option Nat) : State :=
  if !s.m.pd 5 then s
  else match line with
    | none => { s with m := { s.m with eccCount := s.m.eccCount + 1 } }
    | some k =>
      if isSdram (64 * k) && !s.m.poison.contains k then { s with m := { s.m with poison := k :: s.m.poison } } else s

/-- EVENT_RAISE: a source raises an event (R372). EV006 tells of an SDRAM error (R27) (log entry 66). -/
def execEventRaise (src : Nat) (given : RaiseIn) (s : State) : Host.Outcome State Fault Refusal :=
  let s := if src = 6 then s.sdramError given.line else s
  s.act fun m => if src < 128 then m.raiseT src given.param false else m

/-- The command with the SDRAM bytes its engine reads behind its parameters: STAGE_CHUNK by address (0x1311). -/
def State.withData (s : State) (opcode : Nat) (c : Cmd) : Cmd :=
  if opcode = 0x1311 ∧ rd c.params 2 1 = 1 ∧ c.plen.toNat = 24 then
    { c with params := slice c.params 0 24 ++ s.readMem (rd c.params 16 8) 65536 }
  else c

end Sys2Proof.Machine
end

