-- ==== Sys2Proof/Machine/UpdOps.lean ====
section
/-! DEFINITION. Firmware update (chapter 19): slots, staging, activation, confirmation and the UPD class. -/

namespace Sys2Proof.Machine

open Sys2Proof

/-! ### Images (R406–R408) -/

/-- Bytes of a chunk (R406). -/
def chunkSize : Nat := 65536

/-- Chunks of an image of `size` bytes. -/
def chunksOf (size : Nat) : Nat := (size + chunkSize - 1) / chunkSize

/-- A slot. -/
def Mod.slot (m : Mod) (k : Nat) : CodeSlot := Tab.get {} m.upd.slot k

/-- Write a slot. -/
def Mod.setSlot (m : Mod) (k : Nat) (x : CodeSlot) : Mod := { m with upd := { m.upd with slot := Tab.put {} m.upd.slot k x } }

/-- Anti-rollback value of a slot's image (Table 19-5). -/
def CodeSlot.arb (x : CodeSlot) : Nat := rd x.manifest 33 1

/-- Version of a slot's image. -/
def CodeSlot.version (x : CodeSlot) : Nat := rd x.manifest 40 4

/-- Length of chunk `k` of the image being staged. -/
def CodeSlot.chunkLen (x : CodeSlot) (k : Nat) : Nat := min chunkSize (x.size - k * chunkSize)

/-- The slot that is CONFIRMED. -/
def Mod.confirmedSlot (m : Mod) : Option Nat := (List.range 2).find? fun k => decide ((m.slot k).st = .confirmed)

/-- The slot that staging writes: the one that is not CONFIRMED, slot 0 if neither is (R411, R421). -/
def Mod.target (m : Mod) : Nat := match m.confirmedSlot with | some k => 1 - k | none => 0

/-- Size, chunks and component table agree with one another, and with the size announced (R408, reason 6). -/
def manifestSizes (b : Bytes) (size : Nat) : Bool :=
  let comp := fun (c : Nat) => 128 + 48 * c
  decide (rd b 44 4 = size) && decide (rd b 48 2 = chunksOf size) && decide (rd b 50 2 = 6)
    && ((List.range 6).all fun t => (List.range 6).any fun c => rd b (comp c) 1 == t + 1)
    && (List.range 6).all fun c => chunkSize ≤ rd b (comp c + 8) 4 && rd b (comp c + 8) 4 + rd b (comp c + 12) 4 ≤ size

/-- The reason a manifest is not accepted, 0 for none (R408) (log entry 42). -/
def Mod.manifestReason (m : Mod) (b : Bytes) (size : Nat) : Nat :=
  if rd b 0 4 ≠ 0x53545053 ∨ rd b 4 2 ≠ 1 ∨ slice b 24 8 ≠ [0x49, 0x58, 0x5A, 0x38, 0x2D, 0x41, 0x34, 0x38] ∨ rd b 32 1 ≠ 0x42 then 5
  else if rd b 36 4 ≠ m.nvs.lineage.toNat then 3
  else if rd b 33 1 < m.upd.otp then 4
  else if !Config.imageVerify (slice b 0 65440) (slice b 65440 96) then 2
  else if !manifestSizes b size then 6
  else 0

/-- Every component decrypts as a trial and its GCM tag holds (R413): the tag and table entry with the chunk digests,
which fix the stored bytes. -/
def CodeSlot.tagsOk (x : CodeSlot) : Bool :=
  (List.range 6).all fun c => Config.tagVerify (slice x.manifest (128 + 48 * c) 48 ++ x.manifest.drop 1024)

/-- The running lane format permits a hitless activation of the image (R413). -/
def Mod.formatOk (m : Mod) (x : CodeSlot) : Bool :=
  let run := rd (m.slot m.upd.running).manifest 34 2
  rd x.manifest 34 2 == run || (List.range 8).any fun k => run != 0 && rd x.manifest (52 + 2 * k) 2 == run

/-! ### The start (R410, R421) -/

/-- The first start check of a slot: its image loads, or the slot becomes INVALID (log entry 42). -/
def Mod.loadSlot (m : Mod) (k : Nat) (st : CodeSlotState) (ok : Bool) : Mod :=
  let x := m.slot k
  if ok then
    let m := m.setSlot k { x with st := st, armed := false }
    { m with upd := { m.upd with running := k, pending := 0, restartNeeded := false,
                                 version := if x.manifest.isEmpty then m.upd.version else BitVec.ofNat 32 x.version } }
  else m.setSlot k { x with st := .invalid, armed := false }

/-- A slot may be tried after another failed: STAGED or TRIAL as TRIAL; CONFIRMED as it is (R410, R419). -/
def tryAs (st : CodeSlotState) : Option CodeSlotState :=
  match st with
  | .staged => some .trial
  | .trial => some .trial
  | .confirmed => some .confirmed
  | _ => none

/-- A staging that is open when the module resets, or has no chunk for 600 s, becomes SUSPENDED; partial chunks go
(R412). -/
def CodeSlot.suspend (x : CodeSlot) : CodeSlot :=
  if x.st = .staging then { x with st := .suspended, partials := [] } else x

/-- STAGING_TIMEOUT (R412). -/
def execStagingTimeout (s : State) : Host.Outcome State Fault Refusal := s.act fun m =>
  match (List.range 2).find? fun k => decide ((m.slot k).st = .staging) with
  | none => m
  | some k =>
    let m := m.until ((m.slot k).lastRaw + secs 600)
    (m.setSlot k (m.slot k).suspend).updEv 122 k 6

/-! ### UPD class operations -/

/-- 0x1301 -/
def opUpdGetInfo : Op := opInfo 19 1

/-- One slot's 32 bytes of GET_STATUS. -/
def CodeSlot.bytes (x : CodeSlot) : Bytes :=
  let code := match x.st with
    | .empty => 0 | .staging => 1 | .suspended => 2 | .staged => 3 | .trial => 4 | .confirmed => 5 | .invalid => 6
  le 1 code ++ le 1 x.arb ++ le 2 x.verified.length ++ le 4 x.version ++ slice x.imageId 0 16 ++ le 2 (chunksOf x.size)
    ++ le 2 x.writes ++ zeros 4

/-- 0x1302 (R409) -/
def opUpdGetStatus : Op where
  len := exactly 0
  body := fun _ m =>
    Res.ok m (le 1 m.upd.running ++ le 1 (m.confirmedSlot.getD 0xFF) ++ le 1 m.upd.otp
      ++ le 1 (match m.upd.act with | some a => a.step | none => 0) ++ le 1 (b2n m.upd.reheat) ++ zeros 3
      ++ (m.slot 0).bytes ++ (m.slot 1).bytes)

/-- 0x1303 -/
def opUpdSetConfig : Op := { len := exactly 0, body := fun _ m => Res.ok m }
/-- 0x1304 -/
def opUpdGetConfig : Op := { len := exactly 0, body := fun _ m => Res.ok m }
/-- 0x1305 -/
def opUpdEnable : Op := opNever 1
/-- 0x1306 -/
def opUpdDisable : Op := opNever 1
/-- 0x1307 -/
def opUpdResetInstance : Op := opNever 1

/-- Reply of STAGE_BEGIN. -/
def CodeSlot.progress (x : CodeSlot) (k : Nat) (resumed : Bool) : Bytes :=
  le 1 k ++ le 1 (b2n resumed) ++ le 2 (chunksOf x.size) ++ le 2 x.verified.length ++ zeros 2 ++ slice x.imageId 0 16

/-- The slot whose staging is open. -/
def Mod.openStaging (m : Mod) : Option Nat := (List.range 2).find? fun k => decide ((m.slot k).st = .staging)

/-- 0x1310 (R412) (log entry 42) -/
def opStageBegin : Op where
  len := exactly 24
  body := fun c m =>
    let id := slice c.params 0 16
    let size := rd c.params 16 4
    if !isZero c.params 20 4 then Res.err m St.badParam
    else match m.openStaging with
    | some k => { st := some St.busy, reply := (m.slot k).progress k false, m := m }
    | none =>
      let k := m.target
      let x := m.slot k
      if !inRange size 65536 25165824 then Res.err m St.badParam
      else if m.upd.act.isSome then Res.err m St.busy
      else if x.st = .trial then Res.err m St.notReady
      else if x.st = .suspended ∧ x.imageId = id then
        let y := { x with st := .staging, lastRaw := m.now }
        Res.ok ((m.setSlot k y).updEv 122 k 2) (y.progress k true)
      else
        let y : CodeSlot := { st := .staging, imageId := id, size := size, writes := sat16 (x.writes + 1), lastRaw := m.now }
        Res.ok ((m.setSlot k y).updEv 122 k 1) (y.progress k false)

/-- Reply of STAGE_CHUNK. -/
def chunkReply (k state reason : Nat) (x : CodeSlot) : Bytes :=
  le 2 k ++ le 1 state ++ le 1 reason ++ le 2 x.verified.length ++ zeros 2

/-- The last byte of a chunk has arrived: it is verified, or discarded whole (R411). -/
def Mod.chunkDone (m : Mod) (k ch : Nat) (data : Bytes) : Res :=
  let x := m.slot k
  let x := { x with partials := x.partials.filter fun p => p.1 != ch, lastRaw := m.now }
  let reason := if ch = 0 then m.manifestReason data x.size
    else if Config.sha384 data = BitVec.ofNat 384 (rd x.manifest (1024 + 48 * (ch - 1)) 48) then 0 else 1
  if reason = 0 then
    let x := { x with verified := ch :: x.verified
                      manifest := if ch = 0 then data.take (1024 + 48 * (chunksOf x.size - 1)) else x.manifest }
    Res.ok (m.setSlot k x) (chunkReply ch 1 0 x)
  else { st := some St.fault, reply := chunkReply ch 2 reason x, m := m.setSlot k x }

/-- 0x1311 (R411) -/
def opStageChunk : Op where
  len := fun c => c.plen.toNat == (if rd c.params 2 1 = 1 then 24 else 16 + rd c.params 8 2)
  body := fun c m =>
    let ch := rd c.params 0 2
    let src := rd c.params 2 1
    let off := rd c.params 4 4
    let n := rd c.params 8 2
    let addr := rd c.params 16 8
    if 1 < src ∨ !isZero c.params 3 1 ∨ !isZero c.params 10 6 then Res.err m St.badParam
    else match m.openStaging with
    | none => Res.err m St.notReady
    | some k =>
      let x := m.slot k
      let size := x.chunkLen ch
      let old := match x.partials.find? fun p => p.1 == ch with | some p => p.2 | none => []
      if chunksOf x.size ≤ ch
          ∨ (src = 1 ∧ (12 ≤ c.ring ∨ off ≠ 0 ∨ n ≠ 0 ∨ !inApp addr size))
          ∨ (src = 0 ∧ (n = 0 ∨ 224 < n ∨ size < off + n)) then Res.err m St.badParam
      else if ch ≠ 0 ∧ !x.verified.contains 0 then Res.err m St.notReady
      else if x.verified.contains ch then
        Res.ok (m.setSlot k { x with lastRaw := m.now }) (chunkReply ch 1 0 x)
      else if src = 1 then m.chunkDone k ch (slice c.params 24 size)
      else if off ≠ old.length then Res.err m St.badParam
      else if old.isEmpty ∧ 4 ≤ x.partials.length ∧ n < size then Res.err m St.busy
      else
        let data := old ++ slice c.params 16 n
        if data.length = size then m.chunkDone k ch data
        else
          let y := { x with partials := (x.partials.filter fun p => p.1 != ch) ++ [(ch, data)], lastRaw := m.now }
          Res.ok (m.setSlot k y) (chunkReply ch 0 0 y)

/-- 0x1312 (R413): ACCEPTED, then the checks' result (log entry 42). -/
def opStageEnd : Op where
  len := exactly 0
  body := fun c m =>
    match m.openStaging with
    | none => Res.err m St.notReady
    | some k =>
      let x := m.slot k
      let missing := chunksOf x.size - x.verified.length
      if missing ≠ 0 then Res.err m St.notReady
      else
        let m := m.complete 0x1312 c St.accepted [] 0
        let ok := x.tagsOk
        let m := (m.setSlot k { x with st := if ok then .staged else .invalid }).updEv 122 k (if ok then 3 else 4)
        { st := some (if ok then St.ok else St.fault), m := m,
          reply := le 4 x.version ++ le 1 x.arb ++ le 1 (b2n (m.formatOk x)) ++ le 2 missing }

/-- Why HITLESS is LOCKED, 0 for not (R415). -/
def Mod.stopReason (m : Mod) (x : CodeSlot) : Nat :=
  if m.upd.reheat then 4
  else if !m.formatOk x then 1
  else if (rd x.manifest 6 2).testBit 0 then 2
  else if m.lanes.redundancy ≠ 0 then 3
  else 0

/-- Reply of ACTIVATE where nothing has been switched. -/
def Mod.actReply (m : Mod) (reason : Nat) : Bytes :=
  le 1 reason ++ le 1 m.upd.pending.toNat ++ le 1 (b2n m.upd.restartNeeded) ++ zeros 13

/-- split_frames of an ACTIVATE (0x1313). -/
def splitFrames (c : Cmd) : Nat := let n := rd c.params 2 2; if n = 0 then 4000 else n

/-- 0x1313 (R414–R416) -/
def opActivate : Op where
  len := exactly 4
  body := fun c m =>
    let mode := rd c.params 0 1
    let split := rd c.params 2 2
    if 1 < mode ∨ 7 < rd c.params 1 1 ∨ (split ≠ 0 ∧ !inRange split 400 40000) then Res.err m St.badParam
    else if m.upd.act.isSome then Res.err m St.busy
    else match (List.range 2).find? fun k => decide ((m.slot k).st = .staged) with
    | none => Res.err m St.notReady
    | some k =>
      let x := m.slot k
      if mode = 1 then
        let m := m.setSlot k { x with st := .trial, armed := true }
        let m := { m with upd := { m.upd with pending := 0x1F },
                          pwr := { m.pwr with restartAt := if m.upd.reheat then some (m.now + secs 1) else m.pwr.restartAt } }
        Res.ok (m.updEv 123 k 8) (m.actReply 0)
      else
        let reason := m.stopReason x
        if reason ≠ 0 then { st := some St.locked, reply := m.actReply reason, m := m }
        else
          let standby : Lane := match m.lanes.token with | some t => other t | none => .b
          let m := m.setSlot k { x with st := .trial }
          let a : Activation :=
            { step := 1, cmd := c, slot := k, lane := standby, diffs := 0, splitFrame := 0, switchFrame := 0 }
          let m := { m with upd := { m.upd with act := some a } }
          Res.accepted (m.updEv 123 k 1)

/-- 0x1314 (R418): where the image's arb is above the counter, whether the write of the OTP succeeds is a free value; the
slot is CONFIRMED in either case (log entries 4, 42). -/
def opUpdConfirm : Op where
  len := exactly 0
  body := fun _ m =>
    if m.upd.act.isSome then Res.err m St.busy
    else match (List.range 2).find? fun k => decide ((m.slot k).st = .trial) && !(m.slot k).armed with
    | none => Res.err m St.notReady
    | some k =>
      let raise' := decide (m.upd.otp < (m.slot k).arb)
      let d := m.draw
      let failed := raise' && d.1.toNat.testBit 0
      let m := if raise' then d.2 else m
      let otp := if raise' && !failed then (m.slot k).arb else m.upd.otp
      let m := match m.confirmedSlot with
        | some j => m.setSlot j { m.slot j with st := if otp ≤ (m.slot j).arb then .staged else .invalid }
        | none => m
      let m := m.setSlot k { m.slot k with st := .confirmed }
      let m := { m with upd := { m.upd with otp := otp } }
      { st := some (if failed then St.fault else St.ok), reply := le 1 otp ++ zeros 3, m := m.updEv 123 k 5 }

/-- An activation in steps 1–3 is aborted by command: its new lane goes back to the CONFIRMED slot and rejoins, without
a fault counted (R420). -/
def Mod.abortActivation (m : Mod) (a : Activation) : Mod :=
  let m := if (m.lane a.lane).st = .standby then m else (m.dropPunty a.lane).toState a.lane .silent
  (m.actAbort St.aborted).redund

/-- 0x1315 (R420) (log entry 42) -/
def opUpdAbort : Op where
  len := exactly 0
  body := fun _ m =>
    match m.upd.act with
    | some a => if a.step ≤ 3 then Res.ok (m.abortActivation a) (zeros 4) else Res.err m St.busy
    | none =>
      match (List.range 2).find? fun k =>
        decide ((m.slot k).st = .staging ∨ (m.slot k).st = .suspended ∨ (m.slot k).st = .staged ∨ (m.slot k).st = .trial) with
      | none => Res.err m St.notReady
      | some k =>
        let x := m.slot k
        if x.st = .trial then
          let m := m.setSlot k { x with st := .invalid, armed := false }
          let m := { m with upd := { m.upd with restartNeeded := true } }
          Res.ok (m.updEv 123 k 4) [1, 0, 0, 0]
        else Res.ok ((m.setSlot k { writes := x.writes }).updEv 122 k 5) (zeros 4)

/-- UPD_GET_INFO (R98). -/
def execUpdGetInfo (c : Cmd) (s : State) : Host.Outcome State Fault Refusal := s.act fun m => m.serve 0x1301 opUpdGetInfo c
/-- UPD_GET_STATUS (R409). -/
def execUpdGetStatus (c : Cmd) (s : State) : Host.Outcome State Fault Refusal := s.act fun m => m.serve 0x1302 opUpdGetStatus c
/-- UPD_SET_CONFIG (R98). -/
def execUpdSetConfig (c : Cmd) (s : State) : Host.Outcome State Fault Refusal := s.act fun m => m.serve 0x1303 opUpdSetConfig c
/-- UPD_GET_CONFIG (R98). -/
def execUpdGetConfig (c : Cmd) (s : State) : Host.Outcome State Fault Refusal := s.act fun m => m.serve 0x1304 opUpdGetConfig c
/-- UPD_ENABLE (R98). -/
def execUpdEnable (c : Cmd) (s : State) : Host.Outcome State Fault Refusal := s.act fun m => m.serve 0x1305 opUpdEnable c
/-- UPD_DISABLE (R98). -/
def execUpdDisable (c : Cmd) (s : State) : Host.Outcome State Fault Refusal := s.act fun m => m.serve 0x1306 opUpdDisable c
/-- UPD_RESET_INSTANCE (R98). -/
def execUpdResetInstance (c : Cmd) (s : State) : Host.Outcome State Fault Refusal := s.act fun m => m.serve 0x1307 opUpdResetInstance c
/-- STAGE_BEGIN (R412). -/
def execStageBegin (c : Cmd) (s : State) : Host.Outcome State Fault Refusal := s.act fun m => m.serve 0x1310 opStageBegin c
/-- STAGE_CHUNK (R411). -/
def execStageChunk (c : Cmd) (s : State) : Host.Outcome State Fault Refusal :=
  s.act fun m => m.serve 0x1311 opStageChunk (s.withData 0x1311 c)
/-- STAGE_END (R413). -/
def execStageEnd (c : Cmd) (s : State) : Host.Outcome State Fault Refusal := s.act fun m => m.serve 0x1312 opStageEnd c
/-- ACTIVATE (R414). -/
def execActivate (c : Cmd) (s : State) : Host.Outcome State Fault Refusal := s.act fun m => m.serve 0x1313 opActivate c
/-- UPD_CONFIRM (R418). -/
def execUpdConfirm (c : Cmd) (s : State) : Host.Outcome State Fault Refusal := s.act fun m => m.serve 0x1314 opUpdConfirm c
/-- UPD_ABORT (R420). -/
def execUpdAbort (c : Cmd) (s : State) : Host.Outcome State Fault Refusal := s.act fun m => m.serve 0x1315 opUpdAbort c

/-- The UPD class. -/
def updOps : List (Nat × Op) :=
  [(0x1301, opUpdGetInfo), (0x1302, opUpdGetStatus), (0x1303, opUpdSetConfig), (0x1304, opUpdGetConfig),
   (0x1305, opUpdEnable), (0x1306, opUpdDisable), (0x1307, opUpdResetInstance), (0x1310, opStageBegin),
   (0x1311, opStageChunk), (0x1312, opStageEnd), (0x1313, opActivate), (0x1314, opUpdConfirm), (0x1315, opUpdAbort)]

end Sys2Proof.Machine
end

