-- ==== Sys2Proof/Machine/GnssOps.lean ====
section
/-! DEFINITION. The GNSS receiver (chapter 09): antennas, epochs, corrections, the solution and the GNSS class. -/

namespace Sys2Proof.Machine

open Sys2Proof

/-! ### Records and antennas (R222, R223) -/

/-- The receiver's record as written (0x0A03); baseline_mm and the CAN fields have no default (log entry 3). -/
def Mod.gnssWritten (m : Mod) : Bytes :=
  m.cfgOr 0x0A03 0 ([1, 0x0F, 5, 30, 3, 1, 1, 0] ++ zeros 4 ++ le 2 100 ++ zeros 6 ++ le 2 50 ++ zeros 18)

/-- The record in force: the one taken at the last epoch. -/
def Mod.gnssRec (m : Mod) : Bytes := if m.gnss.inForce.isEmpty then m.gnssWritten else m.gnss.inForce

/-- An antenna input. -/
def Mod.ant (m : Mod) (k : Nat) : Antenna := Tab.get {} m.gnss.ant k

/-- Write an antenna input. -/
def Mod.setAnt (m : Mod) (k : Nat) (x : Antenna) : Mod := { m with gnss := { m.gnss with ant := Tab.put {} m.gnss.ant k x } }

/-- An antenna event, EV096 or EV097 (R242). -/
def Mod.antEv (m : Mod) (k code : Nat) (on : Bool) : Mod := m.ev (96 + k) k code on

/-- The bias follows the instance, the record, the latch and a standing SHORT; an input whose bias bit is cleared reports
no OPEN (R222, R223). -/
def Mod.biasNow (m : Mod) (k : Nat) : Mod :=
  let x := m.ant k
  let bit := (rd m.gnssRec 4 1).testBit k
  let m := m.setAnt k { x with bias := x.enabled && bit && !x.latched && !x.short, opened := x.opened && bit }
  if x.opened && !bit then m.antEv k 1 false else m

/-- An antenna is lost or faulted (R237). -/
def Antenna.faulted (x : Antenna) : Bool := !x.enabled || x.opened || x.short || x.latched || x.noSignal

/-- Channels in lock. -/
def Antenna.tracked (x : Antenna) : Nat := (x.chan.filter fun p => p.2.lock).length

/-- ENABLE, or the start of PD8: bias and tracking begin. -/
def Mod.antOn (m : Mod) (k : Nat) : Mod := (m.setAnt k { m.ant k with enabled := true, epochs := 0 }).biasNow k

/-- DISABLE: tracking stops, the bias goes, standing conditions end. -/
def Mod.antOff (m : Mod) (k : Nat) : Mod :=
  let x := m.ant k
  let m := m.setAnt k { x with enabled := false, bias := false, opened := false, short := false, noSignal := false,
                               chan := [], meas := [], epochChan := [], sats := [] }
  let m := if x.opened then m.antEv k 1 false else m
  let m := if x.short then m.antEv k 2 false else m
  if x.noSignal then m.antEv k 4 false else m

/-- Retention memory of the wake island lost its ephemerides after 4 h (R238) (log entry 43). -/
def ephLife : Nat := 4 * 3600

/-- Whole seconds of module time. -/
def Mod.nowSecs (m : Mod) : Nat := (m.mt / unitsPerSec).toNat

/-- The start that the retention memory allows: 0 hot where PD8 was off less than 4 h, 1 warm, 2 cold (R238, 0x0A12) (log entry 43). -/
def Mod.gnssStart (m : Mod) : Nat :=
  match m.gnss.last with
  | some _ => if m.gnss.hasAlm then
      (if m.gnss.hasEph && decide (m.nowSecs < m.gnss.offSecs.getD m.nowSecs + ephLife) then 0 else 1) else 2
  | none => 2

/-- PD8 comes up: the receiver runs on both antennas, from the retention memory (R238, R432) (log entry 43). -/
def Mod.gnssUp (m : Mod) : Mod :=
  let g := m.gnss
  let keep := fun (k : Nat) => let x := m.ant k; ({ latched := x.latched, shorts := x.shorts } : Antenna)
  let up : Gnss := { hasEph := g.hasEph, hasAlm := g.hasAlm, last := g.last, start := m.gnssStart, rate := rd m.gnssWritten 0 1
                     ant := Tab.put {} (Tab.put {} [] 0 (keep 0)) 1 (keep 1) }
  ({ m with gnss := up }.antOn 0).antOn 1

/-- PD8 goes off (R223): tracking stops, standing conditions end with their events (R242), and the retention memory and
the latches of R222 stay. -/
def Mod.gnssOff (m : Mod) : Mod :=
  let m := (m.antOff 0).antOff 1
  let m := if m.gnss.aged then m.ev 99 0 2 false else m
  let m := if m.gnss.fix ≠ 0 ∨ m.gnss.heading ≠ 0 then m.ev 98 0 0 false else m
  Mod.seeSources <|
  let g := m.gnss
  let keep := fun (k : Nat) => let x := m.ant k; ({ latched := x.latched, shorts := x.shorts } : Antenna)
  { m with gnss := { hasEph := g.hasEph, hasAlm := g.hasAlm, last := g.last, offSecs := some (g.offSecs.getD m.nowSecs)
                     ant := Tab.put {} (Tab.put {} [] 0 (keep 0)) 1 (keep 1)
                     timeLostRaw := if g.fix = 0 then g.timeLostRaw else some m.now } }

/-! ### Epochs (R226–R228) -/

/-- Frames between epochs at a rate (R226). -/
def epochFrames (rate : Nat) : Nat := if rate = 0 then 800 else if rate = 1 then 400 else 200

/-- System of a signal of Table 09-1. -/
def sigSystem (sig : Nat) : Nat := sig / 2

/-- Satellite numbers of a system (R224). -/
def svidOk (system svid : Nat) : Bool :=
  match system with
  | 0 => inRange svid 1 32
  | 1 => inRange svid 1 36
  | 2 => inRange svid 1 63
  | 3 => inRange svid 1 10
  | 4 => inRange svid 120 158
  | _ => false

/-- Insert a satellite in descending order of elevation. -/
def insertSat (q : SatRow) : List SatRow → List SatRow
  | [] => [q]
  | x :: t => if x.elevation.toInt < q.elevation.toInt then q :: x :: t else x :: insertSat q t

/-- The satellites an antenna allocates, by descending elevation: those of enabled systems above elevation_mask, of SBAS at
most three, on ANT1 (R224, R225). -/
def allocSats (rec : Bytes) (k : Nat) (sats : List SatRow) : List SatRow :=
  let ok := sats.filter fun q =>
    (rd rec 1 1).testBit q.system.toNat && svidOk q.system.toNat q.svid.toNat
      && decide (((rd rec 2 1 : Nat) : Int) < q.elevation.toInt) && (q.system != 4 || k == 0)
  let sorted := ok.foldl (fun l q => insertSat q l) []
  let sbas := (sorted.filter fun q => q.system == 4).take 3
  (sorted.filter fun q => q.system != 4 || sbas.contains q).take 96

/-- The signals an antenna's 96 channels take: the band-1 signal of every satellite, then the band-2 signals (R225). -/
def allocSignals (sats : List SatRow) : List (Nat × Nat) :=
  ((sats.map fun (q : SatRow) => (2 * q.system.toNat, q.svid.toNat))
    ++ (sats.filter fun (q : SatRow) => q.system != 4).map fun (q : SatRow) => (2 * q.system.toNat + 1, q.svid.toNat)).take 96

/-- A channel of an antenna. -/
def Antenna.ch (x : Antenna) (c : Nat) : GnssCh := Tab.get {} x.chan c

/-- The channel holds a signal: in lock, or in search of it (R237). -/
def GnssCh.holds (c : GnssCh) : Bool := c.lock || c.search

/-- A measurement fits the allocation: its signal is allocated, and its channel is in lock on it, or is free with no other
channel holding the signal (R225). -/
def Antenna.admits (x : Antenna) (signals : List (Nat × Nat)) (q : GnssMeas) : Bool :=
  let s := (q.signal.toNat, q.svid.toNat)
  let c := x.ch q.chan
  decide (q.chan < 96) && signals.contains s
    && if c.holds then c.lock && (c.sig, c.svid) == s else x.chan.all fun p => !p.2.holds || (p.2.sig, p.2.svid) != s

/-- The C/N0 latched of a signal in dB-Hz, 0 where it is not tracked. -/
def cn0Of (ms : List GnssMeas) (sig svid : Nat) : Nat :=
  match ms.find? fun q => q.signal.toNat == sig && q.svid.toNat == svid with
  | some q => min 255 (q.cn0.toNat / 100)
  | none => 0

/-- One measurement is latched, with its channel's lock and SLIP as they are at the epoch; SLIP is of this epoch only
(R226, R237). -/
def Antenna.take (x : Antenna) (signals : List (Nat × Nat)) (raw : Nat) (q : GnssMeas) : Antenna :=
  if x.admits signals q && !(x.meas.any fun p => p.chan == q.chan) then
    let c := x.ch q.chan
    let c := if c.lock then c else { c with lock := true, lockRaw := raw, sig := q.signal.toNat, svid := q.svid.toNat }
    { x with chan := Tab.put {} x.chan q.chan { c with slip := false }, meas := x.meas ++ [q], epochChan := Tab.put {} x.epochChan q.chan c }
  else x

/-- What an epoch does to an antenna: channels are allocated, those measured are in lock, and their records are latched
(R225, R226). -/
def Antenna.latch (x : Antenna) (rec : Bytes) (k raw : Nat) (meas : List GnssMeas) (sats : List (Nat × SatRow)) : Antenna :=
  if !x.enabled then { x with meas := [], epochChan := [], sats := [] }
  else
    let rows := allocSats rec k ((sats.filter fun p => p.1 == k).map (·.2))
    let signals := allocSignals rows
    let x := { x with meas := [], epochChan := [], chan := x.chan.filter fun p => !p.2.holds || signals.contains (p.2.sig, p.2.svid) }
    let x := (meas.filter fun q => q.ant == k).foldl (fun (x : Antenna) q => x.take signals raw q) x
    { x with sats := rows.map fun q =>
        let c := fun (band : Nat) => cn0Of x.meas (2 * q.system.toNat + band) q.svid.toNat
        { q with use := q.use &&& 7, cn1 := BitVec.ofNat 8 (c 0), cn2 := BitVec.ofNat 8 (if q.system = 4 then 0 else c 1) } }

/-- An antenna latches an epoch; NO_SIGNAL ends where a channel locks (R237). -/
def Mod.latchAnt (m : Mod) (k raw : Nat) (meas : List GnssMeas) (sats : List (Nat × SatRow)) : Mod :=
  let x := (m.ant k).latch m.gnssRec k raw meas sats
  if x.noSignal && decide (0 < x.tracked) then (m.setAnt k { x with noSignal := false }).antEv k 4 false else m.setAnt k x

/-- A correction event, EV099 (R242). -/
def Mod.corrEv (m : Mod) (code : Nat) (on : Bool) : Mod := m.ev 99 0 code on

/-- Correction age at the last epoch in raw counts (R230). -/
def Gnss.corrAge (g : Gnss) : Option Nat := g.refRaw.map fun r => g.epochRaw - r

/-- The correction age at the last epoch is beyond corr_max_age: CORR_AGED (R230). -/
def Mod.corrAged (m : Mod) : Bool :=
  match m.gnss.corrAge with
  | some a => decide (rd m.gnssRec 12 2 * 12500000 < a)
  | none => false

/-- A receiver epoch takes the reference epoch completed since the one before, and judges the correction age: EV099 tells
where an age beyond corr_max_age begins and ends (R230, R242). -/
def Mod.takeRef (m : Mod) : Mod :=
  let m := match m.gnss.refPend with
    | none => m
    | some r =>
      let first := m.gnss.refRaw.isNone
      let m := { m with gnss := { m.gnss with refRaw := some r, refPend := none } }
      if first then m.corrEv 1 true else m
  let aged := m.corrAged
  if aged = m.gnss.aged then m else Mod.corrEv { m with gnss := { m.gnss with aged := aged } } 2 aged

/-- A changed baseline_mm or heading_offset starts the heading solution again (0x0A03). -/
def Mod.takeRecord (m : Mod) (rate : Nat) : Mod :=
  let old := m.gnssRec
  let new := m.gnssWritten
  let again := rd old 14 2 != rd new 14 2 || rd old 16 4 != rd new 16 4
  { m with gnss := { m.gnss with rate := rate, inForce := new, headFloat := m.gnss.headFloat || again } }

/-- ENABLE or DISABLE acts at the epoch; else the bias follows the record. -/
def Mod.antAsk (m : Mod) (k : Nat) : Mod :=
  match (m.ant k).ask with
  | some true => (m.setAnt k { m.ant k with ask := none }).antOn k
  | some false => (m.setAnt k { m.ant k with ask := none }).antOff k
  | none => m.biasNow k

/-- Rate at an epoch: a new rate takes effect at a multiple of 800 after the command (R226). -/
def Mod.rateAt (m : Mod) (n : Nat) : Nat :=
  if n % 800 = 0 ∧ (m.gnss.rateFrame < n ∨ n = 0) then rd m.gnssWritten 0 1 else m.gnss.rate

/-- The epoch at the present frame: the record takes force, commands act, and both antennas latch (R226). -/
def Mod.epoch (m : Mod) (meas : List GnssMeas) (sats : List (Nat × SatRow)) : Mod :=
  let raw := m.lanes.frameRaw
  let m := ((m.takeRecord (m.rateAt m.lanes.frame)).antAsk 0).antAsk 1
  let m := { m with gnss := { m.gnss with epochRaw := raw, epochFrame := m.lanes.frame, epochOpen := true, pvtOpen := true,
                                          epochStep := m.gnss.clockStep, clockStep := false, stepSince := 0 } }
  ((m.latchAnt 0 raw meas sats).latchAnt 1 raw meas sats).takeRef

/-- GNSS_EPOCH: at an epoch's frame the record takes force, commands act, and every tracked channel is latched. -/
def execGnssEpoch (meas : List GnssMeas) (sats : List (Nat × SatRow)) (s : State) : Host.Outcome State Fault Refusal := s.act fun m =>
  let n := m.lanes.frame
  if !m.pd 8 || !m.lanes.started || n % epochFrames (m.rateAt n) != 0
      || (m.gnss.epochRaw == m.lanes.frameRaw && m.gnss.epochRaw != 0) then m
  else m.epoch meas sats

/-- c × (t_rx − t_tx) in metres: t_rx the module time of the epoch less 19 s, in 2^−16 ns (R227). -/
def pseudorange (trx txTime : Int) : F64 :=
  D.ofRat (299792458 * ((trx - 19 * unitsPerSec) * 65536 - txTime)) (1000000000 * 2 ^ 32)

/-- A clock bias carried on to a raw count: the drift since its epoch (1 ppb is 1 ns a second) and the steps of module
time since (R227, R228) (log entry 43). -/
def ClkSol.at (c : ClkSol) (raw : Nat) : F64 :=
  let b : Int := D.scaled c.bias * (125000000 * 65536)
  let d : Int := S.scaled c.drift * ((raw - c.raw : Nat) : Int) * 2 ^ (1074 - 149) * 65536
  let s : Int := c.step * 2 ^ 1074 * 125000000
  if D.isFin c.bias && S.isFin c.drift then D.ofRat (b + d + s) (2 ^ 1074 * 125000000 * 65536)
  else BitVec.ofNat 64 (qnan fmt64)

/-- clk_bias of an antenna at the last epoch, with the steps up to it, quiet NaN before its first solution (R228). -/
def Mod.clkBias (m : Mod) (k : Nat) : F64 :=
  match (Tab.get none (m.gnss.clk.map fun p => (p.1, some p.2)) k : Option ClkSol) with
  | some c => ClkSol.at { c with step := c.step - m.gnss.stepSince } m.gnss.epochRaw
  | none => BitVec.ofNat 64 (qnan fmt64)

/-- A measurement record (Table 09-3). -/
def measBytes (q : GnssMeas) (c : GnssCh) (raw : Nat) (trx : Int) : Bytes :=
  let valid := q.flags.toNat.testBit 1
  le 1 q.signal.toNat ++ le 1 q.svid.toNat ++ le 1 q.chan ++ [0] ++ le 8 (pseudorange trx q.txTime).toNat
    ++ le 8 (if valid then q.phase.toNat else 0) ++ le 4 q.doppler.toNat ++ le 2 q.cn0.toNat
    ++ le 2 (sat16 ((raw - c.lockRaw) / 1250000))
    ++ le 2 (Nat.land q.flags.toNat 0x17 + b2n c.slip * 8) ++ zeros 2

/-- Pub_time of an epoch in ns (R228, R239). -/
def Mod.epochNs (m : Mod) : Nat := ((m.time.conv m.gnss.epochRaw).1 / 65536).toNat

/-- The entries of one antenna (Table 09-2) (log entry 43). -/
def Mod.publishEpoch (m : Mod) (k : Nat) : Mod :=
  let x := m.ant k
  let g := m.gnss
  let parts := max 1 ((x.meas.length + 23) / 24)
  let bias := (m.clkBias k).toNat
  let trx := (m.time.conv g.epochRaw).1
  let fault := x.opened || x.short || x.latched
  let ext := (m.time.conv g.epochRaw).2
  let m := foldN parts (fun (m : Mod) p =>
    let ms := (x.meas.drop (24 * p)).take 24
    m.publishAt 10 0 1 m.epochNs (le 8 g.epochRaw ++ le 8 g.epochFrame ++ le 1 k ++ le 1 p ++ le 1 parts ++ le 1 ms.length
      ++ le 2 (b2n g.epochStep + b2n fault * 2 + b2n ext * 4) ++ zeros 2 ++ le 8 bias
      ++ ms.flatMap fun q => measBytes q (Tab.get {} x.epochChan q.chan) g.epochRaw trx)) m
  m.setAnt k { x with epochs := inc32 x.epochs }

/-- GNSS_EPOCH_PUBLISH (R228): ANT1's entries, then ANT2's. -/
def execGnssEpochPublish (s : State) : Host.Outcome State Fault Refusal := s.act fun m =>
  if !m.pd 8 || !m.gnss.epochOpen then m
  else (Mod.publishEpoch { m with gnss := { m.gnss with epochOpen := false } } 0).publishEpoch 1

/-! ### The solution (R233–R240) -/

/-- Corrections are in use: a reference epoch of the station in use, within corr_max_age (R230, R232). -/
def Mod.corrUsed (m : Mod) : Bool :=
  match m.gnss.corrAge with
  | some a => m.gnss.station.isSome && decide (a ≤ rd m.gnssRec 12 2 * 12500000)
  | none => false

/-- Satellites a solution uses, of those an antenna latched in band 1 (R234). -/
def solSats (q : AntSol) (ms : List GnssMeas) : List (Nat × Nat) :=
  q.used.eraseDups.filter fun s => ms.any fun p => p.signal.toNat == 2 * s.1 && p.svid.toNat == s.2

/-- Of those, the ones used dual-band: both signals at or above cn0_mask (R234). -/
def solDual (q : AntSol) (mask : Nat) (ms : List GnssMeas) : Nat :=
  let strong := fun (sig svid : Nat) => ms.any fun p =>
    p.signal.toNat == sig && p.svid.toNat == svid && decide (100 * mask ≤ p.cn0.toNat)
  ((solSats q ms).filter fun s => s.1 != 4 && strong (2 * s.1) s.2 && strong (2 * s.1 + 1) s.2).length

/-- Enough satellites for a solution: 4 plus one per additional system used (Table 09-5). -/
def enoughSats (sats : List (Nat × Nat)) : Bool :=
  decide (4 + ((sats.map (·.1)).eraseDups.length - 1) ≤ sats.length)

/-- The highest fix type whose condition holds on an antenna's solution (Table 09-5, R232, R234) (log entry 43). -/
def Mod.fixOf (m : Mod) (q : AntSol) (ms : List GnssMeas) : Nat :=
  let sats := solSats q ms
  let dual := solDual q (rd m.gnssRec 3 1) ms
  let corr := m.corrUsed
  -- on a new base no RTK type before float convergence
  let rtk := corr && (m.gnss.rtk == 0 || (m.gnss.rtk == 1 && decide (1 ≤ q.ambig)))
  if !enoughSats sats then 0
  else if rtk && q.ambig == 2 && decide (5 ≤ dual) then 5
  else if rtk then 4
  else if (rd m.gnssRec 1 1).testBit 4 && decide (4 ≤ min q.sbas sats.length) && (corr || decide (5 ≤ dual)) then 3
  else if 5 ≤ dual then 2
  else 1

/-- The vector's heading: its azimuth plus heading_offset, wrapped to [0, 2π) (R235) (log entry 43). -/
def headingSum (azimuth offset : F32) : F32 :=
  let turn : Int := D.scaled 0x401921FB54442D18
  let up : Int := 2 ^ (1074 - 149)
  let h := S.ofRat (((S.scaled azimuth + S.scaled offset) * up) % turn) (2 ^ 1074)
  if !S.isFin azimuth then BitVec.ofNat 32 (qnan fmt32) else if turn ≤ S.scaled h * up then 0 else h

/-- The baseline measured lies within baseline_tol of baseline_mm (R235). -/
def Mod.baselineOk (m : Mod) (b : F32) : Bool :=
  let d : Int := S.scaled b * 1000 - ((rd m.gnssRec 14 2 * 2 ^ 149 : Nat) : Int)
  S.isFin b && decide (d.natAbs ≤ rd m.gnssRec 20 2 * 2 ^ 149)

/-- A value that the fix type or heading status supports, else quiet NaN. -/
def orNan32 (ok : Bool) (v : F32) : Bytes := le 4 (if ok then v.toNat else qnan fmt32)

/-- As orNan32 for binary64. -/
def orNan64 (ok : Bool) (v : Nat) : Bytes := le 8 (if ok then v else qnan fmt64)

/-- What the epoch's solution comes to: which antenna, its fix type and that of each antenna, its heading. -/
structure PvtOut where
  onAnt2 : Bool
  fix : Nat
  /-- fix types on ANT1 and ANT2 -/
  fix1 : Nat
  fix2 : Nat
  status : Nat
  reject : Bool
  heading : F32
  sats : Nat
  dual : Nat
deriving DecidableEq, Repr

/-- Value and validity of a slot_map field (Table 09-9). -/
def pvtField (code : Nat) (o : PvtOut) (used : Bool) (age : Nat) (q : PvtIn) : BitVec 32 × Bool :=
  let nan : BitVec 32 := BitVec.ofNat 32 (qnan fmt32)
  let f := decide (1 ≤ o.fix)
  let hv := o.status == 2
  match code with
  | 1 => (if hv then o.heading else nan, hv)
  | 2 => (if f then q.sog else nan, f)
  | 3 => (w32 o.fix, true)
  | 4 => (if f then q.velN else nan, f)
  | 5 => (if f then q.velE else nan, f)
  | 6 => (if hv then q.pitch else nan, hv)
  | _ => (w32 age, used)

/-- The antenna a solution is formed from (R237): ANT2 once ANT1's has been NONE for 1 s while ANT2 has one, or while ANT1
is disabled; ANT1 again once its fix type has been at least ANT2's for 5 s. Marks since when either holds. -/
def Mod.choose (m : Mod) (fix1 fix2 : Nat) : Mod :=
  let g := m.gnss
  let out := if fix1 = 0 ∧ fix2 ≠ 0 then some (g.ant1Out.getD g.epochRaw) else none
  let back := if fix1 ≠ 0 ∧ fix2 ≤ fix1 then some (g.ant1Back.getD g.epochRaw) else none
  let since := fun (t : Option Nat) (n : Nat) => match t with | some r => decide (r + secs n ≤ g.epochRaw) | none => false
  let on2 := if !(m.ant 0).enabled && (m.ant 1).enabled then true else if g.onAnt2 then !since back 5 else since out 1
  { m with gnss := { g with ant1Out := out, ant1Back := back, onAnt2 := on2 } }

/-- Heading status of an epoch: FIXED within the tolerance, FLOAT, or NONE; a fixed vector outside it is rejected. The
vector is differenced between the measurements of both antennas, and ANT2 lost or faulted leaves none. A heading solution
that starts again is FLOAT first (R235, R237). -/
def Mod.headingOf (m : Mod) (q : PvtIn) : Nat × Bool :=
  if rd m.gnssRec 5 1 != 1 || (m.ant 0).meas.isEmpty || (m.ant 1).meas.isEmpty || (m.ant 1).faulted then (0, false)
  else match q.vector with
    | none => (0, false)
    | some false => (1, false)
    | some true => if m.gnss.headFloat then (1, false) else if m.baselineOk q.baseline then (2, false) else (0, true)

/-- The solution of the last epoch (R233–R235). -/
def Mod.solve (m : Mod) (q : PvtIn) : PvtOut :=
  let fix1 := m.fixOf q.ant1 (m.ant 0).meas
  let fix2 := m.fixOf q.ant2 (m.ant 1).meas
  let on2 := (m.choose fix1 fix2).gnss.onAnt2
  let ms := if on2 then (m.ant 1).meas else (m.ant 0).meas
  let a := if on2 then q.ant2 else q.ant1
  let h := m.headingOf q
  { onAnt2 := on2, fix := if on2 then fix2 else fix1, fix1 := fix1, fix2 := fix2, status := h.1, reject := h.2
    heading := headingSum q.azimuth (rdF m.gnssRec 16), sats := (solSats a ms).length, dual := solDual a (rd m.gnssRec 3 1) ms }

/-- flags of GNSS_PVT (Table 09-8). -/
def Mod.pvtFlags (m : Mod) (o : PvtOut) : Nat :=
  let f := decide (1 ≤ o.fix)
  b2n (f && decide (o.dual < 5)) + b2n m.corrAged * 2 + b2n (o.status == 2) * 4 + b2n m.gnss.epochStep * 8
    + b2n o.onAnt2 * 16 + b2n f * 32 + b2n o.reject * 64

/-- corr_age at the last epoch in 0.1 s, 0xFFFF with none. -/
def Gnss.age10 (g : Gnss) : Nat := match g.corrAge with | some a => min 0xFFFE (a / 12500000) | none => 0xFFFF

/-- ID of the station in use, 0xFFFF with none. -/
def Gnss.stationId (g : Gnss) : Nat := match g.station with | some p => p.1 | none => 0xFFFF

/-- The body of GNSS_PVT (Table 09-8). -/
def Mod.pvtBody (m : Mod) (o : PvtOut) (q : PvtIn) : Bytes :=
  let g := m.gnss
  let f := decide (1 ≤ o.fix)
  let hv := o.status == 2
  let a := if o.onAnt2 then q.ant2 else q.ant1
  le 8 g.epochRaw ++ le 8 g.epochFrame ++ le 1 o.fix ++ le 1 o.status ++ le 2 (m.pvtFlags o)
    ++ orNan64 f q.lat.toNat ++ orNan64 f q.lon.toNat ++ orNan64 f q.height.toNat
    ++ orNan32 f q.velN ++ orNan32 f q.velE ++ orNan32 f q.velU ++ orNan32 f q.sdH ++ orNan32 f q.sdV ++ orNan32 f q.sdVel
    ++ orNan32 hv o.heading ++ orNan32 hv q.pitch ++ orNan32 hv q.baseline ++ orNan32 hv q.sdHeading
    ++ orNan64 f a.clkBias.toNat ++ orNan32 f a.clkDrift ++ le 2 g.age10 ++ le 2 g.stationId
    ++ le 1 o.sats ++ le 1 o.dual ++ le 1 (m.ant 0).tracked ++ le 1 (m.ant 1).tracked ++ le 2 q.pdop.toNat ++ zeros 2

/-- A clock solution is kept for the antenna that has one, with the steps of module time since its epoch. -/
def Gnss.keepClk (g : Gnss) (k fix : Nat) (q : AntSol) : Gnss :=
  if fix = 0 then g else { g with clk := (g.clk.filter fun p => p.1 != k) ++ [(k, { raw := g.epochRaw, bias := q.clkBias, drift := q.clkDrift,
                                                                                        step := g.stepSince })] }

/-- What the receiver keeps of a solution: fix and heading, clock solutions, the retention memory, and how far RTK and
heading have converged (R232, R238). -/
def Mod.keepSol (m : Mod) (o : PvtOut) (q : PvtIn) : Mod :=
  let g := m.gnss
  let f := decide (1 ≤ o.fix)
  let a := if o.onAnt2 then q.ant2 else q.ant1
  let g := { g with
    pvtOpen := false, pvtRaw := g.epochRaw, fix := o.fix, heading := o.status, flags := BitVec.ofNat 16 (m.pvtFlags o), headingOut := o.heading
    timeLostRaw := if o.fix = 0 ∧ g.fix ≠ 0 then some m.now else g.timeLostRaw
    hasEph := g.hasEph || f, hasAlm := g.hasAlm || f
    last := if f then some { raw := g.epochRaw, secs := m.epochNs / 1000000000, lat := q.lat, lon := q.lon, height := q.height,
                             velN := q.velN, velE := q.velE } else g.last
    headFloat := g.headFloat && !(q.vector.isSome && o.status == 1)
    rtk := if g.rtk = 2 then 1 else if g.rtk = 1 && decide (4 ≤ o.fix) && decide (1 ≤ a.ambig) then 0 else g.rtk }
  Mod.seeSources { m with gnss := (g.keepClk 0 o.fix1 q.ant1).keepClk 1 o.fix2 q.ant2 }

/-- The slots of slot_map are written, in order (R240). -/
def Mod.pvtSlots (m : Mod) (o : PvtOut) (used : Bool) (age : Nat) (q : PvtIn) : Mod :=
  foldN 8 (fun (m : Mod) k =>
    let slot := rd m.gnssRec (24 + 2 * k) 1
    let code := rd m.gnssRec (25 + 2 * k) 1
    if code = 0 then m
    else let p := pvtField code o used age q; m.fxPut 3 slot p.1 p.2) m

/-- The solution of the epoch is formed, published and written to the slots (R233–R240); EV098 where the fix type or the
heading status changed (R242). -/
def Mod.pvt (m : Mod) (q : PvtIn) : Mod :=
  let o := m.solve q
  let m := m.choose o.fix1 o.fix2
  let used := m.corrUsed
  let age := m.gnss.age10
  let body := m.pvtBody o q
  let changed := o.fix != m.gnss.fix || o.status != m.gnss.heading
  let m := m.keepSol o q
  let m := if changed then m.ev 98 o.fix o.status (decide (1 ≤ o.fix) && decide (o.dual < 5)) else m
  (m.publishAt 10 1 2 m.epochNs body).pvtSlots o used age q

/-- GNSS_PVT: the solution of the epoch is published, and the slots of slot_map are written (R239, R240). -/
def execGnssPvt (q : PvtIn) (s : State) : Host.Outcome State Fault Refusal := s.act fun m =>
  if !m.pd 8 || !m.gnss.pvtOpen then m else m.pvt q

/-- ANT2_FALLBACK (R237): the solution moves to ANT2 when ANT1's has been NONE for 1 s while ANT2 has one, and back when
ANT1's fix type has been at least ANT2's for 5 s. -/
def execAnt2Fallback (toAnt2 : Bool) (s : State) : Host.Outcome State Fault Refusal := s.act fun m =>
  match m.pd 8 && m.gnss.onAnt2 != toAnt2, if toAnt2 then m.gnss.ant1Out else m.gnss.ant1Back with
  | true, some r =>
    let m := m.until (r + secs (if toAnt2 then 1 else 5))
    { m with gnss := { m.gnss with onAnt2 := toAnt2 } }
  | _, _ => m

/-! ### Corrections (R229–R232) -/

/-- CRC-24Q (R229) (log entry 41). -/
def crc24q (bs : Bytes) : Nat := crcL 24 0x864CFB 0 bs

/-- `n` bits of a message from bit `off`, the most significant first (RTCM 3.3) (log entry 41). -/
def msgBits (bs : Bytes) (off n : Nat) : Nat :=
  (List.range n).foldl (fun v k =>
    let i := off + k
    2 * v + b2n ((bs.getD (i / 8) 0).toNat.testBit (7 - i % 8))) 0

/-- Length of the payload of a transport frame at the head of the bytes. -/
def rtcmLen (bs : Bytes) : Nat := (rd bs 1 1 % 4) * 256 + rd bs 2 1

/-- A whole transport frame passes its CRC-24Q. -/
def rtcmSound (f : Bytes) : Bool :=
  let n := rtcmLen f
  decide (f.length = n + 6) && rd f 0 1 == 0xD3
    && crc24q (f.take (n + 3)) == msgBits f (8 * (n + 3)) 24

/-- Cut transport frames off a byte stream: the frames, sound or not, and the rest. After a frame that fails, the parser
resynchronises at the next 0xD3. -/
def cutRtcm : Nat → Bytes → List Bytes × Bytes
  | 0, b => ([], b)
  | n + 1, b =>
    let b := b.dropWhile fun x => x != 0xD3
    let len := rtcmLen b + 6
    if b.length < 3 ∨ b.length < len then ([], b)
    else
      let f := b.take len
      let rest := if rtcmSound f then b.drop len else b.drop 1
      let r := cutRtcm n rest
      (f :: r.1, r.2)

/-- Messages of Table 09-4. -/
def rtcmUsed (msg : Nat) : Bool :=
  [1005, 1006, 1033, 1074, 1077, 1094, 1097, 1114, 1117, 1124, 1127].contains msg

/-- Position of a 1005 or 1006 message, X, Y, Z in 0.1 mm (log entry 41). -/
def stationPos (p : Bytes) : List Int :=
  [34, 74, 114].map fun off => toSigned 38 (msgBits p off 38)

/-- Two station positions lie within 0.10 m. -/
def posNear (a b : List Int) : Bool :=
  decide ((List.zipWith (fun x y => (x - y) * (x - y)) a b).foldl (· + ·) 0 ≤ 1000000)

/-- A reference station message (R232): a different station or place starts a new base. Its ambiguities are dropped, and
corrections wait for a reference epoch of it. -/
def Mod.stationMsg (m : Mod) (p : Bytes) : Mod :=
  let id := msgBits p 12 12
  let same := match m.gnss.station with
    | none => true
    | some q => q.1 == id && posNear (stationPos q.2) (stationPos p)
  if same then { m with gnss := { m.gnss with station := some (id, p) } }
  else Mod.corrEv { m with gnss := { m.gnss with
    station := some (id, p), refRaw := none, refPend := none, refId := none, asmCcp := {}, asmCan := {}, rtk := 2 } } 3 true

/-- Time of week of the present instant in GPS time, ms: module time less 19 s (R227), counted from 2000-01-01, a
Saturday (R35). -/
def Mod.gpsTowMs (m : Mod) : Int := (m.mt / 65536000000 + 518381000) % 604800000

/-- One epoch time follows another within half a week. -/
def towAfter (a b : Nat) : Bool := inRange ((a + 604800000 - b) % 604800000) 1 302399999

/-- A reference epoch is complete: the next receiver epoch takes it, and its age runs from its instant (R230). Of two copies
the first is taken (R231), and so is no epoch older than the last. -/
def Mod.refEpoch (m : Mod) (station tow : Nat) : Mod :=
  let fresh := match m.gnss.refId with | some p => p.1 != station || towAfter tow p.2 | none => true
  if fresh then
    let age := (m.gpsTowMs - (tow : Int)) % 604800000
    let ageMs := if age < 302400000 then age.toNat else 0
    { m with gnss := { m.gnss with refPend := some (m.now - ms ageMs), refId := some (station, tow) } }
  else m

/-- Every system the station sends is there: those seen in this epoch and those of the epoch before. -/
def RefAsm.whole (x : RefAsm) : Bool :=
  match x.sends with
  | some l => (l ++ x.seen).all fun k => x.done.contains k
  | none => false

/-- An MSM message of a system: the epoch it belongs to, and the epoch that ends with it where its time is later. Until a
station's systems are known from a whole epoch, that epoch is complete when the next one begins (R230) (log entry 43). -/
def RefAsm.msm (x : RefAsm) (station tow system : Nat) (final : Bool) : RefAsm × Option (Nat × Nat) :=
  let id := (station, tow)
  let late := match x.id with | some p => p.1 == station && p.2 != tow && !towAfter tow p.2 | none => false
  if late then (x, none)
  else
    let sameEpoch := x.id == some id
    let sameStation := match x.id with | some p => p.1 == station | none => false
    let ended := if !sameEpoch && sameStation && x.sends.isNone && x.seen.all fun k => x.done.contains k then x.id else none
    let x := if sameEpoch then x
      else { id := some id, sends := if sameStation then some x.seen else none }
    ({ x with seen := if x.seen.contains system then x.seen else x.seen ++ [system]
              done := if final && !x.done.contains system then x.done ++ [system] else x.done }, ended)

/-- An MSM message of the station in use, from a source (R230–R232). -/
def Mod.msm (m : Mod) (can : Bool) (station tow system : Nat) (final : Bool) : Mod :=
  match m.gnss.station with
  | none => m
  | some p =>
    if p.1 ≠ station then m
    else
      let r := (if can then m.gnss.asmCan else m.gnss.asmCcp).msm station tow system final
      let m := { m with gnss := if can then { m.gnss with asmCan := r.1 } else { m.gnss with asmCcp := r.1 } }
      let m := match r.2 with | some e => m.refEpoch e.1 e.2 | none => m
      if r.1.whole && r.1.id == some (station, tow) then m.refEpoch station tow else m

/-- System of an MSM message of Table 09-4. -/
def msmSystem (msg : Nat) : Nat :=
  if msg < 1090 then 0 else if msg < 1110 then 1 else if msg < 1120 then 3 else 2

/-- A transport frame is used, counted as unsupported, or discarded (R229). -/
def Mod.rtcm (m : Mod) (can : Bool) (f : Bytes) : Mod :=
  if !rtcmSound f then Mod.corrEv { m with gnss := { m.gnss with corrErrors := inc32 m.gnss.corrErrors } } 4 true
  else
    let p := (f.drop 3).take (rtcmLen f)
    let msg := msgBits p 0 12
    if !rtcmUsed msg then
      Mod.corrEv { m with gnss := { m.gnss with corrUnsupported := inc32 m.gnss.corrUnsupported } } 6 true
    else
      let m := { m with gnss := { m.gnss with corrFrames := inc32 m.gnss.corrFrames } }
      if msg = 1005 ∨ msg = 1006 then m.stationMsg p
      else if msg = 1033 then m
      else
        let tow := msgBits p 24 30
        m.msm can (msgBits p 12 12) (if msg = 1124 ∨ msg = 1127 then (tow + 14000) % 604800000 else tow)
          (msmSystem msg) (msgBits p 54 1 == 0)

/-- Stream bytes of a source are parsed: the frames cut off are taken in order; the rest is kept. -/
def Mod.stream (m : Mod) (can : Bool) (bs : Bytes) : Mod × List Bytes :=
  let b := (if can then m.gnss.bufCan else m.gnss.bufCcp) ++ bs
  let r := cutRtcm b.length b
  let m := { m with gnss := if can then { m.gnss with bufCan := r.2 } else { m.gnss with bufCcp := r.2 } }
  (r.1.foldl (fun m f => Mod.rtcm m can f) m, r.1)

/-- The source is selected by corr_src (R231). -/
def Mod.corrFrom (m : Mod) (can : Bool) : Bool :=
  let k := rd m.gnssRec 6 1
  k == 3 || k == (if can then 2 else 1)

/-- RTCM_FRAME (R229). -/
def execRtcmFrame (can : Bool) (frame : Bytes) (s : State) : Host.Outcome State Fault Refusal := s.act fun m =>
  if m.pd 8 && m.corrFrom can then m.rtcm can frame else m

/-- A CAN frame of the correction stream: a sequence count, then stream bytes; a gap discards the frame being assembled
(R231). -/
def Mod.rtcmCan (m : Mod) (data : Bytes) : Mod :=
  if !m.pd 8 || !m.corrFrom true then m else
  match data with
  | [] => m
  | sq :: rest =>
    let gap := match m.gnss.canSeq with | some q => sq != q + 1 | none => false
    let m := { m with gnss := { m.gnss with canSeq := some sq } }
    let m := if gap then
        Mod.corrEv { m with gnss := { m.gnss with bufCan := [], corrErrors := inc32 m.gnss.corrErrors } } 5 true
      else m
    (m.stream true rest).1

/-- RTCM_CAN_FRAME (R231) (log entry 43). -/
def execRtcmCanFrame (data : Bytes) (s : State) : Host.Outcome State Fault Refusal := s.act fun m => m.rtcmCan data

/-- A CAN frame carries the correction stream: received on can_chan with identifier can_id (R231). -/
def Mod.isRtcmCan (m : Mod) (ch : Nat) (f : CanFrame) : Bool :=
  let id := rd m.gnssRec 8 4
  ch == rd m.gnssRec 7 1 && bits f.idw.toNat 0 29 == bits id 0 29 && f.idw.getLsbD 29 == id.testBit 31 && !f.idw.getLsbD 30

/-- The channel takes a frame off its bus (R328). -/
def Mod.canHears (m : Mod) (ch : Nat) : Bool :=
  decide (ch < 8) && m.pd 10 && ((m.canCh ch).st == 1 || (m.canCh ch).st == 2)

/-- CORR_AGED: the time since the reference epoch passes corr_max_age; each epoch's own age decides what its solution uses
(R230). -/
def execCorrAged (s : State) : Host.Outcome State Fault Refusal := s.act fun m =>
  match m.gnss.refRaw with
  | none => m
  | some r =>
    if !m.pd 8 || m.gnss.aged then m
    else
      let m := m.until (r + rd m.gnssRec 12 2 * 12500000 + 1)
      Mod.corrEv { m with gnss := { m.gnss with aged := true } } 2 true

/-! ### Antenna and channel events (R222, R237) -/

/-- The channels of an antenna lose lock at a raw count and search; what they had latched is omitted (R237, R241). -/
def Antenna.loseAll (x : Antenna) (raw : Nat) : Antenna :=
  { x with meas := [], epochChan := [], chan := x.chan.map fun p =>
      (p.1, if p.2.lock then { p.2 with lock := false, search := true, lockRaw := raw } else p.2) }

/-- A SHORT: the bias goes off, and the fifth within 60 s latches it off (R222). -/
def Mod.antShort (m : Mod) (k : Nat) : Mod :=
  let x := m.ant k
  let shorts := m.now :: x.shorts.filter fun t => m.now < t + secs 60
  let latch := decide (5 ≤ shorts.length)
  let m := if x.opened then m.antEv k 1 false else m
  let m := m.setAnt k ({ x with opened := false, short := true, bias := false, shorts := shorts, latched := latch }.loseAll m.now)
  let m := m.antEv k 2 true
  if latch then m.antEv k 3 true else m

/-- ANT_BIAS_FAULT (R222): OPEN keeps the bias and ends when the current returns; a SHORT switches the bias off. -/
def execAntBiasFault (k : Nat) (cond : BiasCond) (s : State) : Host.Outcome State Fault Refusal := s.act fun m =>
  let x := m.ant k
  if 1 < k ∨ !m.pd 8 ∨ !x.bias then m
  else match cond with
    | .opened => if x.opened then m else (m.setAnt k { x with opened := true }).antEv k 1 true
    | .restored => if x.opened then (m.setAnt k { x with opened := false }).antEv k 1 false else m
    | .short => m.antShort k

/-- ANT_BIAS_RETRY: 1 s after a SHORT the bias is tried again unless it is latched (R222). -/
def execAntBiasRetry (k : Nat) (s : State) : Host.Outcome State Fault Refusal := s.act fun m =>
  let x := m.ant k
  if 1 < k ∨ !m.pd 8 ∨ !x.short ∨ x.latched then m
  else
    let m := m.until ((x.shorts.headD 0) + secs 1)
    ((m.setAnt k { x with short := false }).biasNow k).antEv k 2 false

/-- LOCK_LOST: the channel keeps its signal and searches (R237). -/
def execLockLost (k chan : Nat) (s : State) : Host.Outcome State Fault Refusal := s.act fun m =>
  let x := m.ant k
  if 1 < k ∨ !m.pd 8 ∨ !(Tab.get {} x.chan chan : GnssCh).lock then m
  else m.setAnt k { x with chan := Tab.upd {} x.chan chan fun (c : GnssCh) => { c with lock := false, search := true, lockRaw := m.now } }

/-- SEARCH_TIMEOUT: after 10 s without lock the channel returns to allocation (R237). -/
def execSearchTimeout (k chan : Nat) (s : State) : Host.Outcome State Fault Refusal := s.act fun m =>
  let x := m.ant k
  let c : GnssCh := Tab.get {} x.chan chan
  if 1 < k ∨ !m.pd 8 ∨ !c.search then m
  else (m.until (c.lockRaw + secs 10)).setAnt k { x with chan := Tab.put {} x.chan chan {} }

/-- NO_SIGNAL: every channel of the antenna out of lock for 1 s (R237). -/
def execNoSignal (k : Nat) (s : State) : Host.Outcome State Fault Refusal := s.act fun m =>
  let x := m.ant k
  if 1 < k ∨ !m.pd 8 ∨ !x.enabled ∨ x.noSignal ∨ 0 < x.tracked then m
  else
    let last := x.chan.foldl (fun t p => max t p.2.lockRaw) 0
    let m := if x.chan.isEmpty then m else m.until (last + secs 1)
    (m.setAnt k { x with noSignal := true }).antEv k 4 true

/-- REACQUISITION: a channel in search locks again; lock_time restarts and SLIP is set in its first epoch (R237). -/
def execReacquisition (k chan : Nat) (s : State) : Host.Outcome State Fault Refusal := s.act fun m =>
  let x := m.ant k
  let c := x.ch chan
  if 1 < k ∨ 95 < chan ∨ !m.pd 8 ∨ !x.enabled ∨ !c.search then m
  else
    let m := m.setAnt k { x with
      chan := Tab.put {} x.chan chan { c with lock := true, search := false, lockRaw := m.now, slip := true }, noSignal := false }
    if x.noSignal then m.antEv k 4 false else m

/-! ### GNSS class operations -/

/-- 0x0A01 -/
def opGnssGetInfo : Op := opInfo 10 2

/-- 0x0A02 -/
def opGnssGetStatus : Op where
  len := exactly 0
  insts := 2
  body := fun c m =>
    let g := m.gnss
    let x := m.ant c.inst.toNat
    let d := m.draw
    let st := b2n x.bias + b2n x.opened * 2 + b2n x.short * 4 + b2n x.latched * 8 + b2n x.noSignal * 16
    Res.ok d.2 (le 1 g.fix ++ le 1 g.heading ++ le 2 g.flags.toNat ++ le 1 st ++ le 1 x.tracked ++ le 2 d.1.toNat
      ++ le 4 g.corrFrames ++ le 4 g.corrErrors ++ le 4 g.corrUnsupported
      ++ le 2 g.age10 ++ le 2 g.stationId ++ le 4 x.epochs ++ zeros 4 ++ le 8 g.epochRaw)

/-- A record of 0x0A03 is legal (log entry 43). -/
def gnssRecordOk (r : Bytes) : Bool :=
  let id := rd r 8 4
  decide (rd r 0 1 ≤ 2) && decide (rd r 1 1 ≤ 31) && decide (rd r 2 1 ≤ 30) && inRange (rd r 3 1) 20 45
    && decide (rd r 4 1 ≤ 3) && decide (rd r 5 1 ≤ 1) && decide (rd r 6 1 ≤ 3) && decide (rd r 7 1 ≤ 7)
    && decide (bits id 30 29 = 0) && (id.testBit 31 || decide (id < 2048))
    && inRange (rd r 12 2) 10 600 && inRange (rd r 14 2) 500 3000 && S.isFin (rdF r 16)
    && decide ((S.abs (rdF r 16)).toNat ≤ 0x40490FDB) && inRange (rd r 20 2) 10 200 && isZero r 22 2
    && (List.range 8).all fun k => decide (rd r (24 + 2 * k) 1 ≤ 247) && decide (rd r (25 + 2 * k) 1 ≤ 7)

/-- 0x0A03: the rate changes under R226, every other field at the next epoch. -/
def opGnssSetConfig : Op where
  len := exactly 40
  insts := 2
  only := some 0
  body := fun c m =>
    let r := slice c.params 0 40
    if gnssRecordOk r then
      let held := m.gnssRec
      let m := { m with gnss := { m.gnss with
        rateFrame := m.lanes.frame, inForce := if m.gnss.epochRaw = 0 then [] else held } }
      Res.ok ((m.setCfg 0x0A03 0 r).markSet 0)
    else Res.err m St.badParam

/-- 0x0A04 -/
def opGnssGetConfig : Op := { len := exactly 0, insts := 2, only := some 0, body := fun _ m => Res.ok m (patch m.gnssRec 0 (le 1 m.gnss.rate)) }

/-- 0x0A05: from the next epoch. -/
def opGnssEnable : Op where
  len := exactly 0
  insts := 2
  body := fun c m => let k := c.inst.toNat; Res.ok (m.setAnt k { m.ant k with ask := some true })

/-- 0x0A06: from the next epoch. -/
def opGnssDisable : Op where
  len := exactly 0
  insts := 2
  body := fun c m => let k := c.inst.toNat; Res.ok (m.setAnt k { m.ant k with ask := some false })

/-- 0x0A07: the antenna is disabled from the next epoch; its latch and counts are cleared. -/
def opGnssResetInstance : Op where
  len := exactly 0
  insts := 2
  body := fun c m =>
    let k := c.inst.toNat
    let x := m.ant k
    let m := m.setAnt k { x with ask := some false, latched := false, shorts := [], epochs := 0 }
    let m := if x.latched then m.antEv k 3 false else m
    let held := m.gnssRec
    let m := { m with gnss := { m.gnss with
      corrFrames := 0, corrErrors := 0, corrUnsupported := 0, rateFrame := m.lanes.frame,
      inForce := if m.gnss.epochRaw = 0 then [] else held } }
    Res.ok (m.restore 0 0x0A03 0)

/-- 0x0A10 (R229) -/
def opSendRtcm : Op where
  len := fun c => 4 ≤ c.plen.toNat && c.plen.toNat == 4 + rd c.params 0 2
  insts := 2
  only := some 0
  body := fun c m =>
    let n := rd c.params 0 2
    if !inRange n 1 236 ∨ !isZero c.params 2 2 then Res.err m St.badParam
    else if !m.corrFrom false then Res.err m St.notReady
    else if 8192 < m.gnss.bufCcp.length + n then Res.err m St.busy
    else
      let r := m.stream false (slice c.params 4 n)
      Res.ok r.1 (le 2 r.2.length ++ le 2 (r.2.filter fun f => !rtcmSound f).length)

/-- 0x0A11 -/
def opGetSats : Op where
  len := exactly 4
  insts := 2
  body := fun c m =>
    let sats := (m.ant c.inst.toNat).sats
    let first := rd c.params 0 1
    if !isZero c.params 1 3 ∨ (sats.length ≤ first ∧ sats.length ≠ 0) then Res.err m St.badParam
    else
      let r := (sats.drop first).take 29
      Res.ok m (le 1 r.length ++ le 1 sats.length ++ zeros 2 ++ r.flatMap fun q =>
        le 1 q.system.toNat ++ le 1 q.svid.toNat ++ le 1 q.elevation.toNat ++ le 1 q.use.toNat ++ le 2 q.azimuth.toNat
          ++ le 1 q.cn1.toNat ++ le 1 q.cn2.toNat)

/-- Tracking stops and restarts (0x0A12): 0 HOT, 1 WARM, 2 COLD. -/
def Mod.gnssRestart (m : Mod) (kind : Nat) : Mod :=
  let g := m.gnss
  let m := { m with gnss := { g with
      fix := 0, heading := 0, flags := 0, start := kind, hasEph := g.hasEph && kind == 0, hasAlm := g.hasAlm && kind != 2
      last := if kind = 2 then none else g.last, clk := if kind = 2 then [] else g.clk
      ant1Out := none, ant1Back := none
      timeLostRaw := if g.fix = 0 then g.timeLostRaw else some m.now } }
  let m := foldN 2 (fun (m : Mod) k => m.setAnt k { m.ant k with chan := [], meas := [], epochChan := [], sats := [] }) m
  let m := m.seeSources
  if g.fix ≠ 0 ∨ g.heading ≠ 0 then m.ev 98 0 0 false else m

/-- 0x0A12 (R238) -/
def opGnssRestart : Op where
  len := exactly 4
  insts := 2
  only := some 0
  body := fun c m =>
    if 2 < rd c.params 0 1 ∨ !isZero c.params 1 3 then Res.err m St.badParam
    else Res.ok (m.gnssRestart (rd c.params 0 1))

/-- GNSS_GET_INFO (R98). -/
def execGnssGetInfo (c : Cmd) (s : State) : Host.Outcome State Fault Refusal := s.act fun m => m.serve 0x0A01 opGnssGetInfo c
/-- GNSS_GET_STATUS (R233). -/
def execGnssGetStatus (c : Cmd) (s : State) : Host.Outcome State Fault Refusal := s.act fun m => m.serve 0x0A02 opGnssGetStatus c
/-- GNSS_SET_CONFIG (R226). -/
def execGnssSetConfig (c : Cmd) (s : State) : Host.Outcome State Fault Refusal := s.act fun m => m.serve 0x0A03 opGnssSetConfig c
/-- GNSS_GET_CONFIG (R226). -/
def execGnssGetConfig (c : Cmd) (s : State) : Host.Outcome State Fault Refusal := s.act fun m => m.serve 0x0A04 opGnssGetConfig c
/-- GNSS_ENABLE (R223). -/
def execGnssEnable (c : Cmd) (s : State) : Host.Outcome State Fault Refusal := s.act fun m => m.serve 0x0A05 opGnssEnable c
/-- GNSS_DISABLE (R237). -/
def execGnssDisable (c : Cmd) (s : State) : Host.Outcome State Fault Refusal := s.act fun m => m.serve 0x0A06 opGnssDisable c
/-- GNSS_RESET_INSTANCE (R222). -/
def execGnssResetInstance (c : Cmd) (s : State) : Host.Outcome State Fault Refusal := s.act fun m => m.serve 0x0A07 opGnssResetInstance c
/-- SEND_RTCM (R229). -/
def execSendRtcm (c : Cmd) (s : State) : Host.Outcome State Fault Refusal := s.act fun m => m.serve 0x0A10 opSendRtcm c
/-- GET_SATS (R225). -/
def execGetSats (c : Cmd) (s : State) : Host.Outcome State Fault Refusal := s.act fun m => m.serve 0x0A11 opGetSats c
/-- GNSS_RESTART (R238). -/
def execGnssRestart (c : Cmd) (s : State) : Host.Outcome State Fault Refusal := s.act fun m => m.serve 0x0A12 opGnssRestart c

/-- The GNSS class. -/
def gnssOps : List (Nat × Op) :=
  [(0x0A01, opGnssGetInfo), (0x0A02, opGnssGetStatus), (0x0A03, opGnssSetConfig), (0x0A04, opGnssGetConfig),
   (0x0A05, opGnssEnable), (0x0A06, opGnssDisable), (0x0A07, opGnssResetInstance), (0x0A10, opSendRtcm),
   (0x0A11, opGetSats), (0x0A12, opGnssRestart)]

end Sys2Proof.Machine
end

