-- ==== Sys2Proof/Machine/FuseMath.lean ====
section
/-! DEFINITION. The geometry of the Fusion Engine (chapter 10): mountings, places on the WGS 84 ellipsoid and the guidance
path. The spec gives the geometry and no formulas for it: those here, in binary64, are log entry 44. -/

namespace Sys2Proof.Machine

open Sys2Proof

/-- π and 2π, binary64. -/
def pi64 : F64 := 0x400921FB54442D18
def twoPi64 : F64 := 0x401921FB54442D18

/-- An angle difference wrapped to (−π, π]. -/
def wrapPi (d : F64) : F64 :=
  if D.lt pi64 d then D.sub d twoPi64
  else if D.le d (BitVec.ofNat 64 (fneg fmt64 pi64.toNat)) then D.add d twoPi64 else d

/-- A vector: forward, right and down in the body frame; north, east and down in the local frame. -/
structure Vec3 where
  x : F64
  y : F64
  z : F64
deriving DecidableEq, Repr

/-- Scalar product. -/
def Vec3.dot (a b : Vec3) : F64 := D.add (D.add (D.mul a.x b.x) (D.mul a.y b.y)) (D.mul a.z b.z)

/-- Twice the sum of two products. -/
def twice (a b c d : F64) : F64 := D.mul 0x4000000000000000 (D.add (D.mul a b) (D.mul c d))

/-- 1 less twice the sum of two squares. -/
def oneLess (a b : F64) : F64 := D.sub 0x3FF0000000000000 (twice a a b b)

/-- Negation, binary64. -/
def neg64 (a : F64) : F64 := BitVec.ofNat 64 (fneg fmt64 a.toNat)

/-- The rows of the rotation by a Transform Table entry's quaternion: sensor frame to body frame (Table 10-4). -/
def tfRows (e : Bytes) : Vec3 × Vec3 × Vec3 :=
  let q := fun k => D.ofS (rdF e (12 + 4 * k))
  let w := q 0
  let x := q 1
  let y := q 2
  let z := q 3
  let nw := neg64 w
  ({ x := oneLess y z, y := twice x y nw z, z := twice x z w y },
   { x := twice x y w z, y := oneLess x z, z := twice y z nw x },
   { x := twice x z nw y, y := twice y z w x, z := oneLess x y })

/-- The lever arm of an entry in the body frame. -/
def tfLever (e : Bytes) : Vec3 := { x := D.ofS (rdF e 0), y := D.ofS (rdF e 4), z := D.ofS (rdF e 8) }

/-- A body vector's north and east parts under the fused attitude: heading, then pitch, then roll. -/
def Est.toLocal (a : Est) (v : Vec3) : F64 × F64 :=
  let s := fun (f : F32) => Config.sin (D.ofS f)
  let c := fun (f : F32) => Config.cos (D.ofS f)
  let up := D.mul (s a.roll) (s a.pitch)
  let across := D.mul (c a.roll) (s a.pitch)
  -- forward and right parts in the horizontal plane that turns with the heading
  let fwd := D.add (D.add (D.mul (c a.pitch) v.x) (D.mul up v.y)) (D.mul across v.z)
  let right := D.sub (D.mul (c a.roll) v.y) (D.mul (s a.roll) v.z)
  (D.sub (D.mul (c a.heading) fwd) (D.mul (s a.heading) right), D.add (D.mul (s a.heading) fwd) (D.mul (c a.heading) right))

/-- Metres per radian of latitude and of longitude at a latitude, on WGS 84: the meridian radius, and the prime vertical
radius times the cosine (log entry 44). -/
def wgsRadii (lat : F64) : F64 × F64 :=
  let a : F64 := 0x415854A640000000
  let e2 : F64 := 0x3F7B6B90F1FE8F02
  let s := Config.sin lat
  let w2 := D.sub 0x3FF0000000000000 (D.mul e2 (D.mul s s))
  let n := D.div a (D.sqrt w2)
  (D.div (D.mul n (D.sub 0x3FF0000000000000 e2)) w2, D.mul n (Config.cos lat))

/-- A place moved north and east by metres. -/
def placeMoved (p d : F64 × F64) : F64 × F64 :=
  let r := wgsRadii p.1
  (D.add p.1 (D.div d.1 r.1), D.add p.2 (D.div d.2 r.2))

/-- Metres north and east from one place to another. -/
def placeFrom (o p : F64 × F64) : F64 × F64 :=
  let r := wgsRadii o.1
  (D.mul (D.sub p.1 o.1) r.1, D.mul (wrapPi (D.sub p.2 o.2)) r.2)

/-- Length of a plane vector. -/
def planeLen (v : F64 × F64) : F64 := D.sqrt (D.add (D.mul v.1 v.1) (D.mul v.2 v.2))

/-- Difference of plane vectors. -/
def planeSub (a b : F64 × F64) : F64 × F64 := (D.sub a.1 b.1, D.sub a.2 b.2)

/-- Scalar product of plane vectors. -/
def planeDot (a b : F64 × F64) : F64 := D.add (D.mul a.1 b.1) (D.mul a.2 b.2)

/-- Turn from one plane vector to another, positive to the right. -/
def planeCross (a b : F64 × F64) : F64 := D.sub (D.mul a.1 b.2) (D.mul a.2 b.1)

/-- The body point of a Transform Table entry: its place under the estimate. -/
def Est.point (a : Est) (e : Bytes) : F64 × F64 := placeMoved (a.lat, a.lon) (a.toLocal (tfLever e))

/-- Height of the body point of an entry under the estimate. -/
def Est.pointHeight (a : Est) (e : Bytes) : F64 :=
  let v := tfLever e
  let s := fun (f : F32) => Config.sin (D.ofS f)
  let c := fun (f : F32) => Config.cos (D.ofS f)
  let down := D.add (D.sub (D.mul (D.mul (s a.roll) (c a.pitch)) v.y) (D.mul (s a.pitch) v.x)) (D.mul (D.mul (c a.roll) (c a.pitch)) v.z)
  D.sub a.height down

/-- A place on WGS 84 in earth-centred coordinates (log entry 44). -/
def earthFixed (lat lon h : F64) : Vec3 :=
  let e2 : F64 := 0x3F7B6B90F1FE8F02
  let s := Config.sin lat
  let n := D.div 0x415854A640000000 (D.sqrt (D.sub 0x3FF0000000000000 (D.mul e2 (D.mul s s))))
  let p := D.mul (D.add n h) (Config.cos lat)
  { x := D.mul p (Config.cos lon), y := D.mul p (Config.sin lon)
    z := D.mul (D.add (D.mul n (D.sub 0x3FF0000000000000 e2)) h) s }

/-- A place in the local tangent plane at an origin, metres north and east (R259). -/
def tangent (lat lon h : F64) (p : Vec3) : F64 × F64 :=
  let o := earthFixed lat lon h
  let d : Vec3 := { x := D.sub p.x o.x, y := D.sub p.y o.y, z := D.sub p.z o.z }
  let out := D.add (D.mul (Config.cos lon) d.x) (D.mul (Config.sin lon) d.y)
  (D.sub (D.mul (Config.cos lat) d.z) (D.mul (Config.sin lat) out), D.sub (D.mul (Config.cos lon) d.y) (D.mul (Config.sin lon) d.x))

/-! ### The guidance path (R260) -/

/-- A vertex in metres north and east. -/
def vertex64 (v : F32 × F32) : F64 × F64 := (D.ofS v.1, D.ofS v.2)

/-- Where the projection on the segment from `a` to `b` falls, 0 at `a` and 1 at `b`. -/
def projOn (p a b : F64 × F64) : F64 :=
  let d := planeSub b a
  D.div (planeDot (planeSub p a) d) (planeDot d d)

/-- Distance from a point to a segment. -/
def segDist (p a b : F64 × F64) : F64 :=
  let t := projOn p a b
  let d := planeSub b a
  let t := if D.lt t 0 then 0 else if D.lt 0x3FF0000000000000 t then 0x3FF0000000000000 else t
  planeLen (planeSub p (D.add a.1 (D.mul t d.1), D.add a.2 (D.mul t d.2)))

/-- Least entry of a list: its place counted from `k`, the earlier of equals. -/
def leastAt : List F64 → Nat → Option (Nat × F64) → Option Nat
  | [], _, b => b.map (·.1)
  | x :: t, k, none => leastAt t (k + 1) (some (k, x))
  | x :: t, k, some b => leastAt t (k + 1) (some (if D.lt x b.2 then (k, x) else b))

/-- The segment nearest to a point, of those from `lo` to `hi`. -/
def nearestSeg (vs : List (F64 × F64)) (p : F64 × F64) (lo hi : Nat) : Nat :=
  let part := (vs.drop lo).take (hi - lo + 2)
  (leastAt (List.zipWith (segDist p) part part.tail) lo none).getD lo

/-- The triangle at the first vertex beyond a distance along the path: 4 A / (|ab| |bc| |ca|), positive to the left; 0 at the
last vertex. `left` is the distance still to go from `a` along the path. -/
def curveAt (left : F64) : List (F64 × F64) → F64
  | a :: b :: c :: t =>
    let ab := planeSub b a
    let len := planeLen ab
    if D.lt left len then
      let bc := planeSub c b
      D.div (D.mul 0xC000000000000000 (planeCross ab bc)) (D.mul (D.mul len (planeLen bc)) (planeLen (planeSub a c)))
    else curveAt (D.sub left len) (b :: c :: t)
  | _ => 0

/-- The guidance terms against segment `s`: xte, heading_err, curvature, and whether the projection lies beyond the end. -/
def guideTerms (vs : List (F64 × F64)) (s : Nat) (p : F64 × F64) (heading lookahead : F32) : F32 × F32 × F32 × Bool :=
  let a := vs.getD s (0, 0)
  let b := vs.getD (s + 1) (0, 0)
  let d := planeSub b a
  let t := projOn p a b
  let beyond := s + 2 == vs.length && D.lt 0x3FF0000000000000 t
  let t := if D.lt t 0 then 0 else t
  let xte := D.div (planeCross d (planeSub p a)) (planeLen d)
  let herr := wrapPi (wrapPi (D.sub (D.ofS heading) (Config.atan2 d.2 d.1)))
  let curv := if beyond then 0 else curveAt (D.add (D.mul t (planeLen d)) (D.ofS lookahead)) (vs.drop s)
  (D.toS xte, D.toS herr, D.toS curv, beyond)

end Sys2Proof.Machine
end

