-- ==== Sys2Proof/Machine/FuseBase.lean ====
section
/-! DEFINITION. Fusion sources (chapter 10): records in force, samples and their instants, self-clocked sources, values at
a cycle's instant, and the vote. -/

namespace Sys2Proof.Machine

open Sys2Proof

/-! ### Records in force (R244, 0x0B03) -/

/-- A FUSE record as written. -/
def Mod.fuseWritten (m : Mod) (op idx : Nat) (dflt : Bytes) : Bytes := m.cfgOr op idx dflt

/-- A FUSE record in force: the one taken at the latest cycle start. -/
def Mod.fuseRec (m : Mod) (op idx : Nat) (dflt : Bytes) : Bytes :=
  match m.fuse.force with
  | none => m.fuseWritten op idx dflt
  | some t => let b := Tab.get [] t (ckey op idx); if b.isEmpty then dflt else b

/-- Default of a source record: delivery OFF, wait_ms 20 (log entry 44). -/
def srcDflt : Bytes := zeros 12 ++ le 2 20 ++ zeros 34

/-- Default of the engine's record. -/
def engDflt : Bytes := [5, 50, 0, 0] ++ le 4 0x41000000 ++ le 2 10 ++ zeros 54

/-- Default of the accumulator's record; its source numbers have no default (log entry 3). -/
def accDflt : Bytes := [0, 0xFF, 0xFF, 0] ++ le 2 1200 ++ le 2 0 ++ [0, 50, 1, 0] ++ le 4 0x41600000 ++ zeros 32

/-- Record of a source. -/
def Mod.srcOf (m : Mod) (n : Nat) : Bytes := m.fuseRec 0x0B03 n srcDflt

/-- Record of the engine. -/
def Mod.engRec (m : Mod) : Bytes := m.fuseRec 0x0B03 32 engDflt

/-- Record of the accumulator. -/
def Mod.accRec (m : Mod) : Bytes := m.fuseRec 0x0B03 33 accDflt

/-- A Transform Table entry, 32 bytes; not valid where none has been written. -/
def Mod.transform (m : Mod) (k : Nat) : Bytes := (m.fuseRec 0x0B10 k (zeros 36)).drop 4

/-- The entry is valid (Table 10-4). -/
def tfValid (e : Bytes) : Bool := (rd e 28 1).testBit 0

/-- A source. -/
def Mod.fsrc (m : Mod) (n : Nat) : FuseSrc := Tab.get {} m.fuse.src n

/-- Write a source. -/
def Mod.setFsrc (m : Mod) (n : Nat) (x : FuseSrc) : Mod := { m with fuse := { m.fuse with src := Tab.put {} m.fuse.src n x } }

/-- A source is started: enabled, with a delivery. -/
def Mod.srcOn (m : Mod) (n : Nat) : Bool := (m.fsrc n).enabled && rd (m.srcOf n) 0 1 != 0

/-- Raw count T of a cycle (R243). -/
def Mod.cycleRaw (m : Mod) (i : Nat) : Nat := m.lanes.f0 + i * 1250000

/-- period_us of a source in raw counts. -/
def srcPeriod (r : Bytes) : Nat := us (rd r 8 4)

/-- Quantity of gate1 (Table 10-2). -/
def mainQuantity (r : Bytes) : Nat :=
  match rd r 0 1 with
  | 1 => 1
  | 2 => 4
  | _ => rd r 1 1

/-- The source supplies a quantity (Table 10-2). -/
def supplies (r : Bytes) (q : Nat) : Bool :=
  match rd r 0 1 with
  | 0 => false
  | 1 => q == 1 || q == 2 || q == 3
  | 2 => q == 4
  | _ => rd r 1 1 == q

/-- A source event, EV100 (R268). -/
def Mod.srcEv (m : Mod) (n code : Nat) (on : Bool) : Mod := m.ev 100 n code on

/-! ### Self-clocked sources (R254, R255) -/

/-- period_us in units of module time. -/
def periodUnits (r : Bytes) : Int := ((rd r 8 4 * 1000 * 65536 : Nat) : Int)

/-- The source's own clock is used. -/
def selfClocked (r : Bytes) : Bool := rd r 0 1 == 4 && (rd r 5 1).testBit 0

/-- Least of a list of offsets. -/
def leastOf : List Int → Option Int
  | [] => none
  | x :: t => some (t.foldl min x)

/-- The source enters RESYNC (R255). -/
def Mod.enterResync (m : Mod) (n : Nat) : Mod :=
  (m.setFsrc n { m.fsrc n with resync := some [], far := 0 }).srcEv n 2 true

/-- A sample of a source in RESYNC: dropped; eight in a row near their mean end it, and the source takes part from the next
cycle (R255). -/
def Mod.resyncSample (m : Mod) (n : Nat) (r : Bytes) (xs : List Int) (x : Int) : Mod :=
  let s := m.fsrc n
  let s := { s with drops := inc32 s.drops }
  let xs := (x :: xs).take 8
  let sum := xs.foldl (· + ·) 0
  let near := xs.length == 8 && xs.all fun v => decide (((8 * v - sum).natAbs : Int) ≤ 4 * periodUnits r)
  if near then
    (m.setFsrc n { s with resync := none, fromCycle := if m.fuse.started then m.fuse.cycle + 1 else 0, xs := xs, o := leastOf xs, oRaw := m.now, far := 0, overGate := [], withinGate := [] }).srcEv n 2 false
  else m.setFsrc n { s with resync := some xs }

/-- Offsets of one clock group that lie more than 10 ms apart: the one that changed last enters RESYNC (R255). -/
def Mod.groupCheck (m : Mod) (n : Nat) : Mod :=
  let g := rd (m.srcOf n) 6 1
  if g = 0 then m
  else
    let far := (List.range 32).find? fun k =>
      k != n && m.srcOn k && selfClocked (m.srcOf k) && rd (m.srcOf k) 6 1 == g && (m.fsrc k).resync.isNone
        && match (m.fsrc k).o, (m.fsrc n).o with
          | some a, some b => decide (10000000 * 65536 < (a - b).natAbs)
          | _, _ => false
    match far with
    | none => m
    | some k => m.enterResync (if (m.fsrc n).oRaw < (m.fsrc k).oRaw then k else n)

/-! ### Samples (R245–R248) -/

/-- How a sample was taken. -/
inductive Taken where
  | accepted
  | late
  | overflow
  | order
  | dropped
deriving DecidableEq, Repr

/-- A late sample; EV100 for the first one after 1 s without (R268). -/
def Mod.lateSample (m : Mod) (n : Nat) : Mod :=
  let s := m.fsrc n
  let first := match s.lateRaw with | some t => decide (t + secs 1 ≤ m.now) | none => true
  let m := m.setFsrc n { s with late := inc32 s.late, lateRaw := some m.now }
  if first then m.srcEv n 4 true else m

/-- A sample at its instant: late, out of order, overflowing, or buffered (R246, R248) (log entry 44). -/
def Mod.takeAt (m : Mod) (n instant : Nat) (x : FuseIn) : Mod × Taken :=
  let s := m.fsrc n
  let late := match m.fuse.closed with | some j => decide (instant ≤ m.cycleRaw j) | none => false
  let order := match s.last with | some t => decide (instant ≤ t) | none => false
  if late then (m.lateSample n, .late)
  else if order then (m.setFsrc n { s with order := inc32 s.order }, .order)
  else if 64 ≤ s.buf.length then (m.setFsrc n { s with overflow := inc32 s.overflow }, .overflow)
  else (m.setFsrc n { s with buf := s.buf ++ [{ instant := instant, x := x, arr := m.now }], last := some instant, accepted := inc32 s.accepted }, .accepted)

/-- A sample arrives at a started source (R245, R254). -/
def Mod.takeSample (m : Mod) (n : Nat) (x : FuseIn) : Mod × Taken :=
  let r := m.srcOf n
  if !selfClocked r then m.takeAt n x.time.toNat x
  else
    let s := m.fsrc n
    let ts : Int := ((x.time.toNat * 65536 : Nat) : Int)
    let off := m.mt - ts
    match s.resync with
    | some xs => (m.resyncSample n r xs off, .dropped)
    | none =>
      let xs := (off :: s.xs).take 16
      let o := (leastOf xs).getD 0
      let p := m.takeAt n (m.time.nearest (ts + o)) x
      if p.2 ≠ .accepted then p
      else
        let away := match s.o with | some v => decide (periodUnits r < ((off - v).natAbs : Int)) | none => false
        let s := p.1.fsrc n
        let s := { s with xs := xs, o := some o, oRaw := if s.o = some o then s.oRaw else m.now, far := if away then s.far + 1 else 0 }
        let m := p.1.setFsrc n s
        if 3 ≤ s.far then (m.enterResync n, .accepted) else (m.groupCheck n, .accepted)

/-! ### Values at T (R249) -/

/-- The raw scalar a sample gives for a quantity; none where it supplies none (R245). -/
def sampleVal (r : Bytes) (q : Nat) (s : FuseSample) : Option F64 :=
  match rd r 0 1 with
  | 1 => if q = 1 then (if s.x.noPos then none else some s.x.v0) else if q = 2 then s.x.speed else s.x.heading
  | 2 => some s.x.v0
  | _ => if q = 1 ∨ q = 7 then some s.x.v0
         else some (D.ofS (S.fma (D.toS s.x.v0) (rdF r 16) (rdF r 20)))

/-- Second coordinate of a position sample. -/
def sampleLon (r : Bytes) (_q : Nat) (s : FuseSample) : Option F64 :=
  if rd r 0 1 = 1 ∧ s.x.noPos then none else some s.x.v1

/-- Linear interpolation at `t` between two samples; a heading on the circle. -/
def interp (q ta tb t : Nat) (a b : F64) : F64 :=
  let d := if q = 3 then wrapPi (D.sub b a) else D.sub b a
  D.add a (D.mul d (D.ofRat ((t - ta : Nat) : Int) (tb - ta)))

/-- The value at `t` from samples in ascending order of their instants (R249). -/
def valueAt (q period t : Nat) (f : FuseSample → Option F64) (ss : List FuseSample) : Option F64 :=
  let vs := ss.filterMap fun s => (f s).map fun v => (s.instant, v)
  let before := (vs.filter fun p => p.1 ≤ t).getLast?
  let after := (vs.filter fun p => t < p.1).head?
  match before, after with
  | none, _ => none
  | some a, none => if q = 7 ∨ t ≤ a.1 + period then some a.2 else none
  | some a, some b =>
    if q = 7 ∨ a.1 = t then some a.2
    else if b.1 - a.1 ≤ 2 * period then some (interp q a.1 b.1 t a.2 b.2)
    else if t ≤ a.1 + period then some a.2 else none

/-- Samples of a source for the alignment. -/
def FuseSrc.samples (s : FuseSrc) : List FuseSample := s.prev.toList ++ s.buf

/-- An IMU's rates integrated over (T_{i−1}, T_i], each sample holding from the one before it, and divided by the time they
cover; along a row of the mounting's rotation. None without a sample in it (R249) (log entry 44). -/
def imuRate (row : Vec3) (t0 t : Nat) (ss : List FuseSample) : Option F64 :=
  let vs := ss.filter fun s => t0 < s.instant && s.instant ≤ t
  let sum := vs.foldl (fun (p : F64 × Nat) s =>
    let rate := row.dot { x := s.x.v0, y := s.x.v1, z := D.ofS s.x.v2 }
    (D.add p.1 (D.mul rate (D.ofRat ((s.instant - p.2 : Nat) : Int) 125000000)), s.instant)) ((0 : F64), t0)
  if vs.isEmpty then none else some (D.div sum.1 (D.ofRat ((sum.2 - t0 : Nat) : Int) 125000000))

/-- A value moved to the body origin by the entry's rotation and lever arm, under the fused attitude and yaw rate (R250): a
speed loses what the turn adds at the lever arm, a heading the mounting's own. GNSS velocity is not in a sensor frame.
SECTIONS, EDGE and the flows have no place on the machine to be moved from (log entry 44). -/
def Est.moved (a : Est) (gnss : Bool) (e : Bytes) (q : Nat) (v : F64) : F64 :=
  let r := tfRows e
  match q with
  | 2 => D.add (if gnss then v else D.mul r.1.x v) (D.mul (D.ofS a.yaw) (tfLever e).y)
  | 3 => D.ofS (headingSum (D.toS (D.sub v (Config.atan2 r.2.1.x r.1.x))) 0)
  | 4 => D.mul r.2.2.z v
  | _ => v

/-- A source's value of a quantity at T, at the body origin: value, and longitude for a position. None where it is
absent: from the cycle, for want of a sample near T, or by a transform that is not valid; SECTIONS has no age limit, so that a
source absent from the cycle still gives its latest (R247, R249–R251) (log entry 44). -/
def Mod.srcRaw (m : Mod) (n q t : Nat) : Option (F64 × F64) :=
  let r := m.srcOf n
  let s := m.fsrc n
  let e := m.transform (rd r 3 1)
  let a := m.fuse.est
  if !m.srcOn n || !(s.present || q == 7) || !supplies r q || !tfValid e then none
  else if rd r 0 1 = 2 then (imuRate (tfRows e).2.2 (t - 1250000) t s.samples).map fun v => (v, 0)
  else
    match valueAt q (srcPeriod r) t (sampleVal r q) s.samples, valueAt q (srcPeriod r) t (sampleLon r q) s.samples with
    | some v, some w =>
      if q = 1 then
        let d := a.toLocal (tfLever e)
        some (placeMoved (v, w) (neg64 d.1, neg64 d.2))
      else some (a.moved (rd r 0 1 == 1) e q v, 0)
    | some v, none => if q = 1 then none else some (a.moved (rd r 0 1 == 1) e q v, 0)
    | none, _ => none

/-- The value with which a source takes part: none in RESYNC and up to the cycle after it (R251, R255) (log entry 44). -/
def Mod.srcValue (m : Mod) (n q t : Nat) : Option (F64 × F64) :=
  let s := m.fsrc n
  if s.resync.isSome || decide (t < m.cycleRaw s.fromCycle) then none else m.srcRaw n q t

/-! ### The vote (R251–R253) -/

/-- Ascending order. -/
def insertD (v : F64) : List F64 → List F64
  | [] => [v]
  | x :: t => if D.lt v x then v :: x :: t else x :: insertD v t

/-- Median; the mean of the middle two of an even number. -/
def medianD (vs : List F64) : F64 :=
  let s := vs.foldl (fun l v => insertD v l) []
  let k := s.length / 2
  if s.length % 2 = 1 then s.getD k 0 else D.mul (D.add (s.getD (k - 1) 0) (s.getD k 0)) 0x3FE0000000000000

/-- Residual of a value against a reference (R251): distance, wrapped angle, or difference. -/
def residual (q : Nat) (v r : F64 × F64) : F64 :=
  if q = 1 then planeLen (placeFrom r v)
  else if q = 3 then wrapPi (D.sub v.1 r.1) else D.sub v.1 r.1

/-- The reference for a list of values: the median, headings about the first of them. -/
def reference (q : Nat) (vs : List (F64 × F64)) : F64 × F64 :=
  let base := match vs with | v :: _ => v.1 | [] => 0
  let main := if q = 3 then vs.map fun v => D.add base (wrapPi (D.sub v.1 base)) else vs.map (·.1)
  (medianD main, medianD (vs.map (·.2)))

/-- Gate of a source for a quantity. -/
def gateOf (r : Bytes) (q : Nat) : F32 :=
  if rd r 0 1 = 1 then rdF r (28 + 4 * (q - 1)) else rdF r 28

/-- A residual exceeds a gate. -/
def overGate (res : F64) (gate : F32) : Bool :=
  D.lt (D.ofS gate) (res &&& 0x7FFFFFFFFFFFFFFF)

/-- What the vote on one quantity found: the sources taking part with their values, and those excluded from it. -/
structure Vote where
  part : List (Nat × (F64 × F64))
  out : List (Nat × (F64 × F64))
deriving DecidableEq, Repr

/-- The sources of a vote (R251). -/
def Mod.voters (m : Mod) (q t : Nat) : Vote :=
  let all := (List.range 32).filterMap fun n => (m.srcValue n q t).map fun v => (n, v)
  let isOut := fun (p : Nat × (F64 × F64)) => (m.fsrc p.1).excluded.toNat.testBit (q - 1)
  { part := all.filter fun p => !isOut p, out := all.filter isOut }

/-- Residuals of the sources taking part: none for a single one (R251). -/
def Vote.residuals (v : Vote) (q : Nat) : List (Nat × F64) :=
  match v.part with
  | [a, b] => [(a.1, residual q a.2 b.2), (b.1, residual q b.2 a.2)]
  | [] => []
  | [_] => []
  | ps => let ref := reference q (ps.map (·.2)); ps.map fun p => (p.1, residual q p.2 ref)

/-- A source's counts take its residual (R252). -/
def Mod.judge (m : Mod) (q n : Nat) (res : F64) : Mod :=
  let r := m.srcOf n
  let s := m.fsrc n
  let above := overGate res (gateOf r q)
  let up := fun (t : Tab Nat) => Tab.put 0 t q (min 255 (Tab.get 0 t q + 1))
  let s := { s with
    overGate := if above then up s.overGate else Tab.put 0 s.overGate q 0
    withinGate := if above then Tab.put 0 s.withinGate q 0 else up s.withinGate
    residual := if mainQuantity r = q then D.toS res else s.residual }
  m.setFsrc n s

/-- Exclude a source from a quantity, or take it back. -/
def Mod.setExcluded (m : Mod) (q n : Nat) (on : Bool) : Mod :=
  let s := m.fsrc n
  let b : BitVec 4 := BitVec.ofNat 4 (2 ^ (q - 1))
  (m.setFsrc n { s with excluded := if on then s.excluded ||| b else s.excluded &&& ~~~ b,
                        overGate := Tab.put 0 s.overGate q 0, withinGate := Tab.put 0 s.withinGate q 0 }).srcEv n 1 on

/-- The source of the largest residual. -/
def largest : List (Nat × F64) → Option Nat
  | [] => none
  | x :: t => some (t.foldl (fun b p =>
      if D.lt (b.2 &&& 0x7FFFFFFFFFFFFFFF) (p.2 &&& 0x7FFFFFFFFFFFFFFF) then p else b) x).1

/-- Priority order: higher wins, equal priorities by the lower FS number (Table 10-2) (log entry 44). -/
def Mod.outranks (m : Mod) (a b : Nat) : Bool :=
  let pa := rd (m.srcOf a) 4 1
  let pb := rd (m.srcOf b) 4 1
  decide (pb < pa) || (pa == pb && decide (a < b))

/-- One quantity's vote in a cycle: counts, one exclusion, readmissions. Answers whether it is DEGRADED and the sources
the estimate takes (R251–R253) (log entry 44). -/
def Mod.vote (m : Mod) (q t : Nat) : Mod × Bool × List Nat :=
  let v := m.voters q t
  let rs := v.residuals q
  let k := rd m.engRec 0 1
  let readmit := rd m.engRec 1 1
  let m := rs.foldl (fun (m : Mod) p => m.judge q p.1 p.2) m
  let ref := reference q (v.part.map (·.2))
  let m := if v.part.isEmpty then m else v.out.foldl (fun (m : Mod) p => m.judge q p.1 (residual q p.2 ref)) m
  let due := rs.filter fun p => decide (k ≤ Tab.get 0 (m.fsrc p.1).overGate q)
  let m := if 3 ≤ v.part.length then (match largest due with | some n => m.setExcluded q n true | none => m) else m
  let m := v.out.foldl (fun (m : Mod) p =>
    if readmit ≤ Tab.get 0 (m.fsrc p.1).withinGate q then m.setExcluded q p.1 false else m) m
  match v.part with
  | [a, b] =>
    let lo := if m.outranks a.1 b.1 then b.1 else a.1
    let res := match rs.find? fun p => p.1 == lo with | some p => p.2 | none => 0
    let deg := overGate res (gateOf (m.srcOf lo) q)
    (m, deg, if deg then [if lo = a.1 then b.1 else a.1] else [a.1, b.1])
  | ps => (m, false, (ps.map (·.1)).filter fun n => !(m.fsrc n).excluded.toNat.testBit (q - 1))

end Sys2Proof.Machine
end

