-- ==== Sys2Proof/Machine/FuseOps.lean ====
section
/-! DEFINITION. The Fusion Engine and the Yield Accumulator (chapter 10): cycles, the fused state, the guidance path,
yield records and the FUSE class. What the navigation estimate computes is free (log entry 4). -/

namespace Sys2Proof.Machine

open Sys2Proof

/-! ### The navigation estimate (R256) -/

/-- Quiet NaN, binary32. -/
def nan32 : F32 := BitVec.ofNat 32 (qnan fmt32)

/-- A binary32 value as a word. -/
def wordOf (v : F32) : BitVec 64 := BitVec.ofNat 64 v.toNat

/-- The estimate as words. -/
def Est.words (a : Est) : List (BitVec 64) :=
  [a.lat, a.lon, a.height] ++ [a.velN, a.velE, a.velU, a.speed, a.roll, a.pitch, a.heading, a.yaw, a.sdH, a.sdHeading].map wordOf

/-- An estimate from its words; its heading lies in [0, 2π) (R261). -/
def estOf (w : Nat → BitVec 64) : Est :=
  let g := fun k => BitVec.ofNat 32 (w k).toNat
  { lat := w 0, lon := w 1, height := w 2, velN := g 3, velE := g 4, velU := g 5, speed := g 6, roll := g 7, pitch := g 8
    heading := headingSum (BitVec.ofNat 32 (Nat.land (w 9).toNat 0x7F7FFFFF)) 0, yaw := g 10, sdH := g 11, sdHeading := g 12 }

/-- An IMU sample as words: instant, accelerations, rates. -/
def FuseSample.words (s : FuseSample) : List (BitVec 64) :=
  [BitVec.ofNat 64 s.instant, wordOf s.x.acc.1, wordOf s.x.acc.2.1, wordOf s.x.acc.2.2, s.x.v0, s.x.v1, wordOf s.x.v2]

/-! ### Yield records (R263–R266) -/

/-- An accumulator event, EV103, with the FS number of the flow source (R268). -/
def Mod.yieldEv (m : Mod) (code : Nat) (on : Bool) : Mod := m.ev 103 (rd m.accRec 0 1) code on

/-- Publish and close the open record with its flags (R265, R266). -/
def Mod.closeRecord (m : Mod) (extra : Nat) : Mod :=
  match m.fuse.rcd with
  | none => m
  | some r =>
    let ref := rdF m.accRec 12
    let hundred : F32 := 0x42C80000
    let moist := if r.noMoist then nan32 else S.div r.wm r.wet
    let dry := if r.noMoist then nan32 else S.div (S.mul r.wet (S.sub hundred moist)) (S.sub hundred ref)
    let yld := if r.noMoist then nan32 else S.div (S.mul 0x41200000 dry) r.area
    let width := if r.dist = 0 then 0 else S.div r.area r.dist
    let flags := extra + b2n (decide (0 < r.gaps)) * 2 + b2n r.noMoist * 4 + b2n r.deg * 8
    let body := le 8 (m.cycleRaw r.first.cyc) ++ le 8 (m.cycleRaw r.last.cyc)
      ++ le 8 r.first.lat.toNat ++ le 8 r.first.lon.toNat ++ le 8 r.last.lat.toNat ++ le 8 r.last.lon.toNat
      ++ le 4 r.dist.toNat ++ le 4 width.toNat ++ le 4 r.area.toNat ++ le 4 r.wet.toNat ++ le 4 moist.toNat ++ le 4 dry.toNat
      ++ le 4 yld.toNat ++ le 4 m.fuse.unmatched.toNat ++ le 2 (sat16 r.cycles) ++ le 2 (sat16 r.gaps) ++ le 2 flags ++ zeros 2
    let m := m.publish 11 33 2 body
    let m := { m with fuse := { m.fuse with rcd := none, unmatched := 0, records := inc32 m.fuse.records } }
    let m := if r.noMoist then m.yieldEv 2 true else m
    if extra.testBit 5 then m.yieldEv 4 true else m

/-- A record of one cut cycle with no mass yet. -/
def freshRecord (e : Cut) : YieldRec :=
  { first := e, last := e, span := 0, cycles := 0, gaps := 0, dist := 0, area := 0, wet := 0, wm := 0, noMoist := false, deg := false }

/-- Moisture of a cut cycle: its own, or the latest attributed within the 10 s before it (R266). -/
def Mod.moistOf (m : Mod) (e : Cut) : Option F32 :=
  match e.moist with
  | some v => some v
  | none =>
    match m.fuse.lastMoist with
    | some (v, c) => if c ≤ e.cyc ∧ e.cyc ≤ c + 1000 then some v else none
    | none => none

/-- The record takes a cut cycle, with its mass or as a gap (R264, R266). -/
def YieldRec.take (r : YieldRec) (e : Cut) (mass : Option F32) (moist : Option F32) : YieldRec :=
  let r := { r with last := e, span := r.span + 1, deg := r.deg || e.deg }
  match mass with
  | none => { r with gaps := r.gaps + 1 }
  | some k =>
    { r with
      cycles := r.cycles + 1
      dist := S.add r.dist e.dist
      area := S.add r.area (S.mul e.dist (S.ofRat (e.width : Int) 1000))
      wet := S.add r.wet k
      wm := match moist with | some v => S.add r.wm (S.mul k v) | none => r.wm
      noMoist := r.noMoist || moist.isNone }

/-- The distance of a record has reached step − 1 mm (R265). -/
def distReached (d : F32) (step : Nat) : Bool :=
  decide ((((step * 100 - 1) * 2 ^ 149 : Nat) : Int) ≤ S.scaled d * 1000)

/-- Whole seconds of module time at a cycle's instant. -/
def Mod.cycleSec (m : Mod) (c : Nat) : Int := (m.time.conv (m.cycleRaw c)).1 / unitsPerSec

/-- Flags with which the record closes at cut cycle `c`: none while it stays open (R265). -/
def Mod.closing (m : Mod) (r : YieldRec) (c : Nat) : Option Nat :=
  let a := m.accRec
  let next := m.fuse.hist.find? fun e => e.cyc == c + 1
  let up := match next with | some e => e.width == 0 | none => false
  let cap := decide (6000 ≤ r.span)
  let done := if rd a 8 1 = 0 then distReached r.dist (rd a 9 1) else m.cycleSec (c + 1) != m.cycleSec c
  if done || up || cap then some (b2n up + b2n cap * 64) else none

/-- Mass that belongs to no record (R264). -/
def Mod.addUnmatched (m : Mod) (mass : Option F32) : Mod :=
  match mass with
  | some k => { m with fuse := { m.fuse with unmatched := S.add m.fuse.unmatched k } }
  | none => m

/-- One cut cycle is processed, with its mass or none (R264, R265). -/
def Mod.cutStep (m : Mod) (c : Nat) (mass : Option F32) : Mod :=
  let m := { m with fuse := { m.fuse with nextCut := c + 1 } }
  match m.fuse.hist.find? fun e => e.cyc == c with
  | none => m.addUnmatched mass
  | some e =>
    let m := if mass.isNone then { m with fuse := { m.fuse with gaps := inc32 m.fuse.gaps } } else m
    let moist := m.moistOf e
    let m := match e.moist with
      | some v => { m with fuse := { m.fuse with lastMoist := some (v, c) } }
      | none => m
    if e.width = 0 then
      -- with flow_delay 0 the width of c is known only now: the open record ends here
      (m.closeRecord 1).addUnmatched mass
    else
      let r := ((m.fuse.rcd.getD (freshRecord e))).take e mass moist
      let m := { m with fuse := { m.fuse with rcd := some r } }
      match m.closing r c with
      | some f => m.closeRecord f
      | none => m

/-- Active width in mm: the sections that are on (R263) (log entry 44). -/
def Mod.activeWidth (m : Mod) (t : Nat) : Nat :=
  let a := m.accRec
  let n := rd a 10 1
  let on : Nat := if rd a 2 1 = 0xFF then 0xFFFF
    else match m.srcValue (rd a 2 1) 7 t with | some v => (D.scaled v.1 / ((2 ^ 1074 : Nat) : Int)).toNat | none => 0xFFFF
  ((List.range n).map fun k => if on.testBit k then rd a (16 + 2 * k) 2 else 0).foldl (· + ·) 0

/-- The value of a scalar source of the accumulator at T, binary32. -/
def Mod.accValue (m : Mod) (src q t : Nat) : Option F32 :=
  if 31 < src then none else (m.srcValue src q t).map fun v => D.toS v.1

/-- The accumulator in fusion cycle `i` (R263, R264). -/
def Mod.yieldCycle (m : Mod) (i t : Nat) : Mod :=
  if !m.fuse.yieldOn then m else
  let a := m.accRec
  let tf := m.transform (rd a 3 1)
  let nan : F64 := BitVec.ofNat 64 (qnan fmt64)
  let p := if tfValid tf then m.fuse.est.point tf else (nan, nan)
  let moved := match m.fuse.hist with
    | x :: _ => D.toS (planeLen (placeFrom (x.lat, x.lon) p))
    | [] => 0
  let e : Cut :=
    { cyc := i, lat := p.1, lon := p.2, dist := if S.isFin moved then moved else 0
      width := if m.fuse.st = 4 then 0 else m.activeWidth t
      moist := none, deg := m.fuse.st != 1, used := false }
  let hist := (e :: m.fuse.hist).take 4097
  let mo := m.accValue (rd a 1 1) 6 t
  let hist := match mo with
    | some v => hist.map fun (x : Cut) => if x.cyc + rd a 6 2 = i then { x with moist := some v } else x
    | none => hist
  let m := { m with fuse := { m.fuse with hist := hist } }
  let flow := m.accValue (rd a 0 1) 5 t
  let abs := m.fuse.flowAbs
  let m := { m with fuse := { m.fuse with flowAbs := if flow.isSome then 0 else min 255 (abs + 1) } }
  let m := if flow.isSome ∧ 100 ≤ abs then m.yieldEv 1 false else if flow.isNone ∧ abs = 99 then m.yieldEv 1 true else m
  if i < m.fuse.delay then m
  else
    let c := i - m.fuse.delay
    let mass := flow.map fun v => S.mul v 0x3C23D70A
    if c < m.fuse.nextCut then m.addUnmatched mass
    else
      let from_ := max m.fuse.nextCut (c - 4096)
      let m := foldN (c - from_) (fun (m : Mod) k => m.cutStep (from_ + k) none) m
      m.cutStep c mass

/-! ### The fused state (R256–R261) -/

/-- A change of the fused state, EV102 (R258). -/
def Mod.fuseState (m : Mod) (st : Nat) : Mod :=
  if m.fuse.st = st then m else Mod.ev { m with fuse := { m.fuse with st := st } } 102 0 st true

/-- The state after a cycle's vote on the position (Table 10-5). -/
def Mod.nextState (m : Mod) (pos deg : Bool) : Mod :=
  if pos then Mod.fuseState { m with fuse := { m.fuse with deadRun := 0 } } (if deg then 2 else 1)
  else if m.fuse.st = 0 then m
  else
    let n := min 65535 (m.fuse.deadRun + 1)
    Mod.fuseState { m with fuse := { m.fuse with deadRun := n } } (if n ≤ 100 * rd m.engRec 8 2 then 3 else 4)

/-- A guidance point is on hand: an active path, and a valid guide_tf (R250, R260). -/
def Mod.pathOn (m : Mod) : Bool := m.fuse.path.isSome && tfValid (m.transform (rd m.engRec 2 1))

/-- The guidance terms of the state described: the segment nearest to the control point, searched over the whole path at
activation and eight either side afterwards, and END_OF_PATH (R260). -/
def Mod.guide (m : Mod) (est : Est) : Mod × (F32 × F32 × F32) :=
  match m.fuse.path with
  | none => (m, nan32, nan32, nan32)
  | some p =>
    if !m.pathOn then (m, nan32, nan32, nan32)
    else
      let vs := p.2.2.map vertex64
      let tf := m.transform (rd m.engRec 2 1)
      let c := est.point tf
      let at' := tangent (rdD p.2.1 0) (rdD p.2.1 8) (rdD p.2.1 16) (earthFixed c.1 c.2 (est.pointHeight tf))
      let top := vs.length - 2
      let s := match m.fuse.segment with
        | some s => nearestSeg vs at' (s - 8) (min top (s + 8))
        | none => nearestSeg vs at' 0 top
      let g := guideTerms vs s at' est.heading (rdF m.engRec 4)
      let was := m.fuse.flags.toNat.testBit 4
      let flags := if g.2.2.2 then m.fuse.flags ||| 0x10 else m.fuse.flags &&& ~~~ 0x10
      let m := { m with fuse := { m.fuse with segment := some s, flags := flags } }
      (if g.2.2.2 && !was then m.ev 102 0 11 true else m, g.1, g.2.1, g.2.2.1)

/-- The last instant before T that a source delivered; the one no longer buffered, where the buffer has none. -/
def FuseSrc.before (s : FuseSrc) (t : Nat) : Option Nat :=
  match (s.buf.filter fun x => x.instant < t).getLast? with
  | some x => some x.instant
  | none => s.base

/-- A source is expected in the cycle at T (R247). -/
def Mod.expected (m : Mod) (n t : Nat) : Bool :=
  m.srcOn n && match (m.fsrc n).before t with
    | some l => decide (l + srcPeriod (m.srcOf n) ≤ t + us 250)
    | none => true

/-- A source does not hold up the cycle at T once it has accepted this instant: it covers the cycle, or is not expected in it
(R247). -/
def freesCycle (period t instant : Nat) : Bool := decide (t ≤ instant) || decide (t + us 250 < instant + period)

/-- Raw count from which a source does not hold up the cycle at T, as its samples came in; none while it does (R247). -/
def Mod.freeAt (m : Mod) (n t : Nat) : Option Nat :=
  let s := m.fsrc n
  let free := freesCycle (srcPeriod (m.srcOf n)) t
  if s.base.elim false free then some 0 else (s.buf.find? fun x => free x.instant).map (·.arr + 1)

/-- Raw count at which the cycle at T closes: once every expected source covers it, at the wait limits of those that do not
yet, at 40 ms at the latest, and not before the cycle before it (R247). A sample that arrives at that count is late (R248) (log entry 44). -/
def Mod.closeAt (m : Mod) (t : Nat) : Nat :=
  let x := (List.range 32).foldl (fun x n =>
    if m.srcOn n then
      let limit := t + ms (rd (m.srcOf n) 12 2)
      max x ((m.freeAt n t).elim limit (min limit))
    else x) t
  max (min x (t + ms 40)) m.fuse.closedRaw

/-- A source that has no value of any quantity it supplies is absent from the cycle (R249, R250) (log entry 44). -/
def Mod.noValue (m : Mod) (n t : Nat) : Bool :=
  !((List.range 8).any fun k => (m.srcRaw n (k + 1) t).isSome)

/-- A source is absent from the cycle that closes (R247, R249, R250). -/
def Mod.gone (m : Mod) (n t : Nat) : Bool := !(m.fsrc n).present || m.noValue n t

/-- Cullet and coverage of a source at the close of a cycle; EV100 for ten expected cycles in a row from which it was absent,
until it is present (R247, R268). -/
def Mod.coverage (m : Mod) (n t : Nat) : Mod :=
  if !m.srcOn n then m
  else
    let s := m.fsrc n
    let here := (m.freeAt n t).isSome
    let s := { s with present := here, absent := if here then s.absent else inc32 s.absent }
    let m := m.setFsrc n s
    if !m.gone n t then
      let m := m.setFsrc n { s with absRun := 0 }
      if 10 ≤ s.absRun then m.srcEv n 3 false else m
    else if m.expected n t then
      let m := m.setFsrc n { s with absRun := min 15 (s.absRun + 1) }
      if s.absRun = 9 then m.srcEv n 3 true else m
    else m

/-- A source's samples up to T are used; the latest of them stays for later interpolation (R246, R249). -/
def FuseSrc.used (s : FuseSrc) (t : Nat) : FuseSrc :=
  let done := s.buf.filter fun x => x.instant ≤ t
  match done.getLast? with
  | some x => { s with prev := some x, base := some x.instant, buf := s.buf.filter fun x => t < x.instant }
  | none => s

/-- Bit mask of sources. -/
def srcMask (ns : List Nat) : BitVec 32 := ns.foldl (fun b n => b ||| BitVec.ofNat 32 (2 ^ n)) 0

/-- The highest-priority source that gives an EDGE value at T. -/
def Mod.edgeAt (m : Mod) (t : Nat) : Option (Nat × F32) :=
  (List.range 32).foldl (fun b n =>
    match m.srcValue n 8 t with
    | none => b
    | some v => match b with
      | some p => if m.outranks n p.1 then some (n, D.toS v.1) else b
      | none => some (n, D.toS v.1)) none

/-- A DEGRADED flag starts or ends (R253). -/
def Mod.setDegraded (m : Mod) (q : Nat) (on : Bool) : Mod :=
  let bit := BitVec.ofNat 16 (2 ^ (q - 1))
  if m.fuse.flags.toNat.testBit (q - 1) = on then m
  else Mod.ev { m with fuse := { m.fuse with flags := if on then m.fuse.flags ||| bit else m.fuse.flags &&& ~~~ bit } } 101 q q on

/-- The highest-priority IMU of those that take part in the YAW_RATE vote (R256). -/
def Mod.bestImu (m : Mod) (part : List Nat) : Option Nat :=
  (part.filter fun n => rd (m.srcOf n) 0 1 == 2).foldl (fun b n =>
    match b with
    | some k => if m.outranks n k then some n else b
    | none => some n) none

/-- The measurement 1σ of a source at T: its record's, or the sample's own figure (Table 10-2). -/
def Mod.srcSd (m : Mod) (n t : Nat) : F32 :=
  let sd := rdF (m.srcOf n) 24
  if sd ≠ 0 then sd else (((m.fsrc n).samples.filter fun x => x.instant ≤ t).getLast?).elim 0 (·.x.sd)

/-- A correction as words: quantity, value, 1σ. -/
def Mod.corrWords (m : Mod) (q t n : Nat) : List (BitVec 64) :=
  match m.srcValue n q t with
  | some v => [BitVec.ofNat 64 q, v.1, v.2, wordOf (m.srcSd n t)]
  | none => []

/-- The estimate at T: propagated by the highest-priority IMU of the YAW_RATE vote over (T_{i−1}, T_i], corrected by the
values at T of the sources that each vote left and of the EDGE source, with their sd (R256) (log entry 4). -/
def Mod.navigate (m : Mod) (t : Nat) (parts : List (List Nat)) (edge : Option (Nat × F32)) : Mod :=
  let imu := m.bestImu (parts.getD 3 [])
  let moved := match imu with
    | some n => ((m.fsrc n).samples.filter fun x => t - 1250000 < x.instant && x.instant ≤ t).flatMap FuseSample.words
    | none => []
  let votes := (List.range 4).flatMap fun k => (parts.getD k []).flatMap (m.corrWords (k + 1) t)
  let edges := match edge with | some p => m.corrWords 8 t p.1 | none => []
  { m with fuse := { m.fuse with imu := imu, est := estOf (Config.navCorrect (m.fuse.est.words ++ moved ++ votes ++ edges)) } }

/-- The estimate propagated forward to an instant of publication, by the IMU samples after T received by then (R256) (log entry 4). -/
def Mod.forward (m : Mod) (t at' : Nat) : Est :=
  let later := match m.fuse.imu with
    | some n => ((m.fsrc n).buf.filter fun x => t < x.instant && x.arr ≤ at').flatMap FuseSample.words
    | none => []
  estOf (Config.navForward (m.fuse.est.words ++ later ++ [BitVec.ofNat 64 (at' - t)]))

/-- The votes, the state and the estimate of a closing cycle (R251–R258). -/
def Mod.estimate (m : Mod) (t : Nat) : Mod :=
  if !m.fuse.enabled then m else
  let r := foldN 4 (fun (a : Mod × List (List Nat)) k =>
    let v := a.1.vote (k + 1) t
    (v.1.setDegraded (k + 1) v.2.1, a.2 ++ [v.2.2])) (m, [])
  let m := r.1
  let edge := m.edgeAt t
  let inc := r.2.flatten ++ (match edge with | some p => [p.1] | none => [])
  let took := (List.range 4).foldl (fun (b : Nat) k => b + b2n (!(r.2.getD k []).isEmpty) * 2 ^ k) 0
  let m := { m with fuse := { m.fuse with included := srcMask inc, took := BitVec.ofNat 4 took, edge := (match edge with | some p => some p.2 | none => none) } }
  (m.navigate t r.2 edge).nextState (took % 2 == 1) (m.fuse.flags.toNat % 16 != 0)

/-! ### Publication (R261, R262) -/

/-- An IMU source takes part. -/
def Mod.imuTakesPart (m : Mod) : Bool :=
  (List.range 32).any fun n => m.fuse.included.toNat.testBit n && rd (m.srcOf n) 0 1 == 2

/-- Sources for which a test holds, as a mask. -/
def Mod.maskOf (m : Mod) (f : FuseSrc → Bool) : BitVec 32 := srcMask ((List.range 32).filter fun n => m.srcOn n && f (m.fsrc n))

/-- The flags of FUSE_STATE (R261). -/
def Mod.fuseFlags (m : Mod) : Nat :=
  m.fuse.flags.toNat % 32 + b2n m.fuse.path.isNone * 32 + b2n m.fuse.clockStep * 64

/-- FUSE_STATE and the slots, at the present raw count or 500 µs after the close, whichever comes first (R256, R261, R262). -/
def Mod.fusePublish (m : Mod) : Mod :=
  if !m.fuse.toPublish then m else
  let at' := min m.now (m.fuse.closedRaw + us 500)
  let x := m.forward (m.cycleRaw (m.fuse.closed.getD 0)) at'
  let gd := if m.fuse.st = 4 then (m, nan32, nan32, nan32) else m.guide x
  let m := gd.1
  let g := gd.2
  let f := m.fuse
  let e := m.engRec
  let mode := rd e 3 1
  let inv := f.st == 4
  let f64 := fun (v : F64) => if inv then BitVec.ofNat 64 (qnan fmt64) else v
  let edge := f.edge.getD nan32
  let xte := if inv then nan32 else if mode = 1 then g.1
    else if mode = 2 then (match f.edge with | some v => S.sub v (rdF e 12) | none => nan32) else nan32
  let herr := if mode = 0 then nan32 else g.2.1
  let curv := if mode = 0 then nan32 else g.2.2
  let flags := m.fuseFlags
  let excl := m.maskOf fun s => s.excluded != 0
  let resync := m.maskOf fun s => s.resync.isSome
  let body := le 8 at' ++ le 1 f.st ++ le 1 mode ++ le 2 flags ++ zeros 4
    ++ le 8 (f64 x.lat).toNat ++ le 8 (f64 x.lon).toNat ++ le 8 (f64 x.height).toNat
    ++ le 4 x.velN.toNat ++ le 4 x.velE.toNat ++ le 4 x.velU.toNat ++ le 4 x.speed.toNat ++ le 4 x.roll.toNat ++ le 4 x.pitch.toNat
    ++ le 4 x.heading.toNat ++ le 4 x.yaw.toNat ++ le 4 xte.toNat ++ le 4 herr.toNat ++ le 4 curv.toNat ++ le 4 edge.toNat
    ++ le 4 x.sdH.toNat ++ le 4 x.sdHeading.toNat
    ++ le 2 (f.segment.getD 0xFFFF) ++ le 2 (match f.path with | some p => p.1.toNat | none => 0)
    ++ le 4 f.included.toNat ++ le 4 excl.toNat ++ le 4 f.absent.toNat ++ le 4 resync.toNat
  let nav := inRange f.st 1 3
  let imu := m.imuTakesPart
  let m := m.publishAt 11 32 1 ((m.time.conv at').1 / 65536).toNat body
  let fld := fun (code : Nat) => match code with
    | 1 => (xte, nav && S.isFin xte) | 2 => (herr, nav && S.isFin herr) | 3 => (curv, nav && S.isFin curv)
    | 4 => (x.speed, imu || f.took.toNat.testBit 1) | 5 => (x.yaw, imu) | 6 => (x.heading, nav)
    | 7 => (w32 (f.st + flags * 256), true) | 8 => (edge, S.isFin edge) | 9 => (x.velN, nav) | 10 => (x.velE, nav)
    | 11 => (x.roll, imu) | _ => (x.pitch, imu)
  let m := foldN 16 (fun (m : Mod) k =>
    let slot := rd e (16 + 2 * k) 1
    let code := rd e (17 + 2 * k) 1
    if code = 0 then m else m.fxPut 2 slot (fld code).1 (fld code).2) m
  { m with fuse := { m.fuse with toPublish := false, clockStep := false, published := inc32 m.fuse.published } }

/-- FUSE_STATE_PUBLISH: the closed cycle's state is published. -/
def execFuseStatePublish (s : State) : Host.Outcome State Fault Refusal := s.act fun m => if m.pd 5 then m.fusePublish else m

/-! ### Cycles (R243, R247) -/

/-- The conditions of a source that starts afresh end with their events (R268). -/
def Mod.endSource (m : Mod) (n : Nat) : Mod :=
  let s := m.fsrc n
  let m := if s.excluded ≠ 0 then m.srcEv n 1 false else m
  let m := if s.resync.isSome then m.srcEv n 2 false else m
  if 10 ≤ s.absRun then m.srcEv n 3 false else m

/-- What stands to act from a cycle that starts: noted once, and asked no more (R244, R259). The staging buffer of an activated
path becomes the path and is empty again. -/
def Mod.noteSetup (m : Mod) (i : Nat) : Mod :=
  let f := m.fuse
  let vs := fun (n : Nat) => (List.range n).map fun k => Tab.get (0, 0) f.staging k
  let s : FuseSetup :=
    { cyc := i, recs := m.cfg.filter fun p => p.1 / 65536 / 256 == 11
      asks := (List.range 32).filterMap fun n => (m.fsrc n).ask.map fun b => (n, some b)
      ask := f.ask, yieldAsk := f.yieldAsk, path := f.nextPath.map fun p => (p.1, p.2.1, vs p.2.2) }
  { m with fuse := { f with
      setups := f.setups ++ [s], ask := none, yieldAsk := none, nextPath := none
      staging := if f.nextPath.isSome then [] else f.staging, staged := if f.nextPath.isSome then [] else f.staged
      src := foldN 32 (fun t n => Tab.upd {} t n fun x => { x with ask := none }) f.src } }

/-- A source takes its setting: a changed record empties its buffer, a start or stop begins it afresh (R255, R267). -/
def FuseSrc.setUp (x : FuseSrc) (moved : Bool) (ask : Option Bool) : FuseSrc :=
  let x := if moved then { x with overflow := sat32 (x.overflow + x.buf.length), buf := [], prev := none, base := x.last } else x
  match ask with
  | some b => { x with enabled := b, buf := [], prev := none, last := none, base := none, xs := [], o := none, far := 0,
                       resync := none, excluded := 0, overGate := [], withinGate := [], absRun := 0, present := false }
  | none => x

/-- The accumulator takes its settings: flow_delay, start and stop (R265, R267). -/
def Mod.setupYield (m : Mod) (s : FuseSetup) : Mod :=
  let new := Tab.get [] s.recs (ckey 0x0B03 33)
  let delay := rd (if new.isEmpty then accDflt else new) 4 2
  let m := if delay ≠ m.fuse.delay ∧ m.fuse.yieldOn then (m.closeRecord 16).yieldEv 3 true else m
  let m := { m with fuse := { m.fuse with delay := delay } }
  match s.yieldAsk with
  | some false => let m := m.closeRecord 32; { m with fuse := { m.fuse with yieldOn := false } }
  | some true => { m with fuse := { m.fuse with yieldOn := true, hist := [], rcd := none, gaps := 0, unmatched := 0,
                                                nextCut := s.cyc - delay, flowAbs := 0, lastMoist := none } }
  | none => m

/-- The engine takes its settings: start and stop, an activated path (R253, R258, R259). -/
def Mod.setupEngine (m : Mod) (s : FuseSetup) : Mod :=
  let m := match s.ask with
    | some true =>
      let m := foldN 4 (fun (m : Mod) k => m.setDegraded (k + 1) false) m
      Mod.fuseState { m with fuse := { m.fuse with
        enabled := true, flags := 0, deadRun := 0, segment := none, edge := none, took := 0, included := 0 } } 0
    | some false => { m with fuse := { m.fuse with enabled := false, toPublish := false } }
    | none => m
  match s.path with
  | none => m
  | some p => Mod.ev { m with fuse := { m.fuse with path := some p, segment := none, flags := m.fuse.flags &&& ~~~ 0x10 } } 102 0 10 true

/-- The settings of a cycle act: the records of the accumulator, the sources and the engine, in force from here on (R244,
R259, R267). -/
def Mod.setUp (m : Mod) (s : FuseSetup) : Mod :=
  let m := m.setupYield s
  let m := foldN 32 (fun (m : Mod) n =>
    let ask := Tab.get none s.asks n
    let m := if ask.isSome then m.endSource n else m
    let new := Tab.get [] s.recs (ckey 0x0B03 n)
    m.setFsrc n ((m.fsrc n).setUp (m.srcOf n != (if new.isEmpty then srcDflt else new)) ask)) m
  Mod.setupEngine { m with fuse := { m.fuse with force := some s.recs } } s

/-- Settings whose cycle is the next to close act; those of later cycles wait for it (R267) (log entry 44). -/
def Mod.setupsDue (m : Mod) : Mod :=
  let due := m.fuse.setups.filter fun s => s.cyc ≤ m.fuse.next
  due.foldl Mod.setUp { m with fuse := { m.fuse with setups := m.fuse.setups.filter fun s => m.fuse.next < s.cyc } }

/-- A cycle closes: coverage, vote, estimate and yield at its T (R247, R248). -/
def Mod.closeCycle (m : Mod) : Mod :=
  let i := m.fuse.next
  let t := m.cycleRaw i
  let c := m.closeAt t
  let m := m.until c
  let m := foldN 32 (fun (m : Mod) n => m.coverage n t) m
  let gone := (List.range 32).filter fun n => m.srcOn n && m.gone n t
  let m := { m with fuse := { m.fuse with absent := srcMask gone } }
  let m := (m.estimate t).yieldCycle i t
  let m := foldN 32 (fun (m : Mod) n => m.setFsrc n ((m.fsrc n).used t)) m
  Mod.setupsDue { m with fuse := { m.fuse with closed := some i, closedRaw := c, next := i + 1, toPublish := m.fuse.enabled } }

/-- The engine is up, and a started cycle has not closed. -/
def Mod.cycleOpen (m : Mod) : Bool := m.pd 5 && m.fuse.started && decide (m.fuse.next ≤ m.fuse.cycle)

/-- Cycles whose instant of closing has come close before anything else reaches the engine (R247, R248). -/
def Mod.fuseDue (m : Mod) : Mod :=
  foldN (m.fuse.cycle + 1 - m.fuse.next) (fun (m : Mod) _ =>
    if m.cycleOpen && decide (m.closeAt (m.cycleRaw m.fuse.next) ≤ m.now) then m.fusePublish.closeCycle else m) m

/-- Cycle `i` starts: its settings are noted, and act once the cycles before it have closed. -/
def Mod.startCycle (m : Mod) (i : Nat) : Mod :=
  let m := m.noteSetup i
  Mod.setupsDue { m with fuse := { m.fuse with cycle := i, started := true, next := if m.fuse.started then m.fuse.next else i } }

/-- FUSION_CYCLE: a cycle starts at frame 40 × i (R243). -/
def execFusionCycle (s : State) : Host.Outcome State Fault Refusal := s.act fun m =>
  let i := m.lanes.frame / 40
  if !m.pd 5 || !m.lanes.started || m.lanes.frame % 40 ≠ 0 || (m.fuse.started && i ≤ m.fuse.cycle) then m
  else m.fuseDue.startCycle i

/-- FUSION_CLOSE: the next cycle closes, what the one before left to publish first (R247, R256). -/
def execFusionClose (s : State) : Host.Outcome State Fault Refusal := s.act fun m =>
  if m.cycleOpen then m.fusePublish.closeCycle else m

/-- The last sample of an IMU as INP_IMU carried it: raw count and rates (R176). -/
def Mod.imuSample (m : Mod) (k : Nat) (sd : F32) : FuseIn :=
  let x := m.inpCh (104 + k)
  { time := BitVec.ofNat 64 (m.now - (m.now - x.imuRaw.toNat) % 2 ^ 32), v0 := D.ofS (x.imu.getD 3 0), v1 := D.ofS (x.imu.getD 4 0)
    v2 := x.imu.getD 5 0, sd := sd, acc := (x.imu.getD 0 0, x.imu.getD 1 0, x.imu.getD 2 0) }

/-- The GNSS_PVT entry last published: its epoch, its position while there is a fix, with it the horizontal velocity projected on
the fused heading as the speed, and its heading while HEADING_VALID is set (R245) (log entry 44). -/
def Mod.gnssSample (m : Mod) (sd : F32) : FuseIn :=
  let g := m.gnss
  let p := g.last.getD {}
  let fix := g.fix != 0
  let h := D.ofS m.fuse.est.heading
  { time := BitVec.ofNat 64 g.pvtRaw, v0 := p.lat, v1 := p.lon, v2 := D.toS p.height, sd := sd, noPos := !fix
    speed := if fix then some (D.add (D.mul (D.ofS p.velN) (Config.cos h)) (D.mul (D.ofS p.velE) (Config.sin h))) else none
    heading := if g.heading = 2 then some (D.ofS g.headingOut) else none }

/-- What the mirror shows of an outbound slot: a sample where its stamp shows a valid write in the frame before, whose values
the mirror holds; the instant is the start of that frame (R184, R245) (log entry 44). -/
def Mod.slotSample (m : Mod) (j : Nat) (sd : F32) : Option FuseIn :=
  let w := (Tab.get 0 m.inp.mirror.outb j).toNat
  let n := m.inp.mirror.begin' - 1
  if (w.testBit 63) && bits w 32 24 == n % 2 ^ 24 then
    some { time := BitVec.ofNat 64 (m.lanes.f0 + n * 31250), v0 := D.ofS (BitVec.ofNat 32 w), v1 := 0, v2 := 0, sd := sd }
  else none

/-- FUSE_SAMPLE: a sample arrives at a source, by its delivery: a GNSS_PVT entry, an INP_IMU entry, an outbound slot, or a
sample as pushed (Table 10-3, R246). -/
def execFuseSample (n : Nat) (x : FuseIn) (s : State) : Host.Outcome State Fault Refusal := s.act fun m =>
  let m := if m.pd 5 then m.fuseDue else m
  if m.pd 5 && decide (n < 32) && m.srcOn n then
    let r := m.srcOf n
    match rd r 0 1 with
    | 1 => if m.gnss.pvtRaw = 0 then m else (m.takeSample n (m.gnssSample x.sd)).1
    | 2 => (m.takeSample n (m.imuSample (rd r 2 1) x.sd)).1
    | 3 => match m.slotSample (rd r 2 1) x.sd with | some y => (m.takeSample n y).1 | none => m
    | _ => (m.takeSample n x).1
  else m

/-! ### PD5 -/

/-- The cullet counters of a source, which only CLEAR_CULLET and a module start clear (R248). -/
def FuseSrc.counts (s : FuseSrc) : FuseSrc :=
  { late := s.late, overflow := s.overflow, order := s.order, absent := s.absent, drops := s.drops, accepted := s.accepted }

/-- PD5 comes up: everything but the cullet counters starts afresh, engine, accumulator and sources running (R248, R258,
R263, R267) (log entry 44). -/
def Mod.fuseUp (m : Mod) : Mod :=
  { m with fuse := { enabled := true, yieldOn := true, delay := rd (m.fuseWritten 0x0B03 33 accDflt) 4 2
                     src := foldN 32 (fun t n => Tab.put {} t n { (m.fsrc n).counts with enabled := true }) [] } }

/-- PD5 goes off: estimate, history, buffers and the open record are lost with the conditions that stood; the cullet counters
stay (R248, R267, R268). -/
def Mod.fuseOff (m : Mod) : Mod :=
  let m := foldN 32 Mod.endSource m
  let m := foldN 4 (fun (m : Mod) k => m.setDegraded (k + 1) false) m
  let m := if 100 ≤ m.fuse.flowAbs then m.yieldEv 1 false else m
  let m := m.fuseState 0
  { m with fuse := { src := foldN 32 (fun t n => Tab.put {} t n (m.fsrc n).counts) [] } }

/-- An orderly entry to PARK publishes the open record (R265). -/
def Mod.yieldPark (m : Mod) : Mod := if m.pd 5 && m.fuse.yieldOn then m.closeRecord 32 else m

/-- FUSION reloaded by an activation: both restart in INIT (R416). -/
def Mod.fuseRestart (m : Mod) : Mod := m.fuseOff.fuseUp

/-! ### FUSE class operations -/

/-- Instances of the class. -/
def fuseInsts : Nat := 34

/-- 0x0B01 -/
def opFuseGetInfo : Op := opInfo 11 fuseInsts

/-- ns of an offset of 2^−16 ns as binary64. -/
def offsetNs (o : Option Int) : F64 := match o with | some v => D.ofRat v 65536 | none => 0

/-- 0x0B02 -/
def opFuseGetStatus : Op where
  len := exactly 0
  insts := fuseInsts
  body := fun c m =>
    let n := c.inst.toNat
    let f := m.fuse
    if n = 32 then
      Res.ok m (le 1 f.st ++ le 1 (rd m.engRec 3 1) ++ le 2 m.fuseFlags ++ le 4 f.included.toNat
        ++ le 4 (m.maskOf fun s => s.excluded != 0).toNat ++ le 4 f.absent.toNat ++ le 4 (m.maskOf fun s => s.resync.isSome).toNat
        ++ le 2 (match f.path with | some p => p.1.toNat | none => 0) ++ le 2 (f.segment.getD 0xFFFF)
        ++ le 2 f.staged.length ++ zeros 2 ++ le 4 f.published)
    else if n = 33 then
      Res.ok m (le 4 f.records ++ le 2 (match f.rcd with | some r => r.span | none => 0) ++ zeros 2 ++ le 4 f.unmatched.toNat
        ++ le 4 f.gaps ++ le 2 f.delay ++ zeros 2)
    else
      let s := m.fsrc n
      let q := mainQuantity (m.srcOf n)
      let st := if !m.srcOn n then 0 else if s.resync.isSome then 3 else if s.excluded != 0 then 2
        else if f.absent.toNat.testBit n then 4 else 1
      Res.ok m (le 1 st ++ le 1 s.excluded.toNat ++ le 1 (Tab.get 0 s.overGate q) ++ le 1 (Tab.get 0 s.withinGate q)
        ++ le 4 s.late ++ le 4 s.overflow ++ le 4 s.order ++ le 4 s.absent ++ le 4 s.drops ++ le 4 s.accepted
        ++ le 8 (offsetNs (if selfClocked (m.srcOf n) then s.o else none)).toNat ++ le 4 s.residual.toNat ++ le 8 (s.last.getD 0))

/-- A source record is legal (Table 10-2). -/
def srcRecordOk (r : Bytes) : Bool :=
  let d := rd r 0 1
  let q := rd r 1 1
  let gate := fun (off : Nat) => S.isFin (rdF r off) && !S.lt (rdF r off) 0
  decide (d ≤ 4) && (d == 0 || d == 1 || d == 2 || inRange q 1 8)
    && decide (rd r 2 1 ≤ (if d = 2 then 2 else if d = 3 then 127 else 0)) && decide (rd r 3 1 ≤ 63)
    && decide (rd r 5 1 ≤ 1) && (rd r 5 1 == 0 || d == 4) && decide (rd r 6 1 ≤ 15) && isZero r 7 1
    && inRange (rd r 8 4) 250 1000000 && decide (rd r 12 2 ≤ 40) && isZero r 14 2
    && S.isFin (rdF r 16) && S.isFin (rdF r 20) && gate 24 && gate 28 && gate 32 && gate 36 && isZero r 40 8

/-- A record of the engine is legal. -/
def engRecordOk (r : Bytes) : Bool :=
  inRange (rd r 0 1) 1 50 && inRange (rd r 1 1) 1 255 && decide (rd r 2 1 ≤ 63) && decide (rd r 3 1 ≤ 2)
    && S.le 0 (rdF r 4) && S.le (rdF r 4) 0x42480000 && inRange (rd r 8 2) 1 60 && isZero r 10 2 && S.isFin (rdF r 12)
    && ((List.range 16).all fun k => decide (rd r (16 + 2 * k) 1 ≤ 247) && decide (rd r (17 + 2 * k) 1 ≤ 12))
    && isZero r 48 16

/-- A record of the accumulator is legal: ranges, and sources of the right quantity as written. -/
def Mod.accRecordOk (m : Mod) (r : Bytes) : Bool :=
  let isOf := fun (n q : Nat) => decide (n < 32) && decide (3 ≤ rd (m.fuseWritten 0x0B03 n srcDflt) 0 1)
    && rd (m.fuseWritten 0x0B03 n srcDflt) 1 1 == q
  let n := rd r 10 1
  isOf (rd r 0 1) 5 && (rd r 1 1 == 0xFF || isOf (rd r 1 1) 6) && (rd r 2 1 == 0xFF || isOf (rd r 2 1) 7)
    && decide (rd r 3 1 ≤ 63) && decide (rd r 4 2 ≤ 4096) && decide (rd r 6 2 ≤ rd r 4 2) && decide (rd r 8 1 ≤ 1)
    && inRange (rd r 9 1) 5 100 && inRange n 1 16 && isZero r 11 1 && S.le 0 (rdF r 12) && S.le (rdF r 12) 0x41F00000
    && (List.range 16).all fun k => decide (k < n) || isZero r (16 + 2 * k) 2

/-- Length of a record, by instance. -/
def fuseRecLen (n : Nat) : Nat := if n = 32 then 64 else 48

/-- 0x0B03: from the next fusion cycle. -/
def opFuseSetConfig : Op where
  len := fun c => c.plen.toNat == fuseRecLen c.inst.toNat
  insts := fuseInsts
  body := fun c m =>
    let n := c.inst.toNat
    let r := slice c.params 0 (fuseRecLen n)
    if (if n = 32 then engRecordOk r else if n = 33 then m.accRecordOk r else srcRecordOk r) then
      Res.ok ((m.setCfg 0x0B03 n r).markSet 1)
    else Res.err m St.badParam

/-- 0x0B04 -/
def opFuseGetConfig : Op where
  len := exactly 0
  insts := fuseInsts
  body := fun c m =>
    let n := c.inst.toNat
    Res.ok m (if n = 32 then m.engRec else if n = 33 then m.accRec else m.srcOf n)

/-- ENABLE or DISABLE is noted for the next cycle. -/
def Mod.askFuse (m : Mod) (n : Nat) (on : Bool) : Mod :=
  if n = 32 then { m with fuse := { m.fuse with ask := some on } }
  else if n = 33 then { m with fuse := { m.fuse with yieldAsk := some on } }
  else m.setFsrc n { m.fsrc n with ask := some on }

/-- 0x0B05 -/
def opFuseEnable : Op := { len := exactly 0, insts := fuseInsts, body := fun c m => Res.ok (m.askFuse c.inst.toNat true) }

/-- 0x0B06 -/
def opFuseDisable : Op := { len := exactly 0, insts := fuseInsts, body := fun c m => Res.ok (m.askFuse c.inst.toNat false) }

/-- The counters of an instance. -/
def FuseSrc.cleared (s : FuseSrc) : FuseSrc := { s with late := 0, overflow := 0, order := 0, absent := 0, drops := 0, accepted := 0 }

/-- 0x0B07 -/
def opFuseResetInstance : Op where
  len := exactly 0
  insts := fuseInsts
  body := fun c m =>
    let n := c.inst.toNat
    let m := (m.askFuse n false).restore 1 0x0B03 n
    Res.ok (if n = 32 then { m with fuse := { m.fuse with published := 0 } }
      else if n = 33 then { m with fuse := { m.fuse with records := 0, gaps := 0 } }
      else m.setFsrc n (m.fsrc n).cleared)

/-- The norm of a quaternion differs from 1 by at most 10^−4 (R250). -/
def normOk (r : Bytes) (off : Nat) : Bool :=
  let q := fun k => S.scaled (rdF r (off + 4 * k))
  let n2 := (List.range 4).foldl (fun (a : Int) k => a + q k * q k) 0
  let one : Int := ((2 ^ 298 : Nat) : Int)
  (List.range 4).all (fun k => S.isFin (rdF r (off + 4 * k)))
    && decide (9999 * 9999 * one ≤ n2 * 100000000) && decide (n2 * 100000000 ≤ 10001 * 10001 * one)

/-- An entry with its quaternion normalised (R250). -/
def normalised (r : Bytes) : Bytes :=
  let q := fun k => rdF r (16 + 4 * k)
  let n := S.sqrt ((List.range 4).foldl (fun a k => S.fma (q k) (q k) a) 0)
  patch r 16 ((List.range 4).flatMap fun k => le 4 (S.div (q k) n).toNat)

/-- 0x0B10 (R250) -/
def opWriteTransform : Op where
  len := exactly 36
  insts := fuseInsts
  only := some 32
  body := fun c m =>
    let r := slice c.params 0 36
    let k := rd r 0 1
    if 63 < k ∨ !isZero r 1 3 ∨ !(List.range 3).all (fun j => S.isFin (rdF r (4 + 4 * j))) ∨ !normOk r 16 ∨ 1 < rd r 32 1
        ∨ !isZero r 33 3 then Res.err m St.badParam
    else Res.ok ((m.setCfg 0x0B10 k (normalised r)).markSet 1)

/-- 0x0B11 -/
def opClearCullet : Op where
  len := exactly 0
  insts := 32
  body := fun c m => Res.ok (m.setFsrc c.inst.toNat (m.fsrc c.inst.toNat).cleared)

/-- A pushed sample. -/
def pushed (p : Bytes) (k : Nat) : FuseIn :=
  { time := BitVec.ofNat 64 (rd p (8 + 32 * k) 8), v0 := rdD p (16 + 32 * k), v1 := rdD p (24 + 32 * k), v2 := rdF p (32 + 32 * k),
    sd := rdF p (36 + 32 * k) }

/-- 0x0B12 (R246) -/
def opPushSample : Op where
  len := fun c => 8 ≤ c.plen.toNat && c.plen.toNat == 8 + 32 * rd c.params 0 1
  insts := 32
  body := fun c m =>
    let n := c.inst.toNat
    let k := rd c.params 0 1
    let xs := (List.range k).map (pushed c.params)
    let fin := xs.all fun x => D.isFin x.v0 && D.isFin x.v1 && S.isFin x.v2 && S.isFin x.sd
    if k = 0 ∨ 7 < k ∨ !isZero c.params 1 7 ∨ rd (m.srcOf n) 0 1 ≠ 4 ∨ !fin then Res.err m St.badParam
    else if !(m.fsrc n).enabled then Res.err m St.notReady
    else
      let m := m.fuseDue
      let r := xs.foldl (fun (a : Mod × List Taken) x => let p := a.1.takeSample n x; (p.1, p.2 :: a.2)) (m, [])
      let cnt := fun (t : Taken) => (r.2.filter fun u => decide (u = t)).length
      Res.ok r.1 (le 1 (cnt .accepted) ++ le 1 (cnt .late) ++ le 1 (cnt .overflow) ++ le 1 (cnt .order))

/-- 20,000 m, the limit of a vertex (R259). -/
def vertexOk (v : F32) : Bool := S.isFin v && S.le (S.abs v) 0x469C4000

/-- 0x0B13 (R259) -/
def opPathLoad : Op where
  len := fun c => 8 ≤ c.plen.toNat && c.plen.toNat == 8 + 8 * rd c.params 2 2
  insts := fuseInsts
  only := some 32
  body := fun c m =>
    let first := rd c.params 0 2
    let n := rd c.params 2 2
    let v := fun k => (rdF c.params (8 + 8 * k), rdF c.params (12 + 8 * k))
    if n = 0 ∨ 29 < n ∨ 4095 < first ∨ 4096 < first + n ∨ !isZero c.params 4 4
        ∨ !(List.range n).all (fun k => vertexOk (v k).1 && vertexOk (v k).2) then Res.err m St.badParam
    else Res.ok { m with fuse := { m.fuse with
      staging := foldN n (fun t k => Tab.put (0, 0) t (first + k) (v k)) m.fuse.staging
      staged := foldN n (fun t k => Tab.put false t (first + k) true) m.fuse.staged } }

/-- 0x0B14 (R259) -/
def opPathActivate : Op where
  len := exactly 32
  insts := fuseInsts
  only := some 32
  body := fun c m =>
    let id := rd c.params 0 2
    let n := rd c.params 2 2
    let vs := (List.range n).map fun k => Tab.get (0, 0) m.fuse.staging k
    let same := (List.range (n - 1)).any fun k =>
      let a := vs.getD k (0, 0)
      let b := vs.getD (k + 1) (0, 0)
      S.le a.1 b.1 && S.le b.1 a.1 && S.le a.2 b.2 && S.le b.2 a.2
    if id = 0 ∨ !inRange n 2 4096 ∨ !isZero c.params 4 4 ∨ !(D.isFin (rdD c.params 8) && D.isFin (rdD c.params 16)
        && D.isFin (rdD c.params 24)) ∨ !(List.range n).all (fun k => Tab.get false m.fuse.staged k) ∨ same then
      Res.err m St.badParam
    else Res.ok { m with fuse := { m.fuse with
      nextPath := some (BitVec.ofNat 16 id, slice c.params 8 24, n) } }

/-- 0x0B15 -/
def opReadTransform : Op where
  len := exactly 4
  insts := fuseInsts
  only := some 32
  body := fun c m =>
    let k := rd c.params 0 1
    if 63 < k ∨ !isZero c.params 1 3 then Res.err m St.badParam else Res.ok m (m.transform k)

/-- FUSE_GET_INFO (R98). -/
def execFuseGetInfo (c : Cmd) (s : State) : Host.Outcome State Fault Refusal := s.act fun m => m.serve 0x0B01 opFuseGetInfo c
/-- FUSE_GET_STATUS (R248). -/
def execFuseGetStatus (c : Cmd) (s : State) : Host.Outcome State Fault Refusal := s.act fun m => m.serve 0x0B02 opFuseGetStatus c
/-- FUSE_SET_CONFIG (R244). -/
def execFuseSetConfig (c : Cmd) (s : State) : Host.Outcome State Fault Refusal := s.act fun m => m.serve 0x0B03 opFuseSetConfig c
/-- FUSE_GET_CONFIG (R244). -/
def execFuseGetConfig (c : Cmd) (s : State) : Host.Outcome State Fault Refusal := s.act fun m => m.serve 0x0B04 opFuseGetConfig c
/-- FUSE_ENABLE (R258). -/
def execFuseEnable (c : Cmd) (s : State) : Host.Outcome State Fault Refusal := s.act fun m => m.serve 0x0B05 opFuseEnable c
/-- FUSE_DISABLE (R265). -/
def execFuseDisable (c : Cmd) (s : State) : Host.Outcome State Fault Refusal := s.act fun m => m.serve 0x0B06 opFuseDisable c
/-- FUSE_RESET_INSTANCE (R244). -/
def execFuseResetInstance (c : Cmd) (s : State) : Host.Outcome State Fault Refusal := s.act fun m => m.serve 0x0B07 opFuseResetInstance c
/-- WRITE_TRANSFORM (R250). -/
def execWriteTransform (c : Cmd) (s : State) : Host.Outcome State Fault Refusal := s.act fun m => m.serve 0x0B10 opWriteTransform c
/-- CLEAR_CULLET (R248). -/
def execClearCullet (c : Cmd) (s : State) : Host.Outcome State Fault Refusal := s.act fun m => m.serve 0x0B11 opClearCullet c
/-- PUSH_SAMPLE (R246). -/
def execPushSample (c : Cmd) (s : State) : Host.Outcome State Fault Refusal := s.act fun m => m.serve 0x0B12 opPushSample c
/-- PATH_LOAD (R259). -/
def execPathLoad (c : Cmd) (s : State) : Host.Outcome State Fault Refusal := s.act fun m => m.serve 0x0B13 opPathLoad c
/-- PATH_ACTIVATE (R259). -/
def execPathActivate (c : Cmd) (s : State) : Host.Outcome State Fault Refusal := s.act fun m => m.serve 0x0B14 opPathActivate c
/-- READ_TRANSFORM (R250). -/
def execReadTransform (c : Cmd) (s : State) : Host.Outcome State Fault Refusal := s.act fun m => m.serve 0x0B15 opReadTransform c

/-- The FUSE class. -/
def fuseOps : List (Nat × Op) :=
  [(0x0B01, opFuseGetInfo), (0x0B02, opFuseGetStatus), (0x0B03, opFuseSetConfig), (0x0B04, opFuseGetConfig),
   (0x0B05, opFuseEnable), (0x0B06, opFuseDisable), (0x0B07, opFuseResetInstance), (0x0B10, opWriteTransform),
   (0x0B11, opClearCullet), (0x0B12, opPushSample), (0x0B13, opPathLoad), (0x0B14, opPathActivate),
   (0x0B15, opReadTransform)]

end Sys2Proof.Machine
end

