-- ==== Sys2Proof/Machine/PipeMath.lean ====
section
/-! DEFINITION. The arithmetic of the image pipes (R292, R293, R302): mosaic patterns, pedestal,
spatial and temporal noise reduction, shading, colour, tone and the three outputs. -/

namespace Sys2Proof.Machine

open Sys2Proof

/-- Layout of a mosaic pattern at phase 0, as channels (Table 12-3). -/
def mosaic (pattern : Nat) : List (List Nat) :=
  match pattern with
  | 0 => [[0, 1], [2, 3]]
  | 1 => [[0, 1], [3, 2]]
  | 2 => [[2, 1, 0, 1], [1, 3, 1, 3], [0, 1, 2, 1], [1, 3, 1, 3]]
  | 3 => [[0, 1], [1, 2]]
  | 4 => [[0, 1], [1, 1]]
  | _ => [[0, 1], [3, 2]]

/-- Period of a pattern, 2 or 4. -/
def mosaicSize (pattern : Nat) : Nat := if pattern = 2 then 4 else 2

/-- Channel of pixel (x, y) (Table 12-3). -/
def chanAt (pattern phase x y : Nat) : Nat :=
  let n := mosaicSize pattern
  ((mosaic pattern).getD ((y + phase / n) % n) []).getD ((x + phase % n) % n) 0

/-- Nearest integer of num / den, ties away from zero, saturated to 16 bits; negative results are 0. -/
def sat16r (num : Int) (den : Nat) : Nat := if num ≤ 0 ∨ den = 0 then 0 else min 65535 ((2 * num.toNat + den) / (2 * den))

/-- Stage 1: unpack and pedestal. -/
def stage1 (rcd : Bytes) (bitsPer ch raw : Nat) : Nat :=
  let v := min 65535 (raw * 2 ^ (16 - bitsPer))
  sat16r (((v : Int) - (rd rcd (8 + 2 * ch) 2 : Nat)) * (rd rcd (16 + 2 * ch) 2 : Nat)) 4096

/-- Insertion into an ascending list. -/
def insertAsc (x : Nat) : List Nat → List Nat
  | [] => [x]
  | y :: t => if x ≤ y then x :: y :: t else y :: insertAsc x t

/-- An ascending copy of a list. -/
def sortAsc (l : List Nat) : List Nat := l.foldr insertAsc []

/-- Twice the median: of an even number, the sum of the two in the middle (log entry 7). -/
def median2 (l : List Nat) : Nat :=
  let s := sortAsc l
  let n := s.length
  if n % 2 = 1 then 2 * s.getD (n / 2) 0 else s.getD (n / 2 - 1) 0 + s.getD (n / 2) 0

/-- Stage 2: defect removal always, smoothing where SNR is set (log entry 7). -/
def stage2 (rcd : Bytes) (p : Nat) (ns : List Nat) : Nat :=
  match sortAsc ns with
  | [] => p
  | lo :: t =>
    let hi := (lo :: t).getLastD lo
    let m2 := median2 ns
    let thr := 2 * rd rcd 30 2
    let out := (hi < p ∧ m2 + thr < 2 * p) ∨ (p < lo ∧ 2 * p + thr < m2)
    let p := if out then (m2 + 1) / 2 else p
    if (rd rcd 7 1).testBit 0 then
      let d := rd rcd 28 1 * (rd rcd 24 2 * 65536 + rd rcd 26 2 * p)
      let w := fun (n : Nat) => d - 4096 * (((n : Int) - p).natAbs ^ 2)
      let num := ns.foldl (fun a n => a + w n * n) (p * d)
      let den := ns.foldl (fun a n => a + w n) d
      if den = 0 then p else sat16r num den
    else p

/-- Stage 3: motion-adaptive recursion against the reference value; none = no valid reference, a = 256 (log entry 7). -/
def stage3 (rcd : Bytes) (p : Nat) (ref : Option Nat) : Nat :=
  match ref with
  | none => p
  | some r =>
    let d := ((p : Int) - r).natAbs
    let lo := rd rcd 32 2
    let hi := rd rcd 34 2
    let amin := rd rcd 29 1
    let den := hi - lo
    -- a / 256 as num / (256 · den)
    let num := if d ≤ lo then amin * den else if hi ≤ d then 256 * den else amin * den + (256 - amin) * (d - lo)
    sat16r ((r : Int) * (256 * den : Nat) + (num : Int) * ((p : Int) - r)) (256 * den)

/-- Mirror an index into 0 … n − 1 at the picture's edges; the edge itself is not repeated (log entry 7). -/
def mirror (n : Nat) (i : Int) : Nat :=
  let k := i.natAbs
  if n ≤ k then 2 * (n - 1) - k else k

/-- One row of stage-1 output. `px` are the line's 16-bit pixels. -/
def row1 (rcd : Bytes) (bitsPer w y : Nat) (px : Bytes) : List Nat :=
  (List.range w).map fun x => stage1 rcd bitsPer (chanAt (rd rcd 2 1) (rd rcd 3 1) x y) (rd px (2 * x) 2)

/-- One row of stage-3 output from the stage-1 rows around it. `rows` answers a stage-1 row by its line, `h` lines the
picture has; `ref` is the row's valid reference. -/
def row3 (rcd : Bytes) (w h y : Nat) (rows : Nat → List Nat) (ref : Option Bytes) : Bytes :=
  let pat := rd rcd 2 1
  let ph := rd rcd 3 1
  let tnr := (rd rcd 7 1).testBit 1
  let near := [-2, -1, 0, 1, 2].map fun (dy : Int) =>
    let yy := mirror h ((y : Int) + dy)
    (dy, yy, rows yy)
  (List.range w).flatMap fun x =>
    let ch := chanAt pat ph x y
    let p := (rows y).getD x 0
    let ns := near.flatMap fun q => [-2, -1, 0, 1, 2].filterMap fun (dx : Int) =>
      let xx := mirror w ((x : Int) + dx)
      if (dx ≠ 0 ∨ q.1 ≠ 0) ∧ chanAt pat ph xx q.2.1 = ch then some (q.2.2.getD xx 0) else none
    let p := stage2 rcd p ns
    le 2 (if tnr then stage3 rcd p (match ref with | some b => some (rd b (2 * x) 2) | none => none) else p)

/-! ### Stages 4 to 8 (Tables 12-4 and 12-6) (log entry 48) -/

/-- Nearest integer of num / den, ties away from zero. -/
def nearest (num den : Nat) : Nat := if den = 0 then 0 else (2 * num + den) / (2 * den)

/-- Stage 4: lens shading, the gain bilinear over a 17 × 13 grid whose corners lie on the picture's corners (log entry 48). -/
def stage4 (rcd tab : Bytes) (w h ch x y v : Nat) : Nat :=
  if !(rd rcd 7 1).testBit 2 then v
  else
    let dx := max 1 (w - 1)
    let dy := max 1 (h - 1)
    let cx := 16 * x / dx
    let cy := 12 * y / dy
    let fx := 16 * x % dx
    let fy := 12 * y % dy
    let g := fun (r c : Nat) => rd tab (2 * ((ch * 13 + min r 12) * 17 + min c 16)) 2
    let row := fun (r : Nat) => g r cx * (dx - fx) + g r (cx + 1) * fx
    sat16r (v * (row cy * (dy - fy) + row (cy + 1) * fy) : Nat) (4096 * dx * dy)

/-- One row after stage 4, from a row of stage-3 output. -/
def row4 (rcd tab : Bytes) (w h y : Nat) (row : Bytes) : List Nat :=
  (List.range w).map fun x => stage4 rcd tab w h (chanAt (rd rcd 2 1) (rd rcd 3 1) x y) x y (rd row (2 * x) 2)

/-- A pixel after stages 5 and 6: colour, IR and the clear channel. -/
structure Px where
  r : Nat
  g : Nat
  b : Nat
  ir : Nat
  clear : Nat
deriving DecidableEq, Repr

/-- The 5 × 5 window round a pixel, mirrored at the edges. -/
def window5 (rows : List (List Nat)) (w h x y : Nat) : List Nat :=
  [-2, -1, 0, 1, 2].flatMap fun (dy : Int) =>
    let row := rows.getD (mirror h ((y : Int) + dy)) []
    [-2, -1, 0, 1, 2].map fun (dx : Int) => row.getD (mirror w ((x : Int) + dx)) 0

/-- Which reconstructed plane stands for plane `k`: RCCC gives R, C, C, and the clear channel of RCCB and RCCC is its C
(Table 12-4). -/
def planeOf (pattern k : Nat) : Nat := if (pattern = 4 ∧ (k = 2 ∨ k = 4)) ∨ (pattern = 3 ∧ k = 4) then 1 else k

/-- Stages 5 and 6: reconstruction, for RGB-IR less the IR, then the colour matrix (log entry 48). -/
def stage56 (rcd : Bytes) (rows : List (List Nat)) (w h x y : Nat) : Px :=
  let pat := rd rcd 2 1
  let n := mosaicSize pat
  let place := (y + rd rcd 3 1 / n) % n * n + (x + rd rcd 3 1) % n
  let win := window5 rows w h x y
  let plane := fun (k : Nat) => (Config.mosaic pat place (planeOf pat k) win).toNat
  let ir := plane 3
  let c := fun (k : Nat) => if pat = 1 ∨ pat = 2 then sat16r ((plane k : Int) * 4096 - rdI rcd (36 + 2 * k) 2 * ir) 4096 else plane k
  let out := fun (k : Nat) =>
    sat16r ((List.range 3).foldl (fun (a : Int) j => a + rdI rcd (44 + 2 * (3 * k + j)) 2 * (c j : Nat)) (rdI rcd (62 + 2 * k) 2 * 4096)) 4096
  { r := out 0, g := out 1, b := out 2, ir := ir, clear := plane 4 }

/-- Stage 7: the tone curve of 257 entries. -/
def stage7 (tab : Bytes) (v : Nat) : Nat :=
  let t := fun (i : Nat) => rd tab (2 * i) 2
  min 65535 (nearest (t (v / 256) * (256 - v % 256) + t (v / 256 + 1) * (v % 256)) 256)

/-- A plane of samples, row by row. -/
abbrev Plane := List (List Nat)

/-- A sample of a plane, its edges repeated. -/
def Plane.px (p : Plane) (x y : Nat) : Nat :=
  let row := p.getD (min y (p.length - 1)) []
  row.getD (min x (row.length - 1)) 0

/-- Each 2 × 2 square of a plane as its mean, sizes rounded up (log entry 48). -/
def Plane.half (p : Plane) : Plane :=
  let w := ((p.headD []).length + 1) / 2
  (List.range ((p.length + 1) / 2)).map fun y => (List.range w).map fun x =>
    nearest (p.px (2 * x) (2 * y) + p.px (2 * x + 1) (2 * y) + p.px (2 * x) (2 * y + 1) + p.px (2 * x + 1) (2 * y + 1)) 4

/-- Rows of DISP that `n` lines of a picture of `h` give: the output ends at the last line (Table 12-5). -/
def dispHeight (rcd : Bytes) (h n : Nat) : Nat := (n * rd rcd 72 2 + h - 1) / max 1 h

/-- The first `n` rows of a plane of `h` lines scaled to dw × dh by the polyphase filter. -/
def Plane.scaled (p : Plane) (dw dh h n : Nat) : Plane :=
  let w := (p.headD []).length
  (List.range n).map fun y => (List.range dw).map fun x =>
    let x0 := x * w / max 1 dw
    let y0 := y * h / max 1 dh
    (Config.polyphase (x * w % max 1 dw * 65536 / max 1 dw) (y * h % max 1 dh * 65536 / max 1 dh)
      ([-1, 0, 1, 2].flatMap fun (dy : Int) => [-1, 0, 1, 2].map fun (dx : Int) =>
        p.px ((x0 : Int) + dx).toNat ((y0 : Int) + dy).toNat)).toNat

/-- BT.709 luma of a linear or toned pixel, times 10,000. -/
def luma10k (r g b : Nat) : Nat := 2126 * r + 7152 * g + 722 * b

/-- DISP rows: RGB888, or RGB565 with R in bits [15:11]. -/
def dispRows (rcd : Bytes) (h : Nat) (r g b : Plane) : List Bytes :=
  let dw := rd rcd 70 2
  let dh := rd rcd 72 2
  let n := dispHeight rcd h r.length
  let q := fun (bits v : Nat) => min (2 ^ bits - 1) (nearest v (2 ^ (16 - bits)))
  let r := r.scaled dw dh h n
  let g := g.scaled dw dh h n
  let b := b.scaled dw dh h n
  (List.range n).map fun y => (List.range dw).flatMap fun x =>
    if rd rcd 69 1 = 0 then le 1 (q 8 (r.px x y)) ++ le 1 (q 8 (g.px x y)) ++ le 1 (q 8 (b.px x y))
    else le 2 (q 5 (r.px x y) * 2048 + q 6 (g.px x y) * 32 + q 5 (b.px x y))

/-- CODE rows: the Y plane, then CbCr of each 2 × 2 square; BT.709, limited range, 8 bits or 10 in bits [15:6]. -/
def codeRows (rcd : Bytes) (r g b : Plane) : List Bytes × List Bytes :=
  let ten := rd rcd 74 1 = 1
  let k := if ten then 4 else 1
  let put := fun (v : Nat) => if ten then le 2 (v * 64) else le 1 v
  let w := (r.headD []).length
  let luma := (List.range r.length).map fun y => (List.range w).flatMap fun x =>
    put (nearest (16 * k * 655350000 + 219 * k * luma10k (r.px x y) (g.px x y) (b.px x y)) 655350000)
  let hr := r.half
  let hg := g.half
  let hb := b.half
  let chroma := fun (c y : Int) (span : Int) =>
    let num : Int := 224 * (k : Int) * (10000 * c - y) + 128 * (k : Int) * (span * 65535)
    put (nearest num.toNat (span * 65535).toNat)
  let cbcr := (List.range hr.length).map fun y => (List.range ((w + 1) / 2)).flatMap fun x =>
    let l : Int := (luma10k (hr.px x y) (hg.px x y) (hb.px x y) : Nat)
    chroma (hb.px x y : Nat) l 18556 ++ chroma (hr.px x y : Nat) l 15748
  (luma, cbcr)

/-- Rows of 12-bit samples in 16 bits. -/
def visnRows (p : Plane) : List Bytes := p.map fun row => row.flatMap fun v => le 2 v

/-- VISN planes: luma, IR where it is on, pyramid L1 to L3. -/
def visnPlanes (rcd : Bytes) (luma ir : Plane) : List Plane :=
  let fit := fun (p : Plane) => if rd rcd 75 1 = 0 then p else p.half
  let twelve := fun (p : Plane) => p.map fun row => row.map fun v => v / 16
  let l0 := fit (twelve luma)
  [l0] ++ (if (rd rcd 6 1).testBit 3 then [fit (twelve ir)] else []) ++ [l0.half, l0.half.half, l0.half.half.half]

/-- Rows laid out with a stride, the rest 0. -/
def planeBytes (stride : Nat) (rows : List Bytes) : Bytes := rows.flatMap fun r => (r ++ zeros (stride - r.length)).take stride

/-- The rows of every plane of an output, from a picture's stage-3 rows: 0 DISP, 1 CODE, 2 VISN. -/
def outputRows (rcd shading tone : Bytes) (w h o : Nat) (rows3 : List Bytes) : List (List Bytes) :=
  let n := rows3.length
  let rows := (List.range n).map fun y => row4 rcd shading w h y (rows3.getD y [])
  let px := (List.range n).map fun y => (List.range w).map fun x => stage56 rcd rows w n x y
  let plane := fun (f : Px → Nat) => px.map fun row => row.map f
  let toned := fun (f : Px → Nat) => plane fun p => stage7 tone (f p)
  match o with
  | 0 => [dispRows rcd h (toned Px.r) (toned Px.g) (toned Px.b)]
  | 1 => let c := codeRows rcd (toned Px.r) (toned Px.g) (toned Px.b); [c.1, c.2]
  | _ =>
    let luma := plane fun p => if rd rcd 68 1 = 1 then p.clear else min 65535 (nearest (luma10k p.r p.g p.b) 10000)
    (visnPlanes rcd luma (plane Px.ir)).map visnRows

end Sys2Proof.Machine
end

