-- ==== Sys2Proof/Machine/PicBase.lean ====
section
/-! DEFINITION. Pictures on their way from a slot through a pipe (chapters 11 and 12): records, admission, picture start,
jobs, picture end and the descriptor. -/

namespace Sys2Proof.Machine

open Sys2Proof

/-! ### Records -/

/-- Receiver of a slot. -/
def Mod.rx (m : Mod) (n : Nat) : SlotRx := Tab.get {} m.clnk.slot n

/-- Write a slot's receiver. -/
def Mod.setRx (m : Mod) (n : Nat) (x : SlotRx) : Mod := { m with clnk := { m.clnk with slot := Tab.put {} m.clnk.slot n x } }

/-- A link. -/
def Mod.link (m : Mod) (k : Nat) : Link := Tab.get {} m.clnk.link k

/-- Write a link. -/
def Mod.setLink (m : Mod) (k : Nat) (x : Link) : Mod := { m with clnk := { m.clnk with link := Tab.put {} m.clnk.link k x } }

/-- What the pipes keep of a slot. -/
def Mod.ps (m : Mod) (n : Nat) : PipeSlot := Tab.get {} m.pipes.slot n

/-- Write what the pipes keep of a slot. -/
def Mod.setPs (m : Mod) (n : Nat) (x : PipeSlot) : Mod := { m with pipes := { m.pipes with slot := Tab.put {} m.pipes.slot n x } }

/-- Replace a picture of a slot. -/
def Mod.updPic (m : Mod) (n num : Nat) (f : Pic → Pic) : Mod :=
  let p := m.ps n
  m.setPs n { p with pics := p.pics.map fun q => if q.num = num then f q else q }

/-- A pipe. -/
def Mod.pipe (m : Mod) (k : Nat) : Pipe := Tab.get {} m.pipes.pipe k

/-- Write a pipe. -/
def Mod.setPipe (m : Mod) (k : Nat) (x : Pipe) : Mod := { m with pipes := { m.pipes with pipe := Tab.put {} m.pipes.pipe k x } }

/-- A stream of the encoder. -/
def Mod.enc (m : Mod) (k : Nat) : EncStream := Tab.get {} m.pipes.enc k

/-- Write a stream of the encoder. -/
def Mod.setEnc (m : Mod) (k : Nat) (x : EncStream) : Mod := { m with pipes := { m.pipes with enc := Tab.put {} m.pipes.enc k x } }

/-- A partition of the vision array. -/
def Mod.part (m : Mod) (k : Nat) : Part := Tab.get {} m.vis k

/-- Write a partition. -/
def Mod.setPart (m : Mod) (k : Nat) (x : Part) : Mod := { m with vis := Tab.put {} m.vis k x }

/-- Slot record: enabled. -/
def slotOn (r : Bytes) : Bool := rd r 1 1 == 1
/-- Slot record: width. -/
def slotW (r : Bytes) : Nat := rd r 4 2
/-- Slot record: height. -/
def slotH (r : Bytes) : Nat := rd r 6 2
/-- Slot record: ring_lines. -/
def slotRing (r : Bytes) : Nat := rd r 8 2
/-- Slot record: max_rate, 0.01 pictures/s. -/
def slotRate (r : Bytes) : Nat := rd r 10 2
/-- Slot record: spill. -/
def slotSpill (r : Bytes) : Bool := (rd r 3 1).testBit 0

/-- Bits of a pixel of a data type. -/
def dtypeBits (t : Nat) : Nat := if t = 0x2A then 8 else if t = 0x2B then 10 else if t = 0x2C then 12 else 14

/-- Bytes of a slot's ring, rounded up to 4 KiB (R282). -/
def ringBytes (r : Bytes) : Nat := (slotRing r * (16 + 2 * slotW r) + 4095) / 4096 * 4096

/-- The slot record as written. -/
def Mod.slotRec (m : Mod) (n : Nat) : Bytes := m.stored 0x0C10 n

/-- A context record as written (Table 12-2); unbound where none has been. -/
def Mod.ctxRec (m : Mod) (k : Nat) : Bytes :=
  let p := m.stored 0x0D10 k
  if p.isEmpty then 0xFF :: zeros 79 else p.drop 4

/-- The contexts bound to a slot. -/
def Mod.bound (m : Mod) (n : Nat) : List Nat := (List.range 16).filter fun k => rd (m.ctxRec k) 0 1 == n

/-- The context a slot will have at its next picture. -/
def Mod.ctxNext (m : Mod) (n : Nat) : Option Nat := (m.ps n).nextCtx.orElse fun _ => (m.ps n).ctx

/-- The context record of a slot's next picture, empty if it has no context. -/
def Mod.recNext (m : Mod) (n : Nat) : Bytes := match m.ctxNext n with | some k => m.ctxRec k | none => []

/-- An output is on: 0 DISP, 1 CODE, 2 VISN. -/
def outOn (rcd : Bytes) (o : Nat) : Bool := (rd rcd 6 1).testBit o

/-- Buffers of an output. -/
def outBufs (rcd : Bytes) (o : Nat) : Nat := rd rcd (76 + o) 1

/-- VISN goes to vision-array SRAM. -/
def toArray (rcd : Bytes) : Bool := (rd rcd 6 1).testBit 4

/-! ### Admission (R288, R302, R308) -/

/-- Stripes of a picture. -/
def stripesOf (rcd : Bytes) (h : Nat) : Nat := let s := rd rcd 4 2; if s = 0 then 1 else (h + s - 1) / s

/-- Load of a slot in 0.01 pixels per second. -/
def slotLoad (r rcd : Bytes) : Nat := slotW r * (slotH r + 8 * (stripesOf rcd (slotH r) - 1)) * slotRate r

/-- DISP bytes per picture. -/
def dispBytes (rcd : Bytes) : Nat :=
  if outOn rcd 0 then rd rcd 70 2 * rd rcd 72 2 * (if rd rcd 69 1 = 0 then 3 else 2) else 0

/-- Twice the CODE bytes per picture. -/
def codeBytes2 (r rcd : Bytes) : Nat := if outOn rcd 1 then slotW r * slotH r * (if rd rcd 74 1 = 0 then 3 else 6) else 0

/-- 256 times the VISN bytes per picture (Table 12-6). -/
def visnBytes256 (r rcd : Bytes) : Nat :=
  if outOn rcd 2 then
    slotW r * slotH r * (170 + b2n (outOn rcd 3) * 128) * (if rd rcd 75 1 = 0 then 4 else 1)
  else 0

/-- TNR traffic of a slot in 0.01 B/s (R288). -/
def tnrTraffic (r rcd : Bytes) : Nat :=
  if (rd rcd 7 1).testBit 1 then
    slotW r * (4 * slotH r + 16 * (stripesOf rcd (slotH r) - 1)) * slotRate r
  else 0

/-- A sum over every enabled slot with its active context. -/
def Mod.slotSum (m : Mod) (f : Bytes → Bytes → Nat) : Nat :=
  (List.range 12).foldl (fun a n =>
    let r := m.slotRec n
    let rcd := m.recNext n
    if slotOn r && !rcd.isEmpty then a + f r rcd else a) 0

/-- DISP and CODE writes in 0.005 B/s. -/
def Mod.dcSum (m : Mod) : Nat := m.slotSum fun r rcd => (2 * dispBytes rcd + codeBytes2 r rcd) * slotRate r

/-- VISN writes to SDRAM, or to the array, in 0.01/256 B/s. -/
def Mod.visnSum (m : Mod) (arr : Bool) : Nat :=
  m.slotSum fun r rcd => if toArray rcd == arr then visnBytes256 r rcd * slotRate r else 0

/-- The configuration is admitted (Table 12-1) (log entry 49). -/
def Mod.admitted (m : Mod) : Bool :=
  decide (m.slotSum slotLoad ≤ 100000000000) && decide (m.dcSum ≤ 600000000000)
    && decide (m.visnSum false ≤ 37888000000000) && decide (m.visnSum true ≤ 20480000000000)

/-- Rows rounded up to 64 bytes (R302). -/
def row64 (n : Nat) : Nat := (n + 63) / 64 * 64

/-- Bytes of the planes of a VISN level of w × h. -/
def level64 (w h : Nat) : Nat := row64 (2 * w) * h

/-- Bytes of one buffer of an output: header and planes. -/
def bufBytes (r rcd : Bytes) (o : Nat) : Nat :=
  let w := slotW r
  let h := slotH r
  match o with
  | 0 => 64 + row64 (rd rcd 70 2 * (if rd rcd 69 1 = 0 then 3 else 2)) * rd rcd 72 2
  | 1 => 64 + row64 (w * (1 + rd rcd 74 1)) * (h + (h + 1) / 2)
  | _ =>
    let half := fun (n : Nat) => (n + 1) / 2
    let w0 := if rd rcd 75 1 = 0 then w else half w
    let h0 := if rd rcd 75 1 = 0 then h else half h
    let l0 := level64 w0 h0
    64 + l0 + (if outOn rcd 3 then l0 else 0) + level64 (half w0) (half h0)
      + level64 (half (half w0)) (half (half h0)) + level64 (half (half (half w0))) (half (half (half h0)))

/-- Bytes of all buffers of an output of a context, 0 where it is off or unbound. -/
def Mod.outBytes (m : Mod) (k o : Nat) : Nat :=
  let rcd := m.ctxRec k
  if rd rcd 0 1 < 12 ∧ outOn rcd o then outBufs rcd o * bufBytes (m.slotRec (rd rcd 0 1)) rcd o else 0

/-- Bytes of the isochronous region in use: outputs, temporal references, spill rings, encoder rings and the Frame
Exchange mirror (Table 01-6, R283, R293, R302, R320). -/
def Mod.isoBytes (m : Mod) : Nat :=
  4096
    + (List.range 16).foldl (fun a k =>
        a + m.outBytes k 0 + m.outBytes k 1 + (if toArray (m.ctxRec k) then 0 else m.outBytes k 2)) 0
    + (List.range 12).foldl (fun a n =>
        let r := m.slotRec n
        if !slotOn r then a
        else a + (if slotSpill r then ringBytes r else 0)
               + (if (rd (m.recNext n) 7 1).testBit 1 then 2 * slotW r * slotH r else 0)) 0
    + (List.range 4).foldl (fun a k => let e := m.enc k; if e.running then a + rd e.params 20 2 * 1048576 else a) 0

/-- Everything fits the isochronous region, 1.5 GiB (log entry 49). -/
def Mod.isoFits (m : Mod) : Bool := decide (m.isoBytes ≤ 0x60000000)

/-- Bytes of a partition's SRAM (R307). -/
def partBytes : Nat := 12582912

/-- The largest activation need among the models of the jobs of a queue (R308). -/
def Part.acts (x : Part) (q : Nat) : Nat :=
  (Tab.get [] x.queue q : List VisJob).foldl (fun a j =>
    match x.models.find? fun d => d.handle == rd j.cmd.params 0 2 with
    | some d => max a d.kmp.acts
    | none => a) 0

/-- Allocation `i`. -/
def Mod.allocOf (m : Mod) (i : Nat) : Alloc := Tab.get {} m.pipes.allocs i

/-- Write an allocation. -/
def Mod.setAlloc (m : Mod) (i : Nat) (x : Alloc) : Mod := { m with pipes := { m.pipes with allocs := Tab.put {} m.pipes.allocs i x } }

/-- The allocation of a context, 0 where it has none. -/
def Mod.ctxAlloc (m : Mod) (k : Nat) : Nat := Tab.get 0 m.pipes.alloc k

/-- Bytes of a partition's SRAM that an allocation takes (R308). -/
def Alloc.inArray (a : Alloc) (p : Nat) : Nat :=
  match a.va0 with
  | none => 0
  | some v => (if p = 0 then v else a.count.getD 2 0 - v) * a.size.getD 2 0

/-- SRAM of a partition in use (R308). -/
def Mod.partUsed (m : Mod) (p : Nat) : Nat :=
  let x := m.part p
  (List.range 16).foldl (fun a k => a + (m.allocOf (m.ctxAlloc k)).inArray p) 0
    + x.models.foldl (fun a d => a + d.kmp.weights) 0
    + (List.range 4).foldl (fun a q => a + x.acts q) 0

/-- Free SRAM of a partition. -/
def Mod.partFree (m : Mod) (p : Nat) : Nat := partBytes - m.partUsed p

/-- The buffers that a context's record asks for (R302). -/
def Mod.allocNeed (m : Mod) (k : Nat) : Alloc :=
  let rcd := m.ctxRec k
  let n := rd rcd 0 1
  let on := fun (o : Nat) => decide (n < 12) && outOn rcd o
  { size := (List.range 3).map fun o => if on o then bufBytes (m.slotRec n) rcd o else 0
    count := (List.range 3).map fun o => if on o then outBufs rcd o else 0 }

/-- Place a context's buffers at its commit, in place of those it had: a fresh identity, from which the addresses follow;
VISN_TO_ARRAY buffers one by one in VA0 while it has room, then in VA1 (R302, R308). None where an allocation fails
(log entry 48). -/
def Mod.placeCtx (m : Mod) (k : Nat) : Option Mod :=
  let d := m.draw
  let i := d.2.fresh
  let m := { d.2 with pipes := { d.2.pipes with alloc := Tab.put 0 d.2.pipes.alloc k 0 } }
  let a : Alloc := m.allocNeed k
  let n := a.size.getD 2 0
  let c := a.count.getD 2 0
  let a : Alloc := { a with va0 := if toArray (m.ctxRec k) && n != 0 then some (min c (m.partFree 0 / n)) else none }
  if !m.isoFits || decide (m.partFree 1 < a.inArray 1) then none
  else some (Mod.setAlloc { m with pipes := { m.pipes with alloc := Tab.put 0 m.pipes.alloc k i } } i a)

/-- Place the buffers of every context bound to a slot, whose geometry has changed (R302). -/
def Mod.placeSlot (m : Mod) (n : Nat) : Option Mod :=
  (m.bound n).foldl (fun (r : Option Mod) k => r.bind fun m => m.placeCtx k) (some m)

/-! ### Buffers (R299, R302) -/

/-- Key of a buffer: allocation, output, index. -/
def bufKey (i o b : Nat) : Nat := i * 32 + o * 8 + b

/-- The output of a buffer. -/
def keyOut (key : Nat) : Nat := key / 8 % 4

/-- A buffer is held: CODE by the encoder, VISN by the vision array; DISP never (R299). -/
def Mod.bufHeld (m : Mod) (key : Nat) : Bool :=
  ((List.range 4).any fun k => (m.enc k).held.any fun h => h.1 == key)
    || (List.range 2).any fun p => (m.part p).queue.any fun q => q.2.any fun (j : VisJob) => j.buf == key

/-- The next buffer of an output of an allocation in rotation that is not held. -/
def Mod.nextFree (m : Mod) (i o start count : Nat) : Option Nat :=
  ((List.range count).map fun b => (start + b) % count).find? fun b => !m.bufHeld (bufKey i o b)

/-- The buffer lies in vision-array SRAM. -/
def Mod.bufInArray (m : Mod) (i o : Nat) : Bool := o == 2 && (m.allocOf i).va0.isSome

/-- Address of a buffer, in the isochronous region; in vision-array SRAM an offset with bit 63 set, on a line and whole
within its partition. Where the module places it there is free (R22, R302, R307) (log entry 48). -/
def Mod.bufAddr (m : Mod) (i o b : Nat) : Nat :=
  let a := m.allocOf i
  let x := (Config.bufAddr i (o * 8 + b)).toNat
  let n := a.size.getD o 0
  match (if o = 2 then a.va0 else none) with
  | some v => 2 ^ 63 + (if b < v then 0 else partBytes) + x % (partBytes - min n (partBytes - 64)) / 64 * 64
  | none => isoPlace x n

/-- What a buffer holds. -/
def Mod.bufOf (m : Mod) (i o b : Nat) : Bytes := Tab.get [] m.pipes.buf (bufKey i o b)

/-- Write a buffer; a line of SDRAM that is written is sound again (R27). -/
def Mod.setBuf (m : Mod) (i o b : Nat) (x : Bytes) : Mod :=
  let m := { m with pipes := { m.pipes with buf := Tab.put [] m.pipes.buf (bufKey i o b) x } }
  if m.bufInArray i o then m else m.cleanse (m.bufAddr i o b) x.length

/-- Which picture a buffer holds, or that it holds none. -/
def Mod.setBufPic (m : Mod) (n key : Nat) (x : Option (Nat × Nat)) : Mod :=
  let p := m.ps n
  m.setPs n { p with bufPic := Tab.put none p.bufPic key x }

/-! ### Events of a slot (R306) -/

/-- A per-slot event on a pipe's source, at most once a second for codes 5 to 9. -/
def Mod.slotEv (m : Mod) (pipe n code : Nat) : Mod :=
  let k := n * 16 + code
  match Tab.get none m.pipes.evRaw k with
  | some t =>
    if t + secs 1 ≤ m.now then
      Mod.ev { m with pipes := { m.pipes with evRaw := Tab.put none m.pipes.evRaw k (some m.now) } } (107 + pipe) n code true
    else m
  | none => Mod.ev { m with pipes := { m.pipes with evRaw := Tab.put none m.pipes.evRaw k (some m.now) } } (107 + pipe) n code true

/-! ### Picture start (R280, R289, R290, R296) -/

/-- A pipe takes new pictures. -/
def Pipe.takes (x : Pipe) : Bool := x.st == 1 && !x.stopping

/-- The pipe of a record: its home unless that is OFF or in FAULT, then the other (R296) (log entry 49). -/
def Mod.assign (m : Mod) (rcd : Bytes) : Option Nat :=
  let home := rd rcd 1 1
  if rcd.isEmpty then none else if (m.pipe home).takes then some home else if (m.pipe (1 - home)).takes then some (1 - home) else none

/-- The bytes of a record that a TNR reference depends on: pattern, phase, ped (R290) (log entry 48). -/
def tnrKey (rcd : Bytes) : Bytes := slice rcd 2 2 ++ slice rcd 8 8

/-- A record has the temporal noise reduction set: the slot has a reference (R293). -/
def tnrOn (rcd : Bytes) : Bool := (rd rcd 7 1).testBit 1

/-- A reference with only the rows valid that a test keeps (R294). -/
def tnrKeep (t : Tab (Bool × Bytes)) (f : Nat → Bool) : Tab (Bool × Bytes) :=
  t.map fun e => if f e.1 then e else (e.1, (false, e.2.2))

/-- Picture time and flags of a picture whose first block has just arrived: the last edge that has come and that no
picture has taken; without one it runs freely (R280) (log entry 47). -/
def SlotRx.picTime (x : SlotRx) (now : Nat) : Nat × List Nat :=
  if rd x.rcd 12 1 = 0 then (now, [6])
  else match (x.trig.filter fun e => e.1 ≤ now).getLast? with
    | some e => (e.1, if e.2 then [7] else [])
    | none => (now, [6])

/-- Buffers of a picture, taken from an allocation in rotation: for each output none where it is off or skipped, with the
outputs skipped. A buffer that is taken no longer counts as holding its earlier picture (R299, R302, R312). -/
def Mod.takeBufs (m : Mod) (n i : Nat) (rcd : Bytes) : Mod × List (Option Nat) × List Nat :=
  foldN 3 (fun (a : Mod × List (Option Nat) × List Nat) o =>
    if outOn rcd o then
      let x := a.1.allocOf i
      let c := x.count.getD o 0
      match a.1.nextFree i o (x.next.getD o 0) c with
      | some b =>
        ((a.1.setAlloc i { x with next := x.next.set o ((b + 1) % c) }).setBufPic n (bufKey i o b) none, a.2.1 ++ [some b], a.2.2)
      | none => (a.1, a.2.1 ++ [none], a.2.2 ++ [o])
    else (a.1, a.2.1 ++ [none], a.2.2)) (m, [], [])

/-- HUB_CTRL: the hub switches sensor power as the records in force say (R278, R285): a byte with one bit per slot of the
link, then the reset flag (log entry 46). -/
def Mod.hubCtrl (m : Mod) (k : Nat) : Mod :=
  let x := m.link k
  if x.st = .training ∨ x.st = .aligning ∨ x.st = .up then
    let p := (List.range 4).foldl (fun a v => a + b2n ((rd (m.rx (4 * k + v)).rcd 3 1).testBit 1) * 2 ^ v) 0
    m.setLink k { x with seq := x.seq + 1, queue := x.queue ++ [{ typ := 0x13, seq := x.seq, slot := 0xFF, payload := [BitVec.ofNat 8 p, 0] }] }
  else m

/-- A slot record takes force: a change of sensor_power goes to the hub (R278, R285). -/
def Mod.slotForce (m : Mod) (n : Nat) (r : Bytes) : Mod :=
  let old := (m.rx n).rcd
  let m := m.setRx n { m.rx n with rcd := r }
  if (rd old 3 1).testBit 1 != (rd r 3 1).testBit 1 then m.hubCtrl (n / 4) else m

/-- A slot's pipe changes: FAILOVER starts when a picture runs on another pipe than its home, which is OFF or in FAULT,
and ends when one runs on its home again (R296, R306) (log entry 49). -/
def Mod.failover (m : Mod) (n home : Nat) (pipe : Option Nat) : Mod :=
  match pipe with
  | none => m
  | some q =>
    let p := m.ps n
    let away := if q = home then none else some home
    if p.away = away then m
    else
      let m := match p.away with | some h => m.ev (107 + h) n 4 false | none => m
      let m := match away with | some h => m.ev (107 + h) n 4 true | none => m
      m.setPs n { m.ps n with away := away }

/-- A picture of a slot starts: records, tables and context take force, a pipe is assigned, buffers are chosen. A change of
pattern, phase or ped, and a record without TNR, leave no row of the reference valid, whatever jobs of earlier pictures
still run (R290, R293, R305). -/
def Mod.picStart (m : Mod) (n : Nat) (noFs : Bool) : Mod :=
  let m := m.slotForce n (if (m.slotRec n).isEmpty then (m.rx n).rcd else m.slotRec n)
  let x := m.rx n
  let p := m.ps n
  let ctx := m.ctxNext n
  let rcd := m.recNext n
  let pipe := m.assign rcd
  let t := x.picTime m.now
  let keep := tnrOn rcd && tnrKey rcd == tnrKey p.rcd
  let m := m.setPs n { p with
    ctx := ctx, nextCtx := none, rcd := rcd, pipe := pipe
    tnr := if !tnrOn rcd then [] else if keep then p.tnr else tnrKeep p.tnr fun _ => false
    epoch := p.epoch + b2n (!keep) }
  let m := m.failover n (rd rcd 1 1) pipe
  let i := match ctx with | some k => m.ctxAlloc k | none => 0
  let w := if pipe.isSome && ctx.isSome then m.takeBufs n i rcd else (m, [], [])
  let m := w.1
  let p := m.ps n
  let tab := fun (t : Nat) => match ctx with | some k => m.stored 0x0D12 (2 * k + t) | none => []
  let pic : Pic := { num := x.next, rcd := rcd, ctx := ctx, pipe := pipe, timeRaw := t.1, alloc := i, bufs := w.2.1
                     shade := tab 0, tone := tab 1, epoch := p.epoch
                     flags := t.2 ++ (if noFs then [5] else []) ++ w.2.2.map (· + 9), status := if pipe.isNone then 3 else 0 }
  let m := m.setPs n { p with pics := p.pics ++ [pic], skipped := sat32 (p.skipped + w.2.2.length) }
  let m := m.setRx n { x with inPic := true, noFs := noFs, line := 0, frag := 0, pkt := [], miss := 0, embPkts := 0
                              linePer := 0, lineRaw := 0, trig := x.trig.filter fun e => m.now < e.1
                              next := (x.next + 1) % 2 ^ 32, discard := pipe.isNone }
  if w.2.2.isEmpty then m else m.slotEv (pipe.getD 0) n 9

/-! ### Jobs (R295) -/

/-- Every line of the picture that came has been written into the ring, and no more will come. -/
def Pic.full (p : Pic) (x : SlotRx) : Bool := p.ended && !(x.pending.any fun e => rd e.1 0 4 == p.num)

/-- Jobs that are ready or done, of a picture with its present lines. Where a picture ends SHORT after its last whole stripe
has run, a further job emits the rows that stripe held back (R295) (log entry 49). -/
def Pic.due (p : Pic) (x : SlotRx) : Nat :=
  let s := rd p.rcd 4 2
  if p.status ≠ 0 then p.made
  else if s = 0 then b2n (p.full x && decide (0 < p.lines))
  else if p.full x ∨ slotH x.rcd ≤ p.lines then
    let k := (p.lines + s - 1) / s
    k + b2n (p.full x && decide (p.jobs = k) && decide (p.emitted < p.lines))
  else p.lines / s

/-- Job `k` of a picture. -/
def Pic.jobOf (p : Pic) (n k : Nat) : PipeJob :=
  let s := rd p.rcd 4 2
  let lo := k * s
  let hi := if s = 0 then p.lines else min ((k + 1) * s) p.lines
  { slot := n, picture := p.num, stripe := k, lo := lo, hi := hi, readyRaw := p.arrivals.getD (p.lines - hi) 0 }

/-- Every stripe whose lines are there becomes ready. -/
def Mod.jobsDue (m : Mod) (n : Nat) : Mod :=
  let x := m.rx n
  let p := m.ps n
  let new := p.pics.flatMap fun q => ((List.range (q.due x)).drop q.made).map fun k => q.jobOf n k
  m.setPs n { p with pics := p.pics.map fun q => { q with made := max q.made (q.due x) }, ready := p.ready ++ new }

/-- A job of the picture runs. -/
def Mod.picRunning (m : Mod) (n num : Nat) : Bool :=
  (List.range 2).any fun k => match (m.pipe k).job with | some j => j.slot == n && j.picture == num | none => false

/-- The picture is over: its last job has completed, or it is discarded and will get no more lines. -/
def Mod.picOver (m : Mod) (n : Nat) (p : Pic) : Bool :=
  !m.picRunning n p.num &&
    if p.status = 0 then p.full (m.rx n) && !((m.ps n).ready.any fun j => j.picture == p.num) else p.ended

/-! ### The descriptor (R298, R303, R304) -/

/-- DAMAGED runs of an ascending list of lines: (first, count), at most `n`. -/
def runsOf : Nat → List Nat → List (Nat × Nat)
  | _, [] => []
  | 0, _ => []
  | n + 1, y :: t =>
    let k := ((List.range (t.length + 1)).takeWhile fun i => (y :: t).getD i 0 == y + i).length
    (y, k) :: runsOf n ((y :: t).drop k)

/-- Planes of an output: (bytes per row, rows), of a whole picture (Table 12-6). -/
def planesOf (r rcd : Bytes) (o : Nat) : List (Nat × Nat) :=
  let w := slotW r
  let h := slotH r
  match o with
  | 0 => [(row64 (rd rcd 70 2 * (if rd rcd 69 1 = 0 then 3 else 2)), rd rcd 72 2)]
  | 1 => [(row64 (w * (1 + rd rcd 74 1)), h), (row64 (w * (1 + rd rcd 74 1)), (h + 1) / 2)]
  | _ =>
    let half := fun (n : Nat) => (n + 1) / 2
    let w0 := if rd rcd 75 1 = 0 then w else half w
    let h0 := if rd rcd 75 1 = 0 then h else half h
    [(row64 (2 * w0), h0)] ++ (if outOn rcd 3 then [(row64 (2 * w0), h0)] else [])
      ++ [(row64 (2 * half w0), half h0), (row64 (2 * half (half w0)), half (half h0)),
          (row64 (2 * half (half (half w0))), half (half (half h0)))]

/-- Offset of plane `i` from the buffer start (Table 12-7). -/
def planeStart (ps : List (Nat × Nat)) (i : Nat) : Nat := 64 + (ps.take i).foldl (fun a q => a + q.1 * q.2) 0

/-- Rows of an output's first plane that a picture of `rows` lines writes: the outputs end at its last line (Table 12-5). -/
def outHeight (r rcd : Bytes) (o rows : Nat) : Nat :=
  match o with
  | 0 => dispHeight rcd (slotH r) rows
  | 1 => rows
  | _ => if rd rcd 75 1 = 0 then rows else (rows + 1) / 2

/-- The buffer header (Table 12-7) (log entry 48). -/
def bufHeader (r rcd : Bytes) (n o num rows timeRaw : Nat) : Bytes :=
  let fmt := match o with | 0 => rd rcd 69 1 | 1 => rd rcd 74 1 | _ => rd rcd 75 1
  let w := match o with | 0 => rd rcd 70 2 | 1 => slotW r | _ => if rd rcd 75 1 = 0 then slotW r else (slotW r + 1) / 2
  let ps := planesOf r rcd o
  let offs := (List.range 5).flatMap fun i =>
    if i < ps.length then le 4 (planeStart ps i) ++ le 4 (ps.getD i (0, 0)).1 else zeros 8
  le 4 num ++ le 1 n ++ le 1 o ++ le 1 fmt ++ [0] ++ le 2 w ++ le 2 (outHeight r rcd o rows) ++ zeros 4 ++ offs ++ le 8 timeRaw

/-- A buffer with the planes of a picture's output written into it at their offsets: its stage-3 rows through stages 4 to 8
under the tables in force at its start; rows that a SHORT picture does not have are left (R292, R302, R303) (log entry 48). -/
def Mod.outPlanes (m : Mod) (n o : Nat) (p : Pic) (old : Bytes) : Bytes :=
  let r := (m.rx n).rcd
  let rows := (List.range p.lines).map fun y => Tab.get [] p.rows y
  let out := outputRows p.rcd p.shade p.tone (slotW r) (slotH r) o rows
  let ps := planesOf r p.rcd o
  (List.range ps.length).foldl (fun b i => patch b (planeStart ps i) (planeBytes (ps.getD i (0, 0)).1 (out.getD i [])))
    (slice old 0 (planeStart ps ps.length))

/-- The outputs of a COMPLETE picture are written: planes, then headers, and the pictures the buffers hold (R302, R303) (log entry 48). -/
def Mod.writeOuts (m : Mod) (n : Nat) (p : Pic) : Mod :=
  foldN 3 (fun (m : Mod) o =>
    match p.bufs.getD o none with
    | none => m
    | some b =>
      let x := patch (m.outPlanes n o p (m.bufOf p.alloc o b)) 0 (bufHeader (m.rx n).rcd p.rcd n o p.num p.lines p.timeRaw)
      (m.setBuf p.alloc o b x).setBufPic n (bufKey p.alloc o b) (some (p.num, p.timeRaw))) m

/-- An encoder stream meets a COMPLETE picture with CODE of its slot (R318, R321). -/
def Mod.encOffer (m : Mod) (n : Nat) (p : Pic) (e : Nat) : Mod :=
  let s := m.enc e
  let r := (m.rx n).rcd
  match p.bufs.getD 1 none with
  | none => m
  | some b =>
    if !s.running || rd s.params 1 1 != n || s.stopping || s.mismatch.isSome then m
    else if s.fmt ≠ (rd p.rcd 74 1, slotW r, slotH r) then m.setEnc e { s with mismatch := some (p.num, p.timeRaw) }
    else if s.decim ≠ 0 then m.setEnc e { s with decim := s.decim - 1 }
    else
      let next := rd s.params 4 1 - 1
      if s.held.length < 2 then m.setEnc e { s with decim := next, held := s.held ++ [(bufKey p.alloc 1 b, p.num, p.timeRaw)] }
      else
        let due := match s.skipRaw with | some t => decide (t + secs 1 ≤ m.now) | none => true
        let m := m.setEnc e { s with decim := next, skippedIn := inc32 s.skippedIn, skipRaw := if due then some m.now else s.skipRaw }
        if due then m.ev 109 e 2 true else m

/-- Publish the PIPE_PICTURE entry of a picture that is over, and count it. -/
def Mod.publishPic (m : Mod) (n : Nat) (p : Pic) : Mod :=
  let r := (m.rx n).rcd
  let ok := decide (p.status = 0)
  let short := ok && decide (p.lines < slotH r)
  let m := if ok then m.writeOuts n p else m
  let late := p.flags.contains 12
  let flags := p.flags ++ (if short then [0] else []) ++ (if p.excess ≠ 0 then [1] else [])
    ++ (if p.damaged.isEmpty then [] else [2]) ++ (if p.padded ≠ 0 then [3] else [])
    ++ (if p.truncated ≠ 0 then [4] else []) ++ (if p.spatial ≠ 0 then [8] else [])
  let fw := flags.eraseDups.foldl (fun a b => a + 2 ^ b) 0
  let buf := fun (o : Nat) => if ok then p.bufs.getD o none else none
  let addr := fun (o : Nat) => match buf o with | some b => m.bufAddr p.alloc o b | none => 0
  let runs := runsOf 4 p.damaged
  let body := le 1 n ++ le 1 (p.ctx.getD 0xFF) ++ le 1 (p.pipe.getD 0xFF) ++ le 1 p.status ++ le 2 fw
    ++ le 2 (if ok then p.lines else if p.status = 2 then p.emitted else 0) ++ le 4 p.num ++ le 2 (slotW r) ++ le 2 (slotH r) ++ le 8 p.timeRaw ++ le 8 p.lastRaw
    ++ le 8 p.doneRaw ++ le 2 p.damaged.length ++ le 2 p.padded ++ le 2 p.truncated ++ le 2 p.excess ++ le 2 p.spatial
    ++ le 2 p.jobs ++ le 1 ((buf 0).getD 0xFF) ++ le 1 ((buf 1).getD 0xFF) ++ le 1 ((buf 2).getD 0xFF) ++ [0]
    ++ le 8 (addr 0) ++ le 8 (addr 1) ++ le 8 (addr 2)
    ++ (List.range 4).flatMap fun i => let q := runs.getD i (0, 0); le 2 q.1 ++ le 2 q.2
  let s := m.ps n
  let tnr := if p.status = 1 ∨ p.status = 2 then tnrKeep s.tnr fun _ => false
    else if short then tnrKeep s.tnr (· < p.lines) else s.tnr
  let m := m.setPs n { s with
    tnr := tnr
    pictures := if ok then inc32 s.pictures else s.pictures
    short := if short then inc32 s.short else s.short
    aborted := if p.status = 2 then inc32 s.aborted else s.aborted
    noPipe := if p.status = 3 then inc32 s.noPipe else s.noPipe
    latest := if ok then some (p.num, p.timeRaw) else s.latest }
  let m := m.publish 13 0 1 body
  let k := p.pipe.getD 0
  let m := if late then m.slotEv k n 5 else m
  let m := if short then m.slotEv k n 6 else m
  let m := if p.excess ≠ 0 then m.slotEv k n 7 else m
  let m := if p.padded ≠ 0 ∨ p.truncated ≠ 0 then m.slotEv k n 8 else m
  if ok then foldN 4 (fun (m : Mod) e => m.encOffer n p e) m else m

/-- Publish the pictures of a slot that are over, in picture order, at most `k`. -/
def Mod.publishN (n : Nat) : Nat → Mod → Mod
  | 0, m => m
  | k + 1, m =>
    match (m.ps n).pics with
    | [] => m
    | p :: t =>
      if m.picOver n p then Mod.publishN n k ((m.setPs n { m.ps n with pics := t }).publishPic n p) else m

/-- New jobs become ready, and pictures that are over are published. -/
def Mod.picStep (m : Mod) (n : Nat) : Mod := let m := m.jobsDue n; Mod.publishN n (m.ps n).pics.length m

/-! ### Picture end and discards -/

/-- A slot's counters of 0x0D14 are cleared. -/
def PipeSlot.cleared (p : PipeSlot) : PipeSlot :=
  { p with pictures := 0, short := 0, long := 0, padded := 0, truncated := 0, aborted := 0, noPipe := 0, skipped := 0, late := 0 }

/-- Change the newest picture of a slot. -/
def PipeSlot.last (s : PipeSlot) (f : Pic → Pic) : PipeSlot :=
  match s.pics.reverse with
  | [] => s
  | p :: t => { s with pics := t.reverse ++ [f p] }

/-- The picture in progress ends at its last received line (R276, R285). -/
def Mod.picEnd (m : Mod) (n : Nat) : Mod :=
  let x := m.rx n
  if !x.inPic then m
  else
    let lines := x.line - x.embPkts
    let short := !x.discard && decide (lines < slotH x.rcd)
    let m := m.setRx n { x with inPic := false, pkt := [], frag := 0, miss := 0, discard := false, pictures := inc32 x.pictures,
                                shortPics := if short then inc32 x.shortPics else x.shortPics }
    let s := m.ps n
    -- a NO_PIPE picture is published by its own event
    (m.setPs n (s.last fun p => if p.status = 3 then p else { p with ended := true })).picStep n

/-- A picture is discarded with a status: its lines in the ring go, its jobs that have not started are cancelled, its
remaining lines are discarded up to the next frame start (R284, R298, R300). -/
def Mod.discardPic (m : Mod) (n num status : Nat) (ended : Bool) : Mod :=
  let x := m.rx n
  let s := m.ps n
  let cur := x.inPic && (x.next + 2 ^ 32 - 1) % 2 ^ 32 == num
  let keep := fun (e : Bytes × Bytes) => rd e.1 0 4 != num
  let m := m.setRx n { x with ring := x.ring.filter keep, pending := x.pending.filter keep, discard := x.discard || cur }
  let m := m.setPs n { s with
    ready := s.ready.filter fun j => j.picture != num
    pics := s.pics.map fun p => if p.num = num ∧ p.status = 0 then
        { p with status := status, ended := p.ended || ended }
      else p }
  m.picStep n

end Sys2Proof.Machine
end

