-- ==== Sys2Proof/Machine/ClnkOps.lean ====
section
/-! DEFINITION. Camera links and the gather buffer (chapter 11): power over coax, link states, forward blocks, CSI-2
packets, the back channel, FSYNC, the rings and the CLNK class. -/

namespace Sys2Proof.Machine

open Sys2Proof

/-! ### Links -/

/-- The link record (0x0C03); poc is 1 by default. -/
def Mod.linkRec (m : Mod) (k : Nat) : Bytes := m.cfgOr 0x0C03 k [1, 0, 0, 0]

/-- A link event, EV104 to EV106 (R286) (log entry 46). -/
def Mod.linkEv (m : Mod) (k code : Nat) (on : Bool) : Mod := m.ev (104 + k) k code on

/-- Code of a link state (Table 11-1). -/
def LinkState.code : LinkState → Nat
  | .off => 0 | .powering => 1 | .training => 2 | .aligning => 3 | .up => 4 | .down => 5 | .latched => 6

/-- The picture in progress of every slot of a link ends at its last received line. -/
def Mod.endPics (m : Mod) (k : Nat) : Mod := foldN 4 (fun (m : Mod) v => m.picEnd (4 * k + v)) m

/-- A link changes its state: every change raises its event with the new state (R271, R286); leaving UP ends the
pictures; TRAINING starts the windows of the back channel anew (R269). -/
def Mod.linkTo (m : Mod) (k : Nat) (st : LinkState) : Mod :=
  let x := m.link k
  if x.st = st then m
  else
    let m := if x.st = .up then m.endPics k else m
    let x := m.link k
    let x := { x with st := st, stRaw := m.now, good := 0, bad := 0, silent := 0 }
    let x := if st = .training then { x with trainRaw := m.now, windows := 0, status := none, echo := none } else x
    (m.setLink k x).raise (104 + k) (k + 9 * 256 + st.code * 65536)

/-- Every I2C transfer of a link that has not been answered completes with TIMEOUT (R278, R285). -/
def Mod.i2cFail (m : Mod) (k : Nat) : Mod :=
  let x := m.link k
  let cmds := (x.await.toList ++ x.queue).filterMap BcMsg.cmd
  let m := m.setLink k { x with await := none, queue := x.queue.filter fun q => q.cmd.isNone }
  cmds.foldl (fun (m : Mod) c => m.finish 0x0C12 c St.timeout) m

/-- The power of a link goes off; what the link and its back channel were doing is lost. -/
def Mod.linkDown (m : Mod) (k : Nat) (st : LinkState) : Mod :=
  let m := (m.linkTo k st).i2cFail k
  let x := m.link k
  let m := m.setLink k { x with poc := false, pocOpen := false, locked := false, status := none, queue := [], unaligned := false,
                                lockLost := false, hubLost := false }
  let m := if st = .off then m.setLink k { m.link k with short := false } else m
  [(1, x.pocOpen), (2, x.short && st == .off), (4, x.lockLost), (5, x.hubLost), (6, x.unaligned)].foldl (fun (m : Mod) e =>
    if e.2 then m.linkEv k e.1 false else m) m

/-- ENABLE: power on, → POWERING (Table 11-1). A LATCHED link stays so until RESET_INSTANCE. -/
def Mod.linkOn (m : Mod) (k : Nat) : Mod :=
  let x := m.link k
  if x.st = .off then (m.setLink k { x with poc := rd (m.linkRec k) 0 1 == 1 }).linkTo k .powering else m

/-- DISABLE: every picture in progress ends and the power goes off (log entry 47). -/
def Mod.linkOff (m : Mod) (k : Nat) : Mod := if (m.link k).st = .latched then m else m.linkDown k .off

/-- ALIGNING follows TRAINING once there is block lock and a STATUS message (Table 11-1). -/
def Mod.tryAlign (m : Mod) (k : Nat) : Mod :=
  let x := m.link k
  if x.st = .training ∧ x.locked ∧ x.status.isSome then m.linkTo k .aligning else m

/-! ### Slots (R277, R282–R285) -/

/-- A slot is enabled: its ring and its temporal reference are placed, its ring is empty, its pictures count from 0, no row
of the reference is valid (R282, R283, R293). -/
def Mod.slotUp (m : Mod) (n : Nat) : Mod :=
  let m := m.draw.2
  let x := m.rx n
  let m := m.setRx n { x with next := 0, ring := [], pending := [], inPic := false, discard := false, line := 0, frag := 0
                              pkt := [], miss := 0, edges := [], trig := [], place := m.fresh, wrote := 0, spill := [] }
  let p := m.ps n
  m.setPs n { p with rcd := [], tnr := [], epoch := p.epoch + 1, latest := none }

/-- A slot is disabled: its jobs are cancelled and its pictures end as DROPPED_OVERRUN; the reference is freed (R305). -/
def Mod.slotDown (m : Mod) (n : Nat) : Mod :=
  let m := (m.ps n).pics.foldl (fun (m : Mod) p => m.discardPic n p.num 1 true) m
  let m := m.setRx n { m.rx n with ring := [], pending := [], inPic := false, edges := [], trig := [], spill := [] }
  let p := m.ps n
  m.setPs n { p with rcd := [], tnr := [], epoch := p.epoch + 1, ready := [] }

/-- A new slot record takes force (R285): at once where the slot is enabled or disabled or no picture is in progress,
else at the next picture start. -/
def Mod.slotSet (m : Mod) (n : Nat) (old : Bytes) : Mod :=
  let new := m.slotRec n
  let m := if slotOn new && !slotOn old then m.slotUp n else if slotOn old && !slotOn new then m.slotDown n
    else m
  if slotOn new && slotOn old && (m.rx n).inPic then m else m.slotForce n new

/-- What of the links and slots outlives PD7: a latch, which only RESET_INSTANCE ends, the switch-offs it counts, the last
bad block, and every counter (R270, R284, R286) (log entry 47). -/
def Mod.linksKept (m : Mod) : Clnk :=
  { link := foldN 3 (fun t k =>
      let x := m.link k
      Tab.put {} t k { st := if x.st = .latched then .latched else .off, trips := x.trips, short := x.short, badRaw := x.badRaw
                       badBlocks := x.badBlocks, unsupported := x.unsupported, eccFixed := x.eccFixed, bcErrors := x.bcErrors
                       blocks := x.blocks }) []
    slot := foldN 12 (fun t n =>
      let x := m.rx n
      Tab.put {} t n { pictures := x.pictures, dropped := x.dropped, damagedLines := x.damagedLines, shortPics := x.shortPics
                       fsyncs := x.fsyncs }) [] }

/-- A module start clears the counters of links and slots (0x0C13). -/
def Mod.clnkStart (m : Mod) : Mod :=
  let m := foldN 3 (fun (m : Mod) k =>
    m.setLink k { m.link k with badBlocks := 0, unsupported := 0, eccFixed := 0, bcErrors := 0, blocks := 0 }) m
  foldN 12 (fun (m : Mod) n =>
    m.setRx n { m.rx n with pictures := 0, dropped := 0, damagedLines := 0, shortPics := 0, fsyncs := 0 }) m

/-- PD7 comes up: slots and links start as their records say; a latched link stays so (R270). -/
def Mod.clnkUp (m : Mod) : Mod :=
  let m := { m with clnk := m.linksKept }
  let m := foldN 12 (fun (m : Mod) n => (if slotOn (m.slotRec n) then m.slotUp n else m).slotForce n (m.slotRec n)) m
  foldN 3 (fun (m : Mod) k => if (rd (m.linkRec k) 1 1).testBit 0 then m.linkOn k else m) m

/-- PD7 goes off: every link goes OFF with its conditions and its event; rings and pictures are lost (R270, R271, R305). -/
def Mod.clnkOff (m : Mod) : Mod :=
  let m := foldN 3 Mod.linkOff m
  { m with clnk := m.linksKept }

/-- Byte rate of a link's enabled slots in 0.01 B/s times 8 (R277). -/
def Mod.linkRate (m : Mod) (k : Nat) : Nat :=
  (List.range 4).foldl (fun a v =>
    let r := m.slotRec (4 * k + v)
    if slotOn r then a + (slotW r * dtypeBits (rd r 2 1) + 48) * slotH r * slotRate r else a) 0

/-- The sum of an expression over the enabled slots. -/
def Mod.onSum (m : Mod) (f : Bytes → Nat) : Nat :=
  (List.range 12).foldl (fun a n => let r := m.slotRec n; if slotOn r then a + f r else a) 0

/-- The slots fit links, gather buffer and spill (R277, R282, R283). -/
def Mod.slotsFit (m : Mod) : Bool :=
  ((List.range 3).all fun k => decide (m.linkRate k ≤ 8 * 80000000000))
    && decide (m.onSum (fun r => if slotSpill r then 0 else ringBytes r) ≤ 8388608)
    && decide (m.onSum (fun r => if slotSpill r then slotW r * slotH r * slotRate r * 4 else 0) ≤ 150000000000)
    && decide (m.onSum (fun r => if slotSpill r then ringBytes r else 0) ≤ 67108864)

/-! ### Power over coax (R270, R271) -/

/-- POC_FAULT: an overload switches the power off; the fifth within 60 s latches. -/
def execPocFault (k : Nat) (s : State) : Host.Outcome State Fault Refusal := s.act fun m =>
  let x := m.link k
  if 2 < k ∨ !m.pd 7 ∨ !x.poc then m
  else
    let trips := m.now :: x.trips.filter fun t => m.now < t + secs 60
    let latch := decide (5 ≤ trips.length)
    let m := m.setLink k { x with trips := trips, short := true }
    let m := m.linkEv k 2 true
    let m := m.linkDown k (if latch then .latched else .down)
    if latch then m.linkEv k 3 true else m

/-- POC_RETRY: 1 s after DOWN the power is tried again, → POWERING. -/
def execPocRetry (k : Nat) (s : State) : Host.Outcome State Fault Refusal := s.act fun m =>
  let x := m.link k
  if 2 < k ∨ !m.pd 7 ∨ x.st ≠ .down then m
  else
    let m := m.until (x.stRaw + secs 1)
    let m := if x.short then (m.setLink k { x with short := false }).linkEv k 2 false else m
    (m.setLink k { m.link k with poc := rd (m.linkRec k) 0 1 == 1 }).linkTo k .powering

/-- POC_OPEN: below 20 mA for 1 s, or again above it. -/
def execPocOpen (k : Nat) (isOpen : Bool) (s : State) : Host.Outcome State Fault Refusal := s.act fun m =>
  let x := m.link k
  if 2 < k ∨ !m.pd 7 ∨ !x.poc ∨ x.pocOpen = isOpen then m
  else (m.setLink k { x with pocOpen := isOpen }).linkEv k 1 isOpen

/-- POWERING_TIMEOUT: no back-channel lock within 500 ms, → DOWN. -/
def execPoweringTimeout (k : Nat) (s : State) : Host.Outcome State Fault Refusal := s.act fun m =>
  let x := m.link k
  if 2 < k ∨ !m.pd 7 ∨ x.st ≠ .powering then m else (m.until (x.stRaw + ms 500)).linkDown k .down

/-- BACK_CHANNEL_LOCK: POWERING → TRAINING, within 500 ms; a later lock finds the link DOWN (Table 11-1). -/
def execBackChannelLock (k : Nat) (s : State) : Host.Outcome State Fault Refusal := s.act fun m =>
  let x := m.link k
  if 2 < k ∨ !m.pd 7 ∨ x.st ≠ .powering then m
  else if x.stRaw + ms 500 < m.now then m.linkDown k .down
  else m.linkTo k .training

/-- BLOCK_LOCK: forward block lock is gained, or lost: then an ALIGNING or UP link returns to TRAINING (R273, Table 11-1). The
receiver declares it whenever the link has power. -/
def execBlockLock (k : Nat) (gained : Bool) (s : State) : Host.Outcome State Fault Refusal := s.act fun m =>
  let x := m.link k
  if 2 < k ∨ !m.pd 7 ∨ x.locked = gained ∨ !(x.st = .powering ∨ x.st = .training ∨ x.st = .aligning ∨ x.st = .up) then m
  else if gained then
    let m := (m.setLink k { x with locked := true, lockLost := false }).tryAlign k
    if x.lockLost then m.linkEv k 4 false else m
  else
    let m := (m.setLink k { x with locked := false, lockLost := true }).linkEv k 4 true
    if x.st = .aligning ∨ x.st = .up then m.linkTo k .training else m

/-! ### CSI-2 (R272–R276) -/

/-- Parity of the bits of `v` at the places of a mask. -/
def parity (v mask : Nat) : Nat := (List.range 24).foldl (fun a k => a + b2n (v.testBit k && mask.testBit k)) 0 % 2

/-- The six check bits of a packet header's first three bytes (MIPI CSI-2) (log entry 41). -/
def csiEcc (v : Nat) : Nat :=
  parity v 0xF12CB7 + parity v 0xF2555B * 2 + parity v 0x749A6D * 4 + parity v 0xB8E38E * 8 + parity v 0xDF03F0 * 16
    + parity v 0xEFFC00 * 32

/-- A packet header after its ECC: data byte, word count and whether a bit was corrected; none after a double-bit
error. -/
def csiHeader (b : Bytes) : Option (Nat × Nat × Bool) :=
  let v := rd b 0 3
  let syn := csiEcc v ^^^ (rd b 3 1 % 64)
  let ok := fun (v : Nat) (f : Bool) => some (v % 256, v / 256, f)
  if syn = 0 then ok v false
  else if [1, 2, 4, 8, 16, 32].contains syn then ok v true
  else match (List.range 24).find? fun k => csiEcc (2 ^ k) == syn with
    | some k => ok (v ^^^ 2 ^ k) true
    | none => none

/-- CRC of a long packet's data (MIPI CSI-2): x^16 + x^12 + x^5 + 1, reflected, from all ones (log entry 41). -/
def csiCrc (b : Bytes) : Nat := crcR 0x8408 0xFFFF 0 b

/-- Pixels of RAW data, 16-bit little-endian, right-aligned (R282; packing of MIPI CSI-2) (log entry 41). -/
def unpackRaw (dtype : Nat) (b : Bytes) : List Nat :=
  let by' := fun (i : Nat) => rd b i 1
  let n := b.length * 8 / dtypeBits dtype
  (List.range n).map fun i =>
    match dtype with
    | 0x2A => by' i
    | 0x2B => let g := i / 4 * 5; by' (g + i % 4) * 4 + by' (g + 4) / 4 ^ (i % 4) % 4
    | 0x2C => let g := i / 2 * 3; by' (g + i % 2) * 16 + by' (g + 2) / 16 ^ (i % 2) % 16
    | _ => let g := i / 4 * 7; by' (g + i % 4) * 64 + rd b (g + 4) 3 / 64 ^ (i % 4) % 64

/-- A line entry: header with the count of pixels received (Table 11-5), and pixels, at most `width` of them. -/
def lineEntry (num line flags got : Nat) (px : List Nat) (width arrival : Nat) : Bytes × Bytes :=
  (le 4 num ++ le 2 line ++ le 2 flags ++ le 2 got ++ zeros 2 ++ le 4 arrival, (px.take width).flatMap (le 2))

/-- Number of the picture in progress. -/
def SlotRx.cur (x : SlotRx) : Nat := (x.next + 2 ^ 32 - 1) % 2 ^ 32

/-- A line has been received, whole or with `got` pixels of it; it waits for the gather buffer. -/
def SlotRx.push (x : SlotRx) (line flags got : Nat) (px : List Nat) (now : Nat) : SlotRx :=
  let dmg := if flags % 2 = 1 then sat32 (x.damagedLines + 1) else x.damagedLines
  if x.discard then { x with damagedLines := dmg }
  else { x with pending := x.pending ++ [lineEntry x.cur line (flags + b2n x.noFs * 8) got px (slotW x.rcd) now], damagedLines := dmg }

/-- A CSI_ERROR event of a link. -/
def Mod.csiError (m : Mod) (k : Nat) : Mod := m.linkEv k 8 true

/-- Count on a link as unsupported. -/
def Mod.unsupported (m : Mod) (k : Nat) : Mod :=
  let x := m.link k
  m.setLink k { x with unsupported := inc32 x.unsupported }

/-- A DAMAGED line of which `data` came, with `miss` of its bytes missing: pixels up to the width, missing bytes 0 (R276) (log entry 45). -/
def SlotRx.damaged (x : SlotRx) (line flags : Nat) (data : Bytes) (miss now : Nat) : SlotRx :=
  let bits := dtypeBits (rd x.rcd 2 1)
  let full := slotW x.rcd * bits / 8
  x.push line flags ((data.length - miss) * 8 / bits) (unpackRaw (rd x.rcd 2 1) (data ++ zeros (full - data.length))) now

/-- Lines from `a` up to but not including `b` were lost whole: they are DAMAGED, every byte of them 0 (R276) (log entry 45). -/
def SlotRx.lost (x : SlotRx) (a b now : Nat) : SlotRx :=
  foldN (b - a) (fun (x : SlotRx) i => x.damaged (a + i - x.embPkts) 1 [] 0 now) x

/-- The packet that is being received ends, and the next one starts. -/
def SlotRx.nextPkt (x : SlotRx) : SlotRx := { x with pkt := [], frag := 0, line := x.line + 1, miss := 0 }

/-- A long packet of which bytes are missing: its header, where it came, tells what it is; without it, it is taken for a line of
pixels (R275, R276) (log entry 45). -/
def Mod.holedPacket (m : Mod) (n : Nat) (pkt : Bytes) (miss : Nat) : Mod :=
  let k := n / 4
  let x := m.rx n
  let lost := decide (rd pkt 0 4 = 0)
  let line := x.line - x.embPkts
  match (if lost then some (rd x.rcd 2 1, pkt.length - 6, false) else csiHeader pkt) with
  | none => (m.setRx n (x.nextPkt.damaged line 1 [] 0 m.now)).csiError k
  | some (di, wc, _) =>
    let data := (pkt.drop 4).take wc
    if di % 64 = rd x.rcd 2 1 then m.setRx n (x.nextPkt.damaged line 1 data (miss - b2n lost * 4) m.now)
    else if di % 64 = 0x12 then m.setRx n { x.nextPkt with embPkts := x.embPkts + 1 }
    else (m.setRx n { x.nextPkt with embPkts := x.embPkts + 1 }).unsupported k

/-- The packet that is being received ends here, with what came of it (R276) (log entry 45). -/
def Mod.cutPacket (m : Mod) (n : Nat) : Mod :=
  let x := m.rx n
  if x.pkt.isEmpty && x.frag = 0 then m
  else if decide (rd x.pkt 0 4 = 0) then m.holedPacket n (x.pkt ++ zeros 2) x.miss
  else m.holedPacket n x.pkt x.miss

/-- A long packet that came whole: pixel data, embedded data, or something unsupported (Table 11-3) (log entry 45). -/
def Mod.longPacket (m : Mod) (n : Nat) (pkt : Bytes) : Mod :=
  let k := n / 4
  let x := m.rx n
  let line := x.line - x.embPkts
  let dtype := rd x.rcd 2 1
  match csiHeader pkt with
  | none => (m.setRx n (x.nextPkt.damaged line 1 [] 0 m.now)).csiError k
  | some (di, wc, fixed) =>
    let m := if fixed then Mod.csiError (m.setLink k { m.link k with eccFixed := inc32 (m.link k).eccFixed }) k else m
    let t := di % 64
    let data := (pkt.drop 4).take wc
    if t = dtype then
      let crcOk := decide (pkt.length = wc + 6) && csiCrc data == rd pkt (4 + wc) 2
      let m := if crcOk then m else m.csiError k
      let px := unpackRaw dtype data
      m.setRx n (x.nextPkt.push line ((if crcOk then 0 else 5) + b2n fixed * 2) px.length px m.now)
    else if t = 0x12 then
      let m := m.setRx n { x.nextPkt with embPkts := x.embPkts + 1 }
      if (rd x.rcd 3 1).testBit 2 then m.updPic n x.cur fun p => { p with embedded := (p.embedded ++ data).take 4096 } else m
    else (m.setRx n { x.nextPkt with embPkts := x.embPkts + 1 }).unsupported k

/-- A short packet: frame start and end; line start and end are ignored; others are unsupported (Table 11-3). -/
def Mod.shortPacket (m : Mod) (n : Nat) (pkt : Bytes) : Mod :=
  let k := n / 4
  match csiHeader pkt with
  | none => m.csiError k
  | some (di, _, fixed) =>
    let m := if fixed then Mod.csiError (m.setLink k { m.link k with eccFixed := inc32 (m.link k).eccFixed }) k else m
    let t := di % 64
    -- a line left open by lost blocks ends here
    let m := if (m.rx n).inPic then m.cutPacket n else m
    if t = 0 then (m.picEnd n).picStart n false
    else if t = 1 then m.picEnd n
    else if t = 2 ∨ t = 3 then m
    else m.unsupported k

/-- One good DATA block of an enabled slot (R276) (log entry 45). -/
def Mod.dataBlock (m : Mod) (n : Nat) (b : Bytes) : Mod :=
  let ctl := rd b 1 1
  let len := rd b 4 2
  let line := rd b 6 2
  let off := rd b 8 4
  let bytes := slice b 12 len
  if line = 0xFFFF then m.shortPacket n bytes
  else
    let x := m.rx n
    -- frame start or frame end and start were lost: a picture starts at this long packet
    let m := if !x.inPic || line < x.line then (m.picEnd n).picStart n true else m
    -- the line being received, whole lines after it, and the block's own line where it starts late
    let m := if line = (m.rx n).line then m else m.cutPacket n
    let x := m.rx n
    let x := if line = x.line ∧ off = x.frag then x
      else
        let x := { x.lost x.line line m.now with line := line }
        if off = 0 then { x with pkt := [], frag := 0, miss := 0 }
        else { x with pkt := x.pkt.take off ++ zeros (off - x.pkt.length), frag := off, miss := x.miss + (off - x.pkt.length) }
    let x := { x with pkt := x.pkt ++ bytes, frag := off + len }
    let m := m.setRx n x
    if !ctl.testBit 3 then m else if x.miss = 0 then m.longPacket n x.pkt else m.holedPacket n x.pkt x.miss

/-- A bad block is discarded whole; the event only where none has occurred for 1 s (R274, R286) (log entry 45). -/
def Mod.badBlock (m : Mod) (k : Nat) : Mod :=
  let x := m.link k
  let quiet := match x.badRaw with | some t => decide (t + secs 1 ≤ m.now) | none => true
  let m := m.setLink k { x with badBlocks := inc32 x.badBlocks, badRaw := some m.now }
  if quiet then m.linkEv k 7 true else m

/-- LINK_BLOCK (R272, R274, R276, R277). -/
def execLinkBlock (k : Nat) (block : Bytes) (s : State) : Host.Outcome State Fault Refusal := s.act fun m =>
  let x := m.link k
  if 2 < k ∨ !m.pd 7 ∨ !x.locked then m
  else
    let t := rd block 0 1
    let len := rd block 4 2
    if block.length ≠ 256 ∨ crc32 (block.take 252) ≠ rd block 252 4 ∨ (t ≠ 1 ∧ t ≠ 2) ∨ (t = 1 ∧ (len = 0 ∨ 240 < len)) then m.badBlock k
    else if t = 2 then m
    else
      let m := m.setLink k { x with blocks := x.blocks + 1 }
      let n := 4 * k + rd block 1 1 % 4
      if x.st ≠ .up then m
      else if !slotOn (m.slotRec n) then (if (rd block 1 1).testBit 2 then m.unsupported k else m)
      else m.dataBlock n block

/-! ### The gather buffer (R282–R285) -/

/-- Flags of a line entry with some set: the header's bytes 6 and 7. -/
def withFlags (e : Bytes × Bytes) (f : Nat) : Bytes × Bytes := (patch e.1 6 (le 2 (rd e.1 6 2 ||| f)), e.2)

/-- The address of a spill slot's ring, in the isochronous region; where it lies there is free (R283) (log entry 48). -/
def Mod.spillAt (m : Mod) (n : Nat) : Nat :=
  isoPlace (Config.bufAddr (m.rx n).place 2048).toNat (ringBytes (m.rx n).rcd)

/-- A line entry goes into the slot's ring; that of a spill slot lies in SDRAM (R282, R283). -/
def Mod.ringPut (m : Mod) (n : Nat) (e : Bytes × Bytes) : Mod :=
  let x := m.rx n
  let i := x.wrote % max 1 (slotRing x.rcd)
  let size := 16 + 2 * slotW x.rcd
  let m := m.setRx n { x with
    ring := x.ring ++ [e], wrote := x.wrote + 1
    spill := if slotSpill x.rcd then Tab.put [] x.spill i (slice (e.1 ++ e.2) 0 size) else x.spill }
  if slotSpill x.rcd then m.cleanse (m.spillAt n + i * size) size else m

/-- A gather-buffer fault: EV111 with the slot (R286). -/
def Mod.gatherFault (m : Mod) (n code : Nat) : Mod := m.ev 111 n code true

/-- A picture is dropped by the gather buffer: counted, reported, discarded (R284). -/
def Mod.dropPic (m : Mod) (n num : Nat) : Mod :=
  let m := m.setRx n { m.rx n with dropped := inc32 (m.rx n).dropped }
  (m.ev 110 n 1 true).discardPic n num 1 false

/-- GATHER_LINE: the oldest line received goes into the slot's ring. A full ring drops the picture, unless the next one
has started meanwhile; a line beyond the height is discarded and counted; an uncorrectable SRAM error makes the stored
line DAMAGED and ECC (R284, R285, Table 12-5) (log entry 45). -/
def execGatherLine (g : GatherIn) (s : State) : Host.Outcome State Fault Refusal := s.act fun m =>
  let n := g.slot
  let x := m.rx n
  match x.pending with
  | [] => m
  | e :: t =>
    if !m.pd 7 then m else
    let num := rd e.1 0 4
    let arrival := m.now - (m.now + 2 ^ 32 - rd e.1 12 4) % 2 ^ 32
    let m := m.setRx n { x with pending := t, linePer := if x.lineRaw = 0 then 0 else arrival - x.lineRaw, lineRaw := arrival }
    if slotH x.rcd ≤ rd e.1 4 2 then
      let m := m.updPic n num fun q => { q with excess := q.excess + 1 }
      (m.setPs n { m.ps n with long := inc32 (m.ps n).long }).picStep n
    else if slotRing x.rcd ≤ x.ring.length then if num = x.cur then m.dropPic n num else m.picStep n
    else if slotSpill x.rcd && !m.pd 5 then (m.gatherFault n 3).picStep n
    else
      let ecc := decide (g.fault = 2) && !slotSpill x.rcd
      let err := g.fault == 3 && slotSpill x.rcd
      let m := if ecc then m.gatherFault n 2 else if err then m.gatherFault n 3 else m
      let e := if ecc then withFlags e 17 else e
      let dmg := decide (rd e.1 6 2 % 2 = 1)
      let px := rd e.1 8 2
      let pad := !dmg && decide (px < slotW x.rcd)
      let cutl := !dmg && decide (slotW x.rcd < px)
      let m := m.updPic n num fun q => { q with
        lines := q.lines + 1, lastRaw := arrival, arrivals := arrival :: q.arrivals
        damaged := if dmg then q.damaged ++ [rd e.1 4 2] else q.damaged
        padded := q.padded + b2n pad, truncated := q.truncated + b2n cutl }
      let p := m.ps n
      let m := m.setPs n { p with padded := sat32 (p.padded + b2n pad), truncated := sat32 (p.truncated + b2n cutl) }
      (m.ringPut n e).picStep n

/-- Raw count at which the ring would overflow at the slot's present line rate (R284): the spacing of its last two
lines, before that the spacing of its max_rate (log entry 45). -/
def Mod.deadline (m : Mod) (n : Nat) : Nat :=
  let x := m.rx n
  let per := if x.linePer = 0 then 12500000000 / max 1 (slotRate x.rcd * slotH x.rcd) else x.linePer
  m.now + (slotRing x.rcd - x.ring.length) * per

/-! ### The back channel (R278, R279) -/

/-- The 32 bytes of a message (log entry 46). -/
def BcMsg.bytes (q : BcMsg) : Bytes :=
  let b := le 1 q.typ ++ le 1 q.seq.toNat ++ le 1 q.payload.length ++ le 1 q.slot ++ slice q.payload 0 24
  b ++ le 4 (crc32 b)

/-- Messages in the order in which they go: FSYNC, TIME_SYNC, then the rest (R278). -/
def bcOrder (q : List BcMsg) : List BcMsg :=
  q.filter (fun x => x.typ == 0x11) ++ q.filter (fun x => x.typ == 0x12) ++ q.filter fun x => x.typ != 0x11 && x.typ != 0x12

/-- One message occupies 1.28 µs (R278). -/
def bcTime : Nat := 160

/-- A message leaves at a raw count. FSYNC stays for its second copy; TIME_SYNC carries its departure as t1; a request awaits
its answer (R278) (log entry 46). -/
def Link.sendMsg (x : Link) (q : BcMsg) (t : Nat) : Link :=
  let rest := x.queue.erase q
  match q.typ with
  | 0x11 =>
    { x with queue := if q.sends = 0 then { q with sends := 1, sentRaw := t } :: rest else rest, sent := x.sent ++ [q.bytes] }
  | 0x12 =>
    { x with queue := rest, sent := x.sent ++ [BcMsg.bytes { q with payload := le 8 t ++ q.payload.drop 8 }], t1 := t }
  | _ => { x with queue := rest, sent := x.sent ++ [q.bytes], await := some { q with sends := q.sends + 1, sentRaw := t } }

/-- The messages of one window of the module, from a raw count to its end: whole messages in their order; the second copy of an
FSYNC goes 10 µs after its first, and of the requests one at a time awaits its answer (R269, R278) (log entry 46). -/
def Link.window : Nat → Link → Nat → Nat → Link
  | 0, x, _, _ => x
  | n + 1, x, t, stop =>
    let copy := fun (q : BcMsg) => q.typ == 0x11 && q.sends == 1
    let due := (x.queue.find? copy).map fun q => q.sentRaw + us 10
    let free := (bcOrder (x.queue.filter fun q => !copy q)).find? fun q => q.typ == 0x11 || q.typ == 0x12 || x.await.isNone
    if stop < t + bcTime then x
    else match due, x.queue.find? copy, free with
      | some d, some c, f =>
        if d ≤ t then Link.window n (x.sendMsg c t) (t + bcTime) stop
        else match f with
          | some q => if t + bcTime ≤ d then Link.window n (x.sendMsg q t) (t + bcTime) stop else Link.window n x d stop
          | none => Link.window n x d stop
      | _, _, some q => Link.window n (x.sendMsg q t) (t + bcTime) stop
      | _, _, none => x

/-- BACK_CHANNEL_WINDOW: the next 64 µs window starts, numbered by the raw counts since the start of TRAINING; in even
windows the module sends (R269). -/
def execBackChannelWindow (k : Nat) (s : State) : Host.Outcome State Fault Refusal := s.act fun m =>
  let x := m.link k
  if 2 < k ∨ !m.pd 7 ∨ !(x.st = .training ∨ x.st = .aligning ∨ x.st = .up) then m
  else
    let w := max x.windows ((m.now - x.trainRaw + us 64 - 1) / us 64)
    let m := m.until (x.trainRaw + us 64 * w)
    let x := { x with windows := w + 1 }
    m.setLink k (if w % 2 = 0 then Link.window 101 x m.now (m.now + us 64) else x)

/-- The reply of an I2C_XFER: status and the bytes read. -/
def i2cReply (c : Cmd) (p : Bytes) : Bytes :=
  let st := rd p 0 1
  le 1 st ++ zeros 3 ++ slice p 1 (if st = 0 then rd c.params 3 1 else 0)

/-- BACK_CHANNEL_MESSAGE: a message of the hub (R278). -/
def execBackChannelMessage (k : Nat) (msg : Bytes) (s : State) : Host.Outcome State Fault Refusal := s.act fun m =>
  let x := m.link k
  if 2 < k ∨ !m.pd 7 ∨ !(x.st = .training ∨ x.st = .aligning ∨ x.st = .up) then m
  else if msg.length ≠ 32 ∨ crc32 (msg.take 28) ≠ rd msg 28 4 then m.setLink k { x with bcErrors := inc32 x.bcErrors }
  else
    let p := slice msg 4 24
    match rd msg 0 1 with
    | 0x20 =>
      match x.await with
      | some q =>
        match q.cmd with
        | some c => (m.setLink k { x with await := none }).finish 0x0C12 c St.ok (i2cReply c p)
        | none => m
      | none => m
    | 0x21 =>
      let m := (m.setLink k { x with status := some m.now, hub := p, hubLost := false }).tryAlign k
      if x.hubLost then m.linkEv k 5 false else m
    | 0x22 => m.setLink k { x with echo := some (rd p 0 8, rd p 8 8, m.now) }
    | 0x23 =>
      match x.await with
      | some q => if q.typ = 0x13 ∧ q.seq.toNat = rd p 0 1 then m.setLink k { x with await := none } else m
      | none => m
    | _ => m

/-- TIME_SYNC: the last exchange is judged, its offset and cable delay formed, and the next message, with the correction it
gave, is queued; it takes its t1 as it leaves (R278, R279) (log entry 46). -/
def execTimeSync (k : Nat) (s : State) : Host.Outcome State Fault Refusal := s.act fun m =>
  let x := m.link k
  if 2 < k ∨ !m.pd 7 ∨ !(x.st = .training ∨ x.st = .aligning ∨ x.st = .up) then m
  else
    let m := m.until (x.syncRaw + ms 1)
    let off := x.echo.map fun e => 4 * (((e.1 : Int) - x.t1) + ((e.2.1 : Int) - e.2.2))
    let inb := match off with | some v => decide (v.natAbs ≤ 50) | none => false
    let good := if inb then min 8 (x.good + 1) else 0
    let bad := if off.isSome && !inb then min 3 (x.bad + 1) else 0
    let silent := if off.isSome then 0 else min 10 (x.silent + 1)
    let align := off.getD x.alignNs
    let cable := match x.echo with
      | some e => 4 * (((e.2.2 : Int) - x.t1) - ((e.2.1 : Int) - e.1))
      | none => x.cableNs
    let q : BcMsg := { typ := 0x12, seq := x.seq, slot := 0xFF, payload := zeros 8 ++ leI 8 (-align) }
    let x := { x with good := good, bad := bad, silent := silent, alignNs := align, cableNs := cable, syncRaw := m.now, echo := none,
                      seq := x.seq + 1, queue := x.queue.filter (fun y => y.typ != 0x12) ++ [q] }
    let m := m.setLink k x
    if x.st = .aligning ∧ good = 8 then
      let m := m.linkTo k .up
      let m := m.hubCtrl k
      if x.unaligned then (m.setLink k { m.link k with unaligned := false }).linkEv k 6 false else m
    else if x.st = .up ∧ !x.unaligned ∧ (bad = 3 ∨ silent = 10) then (m.setLink k { x with unaligned := true, good := 0 }).linkEv k 6 true
    else if x.st = .up ∧ x.unaligned ∧ good = 8 then (m.setLink k { x with unaligned := false }).linkEv k 6 false
    else m

/-- HUB_LOST: no STATUS for 50 ms, → TRAINING (R278, R285). -/
def execHubLost (k : Nat) (s : State) : Host.Outcome State Fault Refusal := s.act fun m =>
  let x := m.link k
  match x.status with
  | none => m
  | some t =>
    if 2 < k ∨ !m.pd 7 ∨ !(x.st = .aligning ∨ x.st = .up) then m
    else
      let m := m.until (t + ms 50)
      let m := (m.setLink k { x with hubLost := true }).linkEv k 5 true
      (m.linkTo k .training).i2cFail k

/-- I2C_RETRY_TIMEOUT: a request unanswered for 2 ms is sent again, up to 3 sends (Table 11-4). -/
def execI2cRetryTimeout (k : Nat) (s : State) : Host.Outcome State Fault Refusal := s.act fun m =>
  let x := m.link k
  match x.await with
  | none => m
  | some q =>
    if 2 < k ∨ !m.pd 7 then m
    else
      let m := m.until (q.sentRaw + ms 2)
      if q.sends < 3 then m.setLink k { x with await := none, queue := q :: x.queue }
      else
        let m := m.setLink k { x with await := none }
        match q.cmd with
        | some c => m.finish 0x0C12 c St.timeout
        | none => m

/-! ### FSYNC (R280) -/

/-- The next edge of a PERIODIC slot: the first frame n with n mod period = phase whose edge is still at least 200 µs
away and after the last one. -/
def Mod.periodicEdge (m : Mod) (n : Nat) : Option Nat :=
  let x := m.rx n
  let r := x.rcd
  let per := rd r 14 2
  if !m.lanes.started ∨ rd r 12 1 ≠ 1 ∨ per = 0 then none
  else
    let base := m.lanes.frame - m.lanes.frame % per + rd r 16 2
    let edge := fun (f : Nat) => m.lanes.frameRaw + (f - m.lanes.frame) * frameCounts + us (rd r 18 2)
    let last := match x.lastEdge with | some e => e.1 | none => 0
    ((List.range 3).map fun i => base + i * per).find? (fun f => m.lanes.frame ≤ f && decide (m.now + us 200 ≤ edge f)
      && decide (last < edge f)) |>.map edge

/-- FSYNC_EDGE: the message goes 200 µs before the edge, twice, 10 µs apart, and the hub drives the edge (log entry 47). -/
def execFsyncEdge (n : Nat) (s : State) : Host.Outcome State Fault Refusal := s.act fun m =>
  let k := n / 4
  let x := m.rx n
  let l := m.link k
  if 11 < n ∨ !m.pd 7 ∨ l.st ≠ .up then m
  else match (match x.edges with | e :: _ => some e | [] => m.periodicEdge n) with
    | none => m
    | some e =>
      let m := m.until (e - us 200)
      let q : BcMsg := { typ := 0x11, seq := l.seq, slot := n % 4, payload := le 8 e ++ le 2 (rd x.rcd 20 2) }
      let m := m.setLink k { l with seq := l.seq + 1, queue := l.queue ++ [q] }
      m.setRx n { x with edges := x.edges.drop 1, lastEdge := some (e, l.unaligned), trig := x.trig ++ [(e, l.unaligned)]
                         fsyncs := inc32 x.fsyncs }

/-! ### CLNK class operations -/

/-- 0x0C01 -/
def opClnkGetInfo : Op := opInfo 12 3

/-- 0x0C02 -/
def opClnkGetStatus : Op where
  len := exactly 0
  insts := 3
  body := fun c m =>
    let x := m.link c.inst.toNat
    let d := m.draw
    Res.ok d.2 (le 1 x.st.code ++ le 1 (b2n x.unaligned + b2n x.pocOpen * 2) ++ le 2 (if x.poc then d.1.toNat % 65536 else 0)
      ++ le 2 (rd x.hub 1 2) ++ le 1 (rd x.hub 0 1) ++ [0] ++ leI 4 x.alignNs ++ le 4 x.badBlocks ++ le 4 x.unsupported
      ++ le 4 x.bcErrors ++ le 8 x.blocks)

/-- 0x0C03: at once. -/
def opClnkSetConfig : Op where
  len := exactly 4
  insts := 3
  body := fun c m =>
    let r := slice c.params 0 4
    let k := c.inst.toNat
    if 1 < rd r 0 1 ∨ 1 < rd r 1 1 ∨ !isZero r 2 2 then Res.err m St.badParam
    else
      let m := (m.setCfg 0x0C03 k r).markSet 0
      let x := m.link k
      let on := !(x.st = .off || x.st = .down || x.st = .latched)
      Res.ok (if on then m.setLink k { x with poc := rd r 0 1 == 1 } else m)

/-- 0x0C04 -/
def opClnkGetConfig : Op := { len := exactly 0, insts := 3, body := fun c m => Res.ok m (m.linkRec c.inst.toNat) }

/-- 0x0C05 -/
def opClnkEnable : Op := { len := exactly 0, insts := 3, body := fun c m => Res.ok (m.linkOn c.inst.toNat) }

/-- 0x0C06 -/
def opClnkDisable : Op := { len := exactly 0, insts := 3, body := fun c m => Res.ok (m.linkOff c.inst.toNat) }

/-- 0x0C07: the link is disabled, latch and counters cleared, its record and its slots' records restored. -/
def opClnkResetInstance : Op where
  len := exactly 0
  insts := 3
  body := fun c m =>
    let k := c.inst.toNat
    let latched := decide ((m.link k).st = .latched)
    let m := m.linkDown k .off
    let x := m.link k
    let m := m.setLink k { x with trips := [], badBlocks := 0, unsupported := 0, eccFixed := 0, bcErrors := 0,
                                  blocks := 0 }
    let m := if latched then m.linkEv k 3 false else m
    Res.ok (foldN 4 (fun (m : Mod) v =>
      let n := 4 * k + v
      let old := m.slotRec n
      let x := m.rx n
      let m := m.setRx n { x with pictures := 0, dropped := 0, damagedLines := 0, shortPics := 0, fsyncs := 0 }
      let p := m.ps n
      let m := m.setPs n p.cleared
      (m.restore 0 0x0C10 n).slotSet n old) (m.restore 0 0x0C03 k))

/-- The fields of a slot record lie in their ranges (0x0C10). -/
def slotRecOk (r : Bytes) : Bool :=
  decide (rd r 0 1 ≤ 11) && decide (rd r 1 1 ≤ 1) && inRange (rd r 2 1) 0x2A 0x2D && decide (rd r 3 1 ≤ 7)
    && inRange (slotW r) 64 4096 && inRange (slotH r) 64 3072 && inRange (slotRing r) 64 4096 && inRange (slotRate r) 1 12000
    && decide (rd r 12 1 ≤ 2) && decide (rd r 13 1 ≤ 2) && inRange (rd r 14 2) 16 4000 && decide (rd r 16 2 < rd r 14 2)
    && decide (rd r 18 2 ≤ 249) && inRange (rd r 20 2) 1 1000 && isZero r 24 8

/-- 0x0C10 (log entry 47) -/
def opSetSlot : Op where
  len := exactly 32
  insts := 3
  body := fun c m =>
    let r := slice c.params 0 32
    let n := rd r 0 1
    if !slotRecOk r ∨ n / 4 ≠ c.inst.toNat then Res.err m St.badParam
    else
      let old := m.slotRec n
      let geo := fun (q : Bytes) => slice q 2 1 ++ [BitVec.ofNat 8 (b2n (slotSpill q))] ++ slice q 4 6
      if slotOn old ∧ geo old ≠ geo r then Res.err m St.notReady
      else
        let m' := (m.setCfg 0x0C10 n r).markSet 0
        if !m'.slotsFit || !m'.admitted || !m'.isoFits then Res.err m St.noResource
        else match (if geo old = geo r then some m' else m'.placeSlot n) with
          | some m' => Res.ok (m'.slotSet n old)
          | none => Res.err m St.noResource

/-- 0x0C11 (R280, R285) (log entry 47) -/
def opFsyncAt : Op where
  len := exactly 16
  insts := 3
  body := fun c m =>
    let n := rd c.params 0 1
    let x := m.rx n
    let mode := rd x.rcd 12 1
    match parse96 c.params 4 with
    | none => Res.err m St.badParam
    | some v =>
      if 11 < n ∨ n / 4 ≠ c.inst.toNat ∨ !isZero c.params 1 3 ∨ mode = 0 then Res.err m St.badParam
      else if (m.link c.inst.toNat).st ≠ .up then Res.err m St.notReady
      else if mode = 1 then Res.err m St.busy
      else
        let e := m.time.nearest v
        let gap := us (rd x.rcd 22 2)
        let near := fun (o : Nat) => decide (e ≤ o + gap) && decide (o ≤ e + gap)
        if e < m.now + us 250 then Res.err m St.tooLate
        else if x.edges.any near || (match x.lastEdge with | some q => near q.1 | none => false) then Res.err m St.busy
        else
          let edges := (x.edges.filter (· < e)) ++ [e] ++ x.edges.filter (e < ·)
          Res.ok (m.setRx n { x with edges := edges }) (le 8 e)

/-- 0x0C12: one transfer on the bus of a slot or of the hub (R278, R281) (log entry 46). -/
def opI2cXfer : Op where
  len := fun c => 4 ≤ c.plen.toNat && c.plen.toNat == 4 + rd c.params 2 1
  insts := 3
  body := fun c m =>
    let k := c.inst.toNat
    let n := rd c.params 0 1
    let w := rd c.params 2 1
    let r := rd c.params 3 1
    if !(n = 0xFF ∨ (n < 12 ∧ n / 4 = k)) ∨ 127 < rd c.params 1 1 ∨ 16 < w ∨ 16 < r ∨ w + r = 0 then Res.err m St.badParam
    else
      let x := m.link k
      if x.st ≠ .up then Res.err m St.notReady
      else
        let bus := if n = 0xFF then 0xFF else n % 4
        let q : BcMsg := { typ := 0x10, seq := x.seq, slot := bus, cmd := some c
                           payload := le 1 bus ++ le 1 (rd c.params 1 1) ++ le 1 w ++ le 1 r ++ slice c.params 4 w }
        Res.accepted (m.setLink k { x with seq := x.seq + 1, queue := x.queue ++ [q] })

/-- 0x0C13 -/
def opClnkGetSlotStatus : Op where
  len := exactly 4
  insts := 3
  body := fun c m =>
    let n := rd c.params 0 1
    if 11 < n ∨ n / 4 ≠ c.inst.toNat ∨ !isZero c.params 1 3 then Res.err m St.badParam
    else
      let x := m.rx n
      Res.ok m (le 4 x.pictures ++ le 4 x.dropped ++ le 4 x.damagedLines ++ le 4 x.shortPics ++ le 4 x.fsyncs
        ++ le 4 (m.deadline n) ++ le 2 x.ring.length ++ zeros 2)

/-- CLNK_GET_INFO (R98). -/
def execClnkGetInfo (c : Cmd) (s : State) : Host.Outcome State Fault Refusal := s.act fun m => m.serve 0x0C01 opClnkGetInfo c
/-- CLNK_GET_STATUS (R271). -/
def execClnkGetStatus (c : Cmd) (s : State) : Host.Outcome State Fault Refusal := s.act fun m => m.serve 0x0C02 opClnkGetStatus c
/-- CLNK_SET_CONFIG (R270). -/
def execClnkSetConfig (c : Cmd) (s : State) : Host.Outcome State Fault Refusal := s.act fun m => m.serve 0x0C03 opClnkSetConfig c
/-- CLNK_GET_CONFIG (R270). -/
def execClnkGetConfig (c : Cmd) (s : State) : Host.Outcome State Fault Refusal := s.act fun m => m.serve 0x0C04 opClnkGetConfig c
/-- CLNK_ENABLE (R271). -/
def execClnkEnable (c : Cmd) (s : State) : Host.Outcome State Fault Refusal := s.act fun m => m.serve 0x0C05 opClnkEnable c
/-- CLNK_DISABLE (R271). -/
def execClnkDisable (c : Cmd) (s : State) : Host.Outcome State Fault Refusal := s.act fun m => m.serve 0x0C06 opClnkDisable c
/-- CLNK_RESET_INSTANCE (R270). -/
def execClnkResetInstance (c : Cmd) (s : State) : Host.Outcome State Fault Refusal := s.act fun m => m.serve 0x0C07 opClnkResetInstance c
/-- SET_SLOT (R277). -/
def execSetSlot (c : Cmd) (s : State) : Host.Outcome State Fault Refusal := s.act fun m => m.serve 0x0C10 opSetSlot c
/-- FSYNC_AT (R280). -/
def execFsyncAt (c : Cmd) (s : State) : Host.Outcome State Fault Refusal := s.act fun m => m.serve 0x0C11 opFsyncAt c
/-- I2C_XFER (R281). -/
def execI2cXfer (c : Cmd) (s : State) : Host.Outcome State Fault Refusal := s.act fun m => m.serve 0x0C12 opI2cXfer c
/-- CLNK_GET_SLOT_STATUS (R284). -/
def execClnkGetSlotStatus (c : Cmd) (s : State) : Host.Outcome State Fault Refusal := s.act fun m => m.serve 0x0C13 opClnkGetSlotStatus c

/-- The CLNK class. -/
def clnkOps : List (Nat × Op) :=
  [(0x0C01, opClnkGetInfo), (0x0C02, opClnkGetStatus), (0x0C03, opClnkSetConfig), (0x0C04, opClnkGetConfig),
   (0x0C05, opClnkEnable), (0x0C06, opClnkDisable), (0x0C07, opClnkResetInstance), (0x0C10, opSetSlot),
   (0x0C11, opFsyncAt), (0x0C12, opI2cXfer), (0x0C13, opClnkGetSlotStatus)]

end Sys2Proof.Machine
end

