-- ==== Sys2Proof/Machine/PipeOps.lean ====
section
/-! DEFINITION. The image pipes and the encoder (chapters 12 and 13): jobs, faults, contexts, streams and the PIPE class. -/

namespace Sys2Proof.Machine

open Sys2Proof

/-! ### Jobs (R292–R297) -/

/-- A slot's ready jobs run on the pipe of their picture. -/
def Mod.jobPipe (m : Mod) (j : PipeJob) : Option Nat :=
  match (m.ps j.slot).pics.find? fun p => p.num == j.picture with
  | some p => p.pipe
  | none => none

/-- A job of the slot runs: its jobs run in line order (R296). -/
def Mod.slotBusy (m : Mod) (n : Nat) : Bool :=
  (List.range 2).any fun k => match (m.pipe k).job with | some j => j.slot == n | none => false

/-- The ready job a pipe runs next: the earliest deadline of its slots' heads, the lower slot first (R296). -/
def Mod.pickJob (m : Mod) (k : Nat) : Option PipeJob :=
  ((List.range 12).foldl (fun (b : Option (Nat × PipeJob)) n =>
    match (m.ps n).ready with
    | [] => b
    | j :: _ =>
      if m.jobPipe j ≠ some k ∨ m.slotBusy n then b
      else
        let d := m.deadline n
        match b with
        | some p => if d < p.1 then some (d, j) else b
        | none => some (d, j)) none).map (·.2)

/-- The first job of a picture marks its buffers as being written (R303). -/
def Mod.openBufs (m : Mod) (n : Nat) (p : Pic) : Mod :=
  foldN 3 (fun (m : Mod) o =>
    match p.bufs.getD o none with
    | none => m
    | some b =>
      (m.setBuf p.alloc o b (patch (let x := m.bufOf p.alloc o b; if x.isEmpty then zeros 64 else x) 0 (le 4 0xFFFFFFFF))).setBufPic n
        (bufKey p.alloc o b) none) m

/-- The last sound line of each pattern row among lines in ascending order (Table 12-5). -/
def soundLines (period : Nat) (lines : List (Bytes × Bytes)) : List (Bytes × Bytes) :=
  (List.range period).filterMap fun k =>
    (lines.filter fun e => rd e.1 6 2 % 2 == 0 && rd e.1 4 2 % period == k).getLast?

/-- PIPE_JOB_START: the pipe takes the job's lines from the ring and its overlap from the carry store (R295, R296). -/
def execPipeJobStart (k : Nat) (s : State) : Host.Outcome State Fault Refusal := s.act fun m =>
  let x := m.pipe k
  if 1 < k ∨ !m.pd 7 ∨ x.st ≠ 1 ∨ x.stopping ∨ x.job.isSome then m
  else match m.pickJob k with
    | none => m
    | some j =>
      match (m.ps j.slot).pics.find? fun p => p.num == j.picture with
      | none => m
      | some p =>
        let rx := m.rx j.slot
        let mine := fun (e : Bytes × Bytes) => rd e.1 0 4 == j.picture && rd e.1 4 2 < j.hi
        let own := rx.ring.filter mine
        let lines := p.carry ++ own
        let m := m.setRx j.slot { rx with ring := rx.ring.filter fun e => !mine e }
        let q := m.ps j.slot
        let m := m.setPs j.slot { q with ready := q.ready.drop 1 }
        let m := m.updPic j.slot j.picture fun p => { p with
          carry := lines.drop (lines.length - 8), sound := soundLines (mosaicSize (rd p.rcd 2 1)) (p.sound ++ own) }
        let m := if j.stripe = 0 then m.openBufs j.slot p else m
        m.setPipe k { x with job := some { j with start := m.now, pixels := slotW rx.rcd * lines.length, lines := p.sound ++ lines } }

/-- The pixels of line `y` of a job: padded and truncated to the width, a DAMAGED line replaced by the nearest earlier
undamaged line of the same pattern row, or the next one (Table 12-5). -/
def jobLine (lines : List (Bytes × Bytes)) (period w y : Nat) : Bytes :=
  let at' := fun (y : Nat) => lines.find? fun e => rd e.1 4 2 == y
  let sound := fun (e : Bytes × Bytes) => rd e.1 6 2 % 2 == 0
  let fit := fun (px : Bytes) =>
    let n := px.length / 2
    if n = 0 then zeros (2 * w) else (px ++ (List.replicate (w - n) (slice px (2 * (n - 1)) 2)).flatten).take (2 * w)
  match at' y with
  | some e =>
    if sound e then fit e.2
    else
      let cand := lines.filter fun q => sound q && rd q.1 4 2 % period == y % period
      match (cand.filter fun q => rd q.1 4 2 < y).getLast? with
      | some q => fit q.2
      | none => match cand.head? with | some q => fit q.2 | none => fit e.2
  | none => zeros (2 * w)

/-- The rows a job emits, from its first up to the one after its last (R295). -/
def PipeJob.emits (j : PipeJob) (last : Bool) : Nat × Nat :=
  (if j.stripe = 0 then 0 else j.lo - 4, if last then j.hi else j.hi - 4)

/-- What a job emits: its rows through stages 1 to 3. With TNR they become the slot's new reference, each row valid but a
DAMAGED one (R292–R295); not where the whole reference was invalidated or freed after the picture's start (R290, R305).
Answers the reference, how many rows had none, and the rows. -/
def Mod.jobRows (m : Mod) (p : Pic) (j : PipeJob) (last : Bool) : Tab (Bool × Bytes) × Nat × Tab Bytes :=
  let r := (m.rx j.slot).rcd
  let s := m.ps j.slot
  let w := slotW r
  let h := max p.lines 1
  let per := mosaicSize (rd p.rcd 2 1)
  let tnr := tnrOn p.rcd
  let mine := tnr && s.epoch == p.epoch
  let e := j.emits last
  let rows := fun (y : Nat) => row1 p.rcd (dtypeBits (rd r 2 1)) w y (jobLine j.lines per w y)
  (List.range e.2).drop e.1 |>.foldl (fun (a : Tab (Bool × Bytes) × Nat × Tab Bytes) y =>
    let q := Tab.get (false, []) s.tnr y
    let ref := if mine && q.1 then some q.2 else none
    let out := row3 p.rcd w h y rows ref
    (if mine then Tab.put (false, []) a.1 y (!p.damaged.contains y, out) else a.1,
     a.2.1 + b2n (tnr && ref.isNone), Tab.put [] a.2.2 y out)) (s.tnr, 0, p.rows)

/-- Intervals of the last second. -/
def lastSecond (now : Nat) (l : List (Nat × Nat)) : List (Nat × Nat) := l.filter fun p => now < p.2 + secs 1

/-- Busy time over the last second, per mille. -/
def busyPm (now : Nat) (l : List (Nat × Nat)) : Nat :=
  (l.foldl (fun a p => a + (min now p.2 - max (now - secs 1) p.1)) 0) * 1000 / secs 1

/-- The pictures in progress of a pipe end ABORTED_PIPE (R300). -/
def Mod.abortPics (m : Mod) (k : Nat) : Mod :=
  foldN 12 (fun (m : Mod) n =>
    ((m.ps n).pics.filter fun p => p.pipe == some k && p.status == 0).foldl (fun (m : Mod) p => m.discardPic n p.num 2 true) m) m

/-- The pipe stops: OFF, or FAULT with a code. -/
def Mod.pipeStop (m : Mod) (k st code : Nat) : Mod :=
  (m.setPipe k { m.pipe k with st := st, faultCode := code, stopping := false, job := none }).abortPics k

/-- Where a slot's temporal reference lies; that is free (R293) (log entry 48). -/
def Mod.refAt (m : Mod) (n : Nat) : Nat :=
  let r := (m.rx n).rcd
  isoPlace (Config.bufAddr (m.rx n).place 2049).toNat (2 * slotW r * slotH r)

/-- The reference of a slot is written: its lines of SDRAM are sound again (R27). -/
def Mod.refClean (m : Mod) (n : Nat) : Mod := m.cleanse (m.refAt n) (2 * slotW (m.rx n).rcd * slotH (m.rx n).rcd)

/-- PIPE_JOB_DONE: a job of p input pixels ends p ns after its start (R287); outputs and reference are written, the
latency counted; more than 2 ms is late (R297). -/
def execPipeJobDone (k : Nat) (s : State) : Host.Outcome State Fault Refusal := s.act fun m =>
  let x := m.pipe k
  match x.job with
  | none => m
  | some j =>
    if !m.pd 7 ∨ 1 < k then m
    else
      let m := m.until (j.start + (j.pixels + 7) / 8)
      let lat := m.now - j.readyRaw
      let late := decide (ms 2 < lat)
      let us' := (lat + 124) / 125
      let m := m.setPipe k { x with job := none, jobs := inc32 x.jobs, late := if late then inc32 x.late else x.late,
                                    maxLat := max x.maxLat (sat32 us'), busy := (j.start, m.now) :: lastSecond m.now x.busy }
      let m := match (m.ps j.slot).pics.find? fun p => p.num == j.picture with
        | none => m
        | some p =>
          let last := p.full (m.rx j.slot) && !((m.ps j.slot).ready.any fun q => q.picture == j.picture)
          let last := last || decide (slotH (m.rx j.slot).rcd ≤ j.hi)
          let rows := if p.status = 0 then m.jobRows p j last else ((m.ps j.slot).tnr, 0, p.rows)
          let m := if p.status = 0 ∧ tnrOn p.rcd then m.refClean j.slot else m
          let q := m.ps j.slot
          let m := m.setPs j.slot { q with tnr := rows.1, late := if late then inc32 q.late else q.late, lastLat := sat32 us' }
          m.updPic j.slot j.picture fun p => { p with
            jobs := p.jobs + 1, doneRaw := m.now, emitted := if p.status = 0 then (j.emits last).2 else p.emitted
            spatial := p.spatial + rows.2.1, rows := rows.2.2
            flags := if late && !p.flags.contains 12 then 12 :: p.flags else p.flags }
      let m := m.picStep j.slot
      if (m.pipe k).stopping then m.pipeStop k 0 0 else m

/-- The byte at offset `o` of a spill slot's ring (R283). -/
def SlotRx.spillByte (x : SlotRx) (o : Nat) : Byte :=
  let size := 16 + 2 * slotW x.rcd
  (Tab.get [] x.spill (o / size) : Bytes).getD (o % size) 0

/-- The byte at offset `o` of a slot's temporal reference (R293). -/
def PipeSlot.refByte (p : PipeSlot) (w o : Nat) : Byte := (Tab.get (false, []) p.tnr (o / (2 * w)) : Bool × Bytes).2.getD (o % (2 * w)) 0

/-- The byte at offset `o` of a stream's ring of `n` bytes: that of the latest access unit that lies there (R320). -/
def EncStream.ringByte (e : EncStream) (n o : Nat) : Byte :=
  match e.coded.find? fun u => decide ((o + n - u.1 % n) % n < u.2.length) with
  | some u => u.2.getD ((o + n - u.1 % n) % n) 0
  | none => 0

/-- Bytes of a stream's ring (0x0D20). -/
def EncStream.ringSize (e : EncStream) : Nat := rd e.params 20 2 * 1048576

/-- Where a stream's ring lies; that is free (R320) (log entry 48). -/
def EncStream.ringAt (e : EncStream) (k : Nat) : Nat := isoPlace (Config.bufAddr e.ring (1024 + k)).toNat e.ringSize

/-- What of the pipes lies at an address of the isochronous region, and the byte there: an output buffer, a temporal
reference, a spill ring, a stream's ring (R283, R293, R302, R303, R320) (log entry 48). -/
def Mod.bufByte (m : Mod) (a : Nat) : Option Byte :=
  let within := fun (base n : Nat) => decide (base ≤ a) && decide (a < base + n)
  let bufs := m.pipes.buf.findSome? fun q =>
    let i := q.1 / 32
    let base := m.bufAddr i (keyOut q.1) (q.1 % 8)
    if !m.bufInArray i (keyOut q.1) && within base q.2.length then some (q.2.getD (a - base) 0) else none
  let slots := (List.range 12).findSome? fun n =>
    let x := m.rx n
    let p := m.ps n
    let r := m.refAt n
    if !slotOn x.rcd then none
    else if slotSpill x.rcd && within (m.spillAt n) (ringBytes x.rcd) then some (x.spillByte (a - m.spillAt n))
    else if tnrOn p.rcd && within r (2 * slotW x.rcd * slotH x.rcd) then some (p.refByte (slotW x.rcd) (a - r))
    else none
  let encs := (List.range 4).findSome? fun k =>
    let e := m.enc k
    if e.running && within (e.ringAt k) e.ringSize then some (e.ringByte e.ringSize (a - e.ringAt k)) else none
  (bufs.orElse fun _ => slots).orElse fun _ => encs

/-- PD5 is off: what lies in its SDRAM is lost: output buffers, temporal references, spill rings with the lines in them, whose
pictures are dropped, and the bytes of streams (R283, R293, R302, R320) (log entry 48). -/
def Mod.isoLost (m : Mod) : Mod :=
  let m := { m with pipes := { m.pipes with buf := m.pipes.buf.filter fun q => m.bufInArray (q.1 / 32) (keyOut q.1) } }
  let m := foldN 4 (fun (m : Mod) k => m.setEnc k { m.enc k with coded := [] }) m
  foldN 12 (fun (m : Mod) n =>
    let p := m.ps n
    let m := m.setPs n { p with tnr := tnrKeep p.tnr fun _ => false
                                bufPic := p.bufPic.filter fun q => m.bufInArray (q.1 / 32) (keyOut q.1) }
    let x := m.rx n
    let nums := (x.ring.map fun e => rd e.1 0 4).eraseDups
    if !slotSpill x.rcd || x.ring.isEmpty then m
    else nums.foldl (fun (m : Mod) k => m.dropPic n k) ((m.setRx n { x with ring := [], spill := [] }).gatherFault n 3)) m

/-! ### Faults and the self-test (R300, R301) -/

/-- PIPE_FAULT: code 1 ECC, 2 a job of 4 times its length, 3 bus error (log entry 49). -/
def execPipeFault (k code : Nat) (s : State) : Host.Outcome State Fault Refusal := s.act fun m =>
  let x := m.pipe k
  if 1 < k ∨ !m.pd 7 ∨ x.st ≠ 1 ∨ code = 0 ∨ 3 < code then m
  else
    let m := match code, x.job with
      | 2, some j => m.until (j.start + (4 * j.pixels + 7) / 8)
      | _, _ => m
    if code = 2 ∧ x.job.isNone then m
    else (m.ev (107 + k) k code true).pipeStop k 2 code

/-- PIPE_SELF_TEST_DONE: 2 ms after RESET_INSTANCE; code 0 where every test passed. -/
def execPipeSelfTestDone (k code : Nat) (s : State) : Host.Outcome State Fault Refusal := s.act fun m =>
  let x := m.pipe k
  match x.testing with
  | none => m
  | some t =>
    if 1 < k ∨ !m.pd 7 then m
    else
      let m := m.until (t.2 + ms 2)
      let m := m.setPipe k { x with testing := none, st := if code = 0 then 1 else 2, faultCode := if code = 0 then 0 else code }
      let m := if code = 0 then (if x.faultCode = 0 then m else m.ev (107 + k) k x.faultCode false)
        else if x.faultCode = code then m else m.ev (107 + k) k code true
      t.1.foldl (fun (m : Mod) c => m.finish 0x0D07 c (if code = 0 then St.ok else St.fault)) m

/-- NO_PIPE: a picture that found no pipe is discarded, its descriptor published (R301) (log entry 49). -/
def execNoPipe (n : Nat) (s : State) : Host.Outcome State Fault Refusal := s.act fun m =>
  if 11 < n ∨ !m.pd 7 then m
  else
    let p := m.ps n
    (m.setPs n { p with pics := p.pics.map fun q => if q.status = 3 then { q with ended := true } else q }).picStep n

/-- Start a pipe. -/
def Mod.pipeOn (m : Mod) (k : Nat) : Mod :=
  let x := m.pipe k
  if x.st = 0 ∧ x.testing.isNone then m.setPipe k { x with st := 1, maxLat := 0, stopping := false }
  else m.setPipe k { x with stopping := false }

/-- The first context bound to a slot becomes its active one; an active context that is no longer bound to the slot gives
way to the lowest that is (R289). -/
def Mod.activate (m : Mod) : Mod :=
  foldN 12 (fun (m : Mod) n =>
    let b := m.bound n
    let p := m.ps n
    match m.ctxNext n with
    | some k => if b.contains k then m else if b.isEmpty then m.setPs n { p with nextCtx := none, ctx := none, rcd := [] }
      else m.setPs n { p with nextCtx := b.head? }
    | none => m.setPs n { p with ctx := b.head?, rcd := [] }) m

/-- What of the pipes outlives PD7: FAULT, which only RESET_INSTANCE ends, and the counters of pipes and slots (R298, R300)
(log entry 49). -/
def Mod.pipesKept (m : Mod) : Pipes :=
  { pipe := foldN 2 (fun t k =>
      let x := m.pipe k
      Tab.put {} t k { st := if x.st = 2 then 2 else 0, faultCode := x.faultCode, jobs := x.jobs, late := x.late }) []
    slot := foldN 12 (fun t n =>
      let p := m.ps n
      Tab.put {} t n { pictures := p.pictures, short := p.short, long := p.long, padded := p.padded, truncated := p.truncated
                       aborted := p.aborted, noPipe := p.noPipe, skipped := p.skipped, late := p.late }) []
    evRaw := m.pipes.evRaw }

/-- A module start clears the counters of pipes and slots (0x0D14). -/
def Mod.pipesStart (m : Mod) : Mod :=
  let m := foldN 2 (fun (m : Mod) k => m.setPipe k { m.pipe k with jobs := 0, late := 0, maxLat := 0 }) m
  foldN 12 (fun (m : Mod) n => m.setPs n (m.ps n).cleared) m

/-- PD7 comes up: contexts are placed, pipes start as their records say; every reference is invalid (R305). -/
def Mod.pipesUp (m : Mod) : Mod :=
  let m := { m with pipes := m.pipesKept }
  let m := foldN 16 (fun (m : Mod) k => if rd (m.ctxRec k) 0 1 < 12 then (m.placeCtx k).getD m else m) m.activate
  foldN 2 (fun (m : Mod) k => if (rd (m.cfgOr 0x0D03 k (zeros 4)) 0 1).testBit 0 then m.pipeOn k else m) m

/-- PD7 goes off: pictures, references, buffers and streams are lost (R305, R321). -/
def Mod.pipesOff (m : Mod) : Mod :=
  let tests := (List.range 2).flatMap fun k => match (m.pipe k).testing with | some t => t.1 | none => []
  let m := tests.foldl (fun (m : Mod) c => m.finish 0x0D07 c St.notReady) m
  let m := foldN 12 (fun (m : Mod) n => match (m.ps n).away with | some h => m.ev (107 + h) n 4 false | none => m) m
  { m with pipes := m.pipesKept }

/-! ### The encoder (R318–R321) -/

/-- An ENC_AU entry (Table 13-5) (log entry 50). -/
def Mod.publishAu (m : Mod) (k flags qp picture timeRaw pos size : Nat) : Mod :=
  m.publish 13 2 2 (le 1 k ++ le 1 flags ++ le 1 (rd (m.enc k).params 1 1) ++ le 1 qp ++ le 4 picture ++ le 8 timeRaw
    ++ le 8 pos ++ le 4 size ++ zeros 4)

/-- A stream has stopped (log entry 50). -/
def Mod.encStopped (m : Mod) (k : Nat) : Mod :=
  m.setEnc k { m.enc k with running := false, stopping := false, held := [], mismatch := none }

/-- Emulation prevention: a byte 3 between two zero bytes and a byte of at most 3 (H.265) (log entry 50). -/
def nalEscape : Nat → Bytes → Bytes
  | _, [] => []
  | z, b :: t =>
    if 2 ≤ z ∧ b.toNat ≤ 3 then 3 :: b :: nalEscape (if b = 0 then 1 else 0) t
    else b :: nalEscape (if b = 0 then z + 1 else 0) t

/-- A NAL unit of the Annex B byte stream: start code, header of two bytes, body (H.265) (log entry 50). -/
def nalUnit (typ : Nat) (body : Bytes) : Bytes := [0, 0, 0, 1] ++ le 1 (2 * typ) ++ [1] ++ body

/-- The bytes of an access unit: VPS, SPS and PPS before each IDR, the user-data SEI with time_raw where the stream has it, and
the coded slice (Table 13-4) (log entry 50). -/
def EncStream.auBytes (e : EncStream) (idr : Bool) (timeRaw : Nat) (slice' : Bytes) : Bytes :=
  let what := e.params ++ le 2 e.fmt.1 ++ le 2 e.fmt.2.1 ++ le 2 e.fmt.2.2 ++ le 1 e.level
  (if idr then ([32, 33, 34].flatMap fun t => nalUnit t (nalEscape 0 (Config.paramSet t what))) else [])
    ++ (if (rd e.params 18 1).testBit 0 then
          nalUnit 39 (nalEscape 0 ([5, 24] ++ le 16 Config.seiUuid.toNat ++ le 8 timeRaw ++ [0x80]))
        else [])
    ++ nalUnit (if idr then 19 else 1) slice'

/-- Access units of which the ring of a stream still holds bytes, once it has written up to `pos` (R320). -/
def EncStream.keptAus (e : EncStream) (pos : Nat) : List (Nat × Bytes) :=
  e.coded.filter fun u => decide (pos < u.1 + u.2.length + e.ringSize)

/-- ENC_AU: the oldest picture a stream holds is coded; its bytes go into the stream's ring before its entry is published; its
buffer is freed (R318–R320) (log entry 50). -/
def execEncAu (k : Nat) (au : AuIn) (s : State) : Host.Outcome State Fault Refusal := s.act fun m =>
  let e := m.enc k
  match e.held with
  | [] => m
  | h :: t =>
    if 3 < k ∨ !m.pd 7 ∨ !e.running then m
    else
      let idr := decide (e.pictures = 0) || e.idr || decide (rd e.params 6 2 ≤ e.sinceIdr)
      let last := e.stopping && t.isEmpty
      let bytes := e.auBytes idr h.2.2 au.slice
      let size := bytes.length
      let qp := max (rd e.params 16 1) (min (rd e.params 17 1) au.qpAvg)
      let m := m.publishAu k (b2n idr + b2n last * 2 + b2n au.hrdOverflow * 4) qp h.2.1 h.2.2 e.bytePos size
      let m := m.setEnc k { e with held := t, pictures := inc32 e.pictures, bytePos := e.bytePos + size, idr := false
                                   sinceIdr := if idr then 1 else e.sinceIdr + 1
                                   coded := (e.bytePos, bytes) :: e.keptAus (e.bytePos + size)
                                   aus := (m.now, size) :: e.aus.filter fun p => m.now < p.1 + secs 1 }
      let m := m.cleanse (e.ringAt k) e.ringSize
      if last then m.encStopped k else m

/-- ENC_STREAM_STOP: an encoder fault stops every stream; a picture of another format or size stops its own, with an
access unit flagged END (R321) (log entry 50). -/
def execEncStreamStop (k : Nat) (encFault : Bool) (s : State) : Host.Outcome State Fault Refusal := s.act fun m =>
  if 3 < k ∨ !m.pd 7 then m
  else if encFault then
    foldN 4 (fun (m : Mod) e => m.encStopped e) (m.ev 109 k 1 true)
  else
    let e := m.enc k
    match e.mismatch with
    | none => m
    | some q => ((m.publishAu k 2 0 q.1 q.2 e.bytePos 0).ev 109 k 3 true).encStopped k

/-- Pixel rate of a stream, exact: width × height × max_rate of its slot over decim, in 1/72,072,000 pix/s, which every decim
from 1 to 16 divides (R318). -/
def Mod.encLoad (m : Mod) (params : Bytes) : Nat :=
  let r := m.slotRec (rd params 1 1)
  slotW r * slotH r * slotRate r * (720720 / max 1 (rd params 4 1))

/-- Pixel rate of every running stream. -/
def Mod.encTotal (m : Mod) : Nat :=
  (List.range 4).foldl (fun a k => let e := m.enc k; if e.running then a + m.encLoad e.params else a) 0

/-! ### PIPE class operations -/

/-- 0x0D01 -/
def opPipeGetInfo : Op := opInfo 13 3

/-- Round up a quotient. -/
def ceilDiv (a b : Nat) : Nat := (a + b - 1) / b

/-- 0x0D02 -/
def opPipeGetStatus : Op where
  len := exactly 0
  insts := 2
  body := fun c m =>
    let k := c.inst.toNat
    let x := m.pipe k
    let mine := (List.range 12).filter fun n => slotOn (m.slotRec n) && (m.ps n).pipe.orElse (fun _ => m.assign (m.recNext n)) == some k
    let load := mine.foldl (fun a n => a + slotLoad (m.slotRec n) (m.recNext n)) 0
    Res.ok m (le 1 x.st ++ le 1 x.faultCode ++ le 2 (mine.foldl (fun a n => a + 2 ^ n) 0) ++ le 2 (busyPm m.now x.busy) ++ zeros 2
      ++ le 4 x.jobs ++ le 4 x.late ++ le 4 x.maxLat ++ le 4 (ceilDiv load 100000) ++ le 4 (ceilDiv (m.slotSum slotLoad) 100000)
      ++ le 2 (ceilDiv m.dcSum 200000000) ++ le 2 (ceilDiv (m.visnSum false) 25600000000) ++ le 2 (ceilDiv (m.visnSum true) 25600000000)
      ++ le 2 (ceilDiv (m.slotSum tnrTraffic) 100000000) ++ zeros 4)

/-- A SET_CONFIG of four bytes: bit 0 auto_enable, the rest 0. -/
def flagsRecordOk (r : Bytes) : Bool := decide (rd r 0 1 ≤ 1) && isZero r 1 3

/-- 0x0D03 -/
def opPipeSetConfig : Op where
  len := exactly 4
  insts := 2
  body := fun c m =>
    let r := slice c.params 0 4
    if flagsRecordOk r then Res.ok ((m.setCfg 0x0D03 c.inst.toNat r).markSet 0) else Res.err m St.badParam

/-- 0x0D04 -/
def opPipeGetConfig : Op :=
  { len := exactly 0, insts := 2, body := fun c m => Res.ok m (m.cfgOr 0x0D03 c.inst.toNat (zeros 4)) }

/-- 0x0D05 -/
def opPipeEnable : Op := { len := exactly 0, insts := 2, body := fun c m => Res.ok (m.pipeOn c.inst.toNat) }

/-- 0x0D06: the pipe stops after its running job. -/
def opPipeDisable : Op where
  len := exactly 0
  insts := 2
  body := fun c m =>
    let k := c.inst.toNat
    let x := m.pipe k
    Res.ok (if x.st ≠ 1 then m else if x.job.isSome then m.setPipe k { x with stopping := true } else m.pipeStop k 0 0)

/-- 0x0D07: counters are cleared and the self-test of 2 ms runs (R300). -/
def opPipeResetInstance : Op where
  len := exactly 0
  insts := 2
  body := fun c m =>
    let k := c.inst.toNat
    let m := if (m.pipe k).st = 1 then m.pipeStop k 0 0 else m
    let x := m.pipe k
    let t := match x.testing with | some t => (t.1 ++ [c], t.2) | none => ([c], m.now)
    Res.accepted (m.setPipe k { x with jobs := 0, late := 0, maxLat := 0, busy := [], testing := some t })

/-- A context record is legal; the geometry is that of the slot it is bound to (R290, R291). -/
def ctxRecOk (rcd r : Bytes) : Bool :=
  let bound := decide (rd rcd 0 1 ≤ 11)
  let pat := rd rcd 2 1
  let s := rd rcd 4 2
  let w := slotW r
  let h := slotH r
  let out := rd rcd 6 1
  (bound || rd rcd 0 1 == 0xFF) && decide (rd rcd 1 1 ≤ 1) && decide (pat ≤ 5) && decide (rd rcd 3 1 ≤ if pat = 2 then 15 else 3)
    && (s == 0 || inRange s 32 256) && decide (out ≤ 31) && decide (rd rcd 7 1 ≤ 7)
    && (!out.testBit 3 || pat == 1 || pat == 2) && inRange (rd rcd 29 1) 1 255 && decide (rd rcd 32 2 < rd rcd 34 2)
    && isZero rcd 42 2 && decide (rd rcd 68 1 ≤ 1) && (rd rcd 68 1 == 0 || pat == 3 || pat == 4 || pat == 5)
    && decide (rd rcd 69 1 ≤ 1) && rd rcd 70 2 % 2 == 0 && rd rcd 72 2 % 2 == 0 && decide (rd rcd 74 1 ≤ 1) && decide (rd rcd 75 1 ≤ 1)
    && inRange (rd rcd 76 1) 2 8 && inRange (rd rcd 77 1) 2 8 && inRange (rd rcd 78 1) 2 8 && isZero rcd 79 1
    && (!bound || (inRange (rd rcd 70 2) (ceilDiv w 8) w && inRange (rd rcd 72 2) (ceilDiv h 8) h
        && (if s = 0 then decide (w * h ≤ 524288) && decide (h ≤ slotRing r)
            else decide (s * w ≤ 524288) && decide (2 * s ≤ slotRing r))))

/-- 0x0D10 -/
def opSetContext : Op where
  len := exactly 84
  insts := 3
  only := some 0
  body := fun c m =>
    let p := slice c.params 0 84
    let k := rd p 0 1
    let rcd := p.drop 4
    if 15 < k ∨ !isZero p 1 3 ∨ !ctxRecOk rcd (m.slotRec (rd rcd 0 1)) then Res.err m St.badParam
    else
      let m' := Mod.activate ((m.setCfg 0x0D10 k p).markSet 0)
      if !m'.admitted then Res.err m St.noResource
      else match m'.placeCtx k with
        | some m' => Res.ok m'
        | none => Res.err m St.noResource

/-- 0x0D11 -/
def opSelectContext : Op where
  len := exactly 4
  insts := 3
  only := some 0
  body := fun c m =>
    let n := rd c.params 0 1
    let k := rd c.params 1 1
    if 11 < n ∨ 15 < k ∨ !isZero c.params 2 2 ∨ !(m.bound n).contains k then Res.err m St.badParam
    else
      let p := m.ps n
      let m' := m.setPs n { p with nextCtx := some k }
      if !m'.admitted || !m'.isoFits then Res.err m St.noResource else Res.ok m'

/-- Entries of a context table. -/
def tabSize (t : Nat) : Nat := if t = 0 then 884 else 257

/-- 0x0D12: entries are staged; the table acts from the next picture start (R290). -/
def opWriteCtxTable : Op where
  len := fun c => 8 ≤ c.plen.toNat && c.plen.toNat == 8 + 2 * rd c.params 4 2
  insts := 3
  only := some 0
  body := fun c m =>
    let k := rd c.params 0 1
    let t := rd c.params 1 1
    let first := rd c.params 2 2
    let n := rd c.params 4 2
    if 15 < k ∨ 1 < t ∨ n = 0 ∨ 112 < n ∨ tabSize t < first + n ∨ !isZero c.params 6 2 then Res.err m St.badParam
    else
      let old := slice (m.stored 0x0D12 (2 * k + t)) 0 (2 * tabSize t)
      Res.ok ((m.setCfg 0x0D12 (2 * k + t) (patch old (2 * first) (slice c.params 8 (2 * n)))).markSet 0)

/-- 0x0D13: the record in force, and whether it is its slot's active context. -/
def opGetContext : Op where
  len := exactly 4
  insts := 3
  only := some 0
  body := fun c m =>
    let k := rd c.params 0 1
    if 15 < k ∨ !isZero c.params 1 3 then Res.err m St.badParam
    else
      match (List.range 12).find? fun n => (m.ps n).ctx == some k with
      | some n =>
        let p := m.ps n
        Res.ok m ((if p.rcd.isEmpty || !slotOn (m.slotRec n) then m.ctxRec k else p.rcd) ++ [1, 0, 0, 0])
      | none => Res.ok m (m.ctxRec k ++ zeros 4)

/-- 0x0D14 -/
def opPipeGetSlotStatus : Op where
  len := exactly 4
  insts := 3
  only := some 0
  body := fun c m =>
    let n := rd c.params 0 1
    if 11 < n ∨ !isZero c.params 1 3 then Res.err m St.badParam
    else
      let p := m.ps n
      let r := m.slotRec n
      let pipe := if slotOn r then p.pipe.orElse fun _ => m.assign (m.recNext n) else none
      Res.ok m (le 1 (p.ctx.getD 0xFF) ++ le 1 (pipe.getD 0xFF) ++ zeros 2 ++ le 4 p.pictures ++ le 4 p.short ++ le 4 p.long
        ++ le 4 p.padded ++ le 4 p.truncated ++ le 4 p.aborted ++ le 4 p.noPipe ++ le 4 p.skipped ++ le 4 p.late
        ++ le 4 (if slotOn r then ceilDiv (slotLoad r (m.recNext n)) 100000 else 0) ++ le 4 p.lastLat)

/-- The levels of H.265 that the encoder has: general_level_idc, luma samples of a picture, and per second (Table 13-4; the
limits of H.265) (log entry 50). -/
def encLevels : List (Nat × Nat × Nat) :=
  [(90, 552960, 16588800), (93, 983040, 33177600), (120, 2228224, 66846720), (123, 2228224, 133693440),
   (150, 8912896, 267386880), (153, 8912896, 534773760)]

/-- A picture of w × h at `rate` hundredths a second over `decim` fits a level. -/
def levelFits (l : Nat × Nat × Nat) (w h rate decim : Nat) : Bool :=
  decide (w * h ≤ l.2.1) && decide (w * w ≤ 8 * l.2.1) && decide (h * h ≤ 8 * l.2.1) && decide (w * h * rate ≤ l.2.2 * 100 * decim)

/-- The level a stream codes: the one asked for where the picture fits it, for 0 the lowest that fits (R319). -/
def encLevel (asked w h rate decim : Nat) : Option Nat :=
  (encLevels.find? fun l => (asked == 0 || l.1 == asked) && levelFits l w h rate decim).map (·.1)

/-- The fields of ENC_START lie in their ranges (0x0D20). -/
def encParamsOk (p : Bytes) : Bool :=
  decide (rd p 0 1 ≤ 3) && decide (rd p 1 1 ≤ 11) && decide (rd p 2 1 ≤ 1) && decide (rd p 3 1 ≤ 1) && inRange (rd p 4 1) 1 16
    && (rd p 5 1 == 0 || encLevels.any fun l => l.1 == rd p 5 1) && inRange (rd p 6 2) 1 600 && inRange (rd p 8 4) 100 100000
    && (rd p 3 1 == 0 || decide (rd p 8 4 ≤ rd p 12 4)) && decide (rd p 17 1 ≤ 51) && decide (rd p 16 1 ≤ rd p 17 1)
    && decide (rd p 18 1 ≤ 1) && isZero p 19 1 && inRange (rd p 20 2) 4 64 && isZero p 22 2

/-- 0x0D20 (R318, R319) -/
def opEncStart : Op where
  len := exactly 24
  insts := 3
  only := some 2
  body := fun c m =>
    let p := slice c.params 0 24
    let k := rd p 0 1
    let n := rd p 1 1
    let r := m.slotRec n
    let rcd := m.recNext n
    let w := slotW r
    let h := slotH r
    if !encParamsOk p ∨ rcd.isEmpty ∨ !outOn rcd 1 ∨ rd rcd 74 1 ≠ rd p 2 1 ∨ !inRange w 64 8440 ∨ !inRange h 64 8440
        ∨ w % 8 ≠ 0 ∨ h % 8 ≠ 0 ∨ 8912896 < w * h then Res.err m St.badParam
    else if (m.enc k).running then Res.err m St.busy
    else match encLevel (rd p 5 1) w h (slotRate r) (rd p 4 1) with
    | none => Res.err m (if rd p 5 1 = 0 then St.noResource else St.badParam)
    | some level =>
      let d := m.draw
      let m' := d.2.setEnc k { running := true, params := p, fmt := (rd rcd 74 1, w, h), ring := d.2.fresh, level := level }
      if 25000000000 * 720720 < m'.encTotal ∨ !m'.isoFits then Res.err m St.noResource else Res.ok m'

/-- 0x0D21: the stream ends after its current picture. -/
def opEncStop : Op where
  len := exactly 4
  insts := 3
  only := some 2
  body := fun c m =>
    let k := rd c.params 0 1
    if 3 < k ∨ !isZero c.params 1 3 then Res.err m St.badParam
    else
      let e := m.enc k
      if !e.running then Res.err m St.notReady
      else if e.held.isEmpty then Res.ok (m.encStopped k)
      else Res.ok (m.setEnc k { e with stopping := true })

/-- 0x0D22 -/
def opEncForceIdr : Op where
  len := exactly 4
  insts := 3
  only := some 2
  body := fun c m =>
    let k := rd c.params 0 1
    if 3 < k ∨ !isZero c.params 1 3 then Res.err m St.badParam
    else
      let e := m.enc k
      if e.running then Res.ok (m.setEnc k { e with idr := true }) else Res.err m St.notReady

/-- 0x0D23 -/
def opEncGetStatus : Op where
  len := exactly 0
  insts := 3
  only := some 2
  body := fun _ m =>
    Res.ok m (le 4 (ceilDiv m.encTotal (100000 * 720720)) ++ zeros 4 ++ (List.range 4).flatMap fun k =>
      let e := m.enc k
      let bytes := (e.aus.filter fun p => m.now < p.1 + secs 1).foldl (fun a p => a + p.2) 0
      le 1 (b2n e.running) ++ le 1 (rd e.params 2 1) ++ le 1 (if e.running then rd e.params 1 1 else 0xFF) ++ [0] ++ le 4 e.pictures
        ++ le 4 e.skippedIn ++ le 4 (bytes * 8 / 1000)
        ++ le 8 (if e.running then e.ringAt k else 0) ++ le 4 e.ringSize ++ zeros 4)

/-- 0x0D24: from the stream's next picture. -/
def opEncSetRate : Op where
  len := exactly 12
  insts := 3
  only := some 2
  body := fun c m =>
    let p := c.params
    let k := rd p 0 1
    let e := m.enc k
    if 3 < k ∨ !isZero p 1 3 ∨ !inRange (rd p 4 4) 100 100000 then Res.err m St.badParam
    else if !e.running then Res.err m St.notReady
    else if rd e.params 3 1 = 1 ∧ rd p 8 4 < rd p 4 4 then Res.err m St.badParam
    else Res.ok (m.setEnc k { e with params := patch e.params 8 (slice p 4 8) })

/-- PIPE_GET_INFO (R98). -/
def execPipeGetInfo (c : Cmd) (s : State) : Host.Outcome State Fault Refusal := s.act fun m => m.serve 0x0D01 opPipeGetInfo c
/-- PIPE_GET_STATUS (R288). -/
def execPipeGetStatus (c : Cmd) (s : State) : Host.Outcome State Fault Refusal := s.act fun m => m.serve 0x0D02 opPipeGetStatus c
/-- PIPE_SET_CONFIG (R287). -/
def execPipeSetConfig (c : Cmd) (s : State) : Host.Outcome State Fault Refusal := s.act fun m => m.serve 0x0D03 opPipeSetConfig c
/-- PIPE_GET_CONFIG (R287). -/
def execPipeGetConfig (c : Cmd) (s : State) : Host.Outcome State Fault Refusal := s.act fun m => m.serve 0x0D04 opPipeGetConfig c
/-- PIPE_ENABLE (R296). -/
def execPipeEnable (c : Cmd) (s : State) : Host.Outcome State Fault Refusal := s.act fun m => m.serve 0x0D05 opPipeEnable c
/-- PIPE_DISABLE (R296). -/
def execPipeDisable (c : Cmd) (s : State) : Host.Outcome State Fault Refusal := s.act fun m => m.serve 0x0D06 opPipeDisable c
/-- PIPE_RESET_INSTANCE (R300). -/
def execPipeResetInstance (c : Cmd) (s : State) : Host.Outcome State Fault Refusal := s.act fun m => m.serve 0x0D07 opPipeResetInstance c
/-- SET_CONTEXT (R290). -/
def execSetContext (c : Cmd) (s : State) : Host.Outcome State Fault Refusal := s.act fun m => m.serve 0x0D10 opSetContext c
/-- SELECT_CONTEXT (R289). -/
def execSelectContext (c : Cmd) (s : State) : Host.Outcome State Fault Refusal := s.act fun m => m.serve 0x0D11 opSelectContext c
/-- WRITE_CTX_TABLE (R290). -/
def execWriteCtxTable (c : Cmd) (s : State) : Host.Outcome State Fault Refusal := s.act fun m => m.serve 0x0D12 opWriteCtxTable c
/-- GET_CONTEXT (R290). -/
def execGetContext (c : Cmd) (s : State) : Host.Outcome State Fault Refusal := s.act fun m => m.serve 0x0D13 opGetContext c
/-- PIPE_GET_SLOT_STATUS (R298). -/
def execPipeGetSlotStatus (c : Cmd) (s : State) : Host.Outcome State Fault Refusal := s.act fun m => m.serve 0x0D14 opPipeGetSlotStatus c
/-- ENC_START (R318). -/
def execEncStart (c : Cmd) (s : State) : Host.Outcome State Fault Refusal := s.act fun m => m.serve 0x0D20 opEncStart c
/-- ENC_STOP (R321). -/
def execEncStop (c : Cmd) (s : State) : Host.Outcome State Fault Refusal := s.act fun m => m.serve 0x0D21 opEncStop c
/-- ENC_FORCE_IDR (R319). -/
def execEncForceIdr (c : Cmd) (s : State) : Host.Outcome State Fault Refusal := s.act fun m => m.serve 0x0D22 opEncForceIdr c
/-- ENC_GET_STATUS (R318). -/
def execEncGetStatus (c : Cmd) (s : State) : Host.Outcome State Fault Refusal := s.act fun m => m.serve 0x0D23 opEncGetStatus c
/-- ENC_SET_RATE (R319). -/
def execEncSetRate (c : Cmd) (s : State) : Host.Outcome State Fault Refusal := s.act fun m => m.serve 0x0D24 opEncSetRate c

/-- The PIPE class. -/
def pipeOps : List (Nat × Op) :=
  [(0x0D01, opPipeGetInfo), (0x0D02, opPipeGetStatus), (0x0D03, opPipeSetConfig), (0x0D04, opPipeGetConfig),
   (0x0D05, opPipeEnable), (0x0D06, opPipeDisable), (0x0D07, opPipeResetInstance), (0x0D10, opSetContext),
   (0x0D11, opSelectContext), (0x0D12, opWriteCtxTable), (0x0D13, opGetContext), (0x0D14, opPipeGetSlotStatus),
   (0x0D20, opEncStart), (0x0D21, opEncStop), (0x0D22, opEncForceIdr), (0x0D23, opEncGetStatus),
   (0x0D24, opEncSetRate)]

end Sys2Proof.Machine
end

