-- ==== Sys2Proof/Machine/VisOps.lean ====
section
/-! DEFINITION. The vision array (chapter 13): partitions, models, jobs, results and the VIS class. -/

namespace Sys2Proof.Machine

open Sys2Proof

/-! ### Events (R316) -/

/-- A job event, EV114, at most once per partition, second and code. -/
def Mod.jobEv (m : Mod) (p code : Nat) : Mod :=
  let x := m.part p
  let due := match Tab.get none x.evRaw code with | some t => decide (t + secs 1 ≤ m.now) | none => true
  if due then (m.setPart p { x with evRaw := Tab.put none x.evRaw code (some m.now) }).ev 114 p code true else m

/-! ### Models (R309) -/

/-- A model of a partition. -/
def Part.model (x : Part) (h : Nat) : Option Model := x.models.find? fun d => d.handle == h

/-- The model a job runs. -/
def VisJob.handle (j : VisJob) : Nat := rd j.cmd.params 0 2

/-! ### Results (R313, R314) -/

/-- Body of a VIS_RESULT entry (Table 13-1); run_us is the time the job ran, without its interruptions (log entry 51). -/
def visBody (j : VisJob) (p status endRaw : Nat) (inline : Bytes) (outAddr outLen : Nat) : Bytes :=
  let c := j.cmd.params
  slice c 8 4 ++ slice c 0 2 ++ le 1 p ++ le 1 status ++ slice c 3 1 ++ slice c 2 1 ++ le 2 (sat16 j.preempts)
    ++ le 4 j.picture ++ le 8 j.timeRaw ++ le 8 (j.startRaw.getD endRaw) ++ le 8 endRaw ++ le 4 (j.ran / us 1) ++ le 2 inline.length ++ zeros 2
    ++ le 8 outAddr ++ le 4 outLen ++ zeros 4 ++ inline

/-- Completion status of a job status (0x0E12). -/
def visStatus (st : Nat) : Nat := if st ≤ 1 then St.ok else if st = 2 then St.badParam else if st = 3 then St.aborted else St.fault

/-- A job ends: VIS_RESULT, the slots of its slot_map, the completion with the first 64 bytes of the body (log entry 51). -/
def Mod.visEnd (m : Mod) (p : Nat) (j : VisJob) (status : Nat) (inline : Bytes) (outLen : Nat) : Mod :=
  let ok := decide (status ≤ 1)
  let outAddr := if ok then rd j.cmd.params 16 8 else 0
  let body := visBody j p status m.now inline outAddr (if outAddr = 0 then 0 else outLen)
  let m := m.publish 14 p 1 body
  let m := foldN 4 (fun (m : Mod) k =>
    let slot := rd j.cmd.params (24 + 2 * k) 1
    let el := rd j.cmd.params (25 + 2 * k) 1
    if slot = 0xFF then m else m.fxPut 4 slot (w32 (rd inline (4 * el) 4)) ok) m
  m.finish 0x0E12 j.cmd (visStatus status) (slice body 0 64)

/-- The head of the highest queue that is not empty runs, starting or resuming now (R311). -/
def Mod.visRun (m : Mod) (p : Nat) : Mod :=
  let x := m.part p
  match (List.range 4).find? fun q => !(Tab.get [] x.queue q : List VisJob).isEmpty with
  | none => m.setPart p { x with running := none }
  | some q =>
    let jobs := match (Tab.get [] x.queue q : List VisJob) with
      | [] => []
      | j :: t => { j with startRaw := some (j.startRaw.getD m.now), runRaw := m.now } :: t
    m.setPart p { x with running := some q, queue := Tab.put [] x.queue q jobs }

/-- Every cancelled job, and every job of a model that is being unloaded, ends ABORTED; then the model goes (R317). -/
def Mod.visSweep (m : Mod) (p : Nat) : Mod :=
  let m := foldN 4 (fun (m : Mod) q =>
    let x := m.part p
    let js : List VisJob := Tab.get [] x.queue q
    let gone := js.filter fun j => j.aborted
    let m := m.setPart p { x with queue := Tab.put [] x.queue q (js.filter fun j => !j.aborted) }
    gone.foldl (fun (m : Mod) j => m.visEnd p j 3 [] 0) m) m
  let x := m.part p
  let left := x.models.filter Model.leaving
  let m := m.setPart p { x with models := x.models.filter fun d => !d.leaving }
  left.foldl (fun (m : Mod) _ => m.ev 115 p 3 true) m

/-- The busy interval of the running job ends now and counts in its run time. -/
def Mod.visPause (m : Mod) (p : Nat) : Mod :=
  let x := m.part p
  match x.running with
  | none => m
  | some q =>
    match (Tab.get [] x.queue q : List VisJob) with
    | [] => m
    | j :: t =>
      let j' := { j with ran := j.ran + (m.now - j.runRaw), runRaw := m.now }
      m.setPart p { x with busy := (j.runRaw, m.now) :: lastSecond m.now x.busy, queue := Tab.put [] x.queue q (j' :: t) }

/-- Every job of a partition ends with a status, and its models are unloaded (R315) (log entry 51). -/
def Mod.visClear (m : Mod) (p status : Nat) : Mod :=
  let m := m.visPause p
  let x := m.part p
  let jobs := (List.range 4).flatMap fun q => (Tab.get [] x.queue q : List VisJob)
  let m := m.setPart p { x with queue := [], running := none, models := [], loading := [] }
  let m := jobs.foldl (fun (m : Mod) j => m.visEnd p j status [] 0) m
  let m := x.models.foldl (fun (m : Mod) _ => m.ev 115 p 3 true) m
  x.loading.foldl (fun (m : Mod) c => m.finish 0x0E10 c St.aborted) m

/-! ### What happens in the array -/

/-- A job's run bound in 1/1250 µs: wcet, the SDRAM bytes at 1.25 GB/s, 20 µs per interruption (R310) (log entry 51). -/
def VisJob.bound (j : VisJob) (d : Model) : Nat :=
  let bytes := (if j.inArray then 0 else d.kmp.inBytes) + (if rd j.cmd.params 16 8 = 0 then 0 else d.kmp.outBytes)
  1250 * d.kmp.wcetUs + bytes + 25000 * j.preempts

/-- The running job of a partition, with its run time up to now, and its model. -/
def Mod.visNow (m : Mod) (p : Nat) : Option (Nat × VisJob × Model) :=
  let x := (m.visPause p).part p
  match x.running with
  | none => none
  | some q =>
    match (Tab.get [] x.queue q : List VisJob) with
    | [] => none
    | j :: _ => match x.model j.handle with | none => none | some d => some (q, j, d)

/-- The running job has run for 4 times its bound (R310) (log entry 51). -/
def Mod.visStuck (m : Mod) (p : Nat) : Bool :=
  match m.visNow p with | some i => decide (4 * (i.2.1.bound i.2.2 * us 1) ≤ 1250 * i.2.1.ran) | none => false

/-- A partition enters FAULT: its jobs end with FAULT and its models are unloaded (R315). -/
def Mod.partFault (m : Mod) (p code : Nat) : Mod :=
  let m := m.ev (112 + p) p code true
  let m := m.setPart p { m.part p with st := 2, faultCode := code }
  m.visClear p 4

/-- VIS_PREEMPT: a layer boundary. Jobs that were cancelled end; a higher queue's job interrupts the one that runs
(R311, R317). A job that has run for 4 times its bound puts its partition in FAULT instead (R310). -/
def execVisPreempt (p : Nat) (s : State) : Host.Outcome State Fault Refusal := s.act fun m =>
  let x := m.part p
  match x.running with
  | none => m
  | some q =>
    if 1 < p ∨ !m.pd 6 then m
    else if m.visStuck p then m.partFault p 2
    else
      let m := m.visPause p
      let x := m.part p
      let higher := (List.range q).any fun h => (Tab.get [] x.queue h : List VisJob).any fun j => !j.aborted
      let js : List VisJob := Tab.get [] x.queue q
      let js := if higher then match js with
          | j :: t => (if j.aborted then j else { j with preempts := j.preempts + 1 }) :: t
          | [] => []
        else js
      ((m.setPart p { x with queue := Tab.put [] x.queue q js }).visSweep p).visRun p

/-- VIS_JOB_END: the running job ends; its tensor is written to out_addr before the entry is published (R310, R313).
A job that ran for 4 times its bound does not end so: its partition is in FAULT. -/
def execVisJobEnd (p : Nat) (tensor : Bytes) (s : State) : Host.Outcome State Fault Refusal :=
  if 1 < p ∨ !s.m.pd 6 then .next s
  else if s.m.visStuck p then .next { s with m := s.m.partFault p 2 }
  else match s.m.visNow p with
  | none => .next s
  | some (q, j, d) =>
    let m := s.m.visPause p
    let x := m.part p
    let out := slice tensor 0 d.kmp.outBytes
    let st := if j.aborted then 3 else if j.bound d * us 1 < 1250 * j.ran then 1 else 0
    let m := m.setPart p { x with
      queue := Tab.put [] x.queue q (Tab.get [] x.queue q : List VisJob).tail, running := none
      jobs := if j.aborted then x.jobs else inc32 x.jobs
      overruns := if st = 1 then inc32 x.overruns else x.overruns }
    let m := if st = 1 then m.jobEv p 1 else m
    let addr := rd j.cmd.params 16 8
    let m := m.visEnd p j st (if st = 3 then [] else out.take 160) out.length
    let s : State := { s with m := (m.visSweep p).visRun p }
    .next (if st ≠ 3 ∧ addr ≠ 0 then s.writeMem addr out else s)

/-- VIS_FAULT: code 1 SRAM, 2 a job at 4 times its bound, 3 bus error (R315). -/
def execVisFault (p code : Nat) (s : State) : Host.Outcome State Fault Refusal := s.act fun m =>
  if 1 < p ∨ !m.pd 6 ∨ (m.part p).st ≠ 1 ∨ code = 0 ∨ 3 < code ∨ (code = 2 ∧ !m.visStuck p) then m
  else m.partFault p code

/-- A package is accepted: it names this part, has format version 1, its signature verifies under a model key of SET_ID, and no
layer takes more than 180 µs (R309) (log entries 5, 51). -/
def Mod.kmpOk (m : Mod) (kmp : KmpIn) (pkg : Bytes) : Bool :=
  kmp.target && kmp.version == 1 && decide (kmp.layerNs ≤ 180000) && (m.nvs.modelKeys.take 4).any fun k => Config.modelVerify k pkg

/-- MODEL_LOAD_DONE: the package at its address is checked and the model placed (R308, R309) (log entry 51). -/
def execModelLoadDone (p : Nat) (kmp : KmpIn) (s : State) : Host.Outcome State Fault Refusal := s.act fun m =>
  let x := m.part p
  match x.loading with
  | [] => m
  | c :: t =>
    if 1 < p ∨ !m.pd 6 then m
    else
      let m := m.setPart p { x with loading := t }
      if !m.kmpOk kmp (s.readMem (rd c.params 0 8) (rd c.params 8 4)) then (m.ev 115 p 2 true).finish 0x0E10 c St.badParam
      else if 16 ≤ x.models.length ∨ m.partFree p < kmp.weights then m.finish 0x0E10 c St.noResource
      else
        let h := x.nextHandle
        let y := m.part p
        let m := m.setPart p { y with models := y.models ++ [{ handle := h, kmp := kmp }], nextHandle := (h + 1) % 65536 }
        (m.ev 115 p 1 true).finish 0x0E10 c St.ok
          (le 2 h ++ le 2 kmp.layers ++ le 4 kmp.wcetUs ++ le 4 kmp.weights ++ le 4 kmp.acts ++ le 4 kmp.inBytes ++ le 4 kmp.outBytes)

/-- A partition starts. -/
def Mod.partOn (m : Mod) (p : Nat) : Mod := let x := m.part p; if x.st = 0 then m.setPart p { x with st := 1 } else m

/-- What PD6 leaves of the partitions: FAULT stays until RESET_INSTANCE, which also clears the counters (R315). -/
def Mod.visKept (m : Mod) : Mod :=
  foldN 2 (fun (m : Mod) p =>
    let x := m.part p
    m.setPart p { st := if x.st = 2 then 2 else 0, faultCode := x.faultCode, jobs := x.jobs, overruns := x.overruns }) m

/-- PD6 goes off: every model and job is lost (R315). -/
def Mod.visOff (m : Mod) : Mod := (foldN 2 (fun (m : Mod) p => m.visClear p 4) m).visKept

/-- PD6 comes up: the partitions start as their records say. -/
def Mod.visUp (m : Mod) : Mod :=
  foldN 2 (fun (m : Mod) p => if (rd (m.cfgOr 0x0E03 p (zeros 4)) 0 1).testBit 0 then m.partOn p else m) m.visKept

/-- DISABLE: every job ends with ABORTED and the models are unloaded. -/
def Mod.partOff (m : Mod) (p : Nat) : Mod :=
  let m := m.visClear p 3
  m.setPart p { m.part p with st := 0 }

/-! ### VIS class operations -/

/-- 0x0E01 -/
def opVisGetInfo : Op := opInfo 14 2

/-- 0x0E02 -/
def opVisGetStatus : Op where
  len := exactly 0
  insts := 2
  body := fun c m =>
    let p := c.inst.toNat
    let x := m.part p
    let now : List (Nat × Nat) := match x.running with
      | some q => (match (Tab.get [] x.queue q : List VisJob) with | j :: _ => [(j.runRaw, m.now)] | [] => [])
      | none => []
    Res.ok m (le 1 x.st ++ le 1 x.faultCode ++ le 1 x.models.length ++ le 1 (x.running.getD 0xFF)
      ++ ((List.range 4).flatMap fun q => le 1 (Tab.get [] x.queue q : List VisJob).length) ++ le 4 (m.partFree p) ++ le 4 x.jobs
      ++ le 4 x.overruns ++ le 4 (busyPm m.now (now ++ x.busy)))

/-- 0x0E03 -/
def opVisSetConfig : Op where
  len := exactly 4
  insts := 2
  body := fun c m =>
    let r := slice c.params 0 4
    if flagsRecordOk r then Res.ok ((m.setCfg 0x0E03 c.inst.toNat r).markSet 0) else Res.err m St.badParam

/-- 0x0E04 -/
def opVisGetConfig : Op :=
  { len := exactly 0, insts := 2, body := fun c m => Res.ok m (m.cfgOr 0x0E03 c.inst.toNat (zeros 4)) }

/-- 0x0E05 -/
def opVisEnable : Op := { len := exactly 0, insts := 2, body := fun c m => Res.ok (m.partOn c.inst.toNat) }

/-- 0x0E06 -/
def opVisDisable : Op where
  len := exactly 0
  insts := 2
  body := fun c m => let p := c.inst.toNat; Res.ok (if (m.part p).st = 2 then m else m.partOff p)

/-- 0x0E07: as DISABLE; counters are cleared and FAULT is left. -/
def opVisResetInstance : Op where
  len := exactly 0
  insts := 2
  body := fun c m =>
    let p := c.inst.toNat
    let code := (m.part p).faultCode
    let m := m.partOff p
    let m := m.setPart p { m.part p with faultCode := 0, jobs := 0, overruns := 0, busy := [] }
    Res.ok ((if code = 0 then m else m.ev (112 + p) p code false).restore 0 0x0E03 p)

/-- 0x0E10 (R309) (log entry 51) -/
def opModelLoad : Op where
  len := exactly 16
  insts := 2
  body := fun c m =>
    let p := c.inst.toNat
    let x := m.part p
    let addr := rd c.params 0 8
    let size := rd c.params 8 4
    if size = 0 ∨ 33554432 < size ∨ !inApp addr size ∨ !isZero c.params 12 4 then Res.err m St.badParam
    else if x.st ≠ 1 then Res.err m St.notReady
    else if 16 ≤ x.models.length + x.loading.length then Res.err m St.noResource
    else Res.accepted (m.setPart p { x with loading := x.loading ++ [c] })

/-- 0x0E11 (R317) -/
def opModelUnload : Op where
  len := exactly 4
  insts := 2
  body := fun c m =>
    let p := c.inst.toNat
    let x := m.part p
    let h := rd c.params 0 2
    if !isZero c.params 2 2 then Res.err m St.badParam
    else if x.st ≠ 1 then Res.err m St.notReady
    else if (x.model h).isNone then Res.err m St.badParam
    else
      let used := (List.range 4).any fun q => (Tab.get [] x.queue q : List VisJob).any fun j => j.handle == h
      let queue := x.queue.map fun e => (e.1, e.2.map fun (j : VisJob) => if j.handle = h then { j with aborted := true } else j)
      let m := m.setPart p { x with queue := queue, models := x.models.map fun d => if d.handle = h then { d with leaving := true } else d }
      Res.ok (if used then m else m.visSweep p)

/-- The picture a SUBMIT names, with its VISN buffer and time; none where its buffer has been reused. The buffer may belong to
a context that is no longer the slot's (R312). -/
def Mod.visInput (m : Mod) (n picture : Nat) : Option (Nat × Nat × Nat) :=
  let p := m.ps n
  let want := if picture = 0xFFFFFFFF then (match p.latest with | some q => some q.1 | none => none) else some picture
  match want with
  | none => none
  | some num =>
    p.bufPic.findSome? fun e =>
      match e.2 with
      | some q => if keyOut e.1 = 2 ∧ q.1 = num then some (e.1, q) else none
      | none => none

/-- A SUBMIT's slot_map is legal. -/
def visMapOk (c : Bytes) : Bool :=
  (List.range 4).all fun k => rd c (24 + 2 * k) 1 == 0xFF || (decide (rd c (24 + 2 * k) 1 ≤ 247) && decide (rd c (25 + 2 * k) 1 ≤ 39))

/-- 0x0E12 (R308, R311, R312) (log entry 51) -/
def opSubmit : Op where
  len := exactly 32
  insts := 2
  body := fun c m =>
    let p := c.inst.toNat
    let x := m.part p
    let q := rd c.params 2 1
    let n := rd c.params 3 1
    let addr := rd c.params 16 8
    let max' := rd c.params 12 4
    let rcd := (m.ps n).rcd
    let visn := match (m.ps n).ctx with | some k => if outOn rcd 2 || (rcd.isEmpty && outOn (m.ctxRec k) 2) then some k else none | none => none
    if 3 < q ∨ 11 < n ∨ !visMapOk c.params ∨ (addr ≠ 0 ∧ !inApp addr max') then Res.err m St.badParam
    else if x.st ≠ 1 then Res.err m St.notReady
    else match x.model (rd c.params 0 2), visn with
      | some d, some _ =>
        if d.leaving ∨ (addr ≠ 0 ∧ max' < d.kmp.outBytes) then Res.err m St.badParam
        else
          let js : List VisJob := Tab.get [] x.queue q
          if 32 ≤ js.length then Res.err (m.jobEv p 3) St.noResource
          else match m.visInput n (rd c.params 4 4) with
            | none =>
              -- STALE_INPUT: the job ends at once, after its ACCEPTED
              let j : VisJob := { cmd := c, picture := rd c.params 4 4, timeRaw := 0, buf := 0, inArray := toArray rcd }
              let m := (m.jobEv p 2).complete 0x0E12 c St.accepted [] 0
              let body := visBody j p 2 m.now [] 0 0
              let m := m.publish 14 p 1 body
              let m := foldN 4 (fun (m : Mod) k =>
                let slot := rd c.params (24 + 2 * k) 1
                if slot = 0xFF then m else m.fxPut 4 slot 0 false) m
              { st := some St.badParam, reply := slice body 0 64, m := m }
            | some i =>
              let j : VisJob := { cmd := c, picture := i.2.1, timeRaw := i.2.2, buf := i.1, inArray := m.bufInArray (i.1 / 32) 2 }
              let m' := m.setPart p { x with queue := Tab.put [] x.queue q (js ++ [j]) }
              if partBytes < m'.partUsed p then Res.err m St.noResource
              else Res.accepted (if x.running.isNone then m'.visRun p else m')
      | _, _ => Res.err m St.badParam

/-- 0x0E13: a running job ends at the next layer boundary, one that waits at once (R317) (log entry 51). -/
def opCancel : Op where
  len := exactly 4
  insts := 2
  body := fun c m =>
    let p := c.inst.toNat
    let x := m.part p
    let tag := rd c.params 0 4
    let has := fun (j : VisJob) => rd j.cmd.params 8 4 == tag && !j.aborted
    if x.st ≠ 1 then Res.err m St.notReady
    else
      match (List.range 4).find? fun q => (Tab.get [] x.queue q : List VisJob).any has with
      | none => Res.err m St.badParam
      | some q =>
        let js : List VisJob := Tab.get [] x.queue q
        match js.find? has with
        | none => Res.err m St.badParam
        | some j =>
          if x.running = some q ∧ js.head? = some j then
            Res.ok (m.setPart p { x with queue := Tab.put [] x.queue q (js.map fun i => if i = j then { j with aborted := true } else i) })
          else
            Res.ok ((m.setPart p { x with queue := Tab.put [] x.queue q (js.erase j) }).visEnd p j 3 [] 0)

/-- VIS_GET_INFO (R98). -/
def execVisGetInfo (c : Cmd) (s : State) : Host.Outcome State Fault Refusal := s.act fun m => m.serve 0x0E01 opVisGetInfo c
/-- VIS_GET_STATUS (R311). -/
def execVisGetStatus (c : Cmd) (s : State) : Host.Outcome State Fault Refusal := s.act fun m => m.serve 0x0E02 opVisGetStatus c
/-- VIS_SET_CONFIG (R307). -/
def execVisSetConfig (c : Cmd) (s : State) : Host.Outcome State Fault Refusal := s.act fun m => m.serve 0x0E03 opVisSetConfig c
/-- VIS_GET_CONFIG (R307). -/
def execVisGetConfig (c : Cmd) (s : State) : Host.Outcome State Fault Refusal := s.act fun m => m.serve 0x0E04 opVisGetConfig c
/-- VIS_ENABLE (R307). -/
def execVisEnable (c : Cmd) (s : State) : Host.Outcome State Fault Refusal := s.act fun m => m.serve 0x0E05 opVisEnable c
/-- VIS_DISABLE (R315). -/
def execVisDisable (c : Cmd) (s : State) : Host.Outcome State Fault Refusal := s.act fun m => m.serve 0x0E06 opVisDisable c
/-- VIS_RESET_INSTANCE (R315). -/
def execVisResetInstance (c : Cmd) (s : State) : Host.Outcome State Fault Refusal := s.act fun m => m.serve 0x0E07 opVisResetInstance c
/-- MODEL_LOAD (R309). -/
def execModelLoad (c : Cmd) (s : State) : Host.Outcome State Fault Refusal := s.act fun m => m.serve 0x0E10 opModelLoad c
/-- MODEL_UNLOAD (R317). -/
def execModelUnload (c : Cmd) (s : State) : Host.Outcome State Fault Refusal := s.act fun m => m.serve 0x0E11 opModelUnload c
/-- SUBMIT (R311). -/
def execSubmit (c : Cmd) (s : State) : Host.Outcome State Fault Refusal := s.act fun m => m.serve 0x0E12 opSubmit c
/-- CANCEL (R317). -/
def execCancel (c : Cmd) (s : State) : Host.Outcome State Fault Refusal := s.act fun m => m.serve 0x0E13 opCancel c

/-- The VIS class. -/
def visOps : List (Nat × Op) :=
  [(0x0E01, opVisGetInfo), (0x0E02, opVisGetStatus), (0x0E03, opVisSetConfig), (0x0E04, opVisGetConfig),
   (0x0E05, opVisEnable), (0x0E06, opVisDisable), (0x0E07, opVisResetInstance), (0x0E10, opModelLoad),
   (0x0E11, opModelUnload), (0x0E12, opSubmit), (0x0E13, opCancel)]

end Sys2Proof.Machine
end

