-- ==== Sys2Proof/Machine/EthOps.lean ====
section
/-! DEFINITION. Ethernet ports and the time-aware switch (chapter 15): forwarding, gates, host rings, launch times,
802.1AS and the ETH class. -/

namespace Sys2Proof.Machine

open Sys2Proof

/-! ### Events and counters (R360) -/

/-- A switch event, EV094; codes 3 and 4 at most once a second. -/
def Mod.switchEv (m : Mod) (code : Nat) : Mod :=
  let due := match Tab.get none m.eth.evRaw code with | some t => decide (t + secs 1 ≤ m.now) | none => true
  if decide (code < 3) || due then
    Mod.ev { m with eth := { m.eth with evRaw := if code < 3 then m.eth.evRaw else Tab.put none m.eth.evRaw code (some m.now) } } 94 6 code true
  else m

/-- Count buffer_drops (R348). -/
def Mod.bufferDrop (m : Mod) (n : Nat) : Mod :=
  if n = 0 then m else Mod.switchEv { m with eth := { m.eth with bufferDrops := sat32 (m.eth.bufferDrops + n) } } 3

/-- Count a frame dropped at its ingress port (R347). -/
def Mod.rxDrop (m : Mod) (k : Nat) : Mod :=
  let x := m.eport k
  (m.setEport k { x with drops := inc32 x.drops }).portEv k 5 true

/-! ### Gates (R349, R351) -/

/-- The entries of one cycle: cut where the cycle ends, the last one lasting until then. -/
def cutCycle : List (BitVec 8 × Nat) → Nat → List (BitVec 8 × Nat)
  | [], _ => []
  | [e], n => [(e.1, n)]
  | e :: t, n => if n ≤ e.2 then [(e.1, n)] else e :: cutCycle t (n - e.2)

/-- Skip `n` ns of a list of intervals. -/
def skipNs : List (BitVec 8 × Nat) → Nat → List (BitVec 8 × Nat)
  | [], _ => []
  | e :: t, n => if e.2 ≤ n then skipNs t (n - e.2) else (e.1, e.2 - n) :: t

/-- ns for which the gate of queue `q` stays open from the start of a list of intervals. -/
def openRun (q : Nat) (l : List (BitVec 8 × Nat)) : Nat :=
  (l.takeWhile fun e => e.1.toNat.testBit q).foldl (fun a e => a + e.2) 0

/-- Two cycles of intervals from raw count `now` on. -/
def Gcl.ahead (g : Gcl) (now : Nat) : List (BitVec 8 × Nat) :=
  let c := cutCycle g.entries g.cycle
  skipNs (c ++ c ++ c) ((now - g.start) * 8 % max 1 g.cycle)

/-- Index of the entry in force at raw count `now`. -/
def Gcl.entryAt (g : Gcl) (now : Nat) : Nat :=
  let c := cutCycle g.entries g.cycle
  let e := (now - g.start) * 8 % max 1 g.cycle
  ((List.range c.length).find? fun i => e < (c.take (i + 1)).foldl (fun a p => a + p.2) 0).getD 0

/-- The list that governs a port, where its gate flag is set and a list has become operational. -/
def Mod.gates (m : Mod) (k : Nat) : Option Gcl :=
  let x := m.eport k
  let now := match x.next with | some g => if g.start ≤ m.now then some g else x.gcl | none => x.gcl
  if (rd (m.ethRec k) 1 1).testBit 2 then now else none

/-- ns of one byte on a port's wire. -/
def byteNs (k : Nat) : Nat := if k < 4 then 8 else 80

/-- ns from the first preamble bit to the last FCS bit. -/
def wireNs (k : Nat) (f : Bytes) : Nat := (8 + max 60 f.length + 4) * byteNs k

/-- A transmission of `ns` from now ends before the gate of its queue closes (R351). -/
def Mod.gateFits (m : Mod) (k q ns : Nat) : Bool :=
  match m.gates k with
  | none => true
  | some g => let r := openRun q (g.ahead m.now); decide (g.cycle ≤ r) || decide (0 < r ∧ ns ≤ r)

/-- A frame is longer than the longest open interval of its queue (R351). -/
def Mod.oversize (m : Mod) (k q ns : Nat) : Bool :=
  match m.gates k with
  | none => false
  | some g =>
    let c := cutCycle g.entries g.cycle
    let l := c ++ c
    let best := (List.range c.length).foldl (fun a i => max a (openRun q (l.drop i))) 0
    decide (best < g.cycle ∧ best < ns)

/-! ### Host rings (R356) -/

/-- Address of a transmit descriptor. -/
def Mod.txDesc (m : Mod) (i : Nat) : Option Nat := match m.eth.rings with | some r => some (rd r 0 8 + 64 * i) | none => none

/-- Write a transmit descriptor back: own 0, done 1, result and egress stamp; HOST_TX_DONE (log entry 52). -/
def State.txDone (s : State) (i result txRaw : Nat) : State :=
  match s.m.txDesc i with
  | none => s
  | some a =>
    let flags := rd (s.readMem (a + 12) 1) 0 1
    let s := s.writeMem (a + 12) (le 1 (flags / 2 % 2 * 2 + 4) ++ le 1 result)
    let s := s.writeMem (a + 32) (le 8 txRaw)
    { s with m := s.m.switchEv 2 }

/-- Write back the descriptor of a frame that came from the host ring. -/
def State.frameDone (s : State) (f : EthFrame) (result txRaw : Nat) : State :=
  match f.desc with | some i => s.txDone i result txRaw | none => s

/-- A frame goes to the host's receive ring, or is dropped where the next descriptor is not owned (log entry 52). -/
def State.hostRx (s : State) (port : Nat) (frame : Bytes) (stamp vid pcp : Nat) : State :=
  match s.m.eth.rings with
  | none => { s with m := { s.m with eth := { s.m.eth with hostDrops := inc32 s.m.eth.hostDrops } } }
  | some r =>
    let a := rd r 8 8 + 64 * s.m.eth.rxNext
    if rd (s.readMem (a + 11) 1) 0 1 % 2 = 0 then
      { s with m := { s.m with eth := { s.m.eth with hostDrops := inc32 s.m.eth.hostDrops } } }
    else
      let buf := s.readMem a 8
      let s := s.writeMem (rd buf 0 8) (frame.take 2048)
      let s := s.writeMem a (buf ++ le 2 frame.length ++ le 1 port ++ [4] ++ zeros 4 ++ le 8 stamp ++ le 2 vid ++ le 1 pcp ++ zeros 37)
      let m := { s.m with eth := { s.m.eth with rxNext := (s.m.eth.rxNext + 1) % max 1 (rd r 18 2) } }
      { s with m := m.switchEv 1 }

/-- A big-endian field. -/
def rdBE (b : Bytes) (off n : Nat) : Nat := (slice b off n).foldl (fun a x => a * 256 + x.toNat) 0

/-- A big-endian field to write. -/
def be (n v : Nat) : Bytes := (le n v).reverse

/-! ### 802.1AS messages (R353) -/

/-- The 802.1AS time of module time `v`, as seconds and nanoseconds (R353). -/
def asStamp (v : Int) : Bytes := be 6 ((v / unitsPerSec + 946684800) % 2 ^ 48).toNat ++ be 4 ((v % unitsPerSec) / 65536).toNat

/-- A message of 802.1AS: header of 34 bytes and body (IEEE 802.1AS-2020) (log entry 53). -/
def Mod.ptpFrame (m : Mod) (k typ seq flags interval : Nat) (body : Bytes) : Bytes :=
  [0x01, 0x80, 0xC2, 0x00, 0x00, 0x0E] ++ m.mac (2 + k) ++ be 2 0x88F7 ++ le 1 (0x10 + typ) ++ [2] ++ be 2 (34 + body.length) ++ [0, 0]
    ++ be 2 flags ++ zeros 12 ++ be 8 m.clockId.toNat ++ be 2 (k + 1) ++ be 2 seq ++ [0] ++ le 1 interval ++ body

/-- What the module announces, from currentUtcOffset on: the grandmaster's own words, one step further, where a port is slave;
else its own clock; then the path trace (log entry 53). -/
def Mod.announceVec (m : Mod) : Bytes :=
  let own := be 8 m.clockId.toNat
  let v := if m.eth.role = 1 then slice m.eth.gmVec 0 17 ++ be 2 (rdBE m.eth.gmVec 17 2 + 1) ++ slice m.eth.gmVec 19 1
    else be 2 m.time.taiUtc ++ [0] ++ le 1 m.announced ++ (if m.gmCapable then [6, 0x21] else [248, 0xFE]) ++ [0x41, 0, 248]
      ++ own ++ zeros 2 ++ (if m.gmCapable then [0x20] else [0xA0])
  let path := (if m.eth.role = 1 then m.eth.gmVec.drop 24 else []) ++ own
  v ++ be 2 8 ++ be 2 path.length ++ path

/-- A new message of a port: 0 Sync, 2 Pdelay request, 11 Announce (log entry 53). -/
def Mod.ptpNew (m : Mod) (k typ : Nat) : Bytes :=
  let seq := (m.eport k).ptpSeq.toNat
  match typ with
  | 0 => m.ptpFrame k 0 seq 0x0208 (rd (m.ethRec 7) 1 1) (zeros 10)
  | 2 => m.ptpFrame k 2 seq 0x0008 0 (zeros 20)
  | _ => m.ptpFrame k 11 seq 0x000C 0 (zeros 10 ++ m.announceVec)

/-- The answer to a Pdelay request that came at a corrected ingress stamp (log entry 53). -/
def Mod.pdelayResp (m : Mod) (k : Nat) (req : Bytes) (stamp : Nat) : Bytes :=
  m.ptpFrame k 3 (rdBE req 44 2) 0x0208 0x7F (asStamp (m.time.conv stamp).1 ++ slice req 34 10)

/-- What follows a message whose corrected egress stamp is known: Follow_Up after Sync, with the grandmaster's time at that
stamp; Pdelay_Resp_Follow_Up after Pdelay_Resp (two-step transmit, Table 15-1) (log entry 53). -/
def Mod.ptpFollow (m : Mod) (k : Nat) (f : Bytes) (stamp : Nat) : Mod :=
  let x := m.eport k
  let t := (m.time.conv stamp).1
  let seq := rdBE f 44 2
  let off : Int := if m.eth.role = 1 then m.eth.offset.toInt * 65536 else 0
  let next := match rd f 14 1 % 16 with
    | 0 => [m.ptpFrame k 8 seq 0x0008 (rd (m.ethRec 7) 1 1)
        (asStamp (t - off) ++ be 2 3 ++ be 2 28 ++ [0x00, 0x80, 0xC2, 0, 0, 1] ++ zeros 22)]
    | 3 => [m.ptpFrame k 10 seq 0x0008 0x7F (asStamp t ++ slice f 58 10)]
    | _ => []
  m.setEport k { x with ptpOut := x.ptpOut ++ next }

/-- The message that is due first at a port, and when: one that waits is due now; a master port announces once a second, the
grandmaster's master ports send Sync at its interval, every port asks for its path delay once a second (R353). -/
def Mod.ptpDue (m : Mod) (k : Nat) : Nat × Nat :=
  let x := m.eport k
  if !x.ptpOut.isEmpty then (m.now, 15)
  else
    let l := (if x.gptp = 1 then (if m.eth.role = 2 then [(x.syncRaw + m.syncInterval, 0)] else []) ++ [(x.annRaw + secs 1, 11)] else [])
    l.foldr (fun a b => if a.1 ≤ b.1 then a else b) (x.pdRaw + secs 1, 2)

/-- A message of a port leaves: it no longer waits, or its interval starts anew. -/
def Mod.ptpTaken (m : Mod) (k typ : Nat) : Mod :=
  let x := m.eport k
  if typ = 15 then m.setEport k { x with ptpOut := x.ptpOut.drop 1 }
  else m.setEport k { x with ptpSeq := x.ptpSeq + 1, syncRaw := if typ = 0 then m.now else x.syncRaw
                             annRaw := if typ = 11 then m.now else x.annRaw, pdRaw := if typ = 2 then m.now else x.pdRaw }

/-- A Sync from the grandmaster is relayed: every other master port sends one (R353) (log entry 53). -/
def Mod.relaySync (m : Mod) (from' : Nat) : Mod :=
  foldN 6 (fun (m : Mod) p =>
    let x := m.eport p
    if p ≠ from' ∧ m.gptpPort p ∧ x.gptp = 1 then m.setEport p { x with ptpOut := x.ptpOut ++ [m.ptpNew p 0], ptpSeq := x.ptpSeq + 1 }
    else m) m

/-! ### Forwarding (R347, R348) -/

/-- A frame carries an 802.1Q tag. -/
def tagged (f : Bytes) : Bool := rdBE f 12 2 == 0x8100

/-- VID and PCP of a frame on a port with the given pvid. -/
def vidPcp (f : Bytes) (pvid : Nat) : Nat × Nat :=
  if tagged f then
    let t := rdBE f 14 2
    (if t % 4096 = 0 then pvid else t % 4096, t / 8192)
  else (pvid, 0)

/-- The frame without its tag (log entry 52). -/
def stripTag (f : Bytes) : Bytes := if tagged f then f.take 12 ++ f.drop 16 else f

/-- The frame with a tag. -/
def withTag (f : Bytes) (vid pcp : Nat) : Bytes := let g := stripTag f; g.take 12 ++ be 2 0x8100 ++ be 2 (pcp * 8192 + vid) ++ g.drop 12

/-- Bytes of every frame queued. -/
def Mod.buffered (m : Mod) : Nat :=
  m.eth.port.foldl (fun a p => a + p.2.queue.foldl (fun a q => a + q.2.foldl (fun a (f : EthFrame) => a + f.bytes.length) 0) 0) 0

/-- Room for a frame at a queue: at most 128 frames, and 2 MiB for all (R348). -/
def Mod.room (m : Mod) (k q n : Nat) : Bool :=
  decide ((Tab.get [] (m.eport k).queue q : List EthFrame).length < 128) && decide (m.buffered + n ≤ 2097152)

/-- Queue a frame at a port's egress queue, or drop it there. -/
def Mod.enqueueAt (m : Mod) (k q : Nat) (f : EthFrame) : Mod :=
  let x := m.eport k
  if !x.enabled || !x.link then m
  else if m.room k q f.bytes.length then m.setEport k { x with queue := Tab.put [] x.queue q (Tab.get [] x.queue q ++ [f]) }
  else m.bufferDrop 1

/-- Learned entries that have not aged out (age_s of instance 6) (log entry 52). -/
def Mod.liveMacs (m : Mod) : List (Nat × Bytes × Nat × Nat) :=
  m.eth.macs.filter fun e => m.now < e.2.2.2 + secs (rd (m.ethRec 6) 12 2)

/-- Learn a source address; TABLE_FULL where 4,096 are in use (log entry 52). -/
def Mod.learn (m : Mod) (vid : Nat) (mac : Bytes) (port : Nat) : Mod :=
  let live := m.liveMacs
  let rest := live.filter fun e => !(e.1 == vid && e.2.1 == mac)
  if rest.length = live.length ∧ 4096 ≤ live.length then Mod.switchEv { m with eth := { m.eth with macs := live } } 4
  else { m with eth := { m.eth with macs := (vid, mac, port, m.now) :: rest } }

/-- Ports a frame goes to: the port learned, or every member but the one it came by; address 1 is the host's (R346) (log entry 52). -/
def Mod.route (m : Mod) (vid members from' : Nat) (dst : Bytes) : List Nat :=
  let all := (List.range 7).filter fun p => members.testBit p && p != from'
  if dst == m.mac 1 then (if members.testBit 6 then [6] else [])
  else if rd dst 0 1 % 2 = 1 then all
  else match m.liveMacs.find? fun e => e.1 == vid && e.2.1 == dst with
    | some e => if members.testBit e.2.2.1 && e.2.2.1 != from' then [e.2.2.1] else []
    | none => all

/-- Egress queue of a PCP: pcp_map (R347). -/
def Mod.pcpQueue (m : Mod) (pcp : Nat) : Nat := rd (m.ethRec 6) 4 4 / 8 ^ pcp % 8

/-- Ingress port `k` is a member of a VID that has an entry (R347) (log entry 52). -/
def Mod.memberOf (m : Mod) (vid k : Nat) : Bool := match m.vlan vid with | some v => v.1.testBit k | none => false

/-- Forward a frame in a VLAN, by the queue of its PCP at each destination port (R347) (log entry 52). -/
def State.forward (s : State) (from' : Nat) (f : Bytes) (vid pcp stamp : Nat) : State :=
  match s.m.vlan vid with
  | none => s
  | some v =>
    (s.m.route vid v.1 from' (slice f 0 6)).foldl (fun (s : State) p =>
      let g := if v.2.testBit p then stripTag f else withTag f vid pcp
      if p = 6 then s.hostRx from' g stamp vid pcp
      else { s with m := s.m.enqueueAt p (s.m.pcpQueue pcp) { bytes := g, launch := none, desc := none, late := false } }) s

/-! ### The service endpoint (R346, Table 15-1) -/

/-- The service IPv4 address, its first octet first. -/
def Mod.serviceIp (m : Mod) : Bytes := be 4 (rd (m.ethRec 6) 8 4)

/-- One's-complement checksum of IPv4 and ICMP (log entry 53). -/
def ipSum (b : Bytes) : Nat :=
  let t := (List.range ((b.length + 1) / 2)).foldl (fun a i => a + rdBE b (2 * i) 2) 0
  let t := t % 65536 + t / 65536
  0xFFFF - (t % 65536 + t / 65536)

/-- The answer of the endpoint to an ARP request for its address, or to an ICMP echo request; the frame untagged (log entry 53). -/
def Mod.endpointReply (m : Mod) (f : Bytes) : Option Bytes :=
  let ip := m.serviceIp
  let me := m.mac 0
  if rdBE f 12 2 = 0x0806 ∧ rdBE f 14 2 = 1 ∧ rdBE f 16 2 = 0x0800 ∧ rdBE f 20 2 = 1 ∧ slice f 38 4 = ip then
    some (slice f 22 6 ++ me ++ slice f 12 8 ++ be 2 2 ++ me ++ ip ++ slice f 22 10)
  else if rdBE f 12 2 = 0x0800 ∧ rd f 14 1 = 0x45 ∧ rd f 23 1 = 1 ∧ slice f 30 4 = ip ∧ rd f 34 1 = 8 then
    let n := rdBE f 16 2 - 20
    let head := slice f 14 10 ++ [0, 0] ++ ip ++ slice f 26 4
    let head := patch head 10 (be 2 (ipSum head))
    let body := patch (slice f 34 n) 0 [0, 0, 0, 0]
    some (slice f 6 6 ++ me ++ be 2 0x0800 ++ head ++ patch body 2 (be 2 (ipSum body)))
  else none

/-- A frame is for the service endpoint: in the service VLAN, on a port that accepts it, to address 0 or to all. -/
def Mod.forEndpoint (m : Mod) (k vid : Nat) (dst : Bytes) : Bool :=
  vid == rd (m.ethRec 6) 0 2 && (rd (m.ethRec 6) 2 1).testBit k && (dst == m.mac 0 || dst == List.replicate 6 0xFF)

/-- An 802.1AS or bridge-group frame stays in the switch; a Pdelay request is answered (R353) (log entries 52, 53). -/
def Mod.localRx (m : Mod) (k : Nat) (f : Bytes) (stamp : Nat) : Mod :=
  if m.gptpPort k && rdBE f 12 2 == 0x88F7 && rd f 14 1 % 16 == 2 then
    let x := m.eport k
    m.setEport k { x with ptpOut := x.ptpOut ++ [m.pdelayResp k f stamp] }
  else m

/-- The endpoint answers a frame at the port it came by. -/
def Mod.answerAt (m : Mod) (k : Nat) (f : Bytes) (vid pcp : Nat) : Mod :=
  match m.endpointReply (stripTag f) with
  | some g => m.enqueueAt k (m.pcpQueue pcp) { bytes := if tagged f then withTag g vid pcp else g, launch := none, desc := none, late := false }
  | none => m

/-- ETH_FRAME_RX: a frame without its FCS enters a port (R347). Frames of 802.1AS and of the bridge group stay in the
switch; the endpoint answers ARP and echo, and its datagrams are SERVICE_DATAGRAMs. A frame that is not for the endpoint and
whose VID has no entry, or not its port as a member, is dropped and counted (log entry 52). -/
def execEthFrameRx (k : Nat) (f : Bytes) (s : State) : Host.Outcome State Fault Refusal :=
  let m := s.m
  let x := m.eport k
  if 5 < k ∨ !m.pd 10 ∨ !x.enabled ∨ !x.link then .next s
  else
    let m := m.setEport k { x with rx := inc32 x.rx }
    let r := m.ethRec k
    let stamp := (((m.now : Int) - (rdI r 4 2 + 4) / 8)).toNat
    let vp := vidPcp f (rd r 2 2)
    let dst := slice f 0 6
    let mine := m.forEndpoint k vp.1 dst
    let member := m.memberOf vp.1 k
    if f.length < 60 ∨ 1518 < f.length then .next { s with m := m.rxDrop k }
    else if slice dst 0 5 = [0x01, 0x80, 0xC2, 0x00, 0x00] ∧ rd dst 5 1 < 16 then .next { s with m := m.localRx k f stamp }
    else if !m.eth.switchOn then .next { s with m := m }
    else if !member && !mine then .next { s with m := m.rxDrop k }
    else
      let m := m.learn vp.1 (slice f 6 6) k
      let m := if mine then m.answerAt k f vp.1 vp.2 else m
      if (mine && dst == m.mac 0) || !member then .next { s with m := m }
      else .next (State.forward { s with m := m } k f vp.1 vp.2 stamp)

/-! ### Transmission (R351, R356–R358) -/

/-- The corrected egress stamp of a frame whose first preamble bit leaves now (R352). -/
def Mod.txStamp (m : Mod) (k : Nat) : Nat :=
  let sfd : Int := (m.now : Int) + (7 * byteNs k / 8 : Nat)
  (sfd - (((ethConst k).2 : Int) + 4) / 8 + (rdI (m.ethRec k) 6 2 + 4) / 8).toNat

/-- The first preamble bit of a frame leaves now: the transmitter is busy, the SFD is stamped and corrected (R352). -/
def State.send (s : State) (k : Nat) (f : EthFrame) (result : Nat) : State :=
  let m := s.m
  let x := m.eport k
  let bt := byteNs k
  let g := f.bytes ++ zeros (60 - f.bytes.length)
  let stamp := m.txStamp k
  let m := m.setEport k { x with tx := inc32 x.tx, busy := m.now + (wireNs k g + 12 * bt + 7) / 8,
                                 lateSent := if f.late then inc32 x.lateSent else x.lateSent }
  let m := { m with eth := { m.eth with wire := m.eth.wire ++ [(k, g, stamp)] } }
  State.frameDone { s with m := m } f result stamp

/-- Take the head of a queue. -/
def Mod.popFrame (m : Mod) (k q : Nat) : Mod :=
  let x := m.eport k
  m.setEport k { x with queue := Tab.put [] x.queue q ((Tab.get [] x.queue q).drop 1) }

/-- Frames at the head of a queue that no open interval can carry are dropped (R351). -/
def State.dropOversize (k q : Nat) : Nat → State → State
  | 0, s => s
  | n + 1, s =>
    match (Tab.get [] (s.m.eport k).queue q : List EthFrame) with
    | [] => s
    | f :: _ =>
      if s.m.oversize k q (wireNs k f.bytes) then
        let m := s.m.popFrame k q
        let x := m.eport k
        let m := (m.setEport k { x with oversize := inc32 x.oversize }).portEv k 3 true
        State.dropOversize k q n (State.frameDone { s with m := m } f 5 0)
      else s

/-- Every queue of a port drops such frames from its head. -/
def State.dropAll (s : State) (k : Nat) : State :=
  foldN 8 (fun (s : State) q => State.dropOversize k q (Tab.get [] (s.m.eport k).queue q : List EthFrame).length s) s

/-- The frame a queue may send now: its head, without a launch time still ahead, fitting its gate (R351, R357). -/
def Mod.txReady (m : Mod) (k q : Nat) : Option EthFrame :=
  match (Tab.get [] (m.eport k).queue q : List EthFrame) with
  | f :: _ => if (f.launch.isNone || f.late) && m.gateFits k q (wireNs k f.bytes) then some f else none
  | [] => none

/-- What a port sends next: the ready frame of its highest queue (R347) (log entry 52). -/
def Mod.txPick (m : Mod) (k : Nat) : Option (Nat × EthFrame) :=
  match (List.range 8).reverse.find? fun q => (m.txReady k q).isSome with
  | none => none
  | some q => (m.txReady k q).map fun f => (q, f)

/-- ETH_FRAME_TX: the highest queue with a frame and an open gate that the whole transmission fits (R347, R351); a launch
frame at its queue's head holds the queue until its time (R357). -/
def execEthFrameTx (k : Nat) (s : State) : Host.Outcome State Fault Refusal :=
  let x := s.m.eport k
  if 5 < k ∨ !s.m.pd 10 ∨ !x.enabled ∨ !x.link then .next s
  else
    let s := { s with m := s.m.until x.busy }
    let s := s.dropAll k
    match s.m.txPick k with
    | none => .next s
    | some (q, f) => .next (State.send { s with m := s.m.popFrame k q } k f (if f.late then 1 else 0))

/-- A launch frame is late: its queue's bit of late_policy drops it, or it goes at the next opportunity (R358). -/
def Mod.lateFrame (m : Mod) (k q : Nat) : Mod × Bool :=
  let x := m.eport k
  if (rd (m.ethRec k) 8 1).testBit q then (m.portEv k 4 true, true)
  else ((m.setEport k { x with lateDropped := inc32 x.lateDropped }).portEv k 4 true, false)

/-- The earliest launch time among the heads of a port's queues, of equal ones that of the highest queue, with its queue and
frame (R347, R358). -/
def EthPort.nextLaunch (x : EthPort) : Option (Nat × Nat × EthFrame) :=
  let heads := (List.range 8).reverse.filterMap fun q => match (Tab.get [] x.queue q : List EthFrame) with
    | f :: _ => (match f.launch with | some l => if f.late then none else some (l, q, f) | none => none)
    | [] => none
  heads.foldl (fun (b : Option (Nat × Nat × EthFrame)) h => match b with
    | some p => if h.1 < p.1 then some h else b
    | none => some h) none

/-- LAUNCH_TIME: the earliest launch at the head of a queue comes: sent at L, or late; a frame that no open interval can carry
was dropped as it reached the head (R351, R358). -/
def execLaunchTime (k : Nat) (s : State) : Host.Outcome State Fault Refusal :=
  let y := s.m.eport k
  if 5 < k ∨ !s.m.pd 10 ∨ !y.enabled ∨ !y.link then .next s
  else
    let s := s.dropAll k
    let x := s.m.eport k
    match x.nextLaunch with
    | none => .next s
    | some (l, q, f) =>
      let s := { s with m := s.m.until l }
      if x.busy ≤ l ∧ s.m.now = l ∧ s.m.gateFits k q (wireNs k f.bytes) then
        .next (State.send { s with m := s.m.popFrame k q } k f 0)
      else
        let r := s.m.lateFrame k q
        if r.2 then
          let y := r.1.eport k
          .next { s with m := r.1.setEport k { y with queue := Tab.put [] y.queue q ({ f with late := true } :: (Tab.get [] y.queue q).drop 1) } }
        else .next (State.frameDone { s with m := r.1.popFrame k q } f 2 0)

/-- A list whose raw count has come is the one in force (R350). -/
def EthPort.settled (x : EthPort) (now : Nat) : EthPort :=
  match x.next with
  | some g => if g.start ≤ now then { x with gcl := some g, next := none, gate := 0 } else x
  | none => x

/-- GCL_CHANGEOVER: the list waiting becomes operational at its raw count (R350) (log entry 52). -/
def execGclChangeover (k : Nat) (s : State) : Host.Outcome State Fault Refusal := s.act fun m =>
  let x := m.eport k
  match x.next with
  | none => m
  | some g => if 5 < k ∨ !m.pd 10 then m else (m.until g.start).setEport k { x with gcl := some g, next := none, gate := 0 }

/-- GATE_EVENT: the list moves to its next entry (R349). -/
def execGateEvent (k : Nat) (s : State) : Host.Outcome State Fault Refusal := s.act fun m =>
  match m.gates k with
  | none => m
  | some g =>
    if 5 < k ∨ !m.pd 10 ∨ m.now < g.start then m
    else
      let d := match g.ahead m.now with | e :: _ => (e.2 + 7) / 8 | [] => 0
      let m := m.until (m.now + d)
      m.setEport k { m.eport k with gate := g.entryAt m.now }

/-- The frame a transmit descriptor names. -/
def State.txBytes (s : State) (d : Bytes) : Bytes :=
  let f := s.readMem (rd d 0 8) (rd d 8 2)
  f ++ zeros (60 - f.length)

/-- A transmit descriptor is legal (Table 15-3, R357). -/
def txDescOk (d : Bytes) : Bool :=
  let p := rd d 11 1
  let fl := rd d 12 1
  inRange (rd d 8 2) 14 1518 && decide (rd d 10 1 ≤ 7) && (decide (p ≤ 5) || p == 0xFF) && fl / 8 == 0 && inApp (rd d 0 8) (rd d 8 2)
    && (!fl.testBit 1 || (decide (p ≤ 5) && (parse96 d 16).isSome))

/-- One owned transmit descriptor is fetched (R356–R358). -/
def State.fetchTx (s : State) (i : Nat) (d : Bytes) : State :=
  if !txDescOk d then s.txDone i 4 0
  else
    let f := s.txBytes d
    let p := rd d 11 1
    let q := rd d 10 1
    if p = 0xFF then
      -- through the host port, pvid 1: a VID without an entry or without the host port is not forwarded (R347)
      let vp := vidPcp f 1
      if s.m.memberOf vp.1 6 then (s.forward 6 f vp.1 vp.2 s.m.now).txDone i 0 0 else s.txDone i 4 0
    else
      let x := s.m.eport p
      let launch := (rd d 12 1).testBit 1
      let up := x.enabled && x.link
      if !launch then
        if !up then s.txDone i 4 0
        else if s.m.room p q f.length then
          { s with m := s.m.enqueueAt p q { bytes := f, launch := none, desc := some i, late := false } }
        else (State.txDone { s with m := s.m.bufferDrop 1 } i 4 0)
      else
        let l := match parse96 d 16 with | some v => s.m.time.nearest v | none => 0
        if s.m.now + secs 1 < l then s.txDone i 3 0
        else if !up then s.txDone i 2 0
        else if l < s.m.now + us 2 then
          let r := s.m.lateFrame p q
          if r.2 then { s with m := r.1.enqueueAt p q { bytes := f, launch := some l, desc := some i, late := true } }
          else State.txDone { s with m := r.1 } i 2 0
        else if s.m.room p q f.length then
          { s with m := s.m.enqueueAt p q { bytes := f, launch := some l, desc := some i, late := false } }
        else (State.txDone { s with m := s.m.bufferDrop 1 } i 4 0)

/-- DESCRIPTOR_POLL: every 1 µs the switch reads the own bit of the next transmit descriptor (R356). -/
def execDescriptorPoll (s : State) : Host.Outcome State Fault Refusal :=
  if !s.m.pd 10 || !s.m.eth.switchOn then .next s
  else match s.m.eth.rings with
    | none => .next s
    | some r =>
      let m := s.m.until (s.m.eth.pollRaw + us 1)
      let m := { m with eth := { m.eth with pollRaw := m.now } }
      let s := { s with m := m }
      let i := m.eth.txNext
      let d := s.readMem (rd r 0 8 + 64 * i) 64
      if rd d 12 1 % 2 = 0 then .next s
      else
        let m := { m with eth := { m.eth with txNext := (i + 1) % max 1 (rd r 16 2) } }
        .next (State.fetchTx { s with m := m } i d)

/-! ### Links (R359) -/

/-- A link goes down: its queues are emptied and counted; launch descriptors give LATE_DROPPED, other directed ones BAD,
and are due to be written back. -/
def Mod.linkGone (m : Mod) (k : Nat) : Mod :=
  let x := m.eport k
  let fs := (List.range 8).flatMap fun q => (Tab.get [] x.queue q : List EthFrame)
  let m := m.setEport k { x with link := false, queue := [],
                                 lateDropped := sat32 (x.lateDropped + (fs.filter fun f => f.launch.isSome).length) }
  let m := m.bufferDrop fs.length
  let wb := fs.filterMap fun f => f.desc.map fun i => (i, if f.launch.isSome then 2 else 4)
  let m := { m with eth := { m.eth with wb := m.eth.wb ++ wb } }
  let m := if x.link then m.portEv k 1 false else m
  m.gptpGone k

/-- The descriptors that are due are written back. -/
def State.ethFlush (s : State) : State :=
  s.m.eth.wb.foldl (fun (s : State) d => s.txDone d.1 d.2 0) { s with m := { s.m with eth := { s.m.eth with wb := [] } } }

/-- LINK_CHANGE (R359). -/
def execLinkChange (k : Nat) (up : Bool) (s : State) : Host.Outcome State Fault Refusal :=
  let x := s.m.eport k
  if 5 < k ∨ !s.m.pd 10 ∨ !x.enabled ∨ x.link = up then .next s
  else if up then let m := (s.m.setEport k { x with link := true }).portEv k 1 true; .next { s with m := m.gptpRole m.eth.gm }
  else let m := s.m.linkGone k; .next (State.ethFlush { s with m := m.gptpRole m.eth.gm })

/-- DISABLE of a port. -/
def Mod.portOff (m : Mod) (k : Nat) : Mod :=
  let m := m.linkGone k
  let m := m.setEport k { m.eport k with enabled := false }
  m.gptpRole m.eth.gm

/-! ### 802.1AS (R353–R355) -/

/-- GPTP_MESSAGE: an Announce, a Sync with its offset, which is relayed, a path delay result, or the loss of Sync (R353, R355)
(log entry 53). -/
def execGptpMessage (k : Nat) (msg : GptpMsg) (s : State) : Host.Outcome State Fault Refusal := s.act fun m =>
  if 5 < k ∨ !m.pd 10 ∨ !m.gptpPort k then m
  else
    let x := m.eport k
    match msg with
    | .announce gm better vec =>
      if better then
        let m := { m with eth := { m.eth with gmVec := vec } }
        let m := foldN 6 (fun (m : Mod) p => if m.gptpPort p then m.setEport p { m.eport p with gptp := if p = k then 2 else 1 } else m) m
        m.gptpRole gm
      else (m.setEport k { x with gptp := 1 }).gptpRole m.eth.gm
    | .sync off =>
      if x.gptp = 2 then
        let m := m.seeSources
        (Mod.seeSources { m with eth := { m.eth with offset := off, syncs := min 3 (m.eth.syncs + 1), syncRaw := m.now } }).relaySync k
      else m
    | .pdelay ns capable =>
      let cap := capable && decide (ns.toNat ≤ 800)
      let m := m.setEport k { x with pdelay := ns, capable := cap }
      if cap = x.capable then m else m.gptpEv 4 cap
    | .syncLost =>
      if x.gptp = 2 then
        let m := ((m.until m.syncEnd).setEport k { x with gptp := 1 }).syncLoss
        m.gptpRole m.eth.gm
      else m

/-- GPTP_SYNC_TX: the 802.1AS message of a port that is due first is sent, once the port is free and the gate of queue 7 takes
it: Follow_Up, an answer, a relayed Sync; else the Sync or Announce of a master port or the Pdelay request, each at its
interval (R351, R353) (log entry 53). -/
def execGptpSyncTx (k : Nat) (s : State) : Host.Outcome State Fault Refusal :=
  let m := s.m
  if 5 < k ∨ !m.pd 10 ∨ !m.gptpPort k then .next s
  else
    let d := m.ptpDue k
    let m := (m.until d.1).until (m.eport k).busy
    let f := match (m.eport k).ptpOut with | f :: _ => f | [] => m.ptpNew k d.2
    if !m.gateFits k 7 (wireNs k f) then .next { s with m := m }
    else
      let stamp := m.txStamp k
      let m := ((m.ptpTaken k d.2).ptpFollow k f stamp).gptpRole m.eth.gm
      .next (State.send { s with m := m } k { bytes := f, launch := none, desc := none, late := false } 0)

/-! ### Power (R359) -/

/-- An instance is started: a port waits for its link; the switch takes up the host rings; 802.1AS its ports. -/
def Mod.ethOn (m : Mod) (k : Nat) : Mod :=
  if k < 6 then Mod.gptpRole (m.setEport k { m.eport k with enabled := true }) m.eth.gm
  else if k = 6 then { m with eth := { m.eth with switchOn := true, pollRaw := m.now } }
  else Mod.gptpRole { m with eth := { m.eth with gptpOn := true } } m.eth.gm

/-- An instance is taken down. -/
def Mod.ethStop (m : Mod) (k : Nat) : Mod :=
  if k < 6 then m.portOff k
  else if k = 6 then { m with eth := { m.eth with switchOn := false } }
  else
    let m := foldN 6 (fun (m : Mod) p => m.gptpGone p) m
    Mod.gptpRole { m with eth := { m.eth with gptpOn := false } } m.eth.gm

/-- PD10 comes up: the instances start as their records say. -/
def Mod.ethUp (m : Mod) : Mod :=
  let m := foldN 6 (fun (m : Mod) k => if (rd (m.ethRec k) 1 1).testBit 0 then m.ethOn k else m) m
  if (rd (m.ethRec 6) 3 1).testBit 0 then m.ethOn 6 else m

/-- What is left of a port without power: its counters, which RESET_INSTANCE clears (log entry 52). -/
def EthPort.counts (x : EthPort) : EthPort :=
  { rx := x.rx, tx := x.tx, drops := x.drops, oversize := x.oversize, lateDropped := x.lateDropped, lateSent := x.lateSent,
    evRaw := x.evRaw }

/-- PD10 goes off: every port down, announce stops, the rings stop and keep their contents (R359). -/
def Mod.ethOff (m : Mod) : Mod :=
  let m := foldN 6 Mod.portOff m
  let m := m.ethStop 7
  let e := m.eth
  { m with eth := { port := foldN 6 (fun t k => Tab.put {} t k (m.eport k).counts) [], rings := e.rings, txNext := e.txNext,
                    rxNext := e.rxNext, bufferDrops := e.bufferDrops, hostDrops := e.hostDrops, wire := e.wire, evRaw := e.evRaw } }

/-! ### ETH class operations -/

/-- 0x0901 -/
def opEthGetInfo : Op := opInfo 9 8

/-- 0x0902 -/
def opEthGetStatus : Op where
  len := exactly 0
  insts := 8
  body := fun c m =>
    let k := c.inst.toNat
    let e := m.eth
    if k < 6 then
      let x := m.eport k
      let d := m.draw
      Res.ok d.2 (le 1 (b2n x.link) ++ le 1 (d.1.toNat % 8) ++ le 1 x.gptp ++ le 1 (b2n x.capable) ++ le 4 x.rx ++ le 4 x.tx
        ++ le 4 x.drops ++ le 4 x.oversize ++ le 4 x.lateDropped ++ le 4 x.lateSent ++ le 4 x.pdelay.toNat)
    else if k = 6 then Res.ok m (le 4 e.bufferDrops ++ le 4 e.hostDrops ++ le 4 m.liveMacs.length)
    else Res.ok m (le 1 e.role ++ zeros 3 ++ le 8 e.gm.toNat ++ le 4 e.offset.toNat)

/-- Parameter length of 0x0903 by instance. -/
def ethLen (c : Cmd) : Bool :=
  let k := c.inst.toNat
  let n := c.plen.toNat
  if k < 6 then n == 12 else if k = 6 then n == 16 else if k = 7 then n == 4 else n == 12 || n == 16 || n == 4

/-- A record of 0x0903 is legal. -/
def ethRecordOk (k : Nat) (r : Bytes) : Bool :=
  if k < 6 then decide (rd r 0 1 ≤ 1) && decide (rd r 1 1 ≤ 7) && inRange (rd r 2 2) 1 4094 && isZero r 9 3
  else if k = 6 then inRange (rd r 0 2) 2 4094 && decide (rd r 2 1 ≤ 0x3F) && decide (rd r 3 1 ≤ 1) && inRange (rd r 12 2) 10 1000 && isZero r 14 2
  else decide (-5 ≤ rdI r 1 1) && decide (rdI r 1 1 ≤ 0) && isZero r 2 2

/-- 0x0903: at once. -/
def opEthSetConfig : Op where
  len := ethLen
  insts := 8
  body := fun c m =>
    let k := c.inst.toNat
    let r := slice c.params 0 c.plen.toNat
    if !ethRecordOk k r then Res.err m St.badParam
    else if k < 6 ∧ (m.eport k).link ∧ rd r 0 1 ≠ rd (m.ethRec k) 0 1 then Res.err m St.notReady
    else
      let m := (m.setCfg 0x0903 k r).markSet 0
      Res.ok (m.gptpRole m.eth.gm)

/-- 0x0904 -/
def opEthGetConfig : Op := { len := exactly 0, insts := 8, body := fun c m => Res.ok m (m.ethRec c.inst.toNat) }

/-- 0x0905 -/
def opEthEnable : Op := { len := exactly 0, insts := 8, body := fun c m => Res.ok (m.ethOn c.inst.toNat) }

/-- 0x0906 -/
def opEthDisable : Op := { len := exactly 0, insts := 8, body := fun c m => Res.ok (m.ethStop c.inst.toNat) }

/-- 0x0907: the instance is disabled, its counters cleared, its record restored, its correction constants those of
Table 15-2 (R352). -/
def opEthResetInstance : Op where
  len := exactly 0
  insts := 8
  body := fun c m =>
    let k := c.inst.toNat
    let m := (m.ethStop k).restore 0 0x0903 k
    if k < 6 then
      let x := m.eport k
      let m := m.setEport k { x with rx := 0, tx := 0, drops := 0, oversize := 0, lateDropped := 0, lateSent := 0 }
      Res.ok (m.setCfg 0x0903 k (patch (m.ethRec k) 4 (le 2 (ethConst k).1 ++ le 2 (ethConst k).2)))
    else if k = 6 then Res.ok { m with eth := { m.eth with bufferDrops := 0, hostDrops := 0 } }
    else Res.ok m

/-- 0x0910 (R350) (log entry 52) -/
def opSetGcl : Op where
  len := fun c => 24 ≤ c.plen.toNat && c.plen.toNat == 24 + 8 * rd c.params 2 1
  insts := 6
  body := fun c m =>
    let p := c.params
    let k := c.inst.toNat
    let final := rd p 0 1
    let start := rd p 1 1
    let n := rd p 2 1
    let total := rd p 4 2
    let cyc := rd p 8 4
    let okList := (List.range n).all fun i =>
      let iv := rd p (24 + 8 * i + 4) 4
      inRange iv 64 1000000000 && iv % 8 == 0 && isZero p (24 + 8 * i + 1) 3
    if 1 < final ∨ 27 < n ∨ 256 < start + n ∨ !isZero p 3 1 ∨ !isZero p 6 2 ∨ !okList ∨ (parse96 p 12).isNone then Res.err m St.badParam
    else
      let x := (m.eport k).settled m.now
      let stage := foldN n (fun (t : Tab (Option (BitVec 8 × Nat))) i =>
        Tab.put none t (start + i) (some (BitVec.ofNat 8 (rd p (24 + 8 * i) 1), rd p (24 + 8 * i + 4) 4))) x.stage
      if final = 0 then Res.ok (m.setEport k { x with stage := stage })
      else
        let list := (List.range total).map fun i => Tab.get none stage i
        match parse96 p 12 with
        | none => Res.err m St.badParam
        | some v =>
          if !inRange total 1 256 ∨ !inRange cyc 64 1000000000 ∨ cyc % 8 ≠ 0 ∨ list.any Option.isNone then Res.err m St.badParam
          else
            let b := m.time.nearest v
            let c8 := cyc / 8
            let first := m.now + ms 1
            let g : Gcl := { entries := list.filterMap id, cycle := cyc, start := if first ≤ b then b else b + (first - b + c8 - 1) / c8 * c8 }
            Res.ok (m.setEport k { x with stage := [], next := some g })

/-- VLAN entries in use. -/
def Mod.vlans (m : Mod) : Nat := (m.cfg.filter fun e => e.1 / 65536 == 0x0911).length

/-- 0x0911 (R347) -/
def opSetVlan : Op where
  len := exactly 8
  insts := 8
  only := some 6
  body := fun c m =>
    let p := slice c.params 0 8
    let vid := rd p 0 2
    if !inRange vid 1 4094 ∨ 0x7F < rd p 2 1 ∨ 0x7F < rd p 3 1 ∨ !isZero p 4 4 then Res.err m St.badParam
    else if rd p 2 1 = 0 then Res.ok ((m.setCfg 0x0911 vid []).markSet 0)
    else if (m.vlan vid).isNone ∧ 256 ≤ m.vlans then Res.err m St.noResource
    else Res.ok ((m.setCfg 0x0911 vid p).markSet 0)

/-- A power of two from 16 to 1,024. -/
def ringCount (n : Nat) : Bool := [16, 32, 64, 128, 256, 512, 1024].contains n

/-- 0x0912 (R356) -/
def opHostRings : Op where
  len := exactly 24
  insts := 8
  only := some 6
  body := fun c m =>
    let p := slice c.params 0 24
    let tx := rd p 0 8
    let rx := rd p 8 8
    let okRing := fun (a n : Nat) => a % 64 == 0 && ringCount n && inApp a (64 * n)
    if !okRing tx (rd p 16 2) ∨ !okRing rx (rd p 18 2) ∨ !isZero p 20 4 then Res.err m St.badParam
    else if m.eth.switchOn then Res.err m St.notReady
    else Res.ok { m with eth := { m.eth with rings := some p, txNext := 0, rxNext := 0 } }

/-- ETH_GET_INFO (R98). -/
def execEthGetInfo (c : Cmd) (s : State) : Host.Outcome State Fault Refusal := s.act fun m => m.serve 0x0901 opEthGetInfo c
/-- ETH_GET_STATUS (R345). -/
def execEthGetStatus (c : Cmd) (s : State) : Host.Outcome State Fault Refusal := s.act fun m => m.serve 0x0902 opEthGetStatus c
/-- ETH_SET_CONFIG (R345). -/
def execEthSetConfig (c : Cmd) (s : State) : Host.Outcome State Fault Refusal := s.act fun m => m.serve 0x0903 opEthSetConfig c
/-- ETH_GET_CONFIG (R345). -/
def execEthGetConfig (c : Cmd) (s : State) : Host.Outcome State Fault Refusal := s.act fun m => m.serve 0x0904 opEthGetConfig c
/-- ETH_ENABLE (R345). -/
def execEthEnable (c : Cmd) (s : State) : Host.Outcome State Fault Refusal := s.act fun m => m.serve 0x0905 opEthEnable c
/-- ETH_DISABLE (R359). -/
def execEthDisable (c : Cmd) (s : State) : Host.Outcome State Fault Refusal :=
  .next (State.ethFlush { s with m := s.m.serve 0x0906 opEthDisable c })
/-- ETH_RESET_INSTANCE (R352). -/
def execEthResetInstance (c : Cmd) (s : State) : Host.Outcome State Fault Refusal :=
  .next (State.ethFlush { s with m := s.m.serve 0x0907 opEthResetInstance c })
/-- SET_GCL (R350). -/
def execSetGcl (c : Cmd) (s : State) : Host.Outcome State Fault Refusal := s.act fun m => m.serve 0x0910 opSetGcl c
/-- SET_VLAN (R347). -/
def execSetVlan (c : Cmd) (s : State) : Host.Outcome State Fault Refusal := s.act fun m => m.serve 0x0911 opSetVlan c
/-- HOST_RINGS (R356). -/
def execHostRings (c : Cmd) (s : State) : Host.Outcome State Fault Refusal := s.act fun m => m.serve 0x0912 opHostRings c

/-- The ETH class. -/
def ethOps : List (Nat × Op) :=
  [(0x0901, opEthGetInfo), (0x0902, opEthGetStatus), (0x0903, opEthSetConfig), (0x0904, opEthGetConfig),
   (0x0905, opEthEnable), (0x0906, opEthDisable), (0x0907, opEthResetInstance), (0x0910, opSetGcl),
   (0x0911, opSetVlan), (0x0912, opHostRings)]

end Sys2Proof.Machine
end

