-- ==== Sys2Proof/Machine/LaneOps.lean ====
section
/-! DEFINITION. The duplex lanes (chapter 03): self-faults, per-lane resets, reloads, state transfers, the token decision,
the steps of a hitless activation (R414) and the LANE class. -/

namespace Sys2Proof.Machine

open Sys2Proof

/-! ### Faults and reloads (R58, R71, R79, R438) -/

/-- A lane load of the restart after NO_LANE, or of a start, ends; after the second one the token is given. A lane that
counts as not loaded stays so (R71). -/
def Mod.loadEnded (m : Mod) (l : Lane) (ok : Bool) : Mod :=
  let p := m.lanes.loaded
  let p := match l with | .a => (some (ok && p.1 != some false), p.2) | .b => (p.1, some (ok && p.2 != some false))
  let m := { m with lanes := { m.lanes with loaded := p } }
  match p with
  | (some a, some b) => m.restartLanes a b
  | _ => m

/-- A lane's own check trips (R58). One that is LOADING in a restart counts as not loaded (R71); a STOPPED one sets its
SILENT line and stays excluded; one that is off or silent has nothing to report. -/
def Mod.laneFails (m : Mod) (l : Lane) (check : Nat) : Mod :=
  match (m.lane l).st with
  | .off => m
  | .silent => m
  | .stopped =>
    if (m.lane l).silent then m else (m.setLane l { m.lane l with silent := true }).faultEv l check
  | .loading => if m.lanes.restart then (m.goSilent l check).loadEnded l false else m.selfFault l check
  | _ => m.selfFault l check

/-- A lane loses its power: its check 5 trips, and it is OFF (R58, R60). -/
def Mod.laneOff (m : Mod) (l : Lane) : Mod := (m.laneFails l 5).toState l .off

/-- A lane's power is back: in a restart it is loaded with the other; while the other holds the token it awaits its
per-lane reset, or stays excluded (R71, R79). -/
def Mod.laneUp (m : Mod) (l : Lane) : Mod :=
  if m.lanes.token.isSome then (if (m.lane l).barred then m.toState l .stopped else m.toState l .silent).redund
  else if m.lanes.restart then
    let p := m.lanes.loaded
    { m.toState l .loading with lanes := { (m.toState l .loading).lanes with
        loaded := match l with | .a => (none, p.2) | .b => (p.1, none) } }
  else m.toState l .loading

/-- LANE_SELF_FAULT (R57, R58): check codes 1–6 of Table 03-1. -/
def execLaneSelfFault (lane : Lane) (check : Nat) (s : State) : Host.Outcome State Fault Refusal := s.act fun m =>
  if inRange check 1 6 then m.laneFails lane check else m

/-- LANE_CORRECTED_ECC (R59). -/
def execLaneCorrectedEcc (lane : Lane) (s : State) : Host.Outcome State Fault Refusal := s.act fun m =>
  if (m.lane lane).st = .off then m
  else Mod.laneEv { m with stats := { m.stats with corrected := inc32 m.stats.corrected } } lane 0

/-- The activation asks for a per-lane reset of this lane: the standby lane in step 1, the old lane in step 5 (R414). -/
def Mod.actResets (m : Mod) (l : Lane) : Bool :=
  match m.upd.act with
  | none => false
  | some a => (a.step == 1 && a.lane == l && (m.lane l).st == .standby)
      || (a.step == 5 && a.lane != l && !(m.lane l).newVersion && (m.lane l).st != .loading && (m.lane l).st != .resync)

/-- A silent lane may rejoin: with rejoin AUTO below its limit, or by order of SET_REDUNDANCY DUPLEX (R79) (log entry 28). -/
def Mod.mayRejoin (m : Mod) (l : Lane) : Bool :=
  (m.lane l).st == .silent
    && ((m.lane l).ordered || (rd m.laneRec 0 1 == 0 && decide ((m.rejoinsOf l).length < rd m.laneRec 1 1)))

/-- PER_LANE_RESET (R438): of a lane that rejoins under R79, which counts towards rejoin_limit, or in an activation. The
lane is LOADING afterwards. A lane without power is not reset (R11) (log entry 28). -/
def execPerLaneReset (lane : Lane) (s : State) : Host.Outcome State Fault Refusal := s.act fun m =>
  let u := m.lane lane
  if m.lanes.token.isNone || !m.lanePowered lane then m
  else if m.actResets lane then
    let m := match m.upd.act with
      | some a => if a.step = 5 then m.updEv 123 a.slot 2 else m
      | none => m
    ((m.dropPunty lane).toState lane .loading).redund
  else if m.mayRejoin lane then
    let m := m.setLane lane { u with rejoins := m.now :: m.rejoinsOf lane, ordered := false }
    (m.toState lane .loading).redund
  else m

/-- A lane that has been loaded runs on its clock again (log entry 57). -/
def Mod.laneClockUp (m : Mod) (l : Lane) : Mod :=
  { m with pwr := { m.pwr with clocks := m.pwr.clocks.filter fun i => i != 2 + laneIdx l } }

/-- LANE_RELOAD_DONE (R71, R79): the Gaffer has loaded a lane, or its load has failed. A loaded lane enters RESYNC and
its transfer starts. A lane without power is not loaded (R11) (log entries 28, 42). -/
def execLaneReloadDone (lane : Lane) (ok : Bool) (s : State) : Host.Outcome State Fault Refusal := s.act fun m =>
  if (m.lane lane).st ≠ .loading || !m.lanePowered lane then m
  else
  let m := if ok then m.laneClockUp lane else m
  if m.lanes.restart then m.loadEnded lane ok
  else
    let first := match m.upd.act with | some a => a.lane == lane && a.step == 1 | none => false
    if ok then
      let m := if first then { m with upd := { m.upd with act := m.upd.act.map fun a => { a with step := 2 } } } else m
      let m := m.setLane lane { m.lane lane with newVersion := m.upd.act.isSome }
      (m.toResync lane).redund
    else
      -- in step 1 or 5 of an activation, a load that fails ends it with FAULT (0x1313) (log entry 42)
      let m := m.actAbort St.fault
      ((m.toState lane .silent).limitRejoin lane).redund

/-! ### State transfer (R75, R76) -/

/-- A component reloaded by force after step 5 (R416). -/
def Mod.forced (m : Mod) (force : Nat) : Mod :=
  let m := if force.testBit 0 ∧ m.pd 8 then m.gnssRestart 0 else m
  let m := if force.testBit 1 ∧ m.pd 5 then m.fuseRestart else m
  if force.testBit 2 ∧ m.pd 6 then
    foldN 2 (fun (m : Mod) p => if (m.part p).st = 0 then m else (m.partOff p).partOn p) m
  else m

/-- Step 5 has ended: both lanes run the new version (R414, R416) (log entry 42). -/
def Mod.actEnds (m : Mod) (a : Activation) : Mod :=
  let force := rd a.cmd.params 1 1
  let x := m.slot a.slot
  let m := m.forced force
  let pending : BitVec 8 := 0x1F &&& ~~~ BitVec.ofNat 8 (4 * force)
  let u := { m.upd with act := none, pending := pending, running := a.slot, version := BitVec.ofNat 32 x.version }
  let l := { m.lanes with a := { m.lanes.a with newVersion := false }, b := { m.lanes.b with newVersion := false } }
  let m := { m with upd := u, lanes := l }
  (m.updEv 123 a.slot 3).finish 0x1313 a.cmd St.ok (a.bytes pending) a.switchFrame

/-- The receive FIFOs of the lane that enters STANDBY take the active lane's entries (R75, R332). -/
def Mod.copyFifos (m : Mod) (src dst : Lane) : Mod :=
  { m with can := { m.can with ch := foldN 8 (fun t k =>
      Tab.upd {} t k fun x => x.setFifo dst (x.fifo src)) m.can.ch } }

/-- PUNTY_TRANSFER_DONE (R75): at most 16 KiB remained, and the last dirty blocks are copied in the present frame k; the lane takes part from frame
k + 1, in STANDBY, or SPLIT while it is the new lane of an activation. -/
def execPuntyTransferDone (s : State) : Host.Outcome State Fault Refusal := s.act fun m =>
  match m.lanes.punty, m.lanes.active with
  | some p, some act =>
    if m.lanes.frame ≤ p.start ∨ 16384 < p.left then m
    else
      let k := m.lanes.frame
      let split := match m.upd.act with | some a => a.lane == p.recv && a.step == 2 | none => false
      let m := m.until (m.lanes.frameRaw + us 250)
      let m := (m.copyFifos act p.recv).toState p.recv (if split then .split else .standby)
      let m := m.setLane p.recv { m.lane p.recv with ready := false, abandoned := 0 }
      let st := { m.stats with resyncsDone := inc32 m.stats.resyncsDone, maxResync := max m.stats.maxResync (k - p.start) }
      let m := Mod.raise { m with lanes := { m.lanes with punty := none }, stats := st } 5 0
      let m := m.redund.endRejoin St.ok (k + 1)
      match m.upd.act with
      | none => m
      | some a =>
        if split then { m with upd := { m.upd with act := some { a with step := 3, splitFrame := k + 1 } } }
        else if a.step = 5 then m.actEnds a else m
  | _, _ => m

/-- PUNTY_TRANSFER_TIMEOUT (R76): 400 frames without completion. The third in a row stops the lane. -/
def execPuntyTransferTimeout (s : State) : Host.Outcome State Fault Refusal := s.act fun m =>
  match m.lanes.punty with
  | none => m
  | some p =>
    if m.lanes.frame < p.start + 400 then m
    else
      let u := m.lane p.recv
      let m := m.setLane p.recv { u with abandoned := u.abandoned + 1 }
      let st := { m.stats with resyncsFailed := inc32 m.stats.resyncsFailed }
      let m := Mod.raise { m with lanes := { m.lanes with punty := none }, stats := st } 5 1
      if 3 ≤ u.abandoned + 1 then
        let m := (m.toState p.recv .stopped).setRed 4
        (m.actAbort St.fault).endRejoin St.fault 0
      else { m with lanes := { m.lanes with retry := some (p.recv, m.now) } }

/-- PUNTY_RETRY (R76): 1 s after it was abandoned. -/
def execPuntyRetry (s : State) : Host.Outcome State Fault Refusal := s.act fun m =>
  match m.lanes.retry with
  | none => m
  | some (l, t) => (m.until (t + secs 1)).startPunty l

/-! ### The token decision (R69, R74, R78) -/

/-- A compare mismatch of the frame is acted on, unless a lane has gone silent meanwhile; in SPLIT it is counted only
(R68, R74, R78, R414) (log entry 11). A divergence counts as within 10 s of the one before where less than 10 s lie between
them: exactly 10 s do not, which is the model's choice (log entry 28). -/
def Mod.divergence (m : Mod) : Mod :=
  match m.lanes.diff, m.lanes.active with
  | some d, some t =>
    let m := { m with lanes := { m.lanes with diff := none } }
    let o := other t
    match (m.lane o).st with
    | .split => { m with upd := { m.upd with act := m.upd.act.map fun a => { a with diffs := inc32 a.diffs } } }
    | .standby =>
      if (m.lane o).newVersion != (m.lane t).newVersion then m
      else
        let again := match m.lanes.lastDivRaw with | some r => decide (m.now < r + secs 10) | none => false
        let st := { m.stats with
          divergences := inc32 m.stats.divergences, lastDivFrame := m.lanes.frame, lastDivWord := d.word
          lastDivDest := d.dest, simplexLocks := if again then inc32 m.stats.simplexLocks else m.stats.simplexLocks }
        let l := { m.lanes with lastDivergence := m.lanes.frame, lastDivRaw := some m.now }
        let m := Mod.raise { m with lanes := l, stats := st } 4 d.word.toNat
        if again then (m.toState o .stopped).setRed 2 else (m.toResync o).redund
    | _ => m
  | _, _ => { m with lanes := { m.lanes with diff := none } }

/-- A lane may take the token: STANDBY or SPLIT, not silent, with words latched for this frame (R69). -/
def Mod.eligible (m : Mod) (l : Lane) : Bool :=
  let u := m.lane l
  (u.st == .standby || u.st == .split) && !u.silent && u.ready

/-- The new version's lane takes the token: step 5 of an activation follows (R414). -/
def Mod.actSwitch (m : Mod) (l : Lane) : Mod :=
  match m.upd.act with
  | some a => if a.lane = l ∧ (a.step = 3 ∨ a.step = 4) then
      { m with upd := { m.upd with act := some { a with step := 5, switchFrame := m.lanes.frame } } }
    else m
  | none => m

/-- The token moves from the active lane, which stays in service as STANDBY or is stopped (R69, 0x0311). -/
def Mod.moveToken (m : Mod) (l : Lane) (stop : Bool) : Mod :=
  let o := other l
  let m := if stop then m.stopLane o else if (m.lane o).st = .active then m.toState o .standby else m
  let m := (m.tokenTo l).actSwitch l
  if stop then m.setRed 3 else m.redund

/-- The stamped CLEAN takeover of the present frame; a named lane that has left STANDBY takes nothing. -/
def Mod.cleanMove (m : Mod) : Mod :=
  match m.lanes.takeover with
  | some (.clean dest frame stop) =>
    if m.lanes.frame < frame then m
    else
      let m := { m with lanes := { m.lanes with takeover := none } }
      if (m.lane dest).st = .standby ∧ m.eligible dest then m.moveToken dest stop else m
  | _ => m

/-- Step 4 of an activation: the SPLIT lane takes the token in a computed frame (R414). -/
def Mod.splitMove (m : Mod) : Mod :=
  match m.upd.act with
  | some a => if a.step = 4 ∧ m.lanes.computed = m.lanes.frame ∧ m.eligible a.lane ∧ (m.lane a.lane).st = .split then
      m.moveToken a.lane false else m
  | none => m

/-- The armed silence of a FORCE_TAKEOVER (0x0310): at at_us of the frame after the commit frame the active lane goes
silent with check code 8; no silence is made where the named lane is no longer STANDBY. -/
def Mod.forcedSilence (m : Mod) : Mod :=
  match m.lanes.takeover with
  | some (.silence dest frame atUs false) =>
    if m.lanes.frame ≠ frame + 1 then m
    else
      let m := m.until (m.lanes.frameRaw + us atUs)
      match m.lanes.active with
      | some t =>
        if (m.lane dest).st = .standby ∧ dest ≠ t then
          let m := { m with lanes := { m.lanes with takeover := some (.silence dest frame atUs true) } }
          (m.goSilent t 8).limitRejoin t
        else Mod.endForced { m.countChanged with lanes := { m.lanes with takeover := none } } St.laneChanged [] 0
      | none => Mod.endForced { m.countChanged with lanes := { m.lanes with takeover := none } } St.laneChanged [] 0
  | _ => m

/-- FORCED_SILENCE (0x0310). -/
def execForcedSilence (s : State) : Host.Outcome State Fault Refusal := s.act Mod.forcedSilence

/-- The decision at 249.6 µs, once a frame: the token is kept, or an eligible lane takes it, or no lane holds it (R69,
R70, R77). A silence due earlier in the frame has been made by then (log entry 24). -/
def Mod.tokenDecision (m : Mod) : Mod :=
  if !m.lanes.run || m.lanes.restart || m.lanes.decided then m
  else
    let m := m.forcedSilence
    let m := { m with lanes := { m.lanes with decided := true } }
    let m := m.until (m.lanes.frameRaw + 31200)
    let m := m.divergence.cleanMove.splitMove
    match m.lanes.token with
    | some _ => m
    | none => if m.eligible .a then m.moveToken .a false else if m.eligible .b then m.moveToken .b false else m.noLane

/-- TOKEN_DECISION (R69). -/
def execTokenDecision (s : State) : Host.Outcome State Fault Refusal := s.act Mod.tokenDecision

/-- SPLIT_END (R414): split_frames have passed; the token moves at 249.6 µs of the first computed frame after. -/
def execSplitEnd (s : State) : Host.Outcome State Fault Refusal := s.act fun m =>
  match m.upd.act with
  | none => m
  | some a =>
    if a.step ≠ 3 ∨ m.lanes.frame < a.splitFrame + splitFrames a.cmd then m
    else
      let m := { m with upd := { m.upd with act := some { a with step := 4 } } }
      if m.lanes.computed = m.lanes.frame then (m.until (m.lanes.frameRaw + 31200)).splitMove else m

/-! ### LANE class operations -/

/-- 0x0301 (R468) -/
def opLaneGetInfo : Op := opInfo 3 2

/-- Progress of a transfer in ‰ (0x0302). -/
def Lanes.progress (l : Lanes) : Nat :=
  match l.punty with
  | some p => if l.image = 0 then 1000 else (l.image - p.left) * 1000 / l.image
  | none => 0

/-- 0x0302 -/
def opLaneGetStatus : Op where
  len := exactly 0
  insts := 2
  body := fun _ m =>
    let l := m.lanes
    let act := match l.active with | some .a => 0 | some .b => 1 | none => 0xFF
    Res.ok m (le 1 l.a.st.code ++ le 1 l.b.st.code ++ le 1 l.redundancy ++ le 1 act ++ le 4 l.heldRun ++ le 8 l.frame
      ++ le 8 l.lastTakeover ++ le 8 l.lastDivergence ++ le 2 l.progress ++ le 1 (m.rejoinsOf .a).length
      ++ le 1 (m.rejoinsOf .b).length ++ le 4 l.image)

/-- 0x0303 (R79): instance 0 alone. -/
def opLaneSetConfig : Op where
  len := exactly 4
  insts := 2
  stamped := fun _ => true
  body := fun c m =>
    let r := slice c.params 0 4
    if c.inst.toNat ≠ 0 ∨ 1 < rd r 0 1 ∨ !inRange (rd r 1 1) 1 10 ∨ !isZero r 2 2 then Res.err m St.badParam
    else Res.ok ((m.setCfg 0x0303 0 r).markSet 0)

/-- 0x0304 (R468) -/
def opLaneGetConfig : Op where
  len := exactly 0
  insts := 2
  body := fun _ m => Res.ok m m.laneRec

/-- 0x0305 -/
def opLaneEnable : Op := opNever 2
/-- 0x0306 -/
def opLaneDisable : Op := opNever 2
/-- 0x0307 -/
def opLaneResetInstance : Op := opNever 2

/-- 0x0310 FORCE_TAKEOVER: CLEAN completes in its commit frame; SILENCE arms and completes later (log entry 29). -/
def opForceTakeover : Op where
  len := exactly 4
  insts := 2
  stamped := fun _ => true
  body := fun c m =>
    let dest := laneOf c.inst.toNat
    let method := rd c.params 0 1
    let at' := rd c.params 1 1
    if 1 < method ∨ 249 < at' ∨ !isZero c.params 2 2 then Res.err m St.badParam
    else if m.upd.act.isSome || (m.lane dest).st != .standby then Res.err m St.notReady
    else if m.lanes.takeover.isSome then Res.err m St.busy
    else if method = 0 then
      Res.ok { m with lanes := { m.lanes with takeover := some (.clean dest m.lanes.frame false) } } [0, 0]
    else Res.later { m with lanes := { m.lanes with takeover := some (.silence dest m.lanes.frame at' false) } }

/-- SET_REDUNDANCY SIMPLEX: the named lane stays (log entry 29). -/
def Mod.simplexOn (m : Mod) (keep : Lane) : Res :=
  let o := other keep
  match (m.lane keep).st with
  | .active =>
    let m := ((m.dropPunty o).stopLane o).setRed 3
    Res.ok m
  | .standby =>
    let armed := match m.lanes.takeover with | some (.silence ..) => true | _ => false
    let m := { m with lanes := { m.lanes with takeover := some (.clean keep m.lanes.frame true) } }
    Res.ok (if armed then m.countChanged.endForced St.laneChanged [] 0 else m)
  | _ => Res.err m St.notReady

/-- SET_REDUNDANCY DUPLEX: the rejoin counts are reset and the lane that is not active rejoins (log entry 29). -/
def Mod.duplexOn (m : Mod) : Res :=
  let m := { m with lanes := { m.lanes with a := { m.lanes.a with rejoins := [] }, b := { m.lanes.b with rejoins := [] } } }
  if m.lanes.redundancy = 0 then Res.ok m
  else match m.lanes.active with
    | none => Res.accepted m
    | some t =>
      let o := other t
      match (m.lane o).st with
      | .silent => Res.accepted (m.setLane o { m.lane o with ordered := true })
      | .off => Res.accepted (m.setLane o { m.lane o with ordered := true, barred := false }).redund
      | .stopped => Res.accepted ((m.setLane o { m.lane o with abandoned := 0 }).toResync o).redund
      | _ => Res.accepted m

/-- 0x0311 SET_REDUNDANCY (R78) (log entry 29). -/
def opSetRedundancy : Op where
  len := exactly 4
  insts := 2
  stamped := fun _ => true
  body := fun c m =>
    let mode := rd c.params 0 1
    if 1 < mode ∨ !isZero c.params 1 3 ∨ (mode = 0 ∧ c.inst.toNat ≠ 0) then Res.err m St.badParam
    else if m.upd.act.isSome then Res.err m St.notReady
    else if mode = 1 then m.simplexOn (laneOf c.inst.toNat)
    else m.duplexOn

/-- 0x0312 (R87) -/
def opGetLaneStats : Op where
  len := exactly 0
  insts := 2
  body := fun _ m =>
    let x := m.stats
    Res.ok m (([x.takeovers, x.faultsA, x.faultsB, x.corrected, x.divergences, x.simplexLocks, x.marverTimeouts,
        x.vectorMismatches, x.heldFault, x.heldCmd, x.resyncsDone, x.resyncsFailed, x.laneChanged, x.maxResync].flatMap
          fun v => le 4 v)
      ++ le 8 x.lastDivFrame ++ le 2 x.lastDivWord.toNat ++ le 1 x.lastDivDest ++ zeros 1)

/-- 0x0313 (R87) -/
def opClearLaneStats : Op where
  len := exactly 0
  insts := 2
  body := fun _ m => Res.ok { m with stats := {} }

/-- LANE_GET_INFO (R468). -/
def execLaneGetInfo (c : Cmd) (s : State) : Host.Outcome State Fault Refusal := s.act fun m => m.serve 0x0301 opLaneGetInfo c
/-- LANE_GET_STATUS (R60). -/
def execLaneGetStatus (c : Cmd) (s : State) : Host.Outcome State Fault Refusal := s.act fun m => m.serve 0x0302 opLaneGetStatus c
/-- LANE_SET_CONFIG (R79). -/
def execLaneSetConfig (c : Cmd) (s : State) : Host.Outcome State Fault Refusal := s.act fun m => m.serve 0x0303 opLaneSetConfig c
/-- LANE_GET_CONFIG (R468). -/
def execLaneGetConfig (c : Cmd) (s : State) : Host.Outcome State Fault Refusal := s.act fun m => m.serve 0x0304 opLaneGetConfig c
/-- LANE_ENABLE (R468). -/
def execLaneEnable (c : Cmd) (s : State) : Host.Outcome State Fault Refusal := s.act fun m => m.serve 0x0305 opLaneEnable c
/-- LANE_DISABLE (R468). -/
def execLaneDisable (c : Cmd) (s : State) : Host.Outcome State Fault Refusal := s.act fun m => m.serve 0x0306 opLaneDisable c
/-- LANE_RESET_INSTANCE (R468). -/
def execLaneResetInstance (c : Cmd) (s : State) : Host.Outcome State Fault Refusal := s.act fun m => m.serve 0x0307 opLaneResetInstance c
/-- FORCE_TAKEOVER (R69). -/
def execForceTakeover (c : Cmd) (s : State) : Host.Outcome State Fault Refusal := s.act fun m => m.serve 0x0310 opForceTakeover c
/-- SET_REDUNDANCY (R78). -/
def execSetRedundancy (c : Cmd) (s : State) : Host.Outcome State Fault Refusal := s.act fun m => m.serve 0x0311 opSetRedundancy c
/-- GET_LANE_STATS (R87). -/
def execGetLaneStats (c : Cmd) (s : State) : Host.Outcome State Fault Refusal := s.act fun m => m.serve 0x0312 opGetLaneStats c
/-- CLEAR_LANE_STATS (R87). -/
def execClearLaneStats (c : Cmd) (s : State) : Host.Outcome State Fault Refusal := s.act fun m => m.serve 0x0313 opClearLaneStats c

/-- The LANE class. -/
def laneOps : List (Nat × Op) :=
  [(0x0301, opLaneGetInfo), (0x0302, opLaneGetStatus), (0x0303, opLaneSetConfig), (0x0304, opLaneGetConfig),
   (0x0305, opLaneEnable), (0x0306, opLaneDisable), (0x0307, opLaneResetInstance), (0x0310, opForceTakeover),
   (0x0311, opSetRedundancy), (0x0312, opGetLaneStats), (0x0313, opClearLaneStats)]

end Sys2Proof.Machine
end

