-- ==== Sys2Proof/Machine/PwrOps.lean ====
section
/-! DEFINITION. Supplies, power domains, clocks, resets and start-up (chapter 20), the reference clocks of the timebase
(R32–R34), and the PWR class. -/

namespace Sys2Proof.Machine

open Sys2Proof

/-- The PWR record in force (0x1403): key_debounce 200 ms, shutdown_grace 10 s, park_min 240 min. -/
def Mod.pwrRec (m : Mod) : Bytes := m.cfgOr 0x1403 0 (le 2 200 ++ le 2 10 ++ le 2 240 ++ zeros 2)

/-! ### Rings (R92) -/

/-- What the fences in flight wait for, replaced. -/
def Mod.setWaits (m : Mod) (f : Nat × BitVec 32 → Option (Nat × BitVec 32)) : Mod :=
  { m with port := { m.port with flight := m.port.flight.map fun g => { g with waits := g.waits.filterMap f } } }

/-- A ring reset (R92): undispatched submissions go, and completions of what is in flight are discarded. A discarded
command counts as done: a BARRIER on the ring waits for what was dispatched alone (0x0111). sq_tail is cut to sq_head at the
write, so CP_DOORBELL reads sq_head until in_flight is 0: the model's choice (log entry 67). -/
def Mod.ringReset (m : Mod) (r : Nat) : Mod :=
  let x := m.ring r
  let m := m.setRing r { x with sqTail := x.sqHead, enable := false, cqWait := false, resetting := true }
  let fl := m.port.flight.map fun f => if f.cmd.ring = r then { f with discard := true } else f
  let lq := m.port.laneQ.map fun q => if q.cmd.ring = r then { q with discard := true } else q
  let m := { m with port := { m.port with flight := fl, laneQ := lq } }
  (m.setWaits fun w => if w.1 = r ∧ cntBefore x.sqHead w.2 then some (r, x.sqHead) else some w).settle

/-- A ring reset ends once nothing of the ring is in flight: counts and error clear (R92). -/
def Mod.ringResetDone (m : Mod) (r : Nat) : Mod :=
  let x := m.ring r
  if x.resetting && m.port.inFlight r == 0 then
    ((m.setRing r { x with sqTail := 0, sqHead := 0, cqTail := 0, cqHead := 0, errCode := 0, cqWait := false,
                           resetting := false }).setWaits fun w => if w.1 = r then none else some w).settle
  else m

/-- The slots of rings 0–11 lie in PD5's SDRAM and go with it (Table 04-1). -/
def Mod.slotsOff (m : Mod) : Mod := foldN 12 (fun (m : Mod) r => m.setRing r { m.ring r with sq := [], cq := [] }) m

/-! ### Domains (Table 20-3) -/

/-- Switch a domain's bit. -/
def Mod.setPd (m : Mod) (k : Nat) (on : Bool) : Mod :=
  let b : BitVec 11 := BitVec.ofNat 11 (2 ^ k)
  { m with pwr := { m.pwr with domains := if on then m.pwr.domains ||| b else m.pwr.domains &&& ~~~ b } }

/-- The power domain of a clock from index 4 (Table 01-1, Table 20-7) (log entry 57). -/
def clockPd (index : Nat) : Nat :=
  match index with | 4 => 4 | 8 => 6 | 9 => 7 | 10 => 8 | 11 => 7 | _ => 5

/-- The clocks of a domain are started with it (R188, R435). -/
def Mod.clocksUp (m : Mod) (k : Nat) : Mod :=
  { m with pwr := { m.pwr with clocks := m.pwr.clocks.filter fun i => decide (i < 4) || clockPd i != k } }

/-- A channel of CAN joins the bus as PD10 comes up: with its auto_enable, in Reheat mode CAN1 alone (R322, Table 20-6). -/
def Mod.canUp (m : Mod) : Mod :=
  if m.upd.reheat then m.canEnable 0
  else foldN 8 (fun (m : Mod) ch => if (rd (m.canRec ch) 1 1).testBit 4 then m.canEnable ch else m) m

/-- What comes up with a domain. -/
def Mod.blockUp (m : Mod) (k : Nat) : Mod :=
  let m := m.clocksUp k
  match k with
  | 2 => m.laneUp .a
  | 3 => m.laneUp .b
  | 4 => m.setSafe (m.safe.restart m.nvs.safety)
  | 5 => foldN 12 (fun (m : Mod) r => m.setRing r { m.ring r with enable := true }) m.fuseUp
  | 6 => m.visUp
  | 7 => m.clnkUp.pipesUp
  | 8 => m.gnssUp
  | 9 => { m with drv := {} }
  | 10 => if m.upd.reheat then (m.canUp.ethOn 4).ethOn 6 else m.canUp.ethUp
  | _ => m

/-- Every loop channel goes OFF, with the ends of its conditions (R134, R433). -/
def Mod.loopsOff (m : Mod) : Mod := foldN 64 (fun (m : Mod) i => m.loopMode i .off) m

/-- The control plane is switched off as a whole, in an orderly way or with the supply: the loops go OFF, no half holds the
token, and the lanes report no fault of their own. PD1 keeps the frame number, which starts afresh at the next entry into RUN
(R41), and the slots of the Frame Exchange (log entry 56). -/
def Mod.planeOff (m : Mod) : Mod :=
  let m := m.countHours.loopsOff
  let forced := m.port.flight.filter fun f => f.opcode == 0x0310 || f.opcode == 0x0311
  let m := forced.foldl (fun (m : Mod) f => m.countChanged.finish f.opcode f.cmd St.laneChanged) m
  let held := m.port.laneQ
  let m := ((Mod.returnChanged { m with port := { m.port with laneQ := [] } } held).settle).setRed 5
  { m with lanes := { frame := m.lanes.frame, frameRaw := m.lanes.frameRaw, f0 := m.lanes.f0 }, loop := {}
           inp := { m.inp with ch := [], vec := [] }, can := { m.can with sig := [], latched := [] } }

/-- What is lost with a domain. -/
def Mod.blockDown (m : Mod) (k : Nat) : Mod :=
  match k with
  | 2 => (m.setPd 2 false).laneOff .a
  | 3 => (m.setPd 3 false).laneOff .b
  | 4 => m.setSafe (m.safe.restart m.nvs.safety)
  | 5 =>
    let m := m.fuseOff.isoLost
    let m := (foldN 12 (fun (m : Mod) r => (m.ringReset r).ringResetDone r) m).slotsOff
    let pubs := m.pubs.map fun p => (p.1, { p.2 with log := [] })
    { m with evt := m.evt.linesOff, pubs := pubs, inp := { m.inp with mirror := {} }, poison := [] }
  | 6 => m.visOff
  | 7 => m.clnkOff.pipesOff
  | 8 => m.gnssOff
  | 9 => { m.pullOff with drv := {} }
  | 10 => m.canPowerOff.ethOff
  | _ => m

/-- A domain is switched on (EV125 code 1) (log entry 33). -/
def Mod.domainUp (m : Mod) (k : Nat) : Mod :=
  if m.pd k then m else ((m.setPd k true).blockUp k).ev 125 k 1 true

/-- A domain is switched off (log entry 56). -/
def Mod.domainDown (m : Mod) (k : Nat) : Mod :=
  if m.pd k then ((m.blockDown k).setPd k false).ev 125 k 1 false else m

/-- Domains are switched off in a given order. -/
def Mod.domainsDown (m : Mod) (ks : List Nat) : Mod := ks.foldl Mod.domainDown m

/-- Every domain from PD2 on is switched off: outputs and safety first, then the control plane as a whole. -/
def Mod.allDown (m : Mod) : Mod := ((m.domainsDown [9, 4]).planeOff).domainsDown [2, 3, 5, 6, 7, 8, 10]

/-- Domains that start unless they have failed. -/
def Mod.domainsUp (m : Mod) (ks : List Nat) : Mod :=
  ks.foldl (fun (m : Mod) k => if m.pwr.failed.toNat.testBit k then m else m.domainUp k) m

/-- The mode changes, and EV127 carries it (R431). -/
def Mod.setMode (m : Mod) (md : PwrMode) : Mod :=
  if m.pwr.mode = md then m
  else
    let code := match md with | .sleep => 1 | .park => 2 | .run => 3 | .shutdown => 4
    Mod.ev { m with pwr := { m.pwr with mode := md } } 127 0 code true

/-- SDRAM loses its contents while PD5 is off. -/
def State.power (s : State) (f : Mod → Mod) : Host.Outcome State Fault Refusal :=
  let m := f s.m
  if m.pd 5 then .next { s with m := m } else .next { s with m := m, mem := [] }

/-! ### Starts and resets (R432, R437) -/

/-- A start of the module as the timebase sees it: CK_TIME is synthesised from REF0 again, no judgement on REF1 stands,
PPS_OUT is low, SET_PPS has its defaults with tai_utc from SET_MODULE, and no leap second is pending (R33, R34, R52, 0x0212).
R34 names no end of the judgement that REF1 has failed; that every module start ends it is the model's choice (log entry 65). -/
def Mod.timeStart (m : Mod) : Mod :=
  let tai := m.fromSet 0 0x0212 1
  Mod.setCfg { m with time := { m.time with
    ref := false, ref1Failed := false, ppsOut := none, nextPps := none, leap := none, leapPending := false
    taiUtc := if tai.isEmpty then 37 else rd tai 0 2 } } 0x0212 0 []

/-- What begins anew with every start of the module, one from PARK too (that a KEY start from PARK is one for R112 as it is for
R33 and R52 is the model's choice): the timebase's settings, the sequences of the
publication rings (R112), the cullet counters and the counts kept since module start (0x0312, R248, R333, Table 17-3), and the
inbound slots, which have not been written since (R179) (log entry 65). -/
def Mod.moduleStart (m : Mod) : Mod :=
  let m := m.timeStart
  Mod.pipesStart (Mod.clnkStart { m with
    pubs := [], stats := {}
    inp := { m.inp with fxIn := foldN 256 (fun t k => Tab.upd {} t k fun x => { x with written := false, valid := false }) m.inp.fxIn }
    can := { m.can with ch := foldN 8 (fun t k => Tab.upd {} t k fun x => { x with rxDrops := 0, txOverflow := 0 }) m.can.ch }
    evt := { m.evt with src := foldN 128 (fun t k => Tab.upd {} t k fun x => { x with raises := 0 }) m.evt.src }
    fuse := { m.fuse with src := [] } })

/-- The code slots after a reset: an open staging is suspended, and an activation has ended (R412, R417). -/
def Upd.atReset (u : Upd) : Upd :=
  let slot := foldN 2 (fun t k => Tab.upd {} t k CodeSlot.suspend) u.slot
  { u with slot := slot, act := none, reheat := false }

/-- What is left of the module with PD1 off: the persistent store, the log, PD0's retention, the pins, and what has
gone out on the wires (log entry 59). -/
def Mod.retained (m : Mod) : Mod :=
  let p : Pwr := { mode := m.pwr.mode, cause := m.pwr.cause, domains := 1, key := m.pwr.key, wake := m.pwr.wake,
                   losses := m.pwr.losses, inReset := m.pwr.inReset, supply := m.pwr.supply, feedA := m.pwr.feedA,
                   feedB := m.pwr.feedB, thermal := m.pwr.thermal, throttled := m.pwr.throttled,
                   secs := if m.alive then (m.mt / unitsPerSec).toNat % 2 ^ 48 else m.pwr.secs }
  { fresh := m.fresh, pwr := p, nvs := m.nvs, log := m.log, upd := m.upd.atReset
    gnss := { hasEph := m.gnss.hasEph, hasAlm := m.gnss.hasAlm, last := m.gnss.last }
    safe := m.safe.restart m.nvs.safety
    seg := { m.seg with st := 0, ask := none }
    port := { sent := m.port.sent }
    can := { wire := m.can.wire }
    eth := { wire := m.eth.wire }
    time := { raw := m.time.raw } }

/-- PD1 starts (R31, R51, R384, R400, R404, R410): the raw counter from 0, module time from PD0's seconds count, the
sets loaded, a START record first, SET_HOURS written. How many seconds PD1 was off is a free value (log entries 2, 59). -/
def Mod.pd1Start (m : Mod) (cause : Nat) : Mod :=
  let m := m.retained
  let d := m.draw
  let sec : Int := (m.pwr.secs + d.1.toNat % 2 ^ 32) % 2 ^ 48
  let t0 := if cause = 1 then 0 else sec * unitsPerSec
  let m := if cause = 1 then m else d.2
  let p := { m.pwr with domains := 0b11, cause := cause, inReset := false, parkRaw := 0 }
  let m := Mod.loadSets { m with pwr := p, time := { recs := [{ t0 := t0 }] } }
  let m := { m with nvs := { m.nvs with powerCycles := m.nvs.powerCycles + 1 } }
  (m.logStart cause).segUp.writeHours

/-- A FULL reset (R437); with KEY high a start follows (R431) (log entry 19). -/
def Mod.fullReset (m : Mod) (cause : Nat) : Mod :=
  let m := (m.pd1Start cause).setMode .park
  { m with pwr := { m.pwr with starting := m.pwr.key } }

/-- The timebase after a WARM reset: the raw count, the correction records and the run of edges continue; every register
of Tables 02-2 and 02-3 has its Reset entry (R9, R437) (log entry 19). -/
def Time.atWarm (t : Time) : Time := { raw := t.raw, recs := t.live, lastEdge := t.lastEdge }

/-- A WARM reset (R437): PD0 and PD1 run on; every other domain goes off, and with KEY high a start follows. The
settings are loaded afresh; the hour meters run on (log entry 19). -/
def Mod.warmReset (m : Mod) (cause : Nat) : Mod :=
  let m := { m.allDown with lanes := {}, inp := {} }
  let n := m.nvs
  let m := Mod.loadSets { m with time := m.time.atWarm }
  let n2 := { m.nvs with moduleS := n.moduleS, machineS := n.machineS, powerCycles := n.powerCycles, hoursLast := n.hoursLast }
  let p : Pwr := { mode := m.pwr.mode, cause := cause, key := m.pwr.key, wake := m.pwr.wake, losses := m.pwr.losses,
                   supply := m.pwr.supply, feedA := m.pwr.feedA, feedB := m.pwr.feedB, parkRaw := m.now, secs := m.pwr.secs
                   thermal := m.pwr.thermal, throttled := m.pwr.throttled, clocks := m.pwr.clocks }
  let m := { m with nvs := n2, pwr := p, upd := m.upd.atReset, port := { sent := m.port.sent }, pubs := [],
                    can := { wire := m.can.wire },
                    evt := { inbox := m.evt.inbox } }.moduleStart
  let m := m.setMode .park
  { m with pwr := { m.pwr with starting := m.pwr.key } }

/-- POWER_ON (R437): PD0 starts from no supply; its retention memory is empty (R51, R238) (log entry 2). -/
def execPowerOn (s : State) : Host.Outcome State Fault Refusal := s.power fun m =>
  Mod.fullReset { m with gnss := { m.gnss with hasEph := false, hasAlm := false, last := none },
                         pwr := { m.pwr with supply := [], thermal := [], throttled := false, feedA := false, feedB := false } } 1

/-- RESET_N (R437): the module is held in reset while the pin is low. -/
def execResetN (s : State) : Host.Outcome State Fault Refusal := s.power fun m =>
  let m := m.retained
  { m with pwr := { m.pwr with inReset := true, cause := 3 } }

/-- RESET_N_RELEASE (R437): the module leaves reset and starts under R432. -/
def execResetNRelease (s : State) : Host.Outcome State Fault Refusal := s.power fun m =>
  if m.pwr.inReset then m.fullReset 3 else m

/-- WATCHDOG (R437). -/
def execWatchdog (s : State) : Host.Outcome State Fault Refusal := s.power fun m => if m.alive then m.fullReset 4 else m

/-- RESTART (R421, R423, R437): 1 s after the completion that ordered it. -/
def execRestart (s : State) : Host.Outcome State Fault Refusal := s.power fun m =>
  match m.pwr.restartAt with
  | some t => if m.alive then (m.until t).warmReset 9 else m
  | none => m

/-- The reset a MODULE_RESET has ordered, 10 ms after its completion (0x1410) (log entry 19). -/
def Mod.resetNow (m : Mod) : Mod :=
  match m.pwr.resetDue with
  | none => m
  | some 0 => (m.until (m.now + ms 10)).warmReset 7
  | some _ => m.fullReset 8

/-! ### Start (R432) -/

/-- SHUTDOWN begins (R433): the grace runs from now. -/
def Mod.enterShutdown (m : Mod) : Mod :=
  let g := (m.now, m.now + secs (rd m.pwrRec 2 2))
  Mod.setMode { m with pwr := { m.pwr with grace := some g } } .shutdown

/-- The control plane enters RUN (R41, R404, R432): frame 0 starts at the first multiple of a frame's counts from now. R41
has it at the first multiple reached after RUN is entered; that an entry at a multiple takes that very count is the model's
choice (log entry 28). The size of the lanes' image is a free value of at most 1 MiB (R75) (log entry 28). With KEY low by then it goes on to
SHUTDOWN (R442). -/
def Mod.enterRun (m : Mod) : Mod :=
  let d := m.draw
  let l := { m.lanes with run := true, started := false, frame := 0, inpEntry := true,
                          f0 := (m.now + frameCounts - 1) / frameCounts * frameCounts, image := d.1.toNat % 1048577 }
  let m := { d.2 with lanes := l, nvs := { m.nvs with hoursRaw := m.now, hoursLast := m.now } }
  let m := m.setMode .run
  if m.pwr.key then m else m.enterShutdown

/-- START_MILESTONE (R432, Table 20-6): the next milestone of a start under way. -/
def execStartMilestone (s : State) : Host.Outcome State Fault Refusal := s.power fun m =>
  if !m.alive || !m.pwr.starting || m.upd.reheat then m
  else
    let go := fun (m : Mod) (k : Nat) => { m with pwr := { m.pwr with milestone := k } }
    match m.pwr.milestone with
    | 0 => go m 1
    | 1 => go (m.domainsUp [10]) 2
    | 2 =>
      let m := m.domainsUp [2, 3, 4, 9]
      go m.beginLoads 3
    | 3 => if m.lanes.token.isSome then go m.enterRun 4 else m
    | 4 => go m 5
    | 5 => go (m.domainsUp [5]) 6
    | _ =>
      let m := go (m.domainsUp ([6, 7, 8].filter fun k => !m.pwr.shed.toNat.testBit k)) 7
      { m with pwr := { m.pwr with starting := false } }

/-- KEY_HIGH (R431, R434): a start from SLEEP or PARK, or the end of a SHUTDOWN in its grace. While CRITICAL stands
(R439) no start follows. That a start from PARK
begins the sequences of R112 anew is the model's choice (log entries 58, 65). -/
def execKeyHigh (s : State) : Host.Outcome State Fault Refusal := s.power fun m =>
  let was := m.pwr.key
  let m := { m with pwr := { m.pwr with key := true } }
  if m.pwr.inReset then m
  else if !m.alive then (m.fullReset 10).ev 124 0 7 true
  else
    let m := if was then m else m.ev 124 0 7 true
    match m.pwr.mode with
    | .park => if m.pwr.starting || m.upd.reheat || m.pwr.thermal.contains 4 then m
               else Mod.moduleStart { m with pwr := { m.pwr with starting := true, milestone := 0, failed := 0, retried := 0 } }
    | .shutdown =>
      let m := Mod.ev { m with pwr := { m.pwr with grace := none, mode := .run } } 127 0 5 true
      m
    | _ => m

/-- KEY_LOW (R433): after key_debounce in RUN, SHUTDOWN. -/
def execKeyLow (s : State) : Host.Outcome State Fault Refusal := s.act fun m =>
  let was := m.pwr.key
  let m := { m with pwr := { m.pwr with key := false } }
  if !m.alive then m
  else
    let m := if was then m.ev 124 0 7 false else m
    if m.pwr.mode = .run then m.enterShutdown else m

/-! ### Shutdown and sleep (R431, R433) -/

/-- PD1 goes off in an orderly way: SLEEP. -/
def Mod.sleepNow (m : Mod) : Mod :=
  let m := (m.setMode .sleep).logDrain
  let m := (m.domainsDown [10])
  { m.retained with pwr := { m.retained.pwr with mode := .sleep } }

/-- Steps 3 to 6 of R433: outputs off, 20 ms later PD9 and PD4, the store and the recorder written, then the other
domains; PARK, or SLEEP where park_min is 0 (log entries 19, 58). -/
def Mod.shutdownRun (m : Mod) (park : Bool) : Mod :=
  let m := foldN 79 Mod.drvDisable m.loopsOff
  let m := m.until (m.now + ms 20)
  let m := m.domainsDown [9, 4]
  let m := { m with lanes := { m.lanes with life := false } }
  let m := m.writeHours.writeCounters
  let m := m.planeOff.yieldPark.domainsDown [2, 3, 5, 6, 7, 8, 10]
  let m := { m with pwr := { m.pwr with grace := none, starting := false, milestone := 0, failed := 0, retried := 0,
                                        shed := 0, waits := [], retryAt := [], shedAt := none, parkRaw := m.now } }
  if park || rd m.pwrRec 4 2 != 0 then (m.setMode .park).logDrain else m.sleepNow

/-- SHUTDOWN_GRACE_EXPIRY (R433). -/
def execShutdownGraceExpiry (s : State) : Host.Outcome State Fault Refusal := s.power fun m =>
  match m.pwr.grace with
  | some g => if m.pwr.mode = .shutdown then (m.until g.2).shutdownRun false else m
  | none => m

/-- PARK_TIMEOUT (R431): park_min since entry, or since WAKE went low (log entries 55, 58). -/
def execParkTimeout (s : State) : Host.Outcome State Fault Refusal := s.power fun m =>
  if !m.alive || m.pwr.mode != .park || m.pwr.starting || m.upd.reheat then m
  else
    let m := m.until (m.pwr.parkRaw + secs (60 * rd m.pwrRec 4 2))
    Mod.sleepNow { m.writeHours.writeCounters with pwr := { m.pwr with wake := false } }

/-- From SLEEP to PARK: PD1 starts with PD0 already running (R437). -/
def Mod.wakeUp (m : Mod) : Mod :=
  if m.alive || m.pwr.inReset then m
  else (m.pd1Start 10).setMode .park

/-- WAKE_INPUT (R431): no effect but in SLEEP. -/
def execWakeInput (s : State) : Host.Outcome State Fault Refusal := s.power fun m =>
  Mod.wakeUp { m with pwr := { m.pwr with wake := true } }

/-- CAN1_WAKE (R327, R431). -/
def execCan1Wake (s : State) : Host.Outcome State Fault Refusal := s.power fun m => m.wakeUp

/-! ### The choice of the slot and Reheat mode (R410, R421) -/

/-- Reheat mode: ROM only, with PD1 and PD10; every output off; the display shows its start image; of PD10, CAN1 and the
service endpoint on ETH5 run (R421) (log entry 55). -/
def Mod.enterReheat (m : Mod) : Mod :=
  let m := m.allDown
  let m := { m with upd := { m.upd with reheat := true, act := none }, pwr := { m.pwr with starting := false } }
  ((m.domainUp 10).updEv 123 0 7).segUp

/-- SLOT_SELECTION (R410): an armed slot first, as TRIAL; else the CONFIRMED slot; after a failed check the other slot;
Reheat mode if none loads. `loads` holds the results of the load checks in the order of the attempts. -/
def execSlotSelection (loads : List Bool) (s : State) : Host.Outcome State Fault Refusal := s.power fun m =>
  if !m.alive || m.lanes.run || m.upd.reheat then m else
  let m := foldN 2 (fun (m : Mod) k =>
    let x := m.slot k
    if x.st = .trial ∧ !x.armed then (m.setSlot k { x with st := .staged }).updEv 123 k 6 else m) m
  let first := match (List.range 2).find? fun k => (m.slot k).armed with
    | some k => some (k, CodeSlotState.trial)
    | none => m.confirmedSlot.map fun k => (k, CodeSlotState.confirmed)
  match first with
  | none => m.enterReheat
  | some (k, st) =>
    let ok := loads.getD 0 true
    let m := m.loadSlot k st ok
    if ok then m
    else match tryAs (m.slot (1 - k)).st with
      | none => m.enterReheat
      | some st2 =>
        let ok2 := loads.getD 1 true
        let m := m.loadSlot (1 - k) st2 ok2
        if ok2 then m else m.enterReheat

/-- REHEAT_ENTRY: REC_N is low at the start of PD1, or no slot loads (R421). -/
def execReheatEntry (s : State) : Host.Outcome State Fault Refusal := s.power fun m =>
  if !m.alive || m.lanes.run || m.upd.reheat then m else m.enterReheat

/-! ### Domain faults (R432) -/

/-- Domains due to be tried once more, PD7 under SHED, and DOMAIN commands whose domain has switched (log entries 13, 56). -/
def Mod.pwrPoll (m : Mod) : Mod :=
  let due := m.pwr.retryAt.filter fun p => p.2 ≤ m.now
  let m := if due.isEmpty then m else
    (due.map Prod.fst).foldl Mod.domainUp { m with pwr := { m.pwr with retryAt := m.pwr.retryAt.filter fun p => m.now < p.2 } }
  let m := match m.pwr.shedAt with
    | some t => if t ≤ m.now then
        Mod.domainDown { m with pwr := { m.pwr with shedAt := none, shed := m.pwr.shed ||| 0x80 } } 7 else m
    | none => m
  let ready := m.pwr.waits.filter fun p => p.2 ≤ m.now && m.pd (rd p.1.params 0 1) == (rd p.1.params 1 1 == 1)
  if ready.isEmpty then m else
    let rest := m.pwr.waits.filter fun p => !ready.contains p
    ready.foldl (fun (m : Mod) p => m.finish 0x1413 p.1 St.ok) { m with pwr := { m.pwr with waits := rest } }

/-- DOMAIN commands that wait for a domain end with FAULT. -/
def Mod.failWaits (m : Mod) (k : Nat) : Mod :=
  let gone := m.pwr.waits.filter fun p => rd p.1.params 0 1 == k && rd p.1.params 1 1 == 1
  let rest := m.pwr.waits.filter fun p => !gone.contains p
  gone.foldl (fun (m : Mod) p => m.finish 0x1413 p.1 St.fault) { m with pwr := { m.pwr with waits := rest } }

/-- A domain stays off until the next start. -/
def Mod.failedPd (m : Mod) (k : Nat) : Mod :=
  Mod.failWaits { m with pwr := { m.pwr with failed := m.pwr.failed ||| BitVec.ofNat 11 (2 ^ k) } } k

/-- DOMAIN_FAULT (R432): off, EV125 code 2, one more attempt after 1 s (log entry 56). -/
def execDomainFault (pd : Nat) (s : State) : Host.Outcome State Fault Refusal := s.power fun m =>
  if !inRange pd 2 10 ∨ !m.pd pd ∨ !m.alive then m
  else
    let m := ((m.blockDown pd).setPd pd false).ev 125 pd 2 true
    if m.pwr.retried.toNat.testBit pd then m.failedPd pd
    else
      let at' := m.now + secs 1
      let waits := m.pwr.waits.map fun p => if rd p.1.params 0 1 = pd then (p.1, at' + ms 50) else p
      { m with pwr := { m.pwr with retried := m.pwr.retried ||| BitVec.ofNat 11 (2 ^ pd),
                                   retryAt := m.pwr.retryAt ++ [(pd, at')], waits := waits } }

/-! ### Supplies (R427, R429, R430, R441) -/

/-- A supply condition starts or ends, with its event (Table 20-11). -/
def Mod.supplyEv (m : Mod) (code idx : Nat) (on : Bool) : Mod :=
  let k := code * 8 + idx
  if m.pwr.supply.contains k = on then m
  else
    let l := if on then m.pwr.supply ++ [k] else m.pwr.supply.filter fun j => j != k
    Mod.ev { m with pwr := { m.pwr with supply := l } } 124 idx code on

/-- CK_APP and CK_VIS are halved under THROTTLE and under CRANK (R427, R439). -/
def Mod.throttle (m : Mod) : Mod :=
  { m with pwr := { m.pwr with throttled := m.pwr.thermal.contains 2 || m.pwr.supply.contains 24 } }

/-- CRANK (R427). -/
def execCrank (on : Bool) (s : State) : Host.Outcome State Fault Refusal := s.act fun m =>
  if m.alive then (m.supplyEv 3 0 on).throttle else m

/-- FEED_LOW (R441): feeds 0, 1 are VBAT_A, VBAT_B; 2–4 are VACT1–VACT3 (log entry 58). -/
def execFeedLow (feed : Nat) (on : Bool) (s : State) : Host.Outcome State Fault Refusal := s.act fun m =>
  if !m.alive ∨ 4 < feed then m
  else if feed < 2 then m.supplyEv (1 + feed) feed on
  else m.supplyEv 5 (feed - 2) on

/-- OVERVOLTAGE (R441). -/
def execOvervoltage (feed : Nat) (on : Bool) (s : State) : Host.Outcome State Fault Refusal := s.act fun m =>
  if !m.alive ∨ 4 < feed then m else m.supplyEv 6 feed on

/-- FEED_SWITCH (R429): a lane regulator moves to the other feed, or returns to its preferred one. -/
def execFeedSwitch (lane : Lane) (other : Bool) (s : State) : Host.Outcome State Fault Refusal := s.act fun m =>
  match lane with
  | .a => { m with pwr := { m.pwr with feedA := other } }
  | .b => { m with pwr := { m.pwr with feedB := other } }

/-- SUPPLY_LOSS (R405, R430): PD1 runs on from the hold-up, the rest goes off at once, a STORE being written is
abandoned, SET_HOURS and the queued records are written; PD1 goes off after 50 ms, and with KEY high the module starts
afresh (log entry 58). -/
def execSupplyLoss (s : State) : Host.Outcome State Fault Refusal := s.power fun m =>
  if !m.alive then m
  else
    let m := m.ev 124 0 4 true
    let m := { m with pwr := { m.pwr with losses := m.pwr.losses + 1 } }
    let m := m.allDown
    let m := foldN 6 (fun (m : Mod) k =>
      let x := m.nvSet k
      if x.writing.isSome then m.setNv k { x with writing := none, interrupted := true } else m) m
    let m := m.writeHours.logDrain
    let m := m.until (m.now + ms 50)
    if m.pwr.key then m.fullReset 2
    else { m.retained with pwr := { m.retained.pwr with mode := .sleep, cause := 2 } }

/-! ### Temperature (R439) -/

/-- What a thermal step does on entry. -/
def Mod.thermalOn (m : Mod) (code : Nat) : Mod :=
  match code with
  | 3 => Mod.domainDown { m with pwr := { m.pwr with shed := m.pwr.shed ||| 0x40, shedAt := some (m.now + secs 10) } } 6
  | 4 => if m.pwr.mode = .run ∨ m.pwr.mode = .shutdown ∨ m.pwr.starting then m.shutdownRun true else m
  | _ => m.throttle

/-- What its return does: shed domains restart, and after CRITICAL a WARM reset if KEY is high. -/
def Mod.thermalOff (m : Mod) (code : Nat) : Mod :=
  match code with
  | 3 =>
    let back := [6, 7].filter fun k => m.pwr.shed.toNat.testBit k
    let m := { m with pwr := { m.pwr with shed := 0, shedAt := none } }
    if m.pwr.mode = .run ∨ m.pwr.mode = .shutdown then m.domainsUp back else m
  | 4 => if m.pwr.key then m.warmReset 6 else m
  | _ => m.throttle

/-- THERMAL_STEP (R439, Table 20-9) (log entry 58). -/
def execThermalStep (code : Nat) (on : Bool) (s : State) : Host.Outcome State Fault Refusal := s.power fun m =>
  if !m.alive ∨ !inRange code 1 4 ∨ m.pwr.thermal.contains code = on then m
  else
    let l := if on then m.pwr.thermal ++ [code] else m.pwr.thermal.filter fun j => j != code
    let m := Mod.ev { m with pwr := { m.pwr with thermal := l } } 126 0 code on
    if on then m.thermalOn code else m.thermalOff code

/-! ### Clocks (R32–R34, R435, R436) -/

/-- CK_FAB fails or locks again: every ring is reset with PD5 and PD10 (R436) (log entry 19). -/
def Mod.fabReset (m : Mod) : Mod :=
  foldN 16 (fun (m : Mod) r => (m.ringReset r).ringResetDone r) (m.domainsDown [5, 10])

/-- A clock from index 5 fails: its domain is reset and started once more, then stays off (R435, R436) (log entry 57). -/
def Mod.clockPdFail (m : Mod) (index : Nat) : Mod :=
  let pd := clockPd index
  let again := m.pwr.retried.toNat.testBit pd
  let m := { m with pwr := { m.pwr with retried := m.pwr.retried ||| BitVec.ofNat 11 (2 ^ pd) } }
  let up := if index = 6 then [5, 10].filter m.pd else [pd].filter m.pd
  let m := if index = 6 then m.fabReset else m.domainDown pd
  if again then
    let m := (m.ev 125 pd 2 true).failedPd pd
    if index = 6 then
      let m := m.failedPd 10
      { m with port := { m.port with running := false } }
    else m
  else m.domainsUp up

/-- CLOCK_FAIL (R435, Table 20-7): the index of the clock domain (log entry 57). -/
def execClockFail (index : Nat) (s : State) : Host.Outcome State Fault Refusal :=
  let reset5 := decide (5 ≤ index) && decide (index ≤ 7)
  (State.power { s with mem := if reset5 && s.m.alive then [] else s.mem } fun m =>
  if !m.alive ∨ 11 < index then m
  else
    let m := m.ev 125 index 3 true
    let m := if m.pwr.clocks.contains index then m else { m with pwr := { m.pwr with clocks := m.pwr.clocks ++ [index] } }
    match index with
    | 0 => m
    | 1 => m.fullReset 5
    | 2 => m.laneFails .a 6
    | 3 => m.laneFails .b 6
    | 4 => if m.pd 4 then m.setSafe { m.safe.jackOpensAll with spRuns := false } else m
    | _ => m.clockPdFail index)

/-- REF0 is judged failed: CK_TIME changes to REF1, or, with REF1 judged failed before, the module resets (R32, R34) (log entry 57). -/
def Mod.ref0Fails (m : Mod) : Mod :=
  if m.time.ref then m
  else if m.time.ref1Failed then (m.ev 125 1 3 true).fullReset 5
  else Mod.raise { m with time := { m.time with ref := true } } 8 1

/-- REF1 is judged failed: CK_TIME stays on REF0 (R34) (log entry 57). -/
def Mod.ref1Fails (m : Mod) : Mod :=
  if m.time.ref1Failed then m else Mod.raise { m with time := { m.time with ref1Failed := true } } 8 2

/-- REF0_MONITOR_TRIP (R32, R33): a REF0 that stops takes CK_LANEA with it. -/
def execRef0MonitorTrip (stopped : Bool) (s : State) : Host.Outcome State Fault Refusal := s.power fun m =>
  if !m.alive then m
  else
    let m := m.ref0Fails
    if stopped then m.laneFails .a 6 else m

/-- The TIME engine's estimate judges REF0: a source but FREE_RUN in use for the last 10 s without a break (R34). -/
def Mod.estimateJudges (m : Mod) : Bool :=
  m.time.src != 0 && !m.time.holdover && decide (m.time.inUseSince + secs 10 ≤ m.now)

/-- REF_MISMATCH (R34): `aonPpm` is REF0 measured against CK_AON over 100 ms (log entry 57). -/
def execRefMismatch (aonPpm : Int) (s : State) : Host.Outcome State Fault Refusal := s.power fun m =>
  if !m.alive ∨ m.time.ref ∨ m.time.ref1Failed then m
  else
    -- 100 ppm are 2^40 / 10,000 units of the estimate
    let bad := if m.estimateJudges then decide (2 ^ 40 < 10000 * m.time.freq.natAbs)
      else decide (250 < aonPpm) || decide (aonPpm < -250)
    if bad then m.ref0Fails else m.ref1Fails

/-- REF1_STOP (R435): Lane B's clock stops with REF1; while CK_TIME runs on REF1 the module resets. -/
def execRef1Stop (s : State) : Host.Outcome State Fault Refusal := s.power fun m =>
  if !m.alive then m
  else if m.time.ref then (m.ev 125 1 3 true).fullReset 5
  else m.ref1Fails.laneFails .b 6

/-! ### PWR class operations -/

/-- 0x1401 -/
def opPwrGetInfo : Op := opInfo 20 1

/-- 0x1402: voltages and temperatures are measurements. -/
def opPwrGetStatus : Op where
  len := exactly 0
  body := fun _ m =>
    let p := m.pwr
    let d := m.draw
    let e := d.2.draw
    let mode := match p.mode with | .sleep => 1 | .park => 2 | .run => 3 | .shutdown => 4
    let left := match p.grace with | some g => (g.2 - m.now) / secs 1 | none => 0
    Res.ok e.2 (le 1 mode ++ le 1 p.cause ++ le 1 (b2n p.feedA + b2n p.feedB * 2) ++ le 1 (p.thermal.foldl max 0)
      ++ le 2 p.domains.toNat ++ le 8 d.1.toNat ++ le 4 e.1.toNat ++ le 2 left ++ le 4 p.losses)

/-- 0x1403 (R433) -/
def opPwrSetConfig : Op where
  len := exactly 8
  body := fun c m =>
    let r := slice c.params 0 8
    if inRange (rd r 0 2) 50 2000 ∧ rd r 2 2 ≤ 300 ∧ rd r 4 2 ≤ 1440 ∧ isZero r 6 2 then
      Res.ok ((m.setCfg 0x1403 0 r).markSet 0)
    else Res.err m St.badParam

/-- 0x1404 -/
def opPwrGetConfig : Op := { len := exactly 0, body := fun _ m => Res.ok m m.pwrRec }
/-- 0x1405 -/
def opPwrEnable : Op := opNever 1
/-- 0x1406 -/
def opPwrDisable : Op := opNever 1
/-- 0x1407 -/
def opPwrResetInstance : Op := { len := exactly 0, body := fun _ m => Res.ok (m.restore 0 0x1403 0) }

/-- 0x1410: the reset follows the completion by 10 ms. -/
def opModuleReset : Op where
  len := exactly 4
  body := fun c m =>
    if 1 < rd c.params 0 1 ∨ !isZero c.params 1 3 then Res.err m St.badParam
    else if !m.safe.standstill then Res.err m St.locked
    else Res.ok { m with pwr := { m.pwr with resetDue := some (rd c.params 0 1) } }

/-- 0x1411: the grace ends now; step 3 follows at once. -/
def opShutdownAck : Op where
  len := exactly 0
  body := fun _ m =>
    match m.pwr.grace with
    | none => Res.err m St.notReady
    | some g => Res.ok { m with pwr := { m.pwr with grace := some (g.1, m.now) } }

/-- 0x1412: never later than 600 s after the start of SHUTDOWN. -/
def opShutdownHold : Op where
  len := exactly 4
  body := fun c m =>
    if !inRange (rd c.params 0 2) 1 300 ∨ !isZero c.params 2 2 then Res.err m St.badParam
    else match m.pwr.grace with
      | none => Res.err m St.notReady
      | some g =>
        let e := min (m.now + secs (rd c.params 0 2)) (g.1 + secs 600)
        Res.ok { m with pwr := { m.pwr with grace := some (g.1, e) } } (le 2 ((e - m.now) / secs 1) ++ zeros 2)

/-- 0x1413 (R429): ACCEPTED, and OK once the domain has switched (log entry 56). -/
def opDomain : Op where
  len := exactly 4
  body := fun c m =>
    let k := rd c.params 0 1
    let on := rd c.params 1 1 = 1
    if !inRange k 6 8 ∨ 1 < rd c.params 1 1 ∨ !isZero c.params 2 2 then Res.err m St.badParam
    else if m.pwr.mode ≠ .run ∨ m.pwr.shed.toNat.testBit k then Res.err m St.notReady
    else
      let m := if on then m.domainUp k else m.domainDown k
      Res.accepted { m with pwr := { m.pwr with waits := m.pwr.waits ++ [(c, m.now + ms 50)] } }

/-- SHUTDOWN_ACK has ended the grace: step 3 follows at once. -/
def Mod.ackNow (m : Mod) : Mod :=
  match m.pwr.grace with
  | some g => if m.pwr.mode = .shutdown ∧ g.2 ≤ m.now then m.shutdownRun false else m
  | none => m

/-- PWR_GET_INFO (R98). -/
def execPwrGetInfo (c : Cmd) (s : State) : Host.Outcome State Fault Refusal := s.act fun m => m.serve 0x1401 opPwrGetInfo c
/-- PWR_GET_STATUS (R431). -/
def execPwrGetStatus (c : Cmd) (s : State) : Host.Outcome State Fault Refusal := s.act fun m => m.serve 0x1402 opPwrGetStatus c
/-- PWR_SET_CONFIG (R433). -/
def execPwrSetConfig (c : Cmd) (s : State) : Host.Outcome State Fault Refusal := s.act fun m => m.serve 0x1403 opPwrSetConfig c
/-- PWR_GET_CONFIG (R433). -/
def execPwrGetConfig (c : Cmd) (s : State) : Host.Outcome State Fault Refusal := s.act fun m => m.serve 0x1404 opPwrGetConfig c
/-- PWR_ENABLE (R98). -/
def execPwrEnable (c : Cmd) (s : State) : Host.Outcome State Fault Refusal := s.act fun m => m.serve 0x1405 opPwrEnable c
/-- PWR_DISABLE (R98). -/
def execPwrDisable (c : Cmd) (s : State) : Host.Outcome State Fault Refusal := s.act fun m => m.serve 0x1406 opPwrDisable c
/-- PWR_RESET_INSTANCE (R98). -/
def execPwrResetInstance (c : Cmd) (s : State) : Host.Outcome State Fault Refusal := s.act fun m => m.serve 0x1407 opPwrResetInstance c
/-- MODULE_RESET (R437). -/
def execModuleReset (c : Cmd) (s : State) : Host.Outcome State Fault Refusal :=
  s.power fun m => (m.serve 0x1410 opModuleReset c).resetNow
/-- SHUTDOWN_ACK (R433). -/
def execShutdownAck (c : Cmd) (s : State) : Host.Outcome State Fault Refusal :=
  s.power fun m => (m.serve 0x1411 opShutdownAck c).ackNow
/-- SHUTDOWN_HOLD (R433). -/
def execShutdownHold (c : Cmd) (s : State) : Host.Outcome State Fault Refusal := s.act fun m => m.serve 0x1412 opShutdownHold c
/-- DOMAIN (R429). -/
def execDomain (c : Cmd) (s : State) : Host.Outcome State Fault Refusal := s.act fun m => m.serve 0x1413 opDomain c

/-- The PWR class. -/
def pwrOps : List (Nat × Op) :=
  [(0x1401, opPwrGetInfo), (0x1402, opPwrGetStatus), (0x1403, opPwrSetConfig), (0x1404, opPwrGetConfig),
   (0x1405, opPwrEnable), (0x1406, opPwrDisable), (0x1407, opPwrResetInstance), (0x1410, opModuleReset),
   (0x1411, opShutdownAck), (0x1412, opShutdownHold), (0x1413, opDomain)]

end Sys2Proof.Machine
end

