-- ==== Sys2Proof/Machine/Registry.lean ====
section
/-! DEFINITION. Every operation of the table of classes by its opcode, and the snapshot image, which holds what their
GET_CONFIG and GET_STATUS return (R105). -/

namespace Sys2Proof.Machine

open Sys2Proof

/-! ### SNAPSHOT (0x0112) -/

/-- The parameters of a SNAPSHOT are legal. -/
def snapParamsOk (c : Cmd) : Bool :=
  decide (rd c.params 0 1 ≤ 1) && decide (rd c.params 1 1 ≤ 1) && isZero c.params 2 2
    && (if rd c.params 1 1 = 0 then isZero c.params 4 12 else (parse96 c.params 4).isSome)

/-- 0x0112 as it commits: the image is captured at the start of the next frame (log entry 21). -/
def opSnapshot : Op where
  len := exactly 16
  stamped := fun _ => true
  body := fun c m =>
    if !snapParamsOk c then Res.err m St.badParam
    else if m.port.snap.isSome || m.port.snapWait.isSome then Res.err m St.busy
    else
      let f : Flight := { cmd := c, opcode := 0x0112, idx := (m.ring c.ring).sqHead - 1 }
      Res.later { m with port := { m.port with snapWait := some (f, m.lanes.frame) } }

/-! ### The table of operations (Table 04-6) -/

/-- Every operation, by opcode. -/
def allOps : List (Nat × Op) :=
  sysOps ++ [(0x0112, opSnapshot)] ++ timeOps ++ laneOps ++ loopOps ++ drvOps ++ inpOps ++ safeOps ++ canOps ++ ethOps
    ++ gnssOps ++ fuseOps ++ clnkOps ++ pipeOps ++ visOps ++ segOps ++ evtOps ++ logOps ++ nvsOps ++ updOps ++ pwrOps

/-- The operation of an opcode; none where class or operation is unknown. -/
def opOf (opcode : Nat) : Option Op := (allOps.find? fun p => p.1 == opcode).map Prod.snd

/-! ### The image (R105) -/

/-- A shortest parameter block an operation accepts, all zero. -/
def blankCmd (o : Op) (inst : Nat) : Cmd :=
  let c := fun (n : Nat) => ({ inst := BitVec.ofNat 16 inst, plen := BitVec.ofNat 16 n, params := zeros n } : Cmd)
  c (((List.range 17).find? fun n => o.len (c n)).getD 0)

/-- The reply of a read operation, of which nothing stays but the free values it drew. -/
def Mod.replyOf (m : Mod) (opcode inst : Nat) : Bytes × Mod :=
  match opOf opcode with
  | none => ([], m)
  | some o =>
    let r := o.body (blankCmd o inst) m
    (r.reply, { m with fresh := r.m.fresh })

/-- The committed-state image of a LANE section: its bytes are the lane's own (R75) (log entry 21). -/
def Mod.laneImage (m : Mod) : Bytes × Mod :=
  let n := m.lanes.image
  ((List.range n).map fun k => BitVec.ofNat 8 (Config.freeWord (m.fresh + k)).toNat, { m with fresh := m.fresh + n })

/-- One section: GET_CONFIG, GET_STATUS, and for the active lane its committed-state image (R105) (log entry 21). -/
def Mod.section (m : Mod) (cls inst : Nat) : Bytes × Mod :=
  let a := m.replyOf (cls * 256 + 4) inst
  let b := a.2.replyOf (cls * 256 + 2) inst
  let s := le 2 a.1.length ++ a.1 ++ le 2 b.1.length ++ b.1
  if cls = 3 ∧ m.lanes.active = some (laneOf inst) then
    let i := b.2.laneImage
    (s ++ i.1, i.2)
  else (s, b.2)

/-- Instances a class has. -/
def instsOf (cls : Nat) : Nat := match opOf (cls * 256 + 2) with | some o => o.insts | none => 0

/-- The (class, instance) pairs of a scope: every powered engine, or the control plane alone (log entry 21). -/
def Mod.snapParts (m : Mod) (scope : Nat) : List (Nat × Nat) :=
  let classes := if scope = 1 then [3, 4, 5, 6] else (List.range 20).map (· + 1)
  (classes.filter m.powered).flatMap fun cls => (List.range (instsOf cls)).map fun i => (cls, i)

/-- The sections in order (log entry 21). -/
def Mod.sections (m : Mod) : List (Nat × Nat) → List ((Nat × Nat) × Bytes) × Mod
  | [] => ([], m)
  | p :: t =>
    let a := m.section p.1 p.2
    let r := a.2.sections t
    ((p, a.1) :: r.1, r.2)

/-- The directory entries, from an offset (Table 04-12). -/
def snapDir : Nat → List ((Nat × Nat) × Bytes) → Bytes
  | _, [] => []
  | off, (p, b) :: t => le 1 p.1 ++ [0] ++ le 2 p.2 ++ le 4 off ++ le 4 b.length ++ zeros 4 ++ snapDir (off + b.length) t

/-- The image is captured at the start of frame n + 1, raw count `raw`, and the SNAPSHOT completes (R105). -/
def Mod.capture' (m : Mod) (raw : Nat) : Mod :=
  match m.port.snapWait with
  | none => m
  | some (f, n) =>
    let r := m.sections (m.snapParts (rd f.cmd.params 0 1))
    let m := r.2
    let secs' := r.1
    let body := secs'.flatMap Prod.snd
    let size := 32 + 16 * secs'.length + body.length
    let act := match m.lanes.active with | some .b => 1 | _ => 0
    let head := le 4 size ++ le 2 secs'.length ++ le 2 1 ++ le 8 n ++ le 8 raw ++ le 1 m.lanes.redundancy ++ le 1 act ++ zeros 6
    let x : Snapshot := { frame := n, raw := raw, image := head ++ snapDir (32 + 16 * secs'.length) secs' ++ body,
                          sections := secs'.length, doneRaw := raw + us 40 }
    let m := { m with port := { m.port with snap := some x, snapWait := none } }
    m.finish 0x0112 f.cmd St.ok (le 8 n ++ le 8 raw ++ le 4 size ++ le 2 secs'.length ++ zeros 2) n

/-- SNAPSHOT with at_time: stamped for the frame it names (0x0112) (log entry 21). -/
def Mod.serveSnapshot (m : Mod) (c : Cmd) : Mod :=
  if !m.takes c.ring || rd c.params 1 1 != 1 then m.serve 0x0112 opSnapshot c
  else
    match m.portCheck 0x0112 opSnapshot c with
    | some st => m.complete 0x0112 c st [] 0
    | none =>
      if !snapParamsOk c then m.complete 0x0112 c St.badParam [] 0 else m.stamp 0x0112 c

/-- SNAPSHOT (R105). -/
def execSnapshot (c : Cmd) (s : State) : Host.Outcome State Fault Refusal := s.act fun m => m.serveSnapshot c

end Sys2Proof.Machine
end

