-- ==== Sys2Proof/Machine/PortOps.lean ====
section
/-! DEFINITION. The Command Port's registers and dispatch, the service datagrams, and accesses to the register windows
(chapter 04, R8, R29). -/

namespace Sys2Proof.Machine

open Sys2Proof

/-! ### Ring registers (R89–R92) -/

/-- A ring stops with an error, which raises its event (R90, R97). -/
def Mod.ringError (m : Mod) (r code : Nat) : Mod :=
  (m.setRing r { m.ring r with errCode := code }).raise (16 + r) (r + 2 * 256 + code * 65536)

/-- The application cluster runs, and PD1 with it: without PD5 no core reads or writes anything (R19). -/
def Mod.appOn (m : Mod) : Bool := m.alive && m.pd 5

/-- A completed register write. -/
def Mod.wrote (m : Mod) : Mod := m.answered 0

/-- Submission slots written before the doorbell, from the slot of count `i` (R90). -/
def Ring.submit (x : Ring) (i : Nat) (packets : List Bytes) : Ring :=
  { x with sq := (packets.zipIdx).foldl (fun (t : Tab Bytes) (p : Bytes × Nat) => Tab.put [] t ((i + p.2) % 256) (p.1.take 256)) x.sq }

/-- The lines of submission slots that are written are poisoned no more (R27). -/
def Mod.cleanSlots (m : Mod) (r i : Nat) (packets : List Bytes) : Mod :=
  (packets.zipIdx).foldl (fun (m : Mod) (p : Bytes × Nat) => m.cleanse (sqAddr r (i + p.2)) p.1.length) m

/-- CP_DOORBELL (R8, R90): the write sets sq_tail. A tail more than 256 ahead of the head is error 1, one that moves
backwards, by the model's reading a difference of 2^31 or more on the wrapping count (log entry 67), error 2. A ring that
has stopped keeps its first error, and one that is being reset takes none: the reset clears the count. A bad doorbell written
while enable is 0 sets its error at the write, which is the model's choice (log entry 67). -/
def Mod.doorbell (m : Mod) (r : Nat) (tail : BitVec 32) (written : List Bytes) : Mod :=
  let x := m.ring r
  let m := (m.setRing r { x.submit x.sqTail.toNat written with sqTail := tail }).cleanSlots r x.sqTail.toNat written
  if x.errCode ≠ 0 ∨ x.resetting then m
  else if 2 ^ 31 ≤ (tail - x.sqTail).toNat then m.ringError r 2
  else if 256 < (tail - x.sqHead).toNat then m.ringError r 1
  else m

/-- CP_DOORBELL written. -/
def execCpDoorbell (ring : Nat) (tail : BitVec 32) (written : List Bytes) (s : State) : Host.Outcome State Fault Refusal :=
  s.act fun m => if !m.appOn then m else if 12 ≤ ring then m.busError else (m.doorbell ring tail written).wrote

/-- CP_CQ_HEAD (R8, R91): the write sets cq_head. A head beyond cq_tail is error 3, unless the ring has stopped or is
being reset. R91 names no head that moves backwards: the model takes it as one beyond cq_tail, on the wrapping count, which is
its choice (log entry 67). -/
def Mod.cqHeadWrite (m : Mod) (r : Nat) (head : BitVec 32) : Mod :=
  let x := m.ring r
  let m := m.setRing r { x with cqHead := head }
  if x.errCode ≠ 0 ∨ x.resetting then m
  else if (x.cqTail - x.cqHead).toNat < (head - x.cqHead).toNat then m.ringError r 3
  else m

/-- CP_CQ_HEAD written. -/
def execCpCqHead (ring : Nat) (head : BitVec 32) (s : State) : Host.Outcome State Fault Refusal := s.act fun m =>
  if !m.appOn then m else if 12 ≤ ring then m.busError else (m.cqHeadWrite ring head).wrote

/-- CP_RING_CTRL.enable written (R90). -/
def execRingEnable (ring : Nat) (on : Bool) (s : State) : Host.Outcome State Fault Refusal := s.act fun m =>
  if !m.appOn then m else if 12 ≤ ring then m.busError else (m.setRing ring { m.ring ring with enable := on }).wrote

/-- CP_RING_CTRL.reset written with 1 (R92). -/
def execRingReset (ring : Nat) (s : State) : Host.Outcome State Fault Refusal := s.act fun m =>
  if !m.appOn then m else if 12 ≤ ring then m.busError else (m.ringReset ring).wrote

/-- RING_RESET_DONE (R92). -/
def execRingResetDone (ring : Nat) (s : State) : Host.Outcome State Fault Refusal := s.act fun m =>
  if !m.alive ∨ 16 ≤ ring then m else m.ringResetDone ring

/-! ### Dispatch (R90, R93, R99–R103) -/

/-- The command of a submission packet (Table 04-3). -/
def parsePacket (ring : Nat) (b : Bytes) : Nat × Cmd :=
  (rd b 0 2, { ring := ring, tag := BitVec.ofNat 16 (rd b 2 2), flags := BitVec.ofNat 16 (rd b 4 2),
               plen := BitVec.ofNat 16 (rd b 6 2), inst := BitVec.ofNat 16 (rd b 8 2), rsvd := BitVec.ofNat 16 (rd b 10 2),
               cframe := BitVec.ofNat 32 (rd b 12 4), params := slice b 16 (min 240 (rd b 6 2)) })

/-- A command of the ring is not done whose flags or kind hold every later one: FENCE_AFTER, FENCE, BARRIER (R100). -/
def Port.ringHeld (p : Port) (r : Nat) : Bool :=
  (p.flight.any fun f => f.cmd.ring == r && (f.isFence || f.cmd.flags.toNat.testBit 1))
    || p.laneQ.any fun q => q.cmd.ring == r && q.cmd.flags.toNat.testBit 1

/-- The next submission of a ring as the Command Port reads it; from a poisoned line it takes a bus error, and what it makes of
the packet then is a free value (R27) (log entry 14). -/
def Mod.nextPacket (m : Mod) (r : Nat) : Bytes :=
  let x := m.ring r
  let b : Bytes := Tab.get [] x.sq (x.sqHead.toNat % 256)
  let a := sqAddr r x.sqHead.toNat
  if r < 12 && (List.range 4).any fun k => m.poison.contains (a / 64 + k) then
    (List.range 256).map fun k => if m.poison.contains ((a + k) / 64) then Config.freeByte (a + k) else b.getD k 0
  else b

/-- The ring's next command is held back: by a fence, or by its own ORDERED flag (R100). -/
def Mod.heldBack (m : Mod) (r : Nat) : Bool :=
  m.port.ringHeld r || ((rd (m.nextPacket r) 4 2).testBit 0 && decide (m.port.inFlight r ≠ 0))

/-- The ring has a command that it may dispatch, completion space aside. Rings 12–15 are inside the module: they need
no enable. Rings 0–11 stop with PD5 and ring 15 with the Safety Processor (R19) (log entry 8). -/
def Mod.ringReady (m : Mod) (r : Nat) : Bool :=
  let x := m.ring r
  (decide (12 ≤ r) || x.enable) && x.errCode == 0 && !x.resetting && x.sqHead != x.sqTail && (decide (12 ≤ r) || m.pd 5) && (r != 15 || m.safeOn)
    && !m.heldBack r

/-- Completion space: at least 2 × in_flight + 2 free slots (R91). The module takes the completions of its own rings as
they are written, so all 256 slots of those are free (log entry 8). -/
def Mod.ringSpace (m : Mod) (r : Nat) : Bool :=
  decide (2 * m.port.inFlight r + 2 ≤ if 12 ≤ r then 256 else (m.ring r).freeCq)

/-- One packet taken from a ring: the checks of R99, then stamping, or the engine at once (R101). A command that is not
frame-stamped acts at once even behind a stamped one of its ring and instance: the model puts R101 before R100's ring order,
which is its choice (log entry 67). -/
def Mod.take (m : Mod) (opcode : Nat) (c : Cmd) : Mod :=
  if !m.takes c.ring then m else
  match opOf opcode with
  | none => m.complete opcode c (if 240 < c.plen.toNat then St.badLength else St.badOpcode) [] 0
  | some o =>
    if o.stamped c then
      match m.portCheck opcode o c with
      | some st => m.complete opcode c st [] 0
      | none => m.stamp opcode c
    else m.serve opcode o c

/-- The next command of a ring is taken; engines that read or write SDRAM do so. -/
def State.dispatchRing (s : State) (r : Nat) : State :=
  let x := s.m.ring r
  let p := parsePacket r (s.m.nextPacket r)
  let m := s.m.setRing r { x with sqHead := x.sqHead + 1, cqWait := false }
  let m := (m.take p.1 (s.withData p.1 p.2)).resetNow.ackNow
  let s := State.ethFlush { s with m := m }
  if s.m.pd 5 then s else { s with mem := [] }

/-- Rings in the order of their turns (R93). -/
def Mod.turns (m : Mod) : List Nat := (List.range 16).map fun k => (m.port.turn + k) % 16

/-- Rings that wait for completion space have cq_wait set (R91). -/
def Mod.markWaits (m : Mod) : Mod :=
  foldN 16 (fun (m : Mod) r =>
    let w := m.ringReady r && !m.ringSpace r
    if (m.ring r).cqWait = w then m else m.setRing r { m.ring r with cqWait := w }) m

/-- The ring whose command is dispatched next (R91, R93). -/
def Mod.nextRing (m : Mod) : Option Nat := m.turns.find? fun r => m.ringReady r && m.ringSpace r

/-- One command of ring `r`, after which the turn is the next ring's (R93). -/
def State.dispatchTurn (s : State) (r : Nat) : State :=
  State.dispatchRing { s with m := { s.m with port := { s.m.port with turn := (r + 1) % 16 } } } r

/-- COMMAND_DISPATCH (R93, R99): one command of the next ring that may dispatch (log entry 9). -/
def execCommandDispatch (s : State) : Host.Outcome State Fault Refusal :=
  if !s.m.alive || !s.m.port.running then .next s
  else
    let m := s.m.markWaits
    match m.nextRing with
    | none => .next { s with m := m }
    | some r => .next (State.dispatchTurn { s with m := m } r)

/-! ### Service datagrams (R108–R110) -/

/-- The oldest `n` of the tags that are done are kept no longer; one whose command is not done stays. -/
def dropDone : Nat → List Kept → List Kept
  | 0, ks => ks
  | _, [] => []
  | n + 1, k :: t => if k.doneRaw.isSome then dropDone n t else k :: dropDone (n + 1) t

/-- Tags still kept: of commands that are not done, and the last within 10 s of their final completion, 256 in all
(R110) (log entry 22). -/
def keptNow (now : Nat) (ks : List Kept) : List Kept :=
  let live := ks.filter fun k => match k.doneRaw with | none => true | some t => decide (now < t + secs 10)
  dropDone (live.length - 256) live

/-- A datagram of a session is sound: open, authentic, its counter new (R109). -/
def Session.sound (x : Session) (d : Bytes) : Bool :=
  let body := d.take (d.length - 16)
  x.opened && rd d 2 2 == x.num.toNat && decide (24 + 16 ≤ d.length)
    && (le 32 (Config.hmacSha256 x.key body).toNat).take 16 == d.drop (d.length - 16) && decide (x.counter < rd d 4 4)

/-- A datagram without AUTH: session 0, or the number of the open session, and no counter. -/
def Session.plain (x : Session) (d : Bytes) : Bool :=
  decide (24 ≤ d.length) && rd d 4 4 == 0 && (rd d 2 2 == 0 || (x.opened && rd d 2 2 == x.num.toNat))

/-- A datagram accepted in its session (log entry 20). -/
def Session.accept (x : Session) (d : Bytes) (now : Nat) : Session :=
  if rd d 2 2 = 0 then x
  else { x with counter := if (rd d 1 1).testBit 0 then rd d 4 4 else x.counter, lastRaw := now }

/-- The status a packet ends with where it comes without AUTH into a proven session: it has no session's rights (log entry 20). -/
def Mod.noRights (m : Mod) (auth : Bool) (p : Nat × Cmd) : Option Nat :=
  if auth || !(m.ring p.2.ring).session.proven then none
  else
    let x := m.ring p.2.ring
    let bare := m.setRing p.2.ring { x with session := { x.session with proven := false } }
    match opOf p.1 with
    | none => none
    | some o => if bare.portCheck p.1 o p.2 = some St.denied then some St.denied else none

/-- A packet of an accepted datagram: a repeat of a kept tag, a full ring, or a new packet. It is dispatched with the
datagram where the turn is its ring's and nothing holds it back, else by a later COMMAND_DISPATCH (R93) (log entries 20, 22). -/
def State.servicePacket (s : State) (r sender : Nat) (auth : Bool) (packet : Bytes) : State :=
  let m := s.m
  let x := m.ring r
  let p := parsePacket r packet
  let kept := keptNow m.now x.kept
  match kept.find? fun k => k.tag == p.2.tag with
  | some k =>
    if k.packet = packet then
      match k.sent with
      | some b => { s with m := m.sendDatagram r sender b }
      | none => s
    else { s with m := m.refuse p.1 p.2 St.badParam sender }
  | none =>
    match m.noRights auth p with
    | some st =>
      let k : Kept := { tag := p.2.tag, packet := packet, sent := some (completion p.1 p.2.tag.toNat st 0 []),
                        doneRaw := some m.now, sender := sender }
      { s with m := (m.setRing r { x with kept := keptNow m.now (kept ++ [k]) }).refuse p.1 p.2 st sender }
    | none =>
      if 256 ≤ (x.sqTail - x.sqHead).toNat then { s with m := m.refuse p.1 p.2 St.busy sender }
      else
        let k : Kept := { tag := p.2.tag, packet := packet, sent := none, doneRaw := none, sender := sender }
        let x := { x.submit x.sqTail.toNat [packet] with sqTail := x.sqTail + 1, kept := keptNow m.now (kept ++ [k]) }
        let s : State := { s with m := m.setRing r x }
        if s.m.nextRing = some r then s.dispatchTurn r else s

/-- A service datagram (R108, R109): one that is not sound is dropped without reply (log entries 22, 63). -/
def State.datagram (s : State) (d : Bytes) (sender : Nat) : State :=
  let m := s.m
  let r := rd d 0 1
  let auth := (rd d 1 1).testBit 0
  if !m.alive || !m.port.running || (r != 12 && r != 13) || decide (1 < rd d 1 1) then s
  else
    let x := m.ring r
    let ok := if auth then x.session.sound d else x.session.plain d
    if !ok then s
    else
      let m := m.setRing r { x with session := x.session.accept d m.now }
      let packet := (d.drop 8).take (if auth then d.length - 24 else d.length - 8)
      State.servicePacket { s with m := m } r sender auth packet

/-- SERVICE_DATAGRAM (R108): over UDP port 47360 on the service VLAN, with PD10 on. -/
def execServiceDatagram (dgram : Bytes) (sender : Nat) (s : State) : Host.Outcome State Fault Refusal :=
  if s.m.pd 10 then .next (s.datagram dgram sender) else .next s

/-- A segment by CAN1 in Reheat mode: segments in order from index 0 make a datagram; a gap or a new index 0 discards it.
The last segment's padding ends with the packet's own length (R422) (log entry 55). -/
def State.segment (s : State) (data : Bytes) : State :=
  let p := s.m.port
  let idx := rd data 0 1 % 64
  let last := (rd data 0 1).testBit 7
  let seg := (data.drop 1).take 7
  if !s.m.upd.reheat ∨ data.length ≠ 8 then s
  else if idx ≠ 0 ∧ idx ≠ p.segNext then { s with m := { s.m with port := { p with seg := [], segNext := 0 } } }
  else
    let whole := (if idx = 0 then [] else p.seg) ++ seg
    if !last then { s with m := { s.m with port := { p with seg := whole, segNext := idx + 1 } } }
    else
      let n := 8 + 16 + rd whole 14 2 + (if (rd whole 1 1).testBit 0 then 16 else 0)
      State.datagram { s with m := { s.m with port := { p with seg := [], segNext := 0 } } } (whole.take n) canSender

/-- REHEAT_CAN_SEGMENT (R422) (log entry 55). -/
def execReheatCanSegment (data : Bytes) (s : State) : Host.Outcome State Fault Refusal := .next (s.segment data)

/-- A classical frame with the identifier of a segment towards the module (R422). -/
def isSegment (f : CanFrame) : Bool := f.idw.toNat == 0x1CEF0AF1 + 2 ^ 29 && !f.fdf

/-- A frame on a channel that hears goes to the three FIFOs; one with the correction identifier to the receiver as well, the
remote safety PDU to the safety mailbox, and in Reheat mode a segment of CAN1 to the Command Port (R211, R231, R328, R422)
(log entry 54). -/
def State.canRx (s : State) (ch : Nat) (frame : CanFrame) : State :=
  let m := s.m
  let hears := m.canHears ch
  let n := m.canTake ch frame
  let n := if hears && m.isRtcmCan ch frame then n.rtcmCan frame.data else n
  let n := if hears && m.isSafetyPdu ch frame then n.safetyPdu ch frame.idw frame.data else n
  let s' : State := { s with m := n }
  if hears && ch == 0 && isSegment frame then s'.segment frame.data else s'

/-- CAN_FRAME_RX (R328) (log entry 54). -/
def execCanFrameRx (ch : Nat) (frame : CanFrame) (s : State) : Host.Outcome State Fault Refusal := .next (s.canRx ch frame)

/-- SAFETY_PDU_RX (R212): a received copy is an FD frame on CAN7 (6) or CAN8 (7) like any other (R328). -/
def execSafetyPduRx (ch : Nat) (id : BitVec 32) (data : Bytes) (s : State) : Host.Outcome State Fault Refusal :=
  if ch ≠ 6 ∧ ch ≠ 7 then .next s
  else
    let frame := canFrameOf (id.toNat % 2 ^ 29 + 2 ^ 29) 1 data
    let n := s.m.canTake ch frame
    .next { s with m := if s.m.canHears ch then n.safetyPdu ch id data else n }

/-! ### Accesses to the windows (R8, R29, Table 01-6) -/

/-- An offset of the Command Port window that a register occupies (Table 04-2). -/
def cpRegister (o : Nat) : Bool := decide (o < 0x300) && decide (o % 0x40 < 0x18) && o % 4 == 0

/-- An offset of the Frame Exchange window that a register occupies (Table 07-5). -/
def fxRegister (o : Nat) : Bool := decide (o < 0xC10) && o % 8 == 0

/-- An offset of the event fabric window that a register occupies (Table 17-2). -/
def evtRegister (o : Nat) : Bool := decide (o < 0x800) && o % 4 == 0 && (decide (o % 0x100 < 0x38) || inRange (o % 0x100) 0x40 0x4F)

/-- An offset of the timebase window that a register occupies (Table 02-2). -/
def tbRegister (o : Nat) : Bool := o % 8 == 0 && decide (o ≤ 0x60) && o != 0x38

/-- A register stands at the address (log entry 23). -/
def isRegister (a : Nat) : Bool :=
  if inRange a 0x40000000 0x4000FFFF then cpRegister (a - 0x40000000)
  else if inRange a 0x40010000 0x4001FFFF then fxRegister (a - 0x40010000)
  else if inRange a 0x40020000 0x4002FFFF then evtRegister (a - 0x40020000)
  else if inRange a 0x40030000 0x40030FFF then tbRegister (a - 0x40030000)
  else false

/-- A write to a register of the Command Port. CP_RING_CTRL with both bits 1 is taken as the reset, which clears enable
(log entries 23, 67). -/
def Mod.cpWrite (m : Mod) (o : Nat) (v : BitVec 64) : Mod :=
  let r := o / 0x40
  let w := BitVec.ofNat 32 v.toNat
  match o % 0x40 with
  | 0x00 => m.doorbell r w []
  | 0x0C => m.cqHeadWrite r w
  | 0x10 => if v.toNat.testBit 1 then m.ringReset r else m.setRing r { m.ring r with enable := v.toNat.testBit 0 }
  | _ => m

/-- An address in a submission slot of rings 0–11 (Table 04-1) (log entry 15). -/
def isSqSlot (a : Nat) : Bool := inRange a 0x460000000 0x46017FFFF && decide ((a - 0x460000000) % 0x20000 < 0x10000)

/-- The application writes eight bytes of a submission slot (log entry 15). -/
def Mod.slotWrite (m : Mod) (a : Nat) (bs : Bytes) : Mod :=
  let o := a - 0x460000000
  let r := o / 0x20000
  let k := o % 0x10000 / 256
  let x := m.ring r
  let old := slice (Tab.get [] x.sq k) 0 256
  ((m.setRing r { x with sq := Tab.put [] x.sq k (old.take (o % 256) ++ bs ++ old.drop (o % 256 + 8)) }).cleanse a 8).wrote

/-- REGISTER_WRITE (R8): the registers with behaviour of their own do what their rows say; a write of eight bytes to the
application region or to a submission slot stores them (R28, Table 04-1); a write to a register that is
read-only or read-clear has no effect and completes normally; an address no register occupies gives a bus error. The row
names no core: a write to TB_CONV_IN is taken as core 0's (log entries 15, 23, 67). -/
def execRegisterWrite (addr : Nat) (value : BitVec 64) (s : State) : Host.Outcome State Fault Refusal :=
  if !s.m.appOn then .next s
  else if inApp addr 8 then .next ({ s with m := s.m.wrote }.writeMem addr (le 8 value.toNat))
  else if isSqSlot addr && decide (addr % 8 = 0) then s.act fun m => m.slotWrite addr (le 8 value.toNat)
  else if !isRegister addr then s.act Mod.busError
  else if addr < 0x40010000 then s.act fun m => (m.cpWrite (addr - 0x40000000) value).wrote
  else if addr < 0x40010800 then execFxIn 1 ((addr - 0x40010000) / 8) value false s
  else if inRange addr 0x40020000 0x4002FFFF ∧ addr % 0x100 < 0x10 then
    execEvtPend ((addr - 0x40020000) / 0x100) (addr % 0x100 / 4) (BitVec.ofNat 32 value.toNat) s
  else if inRange addr 0x40020000 0x4002FFFF ∧ addr % 0x100 < 0x20 then
    execEvtMask ((addr - 0x40020000) / 0x100) ((addr % 0x100 - 0x10) / 4) (BitVec.ofNat 32 value.toNat) s
  else if addr = 0x40030040 then execTbConvIn 0 value s
  else s.act Mod.wrote

/-- A reserved address of the application's map (Table 01-6, Table 04-1, R29). What Table 01-6 puts in the shared region
but no row of Table 04-1 places, 0x4_6020_0800 to 0x4_60FF_FFFF, is taken as reserved (log entry 67). -/
def isReserved (a : Nat) : Bool :=
  if a < 0x40000000 then true
  else if a < 0x40031000 then !isRegister (a / 4 * 4) && !isRegister (a / 8 * 8)
  else if a < 0x80000000 then true
  else if a < 0x460180000 then false
  else inRange a 0x460180000 0x4601FFFFF || inRange a 0x460200800 0x460FFFFFF || decide (0x480000000 ≤ a)

/-- A memory region the application may only read: the isochronous region, completion slots, the publication directory
and the publication rings (R29) (log entry 23). -/
def isReadOnly (a : Nat) : Bool :=
  inRange a 0x400000000 0x45FFFFFFF || (inRange a 0x460000000 0x46017FFFF && decide (0x10000 ≤ (a - 0x460000000) % 0x20000))
    || inRange a 0x460200000 0x4602007FF || inRange a 0x461000000 0x47FFFFFFF

/-- A read of a register of an event line (Table 17-2); EVT_Q_DROPS clears, and EVT_Q_HEAD locks and releases, as it is
read (R379, R380). -/
def Mod.evtRead (m : Mod) (line o : Nat) : Mod :=
  let l := m.intLine line
  let word := fun (a : BitVec 128) (k : Nat) => bits a.toNat (32 * k + 31) (32 * k)
  if o < 0x10 then m.answered (word l.pend (o / 4))
  else if o < 0x20 then m.answered (word l.mask ((o - 0x10) / 4))
  else if o < 0x30 then m.answered (word (l.pend &&& l.mask) ((o - 0x20) / 4))
  else if o = 0x30 then m.answered (b2n ((l.pend &&& l.mask) != 0) + l.q.length * 2 + b2n (l.locked && !l.q.isEmpty) * 1024)
  else if o = 0x34 then m.readDrops line
  else m.readHead line ((o - 0x40) / 4)

/-- A read of a register by a core of the application (R8): RO, RW and W1C registers return their value, WO ones 0; reads
with an effect have it. The capture registers are the core's own (R40) (log entries 61, 67). -/
def Mod.readReg (m : Mod) (core a : Nat) : Mod :=
  if a < 0x40010000 then
    let r := (a - 0x40000000) / 0x40
    let x := m.ring r
    m.answered (match a % 0x40 with
      | 0x00 => x.sqTail.toNat
      | 0x04 => x.sqHead.toNat
      | 0x08 => x.cqTail.toNat
      | 0x0C => x.cqHead.toNat
      | 0x10 => b2n x.enable
      | _ => m.ringStatus r)
  else if a < 0x40020000 then
    let o := a - 0x40010000
    m.answered (if o < 0x800 then 0
      else if o < 0xC00 then
        let y : FxOut := Tab.get {} m.inp.fxOut ((o - 0x800) / 8)
        y.visValue.toNat + y.visStamp.toNat * 2 ^ 32
      else if o = 0xC00 then m.inp.drops else m.inp.visFrame)
  else if a < 0x40030000 then m.evtRead ((a - 0x40020000) / 0x100) (a % 0x100)
  else
    let c : Capture := Tab.get {} m.time.cap core
    match a - 0x40030000 with
    | 0x00 => m.answered m.now
    | 0x08 => m.answered m.lanes.frame
    | 0x10 => m.answered m.lanes.frameRaw
    | 0x18 => m.answered m.time.status
    | 0x20 => m.readMtLo core
    | 0x28 => m.answered (c.mt.toNat / 2 ^ 64)
    | 0x30 => m.answered c.mtRaw.toNat
    | 0x40 => m.answered c.convIn.toNat
    | 0x48 => m.answered (c.conv.toNat % 2 ^ 64)
    | 0x50 => m.answered (c.conv.toNat / 2 ^ 64 + b2n c.extrap * 2 ^ 32)
    | 0x58 => m.answered (rd (leI 8 m.rec0.rate) 0 8)
    | _ => m.answered m.time.unc

/-- The byte a reader of SDRAM finds at an address: what the module keeps there, or the byte stored (log entries 14, 15). -/
def State.busByte (s : State) (a : Nat) : Byte :=
  if s.m.poison.contains (a / 64) then s.readByte a else ((s.m.keptByte a).orElse fun _ => s.m.bufByte a).getD (s.readByte a)

/-- `n` bytes as a reader finds them, in ascending order. -/
def State.busMem (s : State) (a n : Nat) : Bytes := (List.range n).map fun k => s.busByte (a + k)

/-- A core of the application reads eight bytes of SDRAM; one in a poisoned line gives a bus error (R27, R28) (log entries 14, 66). -/
def State.readSdram (s : State) (a : Nat) : Host.Outcome State Fault Refusal :=
  s.act fun m =>
    if (List.range 8).any fun k => m.poison.contains ((a + k) / 64) then m.busError else m.answered (rd (s.busMem a 8) 0 8)

/-- RESERVED_ACCESS (R29): an access to a reserved address, or a write to a region that is read only, ends in a bus error
and nothing is written. The row stands for every read of the application too: at any other address it answers what
stands there (R8, R28); and for a lane's read of its own register window (Table 14-3) (log entries 23, 67). -/
def execReservedAccess (at' : Access) (write : Bool) (s : State) : Host.Outcome State Fault Refusal :=
  match at'.lane with
  | some l =>
    if !s.m.alive || !(s.m.lane l).st.hears then .next s
    else if !inRange at'.addr 0x50000000 0x500007FF then s.act Mod.busError
    else if write then s.act Mod.wrote
    else s.act fun m => m.readLane l (at'.addr - 0x50000000)
  | none =>
    if !s.m.appOn then .next s
    else if isReserved at'.addr || (write && isReadOnly at'.addr) then s.act Mod.busError
    else if write then .next s
    else if isRegister at'.addr then s.act fun m => m.readReg at'.core at'.addr
    else if isSdram at'.addr then s.readSdram at'.addr
    else .next s

end Sys2Proof.Machine
end

