-- ==== Sys2Proof/Machine/FrameOps.lean ====
section
/-! DEFINITION. The frame (R41–R43): what a frame start does, the Marver step's decision, the command phase, and the
computation of a frame that is not held. -/

namespace Sys2Proof.Machine

open Sys2Proof

/-! ### The Marver step (R62–R67, R72, R80) -/

/-- Lane that is outside: the one that does not compute while the other does. -/
def Mod.survivor (m : Mod) : Option Lane :=
  match m.lanes.a.st.hears, m.lanes.b.st.hears with
  | true, false => some .a
  | false, true => some .b
  | _, _ => none

/-- Both lanes take part in the Marver step (R62). -/
def Mod.duplex (m : Mod) : Bool := m.lanes.a.st.hears && m.lanes.b.st.hears

/-- Some lane computes: a half holds the token, or a lane will take it at the decision. -/
def Mod.anyLane (m : Mod) : Bool := !m.lanes.restart && (m.lanes.a.st.hears || m.lanes.b.st.hears)

/-- A commanded hold covers frame `n` (R104). -/
def Lanes.held (l : Lanes) (n : Nat) : Bool := l.holds.any fun h => decide (h.1 ≤ n) && decide (n ≤ h.2)

/-- A lane sets its HOLD line (R64): its partner's messages did not arrive intact, or a CRC differs. -/
def holdLine (e : Exchange) (l : Lane) : Bool :=
  match e with
  | .sound => false
  | .mismatch => true
  | .timeout a b => match l with | .a => a | .b => b

/-- Both lanes set or leave their HOLD lines; a lane without a partner leaves its own (R64, R67) (log entry 26). -/
def Mod.setHolds (m : Mod) (e : Exchange) : Mod :=
  [Lane.a, Lane.b].foldl (fun (m : Mod) l => m.setLane l { m.lane l with hold := m.duplex && holdLine e l }) m

/-- Cause of a held frame (R72), the HOLD lines being set: 0 not held, 1 command, 2 timeout, 3 CRC mismatch, 4 tick missing. A tick that is missing
and a failed exchange hold the frame by themselves; simplex makes no exchange (R65, R67) (log entry 26). -/
def Mod.holdCause (m : Mod) (exch : Exchange) (tick : Bool) (n : Nat) : Nat :=
  if !m.anyLane then 0
  else if !tick then 4
  else if m.lanes.a.hold || m.lanes.b.hold then (if exch == .mismatch then 3 else 2)
  else if m.lanes.held n then 1
  else 0

/-- A held frame is counted and raises EV007 (R72, 0x0312) (log entry 26). -/
def Mod.countHeld (m : Mod) (cause : Nat) : Mod :=
  let x := m.stats
  let x := { x with
    heldCmd := if cause = 1 then inc32 x.heldCmd else x.heldCmd
    heldFault := if cause = 1 then x.heldFault else inc32 x.heldFault
    marverTimeouts := if cause = 2 then inc32 x.marverTimeouts else x.marverTimeouts
    vectorMismatches := if cause = 3 then inc32 x.vectorMismatches else x.vectorMismatches }
  let l := { m.lanes with heldRun := m.lanes.heldRun + 1 }
  Mod.raise { m with stats := x, lanes := l } 7 cause

/-- The standby lane yields at the second frame in a row held under R64 (R66). The new lane of an activation, which ends
with it, waits for its reload instead (R417) (log entry 28). -/
def Mod.yieldLane (m : Mod) (o : Lane) : Mod :=
  let new := (m.lane o).newVersion
  let m := m.goSilent o 7
  (if new then m else m.toResync o).redund

/-- The runs of R66 and R80 after a frame held for `cause`, or not held (log entry 26). -/
def Mod.holdRuns (m : Mod) (cause : Nat) : Mod :=
  let fr := if cause = 2 ∨ cause = 3 then m.lanes.faultRun + 1 else 0
  let tr := if cause = 4 then m.lanes.tickRun + 1 else 0
  let y := decide (2 ≤ fr)
  let m := { m with lanes := { m.lanes with faultRun := if y then 0 else fr, tickRun := tr } }
  let m := if y then match m.lanes.active with | some t => m.yieldLane (other t) | none => m else m
  if tr < 2 then m
  else [Lane.a, Lane.b].foldl (fun (m : Mod) l => if (m.lane l).st.hears then m.goSilent l 9 else m) m

/-! ### The command phase (R17, R85, R102, R103) -/

/-- A stamped command commits: the engine's checks and effect, and its completion in the frame (log entry 9). -/
def Mod.commit (m : Mod) (q : Stamped) : Mod :=
  match opOf q.opcode with
  | none => m
  | some o =>
    let r := o.body q.cmd m
    let f : Flight := { cmd := q.cmd, opcode := q.opcode, idx := q.idx, discard := q.discard, waits := r.waits }
    match r.st with
    | none => r.m.fly f
    | some st =>
      let m := if st = St.accepted then r.m.fly f else r.m
      if q.discard then m
      else m.complete q.opcode q.cmd st r.reply
        (if st = St.ok ∨ st = St.fault ∨ st = St.accepted then r.cf.getD r.m.lanes.frame else 0)

/-- A LANE command names a lane whose state has changed since it was stamped (R86) (log entry 29). -/
def Mod.laneMoved (m : Mod) (q : Stamped) : Bool :=
  (q.opcode == 0x0310 || (q.opcode == 0x0311 && rd q.cmd.params 0 1 == 1))
    && (m.lane (laneOf q.cmd.inst.toNat)).changes != q.mark

/-- A stamped command of a frame that is not held (log entry 10). -/
def Mod.commitOne (m : Mod) (q : Stamped) : Mod := if m.laneMoved q then m.returnChanged [q] else m.commit q

/-- Take the commands that `p` picks out of both lanes' queues, in stamping order. -/
def Mod.takeQ (m : Mod) (p : Stamped → Bool) : List Stamped × Mod :=
  (m.port.laneQ.filter p, { m with port := { m.port with laneQ := m.port.laneQ.filter fun q => !p q } })

/-- The commands picked commit in order. -/
def Mod.commitQ (m : Mod) (p : Stamped → Bool) : Mod :=
  let t := m.takeQ p
  t.1.foldl Mod.commitOne t.2

/-- The commands picked come back with LANE_CHANGED; a HOLD_FRAMES among them holds nothing. -/
def Mod.returnQ (m : Mod) (p : Stamped → Bool) : Mod :=
  let t := m.takeQ p
  let lost := t.1.filter fun q => q.opcode == 0x0113
  let m := t.2
  let m := { m with lanes := { m.lanes with holds := m.lanes.holds.filter fun h => !lost.any fun q => q.frame == h.1 } }
  m.returnChanged t.1

/-- BIND_SLOT commits before the capture of its frame (R182) (log entry 35). -/
def Mod.bindPhase (m : Mod) (n : Nat) : Mod := m.commitQ fun q => q.opcode == 0x0610 && decide (q.frame ≤ n)

/-- The command phase of frame `n` held for `cause` (0: computed), or of a frame in which no lane computes. -/
def Mod.commandPhase (m : Mod) (n cause : Nat) : Mod :=
  if !m.anyLane then m.returnQ fun q => decide (q.frame ≤ n)
  else if cause = 0 then m.commitQ fun q => decide (q.frame ≤ n)
  else if cause = 1 then
    let m := m.commitQ fun q => q.opcode == 0x0113 && q.frame == n
    let t := m.takeQ fun q => q.frame == n && q.cmd.flags.toNat.testBit 3
    t.1.foldl (fun (m : Mod) q => if q.discard then m else m.complete q.opcode q.cmd St.tooLate [] 0) t.2
  else
    let within := m.lanes.held n
    m.returnQ fun q => q.frame == n || (decide (q.frame < n) && !within)

/-! ### The frame -/

/-- The frame number and the raw count of the frame that starts (R41). -/
def Mod.nextFrame (m : Mod) : Nat × Nat :=
  if m.lanes.started then (m.lanes.frame + 1, m.lanes.f0 + (m.lanes.frame + 1) * frameCounts) else (0, m.lanes.f0)

/-- The frame start itself: safety slots whose 740 µs have passed are written (R190), the snapshot of the frame before is
captured, the number advances, words take effect, and the receive FIFOs are released and snapshotted (R16, R43, R105,
R332). -/
def Mod.beginFrame (m : Mod) : Mod :=
  let p := m.nextFrame
  let m := ((m.until p.2).safeSlots p.2).capture' p.2
  let was := m.lanes.started && decide (m.lanes.computed = m.lanes.frame) && decide (m.lanes.heldRun = 0)
  let l := { m.lanes with
    started := true, frame := p.1, frameRaw := p.2
    driving := if m.lanes.token.isSome then m.lanes.token else m.lanes.driving
    decided := m.lanes.restart
    holds := m.lanes.holds.filter fun h => decide (p.1 ≤ h.2 + 16) }
  let l := { l with life := if l.driving.isNone then false else if p.1 % 2 = 0 then !l.life else l.life }
  let m := { m with lanes := l, loop := { m.loop with swapped := [] },
                    inp := Inp.show { m.inp with starts := m.inp.starts + 1 } }
  let m := if was then m.canRelease else m
  ((m.pwrPoll.servedReads.puntyStep.drvApply p.2).pduEnter).canSnapshot

/-- An armed silence that was made completes at 40 µs of the second frame after its commit frame (0x0310) (log entry 24). -/
def Mod.forcedEnd (m : Mod) : Mod :=
  match m.lanes.takeover with
  | some (.silence _ frame _ true) =>
    if m.lanes.frame < frame + 2 then m
    else Mod.endForced { m with lanes := { m.lanes with takeover := none } } St.ok [0, 0] frame
  | _ => m

/-- The lanes that computed have their words latched, and those of a held frame took part in its Marver step (R69). -/
def Mod.markReady (m : Mod) : Mod :=
  [Lane.a, Lane.b].foldl (fun (m : Mod) l => m.setLane l { m.lane l with ready := (m.lane l).st.hears }) m

/-- The computation of a frame that is not held: agreed vector, event images, commands, loops, words, outbound slots (log entry 30). -/
def Mod.compute (m : Mod) (f : FrameIn) (n raw : Nat) : Mod :=
  let two := m.duplex
  let used := m.loop.places
  let m := m.agree f n raw (if two then none else m.survivor)
  let m := { m with evt := m.evt.images raw m.lanes.a.st.hears m.lanes.b.st.hears }
  let m := m.commandPhase n 0
  let first := m.lanes.entry
  let m := if first then (m.loopEntryRun).drvEntryRun else m
  let m := { m with lanes := { m.lanes with entry := false, inpEntry := false } }
  let m := m.loopFrame n used
  let m := ((m.drvLatch).pduBuild n).outbound f n
  { m with lanes := { m.lanes with computed := n, heldRun := 0, diff := if two then f.diff else none } }

/-- One frame from its start to its latched words; `tick` false: its frame-start tick is missing (R80) (log entries 11, 24, 27). -/
def Mod.frame (m : Mod) (f : FrameIn) (tick : Bool) : Mod :=
  let m := m.tokenDecision.beginFrame
  let n := m.lanes.frame
  let raw := m.lanes.frameRaw
  let m := f.early.foldl (fun (m : Mod) e => if inRange e.2 1 6 then m.laneFails e.1 e.2 else m) m
  let m := m.setHolds f.exch
  let cause := m.holdCause f.exch tick n
  let computes := m.anyLane && cause == 0
  let m := if computes && m.lanes.inpEntry then m.inpEntryRun else m
  let m := if computes then m.bindPhase n else m
  let m := m.capture.settling
  let m := if tick then (m.wires f n raw).inpJudge f raw else m
  let m := if cause = 0 then m else m.countHeld cause
  let m := if computes then m.compute f n raw else m.commandPhase n cause
  let m := (m.markReady).holdRuns cause
  ((m.forcedEnd).writeMirror n).settle

/-- FRAME_START (R43). -/
def execFrameStart (inp : FrameIn) (s : State) : Host.Outcome State Fault Refusal := s.power fun m =>
  if m.alive && m.lanes.run then m.frame inp true else m

/-- FRAME_TICK_MISSING (R80): the frame is held without its tick; after the second in a row both lanes go silent (log entry 27). -/
def execFrameTickMissing (s : State) : Host.Outcome State Fault Refusal := s.power fun m =>
  if m.alive && m.lanes.run then m.frame {} false else m

end Sys2Proof.Machine
end

