-- ==== Sys2Proof/Machine/Dispatch.lean ====
section
/-! DEFINITION. The dispatch of commands to their meanings: one arm per constructor of Instr. -/

namespace Sys2Proof.Machine

open Sys2Proof

/-- The effect of a command on the block. -/
def exec (i : Instr) (s : State) : Host.Outcome State Fault Refusal :=
  match i with
  | .sysGetInfo c => Sys2Proof.Machine.execSysGetInfo c s
  | .sysGetStatus c => Sys2Proof.Machine.execSysGetStatus c s
  | .sysSetConfig c => Sys2Proof.Machine.execSysSetConfig c s
  | .sysGetConfig c => Sys2Proof.Machine.execSysGetConfig c s
  | .sysEnable c => Sys2Proof.Machine.execSysEnable c s
  | .sysDisable c => Sys2Proof.Machine.execSysDisable c s
  | .sysResetInstance c => Sys2Proof.Machine.execSysResetInstance c s
  | .fence c => Sys2Proof.Machine.execFence c s
  | .barrier c => Sys2Proof.Machine.execBarrier c s
  | .snapshot c => Sys2Proof.Machine.execSnapshot c s
  | .holdFrames c => Sys2Proof.Machine.execHoldFrames c s
  | .snapshotRead c => Sys2Proof.Machine.execSnapshotRead c s
  | .snapshotRelease c => Sys2Proof.Machine.execSnapshotRelease c s
  | .snapshotExpiry => Sys2Proof.Machine.execSnapshotExpiry s
  | .frameAtTime c => Sys2Proof.Machine.execFrameAtTime c s
  | .sessionOpen c => Sys2Proof.Machine.execSessionOpen c s
  | .sessionProve c => Sys2Proof.Machine.execSessionProve c s
  | .sessionIdleTimeout ring => Sys2Proof.Machine.execSessionIdleTimeout ring s
  | .timeGetInfo c => Sys2Proof.Machine.execTimeGetInfo c s
  | .timeGetStatus c => Sys2Proof.Machine.execTimeGetStatus c s
  | .timeSetConfig c => Sys2Proof.Machine.execTimeSetConfig c s
  | .timeGetConfig c => Sys2Proof.Machine.execTimeGetConfig c s
  | .timeEnable c => Sys2Proof.Machine.execTimeEnable c s
  | .timeDisable c => Sys2Proof.Machine.execTimeDisable c s
  | .timeResetInstance c => Sys2Proof.Machine.execTimeResetInstance c s
  | .setSource c => Sys2Proof.Machine.execSetSource c s
  | .scheduleCorrection c => Sys2Proof.Machine.execScheduleCorrection c s
  | .setPps c => Sys2Proof.Machine.execSetPps c s
  | .readTime c => Sys2Proof.Machine.execReadTime c s
  | .laneGetInfo c => Sys2Proof.Machine.execLaneGetInfo c s
  | .laneGetStatus c => Sys2Proof.Machine.execLaneGetStatus c s
  | .laneSetConfig c => Sys2Proof.Machine.execLaneSetConfig c s
  | .laneGetConfig c => Sys2Proof.Machine.execLaneGetConfig c s
  | .laneEnable c => Sys2Proof.Machine.execLaneEnable c s
  | .laneDisable c => Sys2Proof.Machine.execLaneDisable c s
  | .laneResetInstance c => Sys2Proof.Machine.execLaneResetInstance c s
  | .forceTakeover c => Sys2Proof.Machine.execForceTakeover c s
  | .forcedSilence => Sys2Proof.Machine.execForcedSilence s
  | .setRedundancy c => Sys2Proof.Machine.execSetRedundancy c s
  | .getLaneStats c => Sys2Proof.Machine.execGetLaneStats c s
  | .clearLaneStats c => Sys2Proof.Machine.execClearLaneStats c s
  | .loopGetInfo c => Sys2Proof.Machine.execLoopGetInfo c s
  | .loopGetStatus c => Sys2Proof.Machine.execLoopGetStatus c s
  | .loopSetConfig c => Sys2Proof.Machine.execLoopSetConfig c s
  | .loopGetConfig c => Sys2Proof.Machine.execLoopGetConfig c s
  | .loopEnable c => Sys2Proof.Machine.execLoopEnable c s
  | .loopDisable c => Sys2Proof.Machine.execLoopDisable c s
  | .loopResetInstance c => Sys2Proof.Machine.execLoopResetInstance c s
  | .setMode c => Sys2Proof.Machine.execSetMode c s
  | .setSetpoint c => Sys2Proof.Machine.execSetSetpoint c s
  | .setBreakpoints c => Sys2Proof.Machine.execSetBreakpoints c s
  | .writeSchedule c => Sys2Proof.Machine.execWriteSchedule c s
  | .writeCoeff c => Sys2Proof.Machine.execWriteCoeff c s
  | .readTable c => Sys2Proof.Machine.execReadTable c s
  | .drvGetInfo c => Sys2Proof.Machine.execDrvGetInfo c s
  | .drvGetStatus c => Sys2Proof.Machine.execDrvGetStatus c s
  | .drvSetConfig c => Sys2Proof.Machine.execDrvSetConfig c s
  | .drvGetConfig c => Sys2Proof.Machine.execDrvGetConfig c s
  | .drvEnable c => Sys2Proof.Machine.execDrvEnable c s
  | .drvDisable c => Sys2Proof.Machine.execDrvDisable c s
  | .drvResetInstance c => Sys2Proof.Machine.execDrvResetInstance c s
  | .setOutput c => Sys2Proof.Machine.execSetOutput c s
  | .phFire c => Sys2Proof.Machine.execPhFire c s
  | .phStop c => Sys2Proof.Machine.execPhStop c s
  | .clearFault c => Sys2Proof.Machine.execClearFault c s
  | .inpGetInfo c => Sys2Proof.Machine.execInpGetInfo c s
  | .inpGetStatus c => Sys2Proof.Machine.execInpGetStatus c s
  | .inpSetConfig c => Sys2Proof.Machine.execInpSetConfig c s
  | .inpGetConfig c => Sys2Proof.Machine.execInpGetConfig c s
  | .inpEnable c => Sys2Proof.Machine.execInpEnable c s
  | .inpDisable c => Sys2Proof.Machine.execInpDisable c s
  | .inpResetInstance c => Sys2Proof.Machine.execInpResetInstance c s
  | .bindSlot c => Sys2Proof.Machine.execBindSlot c s
  | .readSlot c => Sys2Proof.Machine.execReadSlot c s
  | .readVector c => Sys2Proof.Machine.execReadVector c s
  | .safeGetInfo c => Sys2Proof.Machine.execSafeGetInfo c s
  | .safeGetStatus c => Sys2Proof.Machine.execSafeGetStatus c s
  | .safeSetConfig c => Sys2Proof.Machine.execSafeSetConfig c s
  | .safeGetConfig c => Sys2Proof.Machine.execSafeGetConfig c s
  | .safeEnable c => Sys2Proof.Machine.execSafeEnable c s
  | .safeDisable c => Sys2Proof.Machine.execSafeDisable c s
  | .safeResetInstance c => Sys2Proof.Machine.execSafeResetInstance c s
  | .serviceMode c => Sys2Proof.Machine.execServiceMode c s
  | .serviceModeTimeout => Sys2Proof.Machine.execServiceModeTimeout s
  | .confirmParams c => Sys2Proof.Machine.execConfirmParams c s
  | .canGetInfo c => Sys2Proof.Machine.execCanGetInfo c s
  | .canGetStatus c => Sys2Proof.Machine.execCanGetStatus c s
  | .canSetConfig c => Sys2Proof.Machine.execCanSetConfig c s
  | .canGetConfig c => Sys2Proof.Machine.execCanGetConfig c s
  | .canEnable c => Sys2Proof.Machine.execCanEnable c s
  | .canDisable c => Sys2Proof.Machine.execCanDisable c s
  | .canResetInstance c => Sys2Proof.Machine.execCanResetInstance c s
  | .rxRead c => Sys2Proof.Machine.execRxRead c s
  | .transmit c => Sys2Proof.Machine.execTransmit c s
  | .canAbort c => Sys2Proof.Machine.execCanAbort c s
  | .recover c => Sys2Proof.Machine.execRecover c s
  | .resume c => Sys2Proof.Machine.execResume c s
  | .setLanePdu c => Sys2Proof.Machine.execSetLanePdu c s
  | .setSignal c => Sys2Proof.Machine.execSetSignal c s
  | .ethGetInfo c => Sys2Proof.Machine.execEthGetInfo c s
  | .ethGetStatus c => Sys2Proof.Machine.execEthGetStatus c s
  | .ethSetConfig c => Sys2Proof.Machine.execEthSetConfig c s
  | .ethGetConfig c => Sys2Proof.Machine.execEthGetConfig c s
  | .ethEnable c => Sys2Proof.Machine.execEthEnable c s
  | .ethDisable c => Sys2Proof.Machine.execEthDisable c s
  | .ethResetInstance c => Sys2Proof.Machine.execEthResetInstance c s
  | .setGcl c => Sys2Proof.Machine.execSetGcl c s
  | .setVlan c => Sys2Proof.Machine.execSetVlan c s
  | .hostRings c => Sys2Proof.Machine.execHostRings c s
  | .gnssGetInfo c => Sys2Proof.Machine.execGnssGetInfo c s
  | .gnssGetStatus c => Sys2Proof.Machine.execGnssGetStatus c s
  | .gnssSetConfig c => Sys2Proof.Machine.execGnssSetConfig c s
  | .gnssGetConfig c => Sys2Proof.Machine.execGnssGetConfig c s
  | .gnssEnable c => Sys2Proof.Machine.execGnssEnable c s
  | .gnssDisable c => Sys2Proof.Machine.execGnssDisable c s
  | .gnssResetInstance c => Sys2Proof.Machine.execGnssResetInstance c s
  | .sendRtcm c => Sys2Proof.Machine.execSendRtcm c s
  | .getSats c => Sys2Proof.Machine.execGetSats c s
  | .gnssRestart c => Sys2Proof.Machine.execGnssRestart c s
  | .fuseGetInfo c => Sys2Proof.Machine.execFuseGetInfo c s
  | .fuseGetStatus c => Sys2Proof.Machine.execFuseGetStatus c s
  | .fuseSetConfig c => Sys2Proof.Machine.execFuseSetConfig c s
  | .fuseGetConfig c => Sys2Proof.Machine.execFuseGetConfig c s
  | .fuseEnable c => Sys2Proof.Machine.execFuseEnable c s
  | .fuseDisable c => Sys2Proof.Machine.execFuseDisable c s
  | .fuseResetInstance c => Sys2Proof.Machine.execFuseResetInstance c s
  | .writeTransform c => Sys2Proof.Machine.execWriteTransform c s
  | .clearCullet c => Sys2Proof.Machine.execClearCullet c s
  | .pushSample c => Sys2Proof.Machine.execPushSample c s
  | .pathLoad c => Sys2Proof.Machine.execPathLoad c s
  | .pathActivate c => Sys2Proof.Machine.execPathActivate c s
  | .readTransform c => Sys2Proof.Machine.execReadTransform c s
  | .clnkGetInfo c => Sys2Proof.Machine.execClnkGetInfo c s
  | .clnkGetStatus c => Sys2Proof.Machine.execClnkGetStatus c s
  | .clnkSetConfig c => Sys2Proof.Machine.execClnkSetConfig c s
  | .clnkGetConfig c => Sys2Proof.Machine.execClnkGetConfig c s
  | .clnkEnable c => Sys2Proof.Machine.execClnkEnable c s
  | .clnkDisable c => Sys2Proof.Machine.execClnkDisable c s
  | .clnkResetInstance c => Sys2Proof.Machine.execClnkResetInstance c s
  | .setSlot c => Sys2Proof.Machine.execSetSlot c s
  | .fsyncAt c => Sys2Proof.Machine.execFsyncAt c s
  | .i2cXfer c => Sys2Proof.Machine.execI2cXfer c s
  | .clnkGetSlotStatus c => Sys2Proof.Machine.execClnkGetSlotStatus c s
  | .pipeGetInfo c => Sys2Proof.Machine.execPipeGetInfo c s
  | .pipeGetStatus c => Sys2Proof.Machine.execPipeGetStatus c s
  | .pipeSetConfig c => Sys2Proof.Machine.execPipeSetConfig c s
  | .pipeGetConfig c => Sys2Proof.Machine.execPipeGetConfig c s
  | .pipeEnable c => Sys2Proof.Machine.execPipeEnable c s
  | .pipeDisable c => Sys2Proof.Machine.execPipeDisable c s
  | .pipeResetInstance c => Sys2Proof.Machine.execPipeResetInstance c s
  | .setContext c => Sys2Proof.Machine.execSetContext c s
  | .selectContext c => Sys2Proof.Machine.execSelectContext c s
  | .writeCtxTable c => Sys2Proof.Machine.execWriteCtxTable c s
  | .getContext c => Sys2Proof.Machine.execGetContext c s
  | .pipeGetSlotStatus c => Sys2Proof.Machine.execPipeGetSlotStatus c s
  | .encStart c => Sys2Proof.Machine.execEncStart c s
  | .encStop c => Sys2Proof.Machine.execEncStop c s
  | .encForceIdr c => Sys2Proof.Machine.execEncForceIdr c s
  | .encGetStatus c => Sys2Proof.Machine.execEncGetStatus c s
  | .encSetRate c => Sys2Proof.Machine.execEncSetRate c s
  | .visGetInfo c => Sys2Proof.Machine.execVisGetInfo c s
  | .visGetStatus c => Sys2Proof.Machine.execVisGetStatus c s
  | .visSetConfig c => Sys2Proof.Machine.execVisSetConfig c s
  | .visGetConfig c => Sys2Proof.Machine.execVisGetConfig c s
  | .visEnable c => Sys2Proof.Machine.execVisEnable c s
  | .visDisable c => Sys2Proof.Machine.execVisDisable c s
  | .visResetInstance c => Sys2Proof.Machine.execVisResetInstance c s
  | .modelLoad c => Sys2Proof.Machine.execModelLoad c s
  | .modelUnload c => Sys2Proof.Machine.execModelUnload c s
  | .submit c => Sys2Proof.Machine.execSubmit c s
  | .cancel c => Sys2Proof.Machine.execCancel c s
  | .segGetInfo c => Sys2Proof.Machine.execSegGetInfo c s
  | .segGetStatus c => Sys2Proof.Machine.execSegGetStatus c s
  | .segSetConfig c => Sys2Proof.Machine.execSegSetConfig c s
  | .segGetConfig c => Sys2Proof.Machine.execSegGetConfig c s
  | .segEnable c => Sys2Proof.Machine.execSegEnable c s
  | .segDisable c => Sys2Proof.Machine.execSegDisable c s
  | .segResetInstance c => Sys2Proof.Machine.execSegResetInstance c s
  | .writeRows c => Sys2Proof.Machine.execWriteRows c s
  | .setStartImage c => Sys2Proof.Machine.execSetStartImage c s
  | .readCounters c => Sys2Proof.Machine.execReadCounters c s
  | .clearCounters c => Sys2Proof.Machine.execClearCounters c s
  | .readImage c => Sys2Proof.Machine.execReadImage c s
  | .evtGetInfo c => Sys2Proof.Machine.execEvtGetInfo c s
  | .evtGetStatus c => Sys2Proof.Machine.execEvtGetStatus c s
  | .evtSetConfig c => Sys2Proof.Machine.execEvtSetConfig c s
  | .evtGetConfig c => Sys2Proof.Machine.execEvtGetConfig c s
  | .evtEnable c => Sys2Proof.Machine.execEvtEnable c s
  | .evtDisable c => Sys2Proof.Machine.execEvtDisable c s
  | .evtResetInstance c => Sys2Proof.Machine.execEvtResetInstance c s
  | .raiseTest c => Sys2Proof.Machine.execRaiseTest c s
  | .getRoutes c => Sys2Proof.Machine.execGetRoutes c s
  | .logGetInfo c => Sys2Proof.Machine.execLogGetInfo c s
  | .logGetStatus c => Sys2Proof.Machine.execLogGetStatus c s
  | .logSetConfig c => Sys2Proof.Machine.execLogSetConfig c s
  | .logGetConfig c => Sys2Proof.Machine.execLogGetConfig c s
  | .logEnable c => Sys2Proof.Machine.execLogEnable c s
  | .logDisable c => Sys2Proof.Machine.execLogDisable c s
  | .logResetInstance c => Sys2Proof.Machine.execLogResetInstance c s
  | .logRead c => Sys2Proof.Machine.execLogRead c s
  | .logClear c => Sys2Proof.Machine.execLogClear c s
  | .nvsGetInfo c => Sys2Proof.Machine.execNvsGetInfo c s
  | .nvsGetStatus c => Sys2Proof.Machine.execNvsGetStatus c s
  | .nvsSetConfig c => Sys2Proof.Machine.execNvsSetConfig c s
  | .nvsGetConfig c => Sys2Proof.Machine.execNvsGetConfig c s
  | .nvsEnable c => Sys2Proof.Machine.execNvsEnable c s
  | .nvsDisable c => Sys2Proof.Machine.execNvsDisable c s
  | .nvsResetInstance c => Sys2Proof.Machine.execNvsResetInstance c s
  | .nvsStore c => Sys2Proof.Machine.execNvsStore c s
  | .readSet c => Sys2Proof.Machine.execReadSet c s
  | .writeApp c => Sys2Proof.Machine.execWriteApp c s
  | .bundleLoad c => Sys2Proof.Machine.execBundleLoad c s
  | .adopt c => Sys2Proof.Machine.execAdopt c s
  | .updGetInfo c => Sys2Proof.Machine.execUpdGetInfo c s
  | .updGetStatus c => Sys2Proof.Machine.execUpdGetStatus c s
  | .updSetConfig c => Sys2Proof.Machine.execUpdSetConfig c s
  | .updGetConfig c => Sys2Proof.Machine.execUpdGetConfig c s
  | .updEnable c => Sys2Proof.Machine.execUpdEnable c s
  | .updDisable c => Sys2Proof.Machine.execUpdDisable c s
  | .updResetInstance c => Sys2Proof.Machine.execUpdResetInstance c s
  | .stageBegin c => Sys2Proof.Machine.execStageBegin c s
  | .stageChunk c => Sys2Proof.Machine.execStageChunk c s
  | .stageEnd c => Sys2Proof.Machine.execStageEnd c s
  | .activate c => Sys2Proof.Machine.execActivate c s
  | .updConfirm c => Sys2Proof.Machine.execUpdConfirm c s
  | .updAbort c => Sys2Proof.Machine.execUpdAbort c s
  | .pwrGetInfo c => Sys2Proof.Machine.execPwrGetInfo c s
  | .pwrGetStatus c => Sys2Proof.Machine.execPwrGetStatus c s
  | .pwrSetConfig c => Sys2Proof.Machine.execPwrSetConfig c s
  | .pwrGetConfig c => Sys2Proof.Machine.execPwrGetConfig c s
  | .pwrEnable c => Sys2Proof.Machine.execPwrEnable c s
  | .pwrDisable c => Sys2Proof.Machine.execPwrDisable c s
  | .pwrResetInstance c => Sys2Proof.Machine.execPwrResetInstance c s
  | .moduleReset c => Sys2Proof.Machine.execModuleReset c s
  | .shutdownAck c => Sys2Proof.Machine.execShutdownAck c s
  | .shutdownHold c => Sys2Proof.Machine.execShutdownHold c s
  | .domain c => Sys2Proof.Machine.execDomain c s
  | .cpDoorbell ring tail written => Sys2Proof.Machine.execCpDoorbell ring tail written s
  | .cpCqHead ring head => Sys2Proof.Machine.execCpCqHead ring head s
  | .ringEnable ring on => Sys2Proof.Machine.execRingEnable ring on s
  | .ringReset ring => Sys2Proof.Machine.execRingReset ring s
  | .ringResetDone ring => Sys2Proof.Machine.execRingResetDone ring s
  | .commandDispatch => Sys2Proof.Machine.execCommandDispatch s
  | .serviceDatagram dgram sender => Sys2Proof.Machine.execServiceDatagram dgram sender s
  | .reheatCanSegment data => Sys2Proof.Machine.execReheatCanSegment data s
  | .tbMtLo core => Sys2Proof.Machine.execTbMtLo core s
  | .tbConvIn core raw => Sys2Proof.Machine.execTbConvIn core raw s
  | .fxIn writer slot word narrow => Sys2Proof.Machine.execFxIn writer slot word narrow s
  | .canRxfHead lane ch word => Sys2Proof.Machine.execCanRxfHead lane ch word s
  | .canRxfDrops reader ch => Sys2Proof.Machine.execCanRxfDrops reader ch s
  | .evtPend line word bits => Sys2Proof.Machine.execEvtPend line word bits s
  | .evtMask line word bits => Sys2Proof.Machine.execEvtMask line word bits s
  | .evtQHead line word => Sys2Proof.Machine.execEvtQHead line word s
  | .evtQDrops line => Sys2Proof.Machine.execEvtQDrops line s
  | .registerWrite addr value => Sys2Proof.Machine.execRegisterWrite addr value s
  | .reservedAccess addr write => Sys2Proof.Machine.execReservedAccess addr write s
  | .frameStart inp => Sys2Proof.Machine.execFrameStart inp s
  | .tokenDecision => Sys2Proof.Machine.execTokenDecision s
  | .laneSelfFault lane check => Sys2Proof.Machine.execLaneSelfFault lane check s
  | .laneCorrectedEcc lane => Sys2Proof.Machine.execLaneCorrectedEcc lane s
  | .frameTickMissing => Sys2Proof.Machine.execFrameTickMissing s
  | .laneReloadDone lane ok => Sys2Proof.Machine.execLaneReloadDone lane ok s
  | .perLaneReset lane => Sys2Proof.Machine.execPerLaneReset lane s
  | .puntyTransferDone => Sys2Proof.Machine.execPuntyTransferDone s
  | .puntyTransferTimeout => Sys2Proof.Machine.execPuntyTransferTimeout s
  | .puntyRetry => Sys2Proof.Machine.execPuntyRetry s
  | .ppsOutEdge avail nav => Sys2Proof.Machine.execPpsOutEdge avail nav s
  | .correctionEffect => Sys2Proof.Machine.execCorrectionEffect s
  | .ref0MonitorTrip stopped => Sys2Proof.Machine.execRef0MonitorTrip stopped s
  | .refMismatch aonPpm => Sys2Proof.Machine.execRefMismatch aonPpm s
  | .ref1Stop => Sys2Proof.Machine.execRef1Stop s
  | .sourceLost => Sys2Proof.Machine.execSourceLost s
  | .ppsInEdge => Sys2Proof.Machine.execPpsInEdge s
  | .phFireInstant inst => Sys2Proof.Machine.execPhFireInstant inst s
  | .boostWaitExpiry inst => Sys2Proof.Machine.execBoostWaitExpiry inst s
  | .boostEnd inst reached => Sys2Proof.Machine.execBoostEnd inst reached s
  | .peakEnd inst => Sys2Proof.Machine.execPeakEnd inst s
  | .holdEnd inst => Sys2Proof.Machine.execHoldEnd inst s
  | .decayEnd inst => Sys2Proof.Machine.execDecayEnd inst s
  | .drvFaultDetect inst code => Sys2Proof.Machine.execDrvFaultDetect inst code s
  | .drvRetry inst => Sys2Proof.Machine.execDrvRetry inst s
  | .openLoadTest inst isOpen => Sys2Proof.Machine.execOpenLoadTest inst isOpen s
  | .clampUnavailable inst code on => Sys2Proof.Machine.execClampUnavailable inst code on s
  | .supOvercurrent sup => Sys2Proof.Machine.execSupOvercurrent sup s
  | .supRetry sup => Sys2Proof.Machine.execSupRetry sup s
  | .safetyCycle inp => Sys2Proof.Machine.execSafetyCycle inp s
  | .safetyTickMissing inp => Sys2Proof.Machine.execSafetyTickMissing inp s
  | .testPulse supply => Sys2Proof.Machine.execTestPulse supply s
  | .pulseCheck supply levels before => Sys2Proof.Machine.execPulseCheck supply levels before s
  | .safetyInputEdge sin level => Sys2Proof.Machine.execSafetyInputEdge sin level s
  | .safetyFilterExpiry sin => Sys2Proof.Machine.execSafetyFilterExpiry sin s
  | .resetRelease => Sys2Proof.Machine.execResetRelease s
  | .jackTripLine => Sys2Proof.Machine.execJackTripLine s
  | .jackBackstop => Sys2Proof.Machine.execJackBackstop s
  | .seatDelayExpiry => Sys2Proof.Machine.execSeatDelayExpiry s
  | .darkTest out jack ok => Sys2Proof.Machine.execDarkTest out jack ok s
  | .jackClockFail => Sys2Proof.Machine.execJackClockFail s
  | .lifeLineTimeout => Sys2Proof.Machine.execLifeLineTimeout s
  | .lockstepMismatch => Sys2Proof.Machine.execLockstepMismatch s
  | .safetyPduTx => Sys2Proof.Machine.execSafetyPduTx s
  | .safetyPduRx ch id data => Sys2Proof.Machine.execSafetyPduRx ch id data s
  | .pduWatchdog => Sys2Proof.Machine.execPduWatchdog s
  | .safetyStart test => Sys2Proof.Machine.execSafetyStart test s
  | .gnssEpoch meas sats => Sys2Proof.Machine.execGnssEpoch meas sats s
  | .gnssEpochPublish => Sys2Proof.Machine.execGnssEpochPublish s
  | .gnssPvt sol => Sys2Proof.Machine.execGnssPvt sol s
  | .rtcmFrame can frame => Sys2Proof.Machine.execRtcmFrame can frame s
  | .corrAged => Sys2Proof.Machine.execCorrAged s
  | .rtcmCanFrame data => Sys2Proof.Machine.execRtcmCanFrame data s
  | .antBiasFault ant cond => Sys2Proof.Machine.execAntBiasFault ant cond s
  | .antBiasRetry ant => Sys2Proof.Machine.execAntBiasRetry ant s
  | .lockLost ant chan => Sys2Proof.Machine.execLockLost ant chan s
  | .searchTimeout ant chan => Sys2Proof.Machine.execSearchTimeout ant chan s
  | .noSignal ant => Sys2Proof.Machine.execNoSignal ant s
  | .ant2Fallback toAnt2 => Sys2Proof.Machine.execAnt2Fallback toAnt2 s
  | .fusionCycle => Sys2Proof.Machine.execFusionCycle s
  | .fuseSample src x => Sys2Proof.Machine.execFuseSample src x s
  | .fusionClose => Sys2Proof.Machine.execFusionClose s
  | .fuseStatePublish => Sys2Proof.Machine.execFuseStatePublish s
  | .pocFault link => Sys2Proof.Machine.execPocFault link s
  | .pocRetry link => Sys2Proof.Machine.execPocRetry link s
  | .pocOpen link isOpen => Sys2Proof.Machine.execPocOpen link isOpen s
  | .poweringTimeout link => Sys2Proof.Machine.execPoweringTimeout link s
  | .backChannelLock link => Sys2Proof.Machine.execBackChannelLock link s
  | .blockLock link gained => Sys2Proof.Machine.execBlockLock link gained s
  | .linkBlock link block => Sys2Proof.Machine.execLinkBlock link block s
  | .backChannelMessage link msg => Sys2Proof.Machine.execBackChannelMessage link msg s
  | .backChannelWindow link => Sys2Proof.Machine.execBackChannelWindow link s
  | .timeSync link => Sys2Proof.Machine.execTimeSync link s
  | .hubLost link => Sys2Proof.Machine.execHubLost link s
  | .i2cRetryTimeout link => Sys2Proof.Machine.execI2cRetryTimeout link s
  | .fsyncEdge slot => Sys2Proof.Machine.execFsyncEdge slot s
  | .gatherLine line => Sys2Proof.Machine.execGatherLine line s
  | .pipeJobStart pipe => Sys2Proof.Machine.execPipeJobStart pipe s
  | .pipeJobDone pipe => Sys2Proof.Machine.execPipeJobDone pipe s
  | .pipeFault pipe code => Sys2Proof.Machine.execPipeFault pipe code s
  | .pipeSelfTestDone pipe code => Sys2Proof.Machine.execPipeSelfTestDone pipe code s
  | .noPipe slot => Sys2Proof.Machine.execNoPipe slot s
  | .visPreempt part => Sys2Proof.Machine.execVisPreempt part s
  | .visJobEnd part tensor => Sys2Proof.Machine.execVisJobEnd part tensor s
  | .visFault part code => Sys2Proof.Machine.execVisFault part code s
  | .modelLoadDone part kmp => Sys2Proof.Machine.execModelLoadDone part kmp s
  | .encAu stream au => Sys2Proof.Machine.execEncAu stream au s
  | .encStreamStop stream encFault => Sys2Proof.Machine.execEncStreamStop stream encFault s
  | .canFrameRx ch frame => Sys2Proof.Machine.execCanFrameRx ch frame s
  | .arbitrationOpportunity ch => Sys2Proof.Machine.execArbitrationOpportunity ch s
  | .canTxEnd ch result => Sys2Proof.Machine.execCanTxEnd ch result s
  | .busOffRecovered ch => Sys2Proof.Machine.execBusOffRecovered ch s
  | .heartbeatDue ch => Sys2Proof.Machine.execHeartbeatDue ch s
  | .can1Wake => Sys2Proof.Machine.execCan1Wake s
  | .ethFrameRx port frame => Sys2Proof.Machine.execEthFrameRx port frame s
  | .ethFrameTx port => Sys2Proof.Machine.execEthFrameTx port s
  | .gclChangeover port => Sys2Proof.Machine.execGclChangeover port s
  | .gateEvent port => Sys2Proof.Machine.execGateEvent port s
  | .launchTime port => Sys2Proof.Machine.execLaunchTime port s
  | .descriptorPoll => Sys2Proof.Machine.execDescriptorPoll s
  | .gptpMessage port msg => Sys2Proof.Machine.execGptpMessage port msg s
  | .gptpSyncTx port => Sys2Proof.Machine.execGptpSyncTx port s
  | .linkChange port up => Sys2Proof.Machine.execLinkChange port up s
  | .driveCycleStart => Sys2Proof.Machine.execDriveCycleStart s
  | .driveCycleEnd flips => Sys2Proof.Machine.execDriveCycleEnd flips s
  | .vlcdCompensation temp => Sys2Proof.Machine.execVlcdCompensation temp s
  | .counterWrite ok => Sys2Proof.Machine.execCounterWrite ok s
  | .eventRaise src given => Sys2Proof.Machine.execEventRaise src given s
  | .recordAccept => Sys2Proof.Machine.execRecordAccept s
  | .recordWrite found => Sys2Proof.Machine.execRecordWrite found s
  | .bucketRefill => Sys2Proof.Machine.execBucketRefill s
  | .bankFailed cause place => Sys2Proof.Machine.execBankFailed cause place s
  | .storeTaken => Sys2Proof.Machine.execStoreTaken s
  | .storeWritten verified => Sys2Proof.Machine.execStoreWritten verified s
  | .hoursWrite => Sys2Proof.Machine.execHoursWrite s
  | .slotSelection loads => Sys2Proof.Machine.execSlotSelection loads s
  | .stagingTimeout => Sys2Proof.Machine.execStagingTimeout s
  | .splitEnd => Sys2Proof.Machine.execSplitEnd s
  | .reheatEntry => Sys2Proof.Machine.execReheatEntry s
  | .keyHigh => Sys2Proof.Machine.execKeyHigh s
  | .keyLow => Sys2Proof.Machine.execKeyLow s
  | .shutdownGraceExpiry => Sys2Proof.Machine.execShutdownGraceExpiry s
  | .wakeInput => Sys2Proof.Machine.execWakeInput s
  | .parkTimeout => Sys2Proof.Machine.execParkTimeout s
  | .startMilestone => Sys2Proof.Machine.execStartMilestone s
  | .domainFault pd => Sys2Proof.Machine.execDomainFault pd s
  | .crank on => Sys2Proof.Machine.execCrank on s
  | .feedSwitch lane other => Sys2Proof.Machine.execFeedSwitch lane other s
  | .supplyLoss => Sys2Proof.Machine.execSupplyLoss s
  | .feedLow feed on => Sys2Proof.Machine.execFeedLow feed on s
  | .clockFail index => Sys2Proof.Machine.execClockFail index s
  | .resetN => Sys2Proof.Machine.execResetN s
  | .watchdog => Sys2Proof.Machine.execWatchdog s
  | .thermalStep code on => Sys2Proof.Machine.execThermalStep code on s
  | .profileStop inst => Sys2Proof.Machine.execProfileStop inst s
  | .diagnosticClearing inst code => Sys2Proof.Machine.execDiagnosticClearing inst code s
  | .qualifyingEdge fin level both => Sys2Proof.Machine.execQualifyingEdge fin level both s
  | .impact lsn peak => Sys2Proof.Machine.execImpact lsn peak s
  | .biasCheck inst found => Sys2Proof.Machine.execBiasCheck inst found s
  | .supTol sup out => Sys2Proof.Machine.execSupTol sup out s
  | .foldback supply on => Sys2Proof.Machine.execFoldback supply on s
  | .limitationSwitchOff out => Sys2Proof.Machine.execLimitationSwitchOff out s
  | .reacquisition ant chan => Sys2Proof.Machine.execReacquisition ant chan s
  | .receiveError ch inc => Sys2Proof.Machine.execReceiveError ch inc s
  | .vlcdReg out => Sys2Proof.Machine.execVlcdReg out s
  | .powerOn => Sys2Proof.Machine.execPowerOn s
  | .resetNRelease => Sys2Proof.Machine.execResetNRelease s
  | .restart => Sys2Proof.Machine.execRestart s
  | .overvoltage feed on => Sys2Proof.Machine.execOvervoltage feed on s

end Sys2Proof.Machine
end

