-- ==== Sys2Proof/Machine/StepOps.lean ====
section
/-! DEFINITION. The tick of an idle block, as the step makes it. -/

namespace Sys2Proof.Machine

open Sys2Proof

/-- With no command waiting the raw counter counts on by one (R31); a correction due takes effect (R37), and what the
power block has due happens (log entry 13). With PD1 off or in reset nothing counts. -/
def State.tick (s : State) : Host.Outcome State Fault Refusal :=
  if s.m.alive then s.power fun m => (m.until (m.now + 1)).timePoll.pwrPoll.darkPoll.jackPoll else .next s

/-- The state with its queue replaced (log entry 1). -/
def State.queue (s : State) (q : List Instr) : State := { s with pending := q }

end Sys2Proof.Machine
end

