-- ==== Sys2Proof/WellFormed.lean ====
section
/-! DEFINITION. Which commands are well formed: every index, length and code lies in the range the spec gives it. Commands
outside it have a meaning too; a packet that breaks a rule of Table 04-3 is answered by the checks of R99, not here. -/

namespace Sys2Proof

/-- `a ≤ n ≤ b`. -/
def inR (n a b : Nat) : Bool := decide (a ≤ n) && decide (n ≤ b)

/-- A packet came by a ring 0–15, and its parameter bytes are those its length field gives, 240 at most (Table 04-3). -/
def Cmd.wf (c : Cmd) : Bool := decide (c.ring < 16) && decide (c.params.length = min 240 c.plen.toNat)

/-- The samples of a frame name elements that exist (Table 07-1), and its early self-faults checks 1–6 (Table 03-1). -/
def FrameIn.wf (f : FrameIn) : Bool :=
  f.ain.all (fun x => decide (x.idx < 64)) && f.linkBadA.all (fun k => decide (k < 512))
    && f.linkBadB.all (fun k => decide (k < 512)) && f.imu.all (fun x => decide (x.imu < 3) && decide (x.vals.length = 6))
    && f.drv.all (fun x => decide (x.inst < 64)) && f.sup.all (fun x => decide (x.1 < 8))
    && f.early.all (fun x => inR x.2 1 6) && f.soft.all (fun x => decide (x.1 < 128))

/-- A command is well formed. -/
def Instr.wf : Instr → Bool
  | .sysGetInfo c | .sysGetStatus c | .sysSetConfig c | .sysGetConfig c | .sysEnable c | .sysDisable c
  | .sysResetInstance c | .fence c | .barrier c | .snapshot c | .holdFrames c | .snapshotRead c | .snapshotRelease c
  | .frameAtTime c | .sessionOpen c | .sessionProve c | .timeGetInfo c | .timeGetStatus c | .timeSetConfig c
  | .timeGetConfig c | .timeEnable c | .timeDisable c | .timeResetInstance c | .setSource c | .scheduleCorrection c
  | .setPps c | .readTime c | .laneGetInfo c | .laneGetStatus c | .laneSetConfig c | .laneGetConfig c | .laneEnable c
  | .laneDisable c | .laneResetInstance c | .forceTakeover c | .setRedundancy c | .getLaneStats c | .clearLaneStats c
  | .loopGetInfo c | .loopGetStatus c | .loopSetConfig c | .loopGetConfig c | .loopEnable c | .loopDisable c
  | .loopResetInstance c | .setMode c | .setSetpoint c | .setBreakpoints c | .writeSchedule c | .writeCoeff c
  | .readTable c | .drvGetInfo c | .drvGetStatus c | .drvSetConfig c | .drvGetConfig c | .drvEnable c | .drvDisable c
  | .drvResetInstance c | .setOutput c | .phFire c | .phStop c | .clearFault c | .inpGetInfo c | .inpGetStatus c
  | .inpSetConfig c | .inpGetConfig c | .inpEnable c | .inpDisable c | .inpResetInstance c | .bindSlot c
  | .readSlot c | .readVector c | .safeGetInfo c | .safeGetStatus c | .safeSetConfig c | .safeGetConfig c
  | .safeEnable c | .safeDisable c | .safeResetInstance c | .serviceMode c | .confirmParams c | .canGetInfo c
  | .canGetStatus c | .canSetConfig c | .canGetConfig c | .canEnable c | .canDisable c | .canResetInstance c
  | .rxRead c | .transmit c | .canAbort c | .recover c | .resume c | .setLanePdu c | .setSignal c | .ethGetInfo c
  | .ethGetStatus c | .ethSetConfig c | .ethGetConfig c | .ethEnable c | .ethDisable c | .ethResetInstance c
  | .setGcl c | .setVlan c | .hostRings c | .gnssGetInfo c | .gnssGetStatus c | .gnssSetConfig c | .gnssGetConfig c
  | .gnssEnable c | .gnssDisable c | .gnssResetInstance c | .sendRtcm c | .getSats c | .gnssRestart c
  | .fuseGetInfo c | .fuseGetStatus c | .fuseSetConfig c | .fuseGetConfig c | .fuseEnable c | .fuseDisable c
  | .fuseResetInstance c | .writeTransform c | .clearCullet c | .pushSample c | .pathLoad c | .pathActivate c
  | .readTransform c | .clnkGetInfo c | .clnkGetStatus c | .clnkSetConfig c | .clnkGetConfig c | .clnkEnable c
  | .clnkDisable c | .clnkResetInstance c | .setSlot c | .fsyncAt c | .i2cXfer c | .clnkGetSlotStatus c
  | .pipeGetInfo c | .pipeGetStatus c | .pipeSetConfig c | .pipeGetConfig c | .pipeEnable c | .pipeDisable c
  | .pipeResetInstance c | .setContext c | .selectContext c | .writeCtxTable c | .getContext c | .pipeGetSlotStatus c
  | .encStart c | .encStop c | .encForceIdr c | .encGetStatus c | .encSetRate c | .visGetInfo c | .visGetStatus c
  | .visSetConfig c | .visGetConfig c | .visEnable c | .visDisable c | .visResetInstance c | .modelLoad c
  | .modelUnload c | .submit c | .cancel c | .segGetInfo c | .segGetStatus c | .segSetConfig c | .segGetConfig c
  | .segEnable c | .segDisable c | .segResetInstance c | .writeRows c | .setStartImage c | .readCounters c
  | .clearCounters c | .readImage c | .evtGetInfo c | .evtGetStatus c | .evtSetConfig c | .evtGetConfig c
  | .evtEnable c | .evtDisable c | .evtResetInstance c | .raiseTest c | .getRoutes c | .logGetInfo c
  | .logGetStatus c | .logSetConfig c | .logGetConfig c | .logEnable c | .logDisable c | .logResetInstance c
  | .logRead c | .logClear c | .nvsGetInfo c | .nvsGetStatus c | .nvsSetConfig c | .nvsGetConfig c | .nvsEnable c
  | .nvsDisable c | .nvsResetInstance c | .nvsStore c | .readSet c | .writeApp c | .bundleLoad c | .adopt c
  | .updGetInfo c | .updGetStatus c | .updSetConfig c | .updGetConfig c | .updEnable c | .updDisable c
  | .updResetInstance c | .stageBegin c | .stageChunk c | .stageEnd c | .activate c | .updConfirm c | .updAbort c
  | .pwrGetInfo c | .pwrGetStatus c | .pwrSetConfig c | .pwrGetConfig c | .pwrEnable c | .pwrDisable c
  | .pwrResetInstance c | .moduleReset c | .shutdownAck c | .shutdownHold c | .domain c => c.wf
  | .sessionIdleTimeout ring => inR ring 12 13
  | .cpDoorbell ring _ written => decide (ring < 12) && decide (written.length ≤ 256) && written.all fun b => decide (b.length = 256)
  | .cpCqHead ring _ => decide (ring < 12)
  | .ringEnable ring _ => decide (ring < 12)
  | .ringReset ring => decide (ring < 12)
  | .ringResetDone ring => decide (ring < 16)
  | .serviceDatagram dgram _ => inR dgram.length 8 280
  | .reheatCanSegment data => decide (data.length = 8)
  | .tbMtLo core => decide (core < 8)
  | .tbConvIn core _ => decide (core < 8)
  | .fxIn writer slot _ _ => inR writer 1 5 && decide (slot < 256)
  | .canRxfHead _ ch word => decide (ch < 8) && decide (word < 20)
  | .canRxfDrops _ ch => decide (ch < 8)
  | .evtPend line word _ => decide (line < 8) && decide (word < 4)
  | .evtMask line word _ => decide (line < 8) && decide (word < 4)
  | .evtQHead line word => decide (line < 8) && decide (word < 4)
  | .evtQDrops line => decide (line < 8)
  | .registerWrite addr _ => decide (addr < 2 ^ 35)
  | .reservedAccess at' _ => decide (at'.addr < 2 ^ 35) && decide (at'.core < 8)
  | .frameStart inp => inp.wf
  | .laneSelfFault _ check => inR check 1 6
  | .ppsOutEdge avail nav => (avail.all fun p => decide (p.1 < 4))
      && nav.all fun n => decide (n.tai < 65536) && decide (n.step.natAbs ≤ 1) && decide (n.at' < 2 ^ 48)
  | .phFireInstant inst => decide (inst < 48)
  | .boostWaitExpiry inst => decide (inst < 48)
  | .boostEnd inst _ => decide (inst < 48)
  | .peakEnd inst => decide (inst < 48)
  | .holdEnd inst => decide (inst < 48)
  | .decayEnd inst => decide (inst < 48)
  | .drvFaultDetect inst code => decide (inst < 79) && (inR code 1 15 || code == 0x109)
  | .drvRetry inst => decide (inst < 79)
  | .openLoadTest inst _ => decide (inst < 64)
  | .clampUnavailable inst code _ => decide (inst < 48) && (code == 10 || code == 15)
  | .supOvercurrent sup => decide (sup < 8)
  | .supRetry sup => decide (sup < 8)
  | .testPulse supply => decide (supply < 2)
  | .pulseCheck supply _ _ => decide (supply < 2)
  | .safetyInputEdge sin _ => decide (sin < 24)
  | .safetyFilterExpiry sin => decide (sin < 24)
  | .darkTest out _ _ => decide (out < 8)
  | .safetyPduRx ch _ data => inR ch 6 7 && decide (data.length ≤ 64)
  | .gnssEpoch meas _ => meas.all fun x => decide (x.ant < 2) && decide (x.chan < 96)
  | .rtcmFrame _ frame => decide (frame.length ≤ 1029)
  | .rtcmCanFrame data => decide (data.length ≤ 64)
  | .antBiasFault ant _ => decide (ant < 2)
  | .antBiasRetry ant => decide (ant < 2)
  | .lockLost ant chan => decide (ant < 2) && decide (chan < 96)
  | .searchTimeout ant chan => decide (ant < 2) && decide (chan < 96)
  | .noSignal ant => decide (ant < 2)
  | .fuseSample src _ => decide (src < 32)
  | .pocFault link => decide (link < 3)
  | .pocRetry link => decide (link < 3)
  | .pocOpen link _ => decide (link < 3)
  | .poweringTimeout link => decide (link < 3)
  | .backChannelLock link => decide (link < 3)
  | .blockLock link _ => decide (link < 3)
  | .linkBlock link _ => decide (link < 3)
  | .backChannelMessage link _ => decide (link < 3)
  | .backChannelWindow link => decide (link < 3)
  | .timeSync link => decide (link < 3)
  | .hubLost link => decide (link < 3)
  | .i2cRetryTimeout link => decide (link < 3)
  | .fsyncEdge slot => decide (slot < 12)
  | .gatherLine line => decide (line.slot < 12) && (line.fault == 0 || line.fault == 2 || line.fault == 3)
  | .pipeJobStart pipe => decide (pipe < 2)
  | .pipeJobDone pipe => decide (pipe < 2)
  | .pipeFault pipe code => decide (pipe < 2) && inR code 1 3
  | .pipeSelfTestDone pipe _ => decide (pipe < 2)
  | .noPipe slot => decide (slot < 12)
  | .visPreempt part => decide (part < 2)
  | .visJobEnd part _ => decide (part < 2)
  | .visFault part code => decide (part < 2) && inR code 1 3
  | .modelLoadDone part _ => decide (part < 2)
  | .encAu stream _ => decide (stream < 4)
  | .encStreamStop stream _ => decide (stream < 4)
  | .canFrameRx ch frame => decide (ch < 8) && decide (frame.data.length ≤ 64)
  | .arbitrationOpportunity ch => decide (ch < 8)
  | .canTxEnd ch _ => decide (ch < 8)
  | .busOffRecovered ch => decide (ch < 8)
  | .heartbeatDue ch => decide (ch < 8)
  | .ethFrameRx port _ => decide (port < 6)
  | .ethFrameTx port => decide (port < 6)
  | .gclChangeover port => decide (port < 6)
  | .gateEvent port => decide (port < 6)
  | .launchTime port => decide (port < 6)
  | .gptpMessage port _ => decide (port < 6)
  | .gptpSyncTx port => decide (port < 6)
  | .linkChange port _ => decide (port < 6)
  | .eventRaise src given => decide (src < 128) && given.line.all (fun k => inR k 0x2000000 0x11FFFFFF)
  | .bankFailed cause _ => inR cause 1 3
  | .slotSelection loads => decide (loads.length ≤ 2)
  | .domainFault pd => inR pd 2 10
  | .feedLow feed _ => decide (feed < 5)
  | .clockFail index => decide (index < 12)
  | .thermalStep code _ => inR code 1 4
  | .profileStop inst => decide (inst < 48)
  | .diagnosticClearing inst code => decide (inst < 79) && inR code 1 15
  | .qualifyingEdge fin _ _ => decide (fin < 32)
  | .impact lsn _ => decide (lsn < 8)
  | .biasCheck inst _ => inR inst 64 103
  | .supTol sup _ => decide (sup < 8)
  | .foldback supply _ => decide (supply < 2)
  | .limitationSwitchOff out => decide (out < 8)
  | .reacquisition ant chan => decide (ant < 2) && decide (chan < 96)
  | .receiveError ch _ => decide (ch < 8)
  | .overvoltage feed _ => decide (feed < 5)
  | .safetyStart _ | .snapshotExpiry | .forcedSilence | .serviceModeTimeout | .commandDispatch | .tokenDecision | .laneCorrectedEcc _
  | .frameTickMissing | .laneReloadDone _ _ | .perLaneReset _ | .puntyTransferDone | .puntyTransferTimeout
  | .puntyRetry | .correctionEffect | .ref0MonitorTrip _ | .refMismatch _ | .ref1Stop | .sourceLost | .ppsInEdge
  | .safetyCycle _ | .safetyTickMissing _ | .resetRelease | .jackTripLine | .jackBackstop | .seatDelayExpiry
  | .jackClockFail | .lifeLineTimeout | .lockstepMismatch | .safetyPduTx | .pduWatchdog
  | .gnssEpochPublish | .gnssPvt _ | .corrAged | .ant2Fallback _ | .fusionCycle | .fusionClose | .fuseStatePublish
  | .can1Wake | .descriptorPoll | .driveCycleStart | .driveCycleEnd _ | .vlcdCompensation _ | .counterWrite _
  | .recordAccept | .recordWrite _ | .bucketRefill | .storeTaken | .storeWritten _ | .hoursWrite | .stagingTimeout
  | .splitEnd | .reheatEntry | .keyHigh | .keyLow | .shutdownGraceExpiry | .wakeInput | .parkTimeout
  | .startMilestone | .crank _ | .feedSwitch _ _ | .supplyLoss | .resetN | .watchdog | .vlcdReg _ | .powerOn
  | .resetNRelease | .restart => true

end Sys2Proof
end

