-- ==== Sys2Proof/Safety.lean ====
section
/-! DEFINITION. The words the statements use: the canonical form of SDRAM, when a command is served, and what its
completion leaves. -/

namespace Sys2Proof.Machine

open Sys2Proof

/-- SDRAM in its canonical form: addresses rise strictly, no listed byte is what an unlisted one reads as, and every listed
address lies in SDRAM. -/
def Memory.wf (mem : List Host.Cell) : Bool := Tab.wf 0 mem && mem.all fun e => isSdram e.1

/-- The outcome is a next state of which `p` holds. -/
def Goes (o : Host.Outcome State Fault Refusal) (p : State → Prop) : Prop := ∃ t, o = .next t ∧ p t

/-- The outcome is the state with the module `m`; the queue, SDRAM stays as it is. -/
def Becomes (o : Host.Outcome State Fault Refusal) (s : State) (m : Mod) : Prop := o = .next { s with m := m }

/-- The outcome is the state with the module `m`; SDRAM keeps its bytes while PD5 is on and has none left with PD5 off. -/
def Powers (o : Host.Outcome State Fault Refusal) (s : State) (m : Mod) : Prop :=
  o = .next { s with m := m, mem := if m.pd 5 then s.mem else [] }

/-- The Command Port serves a command: its ring takes commands (R19, R436), the checks of R99 pass, and, where the command
is frame-stamped, it names the present frame and a half holds the token (R85, R102). -/
def Served (s : State) (opcode : Nat) (o : Op) (c : Cmd) : Prop :=
  s.m.takes c.ring = true ∧ s.m.portCheck opcode o c = none
    ∧ (o.stamped c = true → s.m.namesNow opcode c = true ∧ s.m.lanes.redundancy ≠ 5)

/-- The commit frame a final completion carries (R95): the present frame where the command is frame-stamped and its
status is OK or FAULT, else 0. -/
def cframeOf (o : Op) (c : Cmd) (st : Nat) (m : Mod) : Nat :=
  if o.stamped c && (st == St.ok || st == St.fault) then m.lanes.frame else 0

/-- A served command for which `cond` holds ends at once: the module becomes `m`, takes one completion with status `st` and
the reply, and fences that waited for no more end with it. The queue, SDRAM stays as it is. -/
def Ends (s : State) (opcode : Nat) (o : Op) (c : Cmd) (out : Host.Outcome State Fault Refusal) (cond : Prop) (st : Nat)
    (m : Mod) (reply : Bytes) : Prop :=
  Served s opcode o c → cond → Becomes out s (m.complete opcode c st reply (cframeOf o c st m)).settle

/-- A served command for which `cond` holds is done: status OK. -/
def Does (s : State) (opcode : Nat) (o : Op) (c : Cmd) (out : Host.Outcome State Fault Refusal) (cond : Prop)
    (m : Mod) (reply : Bytes) : Prop := Ends s opcode o c out cond St.ok m reply

/-- A command in flight, with what it waits for. -/
def flightOf (s : State) (opcode : Nat) (c : Cmd) (waits : List (Nat × BitVec 32)) : Flight :=
  { cmd := c, opcode := opcode, idx := (s.m.ring c.ring).sqHead - 1, waits := waits }

/-- A served command for which `cond` holds is started: the module becomes `m` with the command in flight, and an
ACCEPTED completion with the reply follows, with the frame where the command is frame-stamped (R95, R96). -/
def Starts (s : State) (opcode : Nat) (o : Op) (c : Cmd) (out : Host.Outcome State Fault Refusal) (cond : Prop)
    (m : Mod) (reply : Bytes) : Prop :=
  Served s opcode o c → cond →
    Becomes out s ((m.fly (flightOf s opcode c [])).complete opcode c St.accepted reply
      (if o.stamped c then m.lanes.frame else 0)).settle

/-- A served command for which `cond` holds is under way with its one completion still to come: the module becomes `m`
with the command in flight. -/
def Waits (s : State) (opcode : Nat) (o : Op) (c : Cmd) (out : Host.Outcome State Fault Refusal) (cond : Prop)
    (m : Mod) (waits : List (Nat × BitVec 32)) : Prop :=
  Served s opcode o c → cond → Becomes out s (m.fly (flightOf s opcode c waits)).settle

/-- The header of a packet is sound for an operation that is not frame-stamped: flags, reserved field and commit_frame
(Tables 04-3, 04-4). -/
def plainHeader (c : Cmd) : Prop :=
  c.rsvd = 0 ∧ c.flags.toNat < 16 ∧ c.flags.toNat.testBit 3 = false ∧ c.cframe = 0

/-- A ring takes commands while no half holds the token: redundancy NO_LANE (R71). -/
def NoToken (s : State) (r : Nat) : Prop := s.m.takes r = true ∧ s.m.lanes.redundancy = 5

/-- Commands that reset or power parts of the module: SDRAM stands or is lost as a whole (R429, R435, R437). -/
def resetsOrPowers : Instr → Bool
  | .moduleReset _ | .shutdownAck _ | .frameStart _ | .frameTickMissing | .ref0MonitorTrip _ | .refMismatch _ | .ref1Stop
  | .can1Wake | .slotSelection _ | .reheatEntry | .keyHigh | .shutdownGraceExpiry | .wakeInput | .parkTimeout
  | .startMilestone | .domainFault _ | .supplyLoss | .clockFail _ | .resetN | .watchdog | .thermalStep _ _ | .powerOn
  | .resetNRelease | .restart => true
  | _ => false

/-- Commands that may store to SDRAM or drop it: the host rings of the switch (R356), a tensor (R310), a store of the
application (R28), dispatch of any command, and those that reset or power. -/
def mayStore : Instr → Bool
  | .ethDisable _ | .ethResetInstance _ | .ethFrameRx _ _ | .ethFrameTx _ | .launchTime _ | .descriptorPoll | .gptpSyncTx _
  | .linkChange _ _ | .visJobEnd _ _ | .registerWrite _ _ | .commandDispatch | .serviceDatagram _ _ | .reheatCanSegment _ | .canFrameRx _ _ => true
  | .eventRaise _ given => given.line.isSome
  | i => resetsOrPowers i

end Sys2Proof.Machine
end

