-- ==== Sys2Proof/Certificates/Slice0/Obligations.lean ====
section
/-! DEFINITION. The statements for the provers. Groups of commands state what each command answers: the whole next state, so
that everything not named stays as it was. -/

set_option Elab.async false

open Sys2Proof Sys2Proof.Machine

/-- A step takes the command at the front of the queue and answers what `exec` answers on the rest. The queue is the
model's own (log entry 1). -/
def Obligations.StepRunsFrontCommand : Prop :=
  ∀ (i : Instr) (l : List Instr) (s : State), s.pending = i :: l → step s = exec i (s.queue l)

/-- The idle step is the model's choice (log entry 13): the raw counter of R31 counts on by one, and what is due at the
new count happens. -/
def Obligations.IdleStepTicks : Prop :=
  (∀ s : State, s.pending = [] → s.m.alive = true →
      Powers (step s) s (s.m.until (s.m.now + 1)).timePoll.pwrPoll.darkPoll.jackPoll)
  ∧ (∀ s : State, s.pending = [] → s.m.alive = false → step s = .next s)

/-- No command stops the block: every one has an effect or none, and the queue belongs to the step alone. -/
def Obligations.EveryCommandAnswers : Prop :=
  ∀ (i : Instr) (s : State), ∃ t, exec i s = .next t ∧ t.pending = s.pending

/-- SDRAM in its canonical form, with no byte off the SDRAM regions of Table 01-6, stays so over every step, whatever the
command and whatever addresses descriptors and commands carry. -/
def Obligations.StepKeepsMemoryForm : Prop :=
  ∀ s t : State, Memory.wf s.mem = true → step s = .next t → Memory.wf t.mem = true

/-- What reset leaves. That the model starts as PD1 has just come up, in PARK with no lane, is its reading of the start
(log entry 2). -/
def Obligations.ResetValues : Prop :=
  State.reset.mem = [] ∧ Memory.wf State.reset.mem = true ∧ State.reset.m.poison = [] ∧ State.reset.pending = []
  ∧ State.reset.m.now = 0 ∧ State.reset.m.lanes.frame = 0
  ∧ (∀ l : Lane, (State.reset.m.lane l).st = .off) ∧ State.reset.m.lanes.redundancy = 5
  ∧ (∀ r : Nat, let x := State.reset.m.ring r
      x.sqTail = 0 ∧ x.sqHead = 0 ∧ x.cqTail = 0 ∧ x.cqHead = 0 ∧ x.enable = false ∧ x.errCode = 0 ∧ x.cqWait = false)
  ∧ (∀ l : Nat, (State.reset.m.intLine l).pend = 0 ∧ (State.reset.m.intLine l).q = [] ∧ (State.reset.m.intLine l).drops = 0)
  ∧ State.reset.m.alive = true ∧ State.reset.m.pwr.mode = .park

/-- The frame of SDRAM: operations, register accesses and events of the engines leave it alone. The ones that may store or
drop it (`mayStore`) are the host rings of the Ethernet switch, a tensor store, an application store, dispatch, and
what resets or powers PD5. -/
def Obligations.OthersKeepSdram : Prop :=
  ∀ (i : Instr) (s t : State), mayStore i = false → exec i s = .next t →
      t.mem = s.mem ∧ ∀ a : Nat, s.m.poison.contains (a / 64) = false → t.m.poison.contains (a / 64) = false → t.readByte a = s.readByte a

/-- SDRAM keeps its bytes while PD5 stays on and loses all of them with PD5 off. -/
def Obligations.ResetsKeepOrDropSdram : Prop :=
  ∀ (i : Instr) (s t : State), resetsOrPowers i = true → exec i s = .next t →
      (t.m.pd 5 = false → t.mem = [])
      ∧ (t.m.pd 5 = true → (∀ k, i ≠ .clockFail k) → t.mem = s.mem)
      ∧ (t.mem = s.mem ∨ t.mem = [])

/-- R93: one command per ring per turn over all rings with commands waiting, and no ring has priority. -/
def Obligations.DispatchRoundRobin : Prop :=
  ∀ (s : State) (r : Nat), s.m.alive = true → s.m.port.running = true → s.m.port.turn < 16 → r < 16 →
      s.m.markWaits.ringReady r = true → s.m.markWaits.ringSpace r = true →
      (∀ k : Nat, k < (r + 16 - s.m.port.turn) % 16 →
        s.m.markWaits.ringReady ((s.m.port.turn + k) % 16) = false ∨ s.m.markWaits.ringSpace ((s.m.port.turn + k) % 16) = false) →
      exec .commandDispatch s = .next (State.dispatchRing
        { s with m := { s.m.markWaits with port := { s.m.markWaits.port with turn := (r + 1) % 16 } } } r)

/-- R91 for every ring; rings 12–15 always have 256 free slots (log entry 8). -/
def Obligations.CompletionSpace : Prop :=
  (∀ (m : Mod) (r : Nat), r < 12 →
      (m.ringSpace r = true ↔ 2 * m.port.inFlight r + 2 ≤ 256 - ((m.ring r).cqTail - (m.ring r).cqHead).toNat))
  ∧ (∀ (m : Mod) (r : Nat), 12 ≤ r → (m.ringSpace r = true ↔ 2 * m.port.inFlight r + 2 ≤ 256))
  ∧ (∀ (m : Mod) (r : Nat), r < 16 → (m.markWaits.ring r).cqWait = (m.ringReady r && !m.ringSpace r))
  ∧ (∀ s : State, s.m.alive = true → s.m.port.running = true →
      (∀ r, r < 16 → s.m.markWaits.ringReady r = true → s.m.markWaits.ringSpace r = false) →
      exec .commandDispatch s = .next { s with m := s.m.markWaits })
  ∧ (∀ (m : Mod) (opcode : Nat) (c : Cmd) (st frame : Nat) (reply : Bytes), c.ring < 12 →
      ((m.complete opcode c st reply frame).ring c.ring).cqTail = (m.ring c.ring).cqTail + 1
      ∧ Tab.get [] ((m.complete opcode c st reply frame).ring c.ring).cq ((m.ring c.ring).cqTail.toNat % 256)
          = completion opcode c.tag.toNat st frame reply)

/-- R95 and Table 04-5. -/
def Obligations.CompletionLayout : Prop :=
  ∀ (opcode tag st frame : Nat) (reply : Bytes), opcode < 2 ^ 16 → tag < 2 ^ 16 → st < 2 ^ 16 → frame < 2 ^ 64 →
      reply.length ≤ 240 →
      let b := completion opcode tag st frame reply
      rd b 0 2 = opcode ∧ rd b 2 2 = tag ∧ rd b 4 2 = st ∧ rd b 6 2 = reply.length ∧ rd b 8 8 = frame
        ∧ slice b 16 reply.length = reply ∧ ∀ k : Nat, 16 + reply.length ≤ k → rd b k 1 = 0

/-- R99: the order of the checks, and that a command they reject has no effect. -/
def Obligations.CheckOrder : Prop :=
  ∀ (s : State) (opcode : Nat) (c : Cmd), s.m.takes c.ring = true →
      let ends := fun st => s.m.take opcode c = s.m.complete opcode c st [] 0
      (240 < c.plen.toNat → ends St.badLength)
      ∧ (c.plen.toNat ≤ 240 → opOf opcode = none → ends St.badOpcode)
      ∧ ∀ o : Op, opOf opcode = some o → c.plen.toNat ≤ 240 →
        (o.len c = false → ends St.badLength)
        ∧ (o.len c = true → o.insts ≤ c.inst.toNat ∨ (∃ k, o.only = some k ∧ c.inst.toNat ≠ k) → ends St.badInstance)
        ∧ (o.len c = true → c.inst.toNat < o.insts → (∀ k, o.only = some k → c.inst.toNat = k) →
          (c.rsvd ≠ 0 ∨ 16 ≤ c.flags.toNat ∨ (o.stamped c = false ∧ (c.flags.toNat.testBit 3 = true ∨ c.cframe ≠ 0)) →
            ends St.badParam)
          ∧ (c.rsvd = 0 → c.flags.toNat < 16 → (o.stamped c = true ∨ (c.flags.toNat.testBit 3 = false ∧ c.cframe = 0)) →
            (s.m.allowed opcode c = false → ends St.denied)
            ∧ (o.never = false → s.m.allowed opcode c = true → lockedOp opcode c.inst.toNat = true → s.m.safe.unlocked = false →
              ends St.locked)))

/-- R59. -/
def Obligations.CorrectedErrorReported : Prop :=
  (∀ (s : State) (l : Lane), (s.m.lane l).st ≠ .off →
      Becomes (exec (.laneCorrectedEcc l) s) s
        (Mod.raise { s.m with stats := { s.m.stats with corrected := inc32 s.m.stats.corrected } } (match l with | .a => 1 | .b => 2) 0)
      ∧ ∀ k : Lane, (Mod.raise { s.m with stats := { s.m.stats with corrected := inc32 s.m.stats.corrected } }
          (match l with | .a => 1 | .b => 2) 0).lane k = s.m.lane k)
  ∧ (∀ (s : State) (l : Lane), (s.m.lane l).st = .off → Becomes (exec (.laneCorrectedEcc l) s) s s.m)

/-- R274. The raise of the link event is Table 11-7 and is not claimed here. -/
def Obligations.BadBlockDiscarded : Prop :=
  ∀ (s : State) (k : Nat) (block : Bytes), k ≤ 2 → s.m.pd 7 = true → (s.m.link k).locked = true →
      block.length = 256 → crc32 (block.take 252) ≠ rd block 252 4 →
      ∃ t, exec (.linkBlock k block) s = .next t ∧ (t.m.link k).badBlocks = inc32 (s.m.link k).badBlocks
        ∧ (∀ j, j ≠ k → t.m.link j = s.m.link j) ∧ (t.m.link k).st = (s.m.link k).st
        ∧ (t.m.link k).blocks = (s.m.link k).blocks ∧ (t.m.link k).queue = (s.m.link k).queue
        ∧ (∀ n, t.m.rx n = s.m.rx n)
        ∧ t.m.pipes = s.m.pipes ∧ t.m.lanes = s.m.lanes ∧ t.mem = s.mem

/-- R331 for each of the three FIFOs of a channel, which all take a frame by this one operation. -/
def Obligations.FullFifoDrops : Prop :=
  (∀ (x : RxFifo) (f : CanFrame) (seq : BitVec 32) (sof : Nat), 512 ≤ x.q.length →
      (x.write f seq sof).q = x.q ∧ (x.write f seq sof).drops = inc32 x.drops)
  ∧ (∀ (x : RxFifo) (f : CanFrame) (seq : BitVec 32) (sof : Nat), x.q.length < 512 →
      (x.write f seq sof).drops = x.drops ∧ ∃ e, (x.write f seq sof).q = x.q ++ [e])

/-- R375. -/
def Obligations.FixedRoutes : Prop :=
  (∀ (c : Cmd) (s : State), Ends s 0x1003 opEvtSetConfig c (exec (.evtSetConfig c) s)
      ((c.inst.toNat < 16 ∨ (64 ≤ c.inst.toNat ∧ c.inst.toNat ≤ 71) ∨ (118 ≤ c.inst.toNat ∧ c.inst.toNat ≤ 127))
        ∧ ((rd c.params 0 2).testBit 10 = false ∨ (rd c.params 0 2).testBit 11 = false))
      St.badParam s.m [])
  ∧ (∀ i : Nat, i < 16 ∨ (64 ≤ i ∧ i ≤ 71) ∨ (118 ≤ i ∧ i ≤ 127) →
      (rd (State.reset.m.evtRec i) 0 2).testBit 10 = true ∧ (rd (State.reset.m.evtRec i) 0 2).testBit 11 = true)

/-- R418, and the status FAULT of 0x1314. The reply is that of 0x1314. -/
def Obligations.ConfirmMakesConfirmed : Prop :=
  (∀ (c : Cmd) (s : State) (j k : Nat), Does s 0x1314 opUpdConfirm c (exec (.updConfirm c) s)
      (s.m.upd.act = none ∧ ((List.range 2).find? fun n => decide ((s.m.slot n).st = .trial) && !(s.m.slot n).armed) = some k
        ∧ s.m.confirmedSlot = some j ∧ (s.m.slot k).arb ≤ s.m.upd.otp)
      (let m := s.m.setSlot j { s.m.slot j with st := if s.m.upd.otp ≤ (s.m.slot j).arb then .staged else .invalid }
      (m.setSlot k { m.slot k with st := .confirmed }).updEv 123 k 5)
      (le 1 s.m.upd.otp ++ zeros 3))
  ∧ (∀ (c : Cmd) (s : State) (j k : Nat), Ends s 0x1314 opUpdConfirm c (exec (.updConfirm c) s)
      (s.m.upd.act = none ∧ ((List.range 2).find? fun n => decide ((s.m.slot n).st = .trial) && !(s.m.slot n).armed) = some k
        ∧ s.m.confirmedSlot = some j ∧ s.m.upd.otp < (s.m.slot k).arb ∧ s.m.draw.1.toNat.testBit 0 = false)
      St.ok
      (let m := s.m.draw.2.setSlot j { s.m.slot j with st := if (s.m.slot k).arb ≤ (s.m.slot j).arb then .staged else .invalid }
      let m := m.setSlot k { m.slot k with st := .confirmed }
      Mod.updEv { m with upd := { m.upd with otp := (s.m.slot k).arb } } 123 k 5)
      (le 1 (s.m.slot k).arb ++ zeros 3))
  ∧ (∀ (c : Cmd) (s : State) (j k : Nat), Ends s 0x1314 opUpdConfirm c (exec (.updConfirm c) s)
      (s.m.upd.act = none ∧ ((List.range 2).find? fun n => decide ((s.m.slot n).st = .trial) && !(s.m.slot n).armed) = some k
        ∧ s.m.confirmedSlot = some j ∧ s.m.upd.otp < (s.m.slot k).arb ∧ s.m.draw.1.toNat.testBit 0 = true)
      St.fault
      (let m := s.m.draw.2.setSlot j { s.m.slot j with st := if s.m.upd.otp ≤ (s.m.slot j).arb then .staged else .invalid }
      (m.setSlot k { m.slot k with st := .confirmed }).updEv 123 k 5)
      (le 1 s.m.upd.otp ++ zeros 3))

/-- The frame of the one store of the vision array (R310, R313). -/
def Obligations.TensorStore : Prop :=
  ∀ (s : State) (p q : Nat) (written : Bytes) (j : VisJob) (d : Model),
      p ≤ 1 → s.m.pd 6 = true → s.m.visStuck p = false → s.m.visNow p = some (q, j, d) → j.aborted = false →
      rd j.cmd.params 16 8 ≠ 0 → Memory.wf s.mem = true →
      let addr := rd j.cmd.params 16 8
      let tensor := slice written 0 d.kmp.outBytes
      ∃ t, exec (.visJobEnd p written) s = .next t ∧ t.mem = (s.writeMem addr tensor).mem
        ∧ (∀ k, k < tensor.length → isSdram (addr + k) = true → t.readByte (addr + k) = tensor.getD k 0)
        ∧ (∀ a, a < addr ∨ addr + tensor.length ≤ a → s.m.poison.contains (a / 64) = false → t.m.poison.contains (a / 64) = false →
            t.readByte a = s.readByte a)

/-- R356: where a received frame goes. -/
def Obligations.HostReceiveStore : Prop :=
  (∀ (s : State) (port stamp vid pcp : Nat) (frame r : Bytes), s.m.eth.rings = some r →
      let a := rd r 8 8 + 64 * s.m.eth.rxNext
      let buf := rd (s.readMem a 8) 0 8
      rd (s.readMem (a + 11) 1) 0 1 % 2 = 1 →
      ∀ x : Nat, (x < buf ∨ buf + (frame.take 2048).length ≤ x) → (x < a ∨ a + 64 ≤ x) → s.m.poison.contains (x / 64) = false →
        (s.hostRx port frame stamp vid pcp).readByte x = s.readByte x)
  ∧ (∀ (s : State) (port stamp vid pcp : Nat) (frame r : Bytes), s.m.eth.rings = some r →
      rd (s.readMem (rd r 8 8 + 64 * s.m.eth.rxNext + 11) 1) 0 1 % 2 = 0 →
      (s.hostRx port frame stamp vid pcp).mem = s.mem
        ∧ (s.hostRx port frame stamp vid pcp).m.eth.hostDrops = inc32 s.m.eth.hostDrops)

/-- The application region is read and write (R28), little-endian (R7). -/
def Obligations.StoreReadsBack : Prop :=
  ∀ (s : State) (addr : Nat) (v : BitVec 64), s.m.appOn = true → inApp addr 8 = true → Memory.wf s.mem = true →
      ∃ t, exec (.registerWrite addr v) s = .next t ∧ rd (t.readMem addr 8) 0 8 = v.toNat
        ∧ ∀ a, a < addr ∨ addr + 8 ≤ a → s.m.poison.contains (a / 64) = false → t.readByte a = s.readByte a

/-- GET_INFO leaves the module as it is and its reply names the class, its instances and its versions. A packet that the
Command Port serves, on operands and a state that meet the condition of its clause, answers the next state named
there: the module with that change, one completion with that status and reply (ACCEPTED, or none yet, where it stays
in flight), and the queue and the bytes SDRAM holds as they were; a line the module writes is sound again. -/
def Obligations.InfoCommandsAnswer : Prop :=
  (∀ (c : Cmd) (s : State), Does s 0x0101 opSysGetInfo c (exec (.sysGetInfo c) s) True
      s.m
      (s.m.info 1 1 ([0x42, 0] ++ [0x49, 0x58, 0x5A, 0x38, 0x2D, 0x41, 0x34, 0x38] ++ zeros 6 ++ le 8 s.m.nvs.serial.toNat
      ++ le 4 s.m.nvs.lineage.toNat)))
  ∧ (∀ (c : Cmd) (s : State), Does s 0x0201 opTimeGetInfo c (exec (.timeGetInfo c) s) True
      s.m
      (s.m.info 2 1))
  ∧ (∀ (c : Cmd) (s : State), Does s 0x0301 opLaneGetInfo c (exec (.laneGetInfo c) s) True
      s.m
      (s.m.info 3 2))
  ∧ (∀ (c : Cmd) (s : State), Does s 0x0401 opLoopGetInfo c (exec (.loopGetInfo c) s) True
      s.m
      (s.m.info 4 64))
  ∧ (∀ (c : Cmd) (s : State), Does s 0x0501 opDrvGetInfo c (exec (.drvGetInfo c) s) True
      s.m
      (s.m.info 5 79))
  ∧ (∀ (c : Cmd) (s : State), Does s 0x0601 opInpGetInfo c (exec (.inpGetInfo c) s) True
      s.m
      (s.m.info 6 115))
  ∧ (∀ (c : Cmd) (s : State), Does s 0x0701 opSafeGetInfo c (exec (.safeGetInfo c) s) True
      s.m
      (s.m.info 7 12))
  ∧ (∀ (c : Cmd) (s : State), Does s 0x0801 opCanGetInfo c (exec (.canGetInfo c) s) True
      s.m
      (s.m.info 8 8))
  ∧ (∀ (c : Cmd) (s : State), Does s 0x0901 opEthGetInfo c (exec (.ethGetInfo c) s) True
      s.m
      (s.m.info 9 8))
  ∧ (∀ (c : Cmd) (s : State), Does s 0x0A01 opGnssGetInfo c (exec (.gnssGetInfo c) s) True
      s.m
      (s.m.info 10 2))
  ∧ (∀ (c : Cmd) (s : State), Does s 0x0B01 opFuseGetInfo c (exec (.fuseGetInfo c) s) True
      s.m
      (s.m.info 11 34))
  ∧ (∀ (c : Cmd) (s : State), Does s 0x0C01 opClnkGetInfo c (exec (.clnkGetInfo c) s) True
      s.m
      (s.m.info 12 3))
  ∧ (∀ (c : Cmd) (s : State), Does s 0x0D01 opPipeGetInfo c (exec (.pipeGetInfo c) s) True
      s.m
      (s.m.info 13 3))
  ∧ (∀ (c : Cmd) (s : State), Does s 0x0E01 opVisGetInfo c (exec (.visGetInfo c) s) True
      s.m
      (s.m.info 14 2))
  ∧ (∀ (c : Cmd) (s : State), Does s 0x0F01 opSegGetInfo c (exec (.segGetInfo c) s) True
      s.m
      (s.m.info 15 1))
  ∧ (∀ (c : Cmd) (s : State), Does s 0x1001 opEvtGetInfo c (exec (.evtGetInfo c) s) True
      s.m
      (s.m.info 16 128))
  ∧ (∀ (c : Cmd) (s : State), Does s 0x1101 opLogGetInfo c (exec (.logGetInfo c) s) True
      s.m
      (s.m.info 17 1))
  ∧ (∀ (c : Cmd) (s : State), Does s 0x1201 opNvsGetInfo c (exec (.nvsGetInfo c) s) True
      s.m
      (s.m.info 18 7))
  ∧ (∀ (c : Cmd) (s : State), Does s 0x1301 opUpdGetInfo c (exec (.updGetInfo c) s) True
      s.m
      (s.m.info 19 1))
  ∧ (∀ (c : Cmd) (s : State), Does s 0x1401 opPwrGetInfo c (exec (.pwrGetInfo c) s) True
      s.m
      (s.m.info 20 1))

/-- GET_CONFIG leaves the module as it is and its reply is the record in force of the instance named. A packet that the
Command Port serves, on operands and a state that meet the condition of its clause, answers the next state named
there: the module with that change, one completion with that status and reply (ACCEPTED, or none yet, where it stays
in flight), and the queue and the bytes SDRAM holds as they were; a line the module writes is sound again. -/
def Obligations.ConfigurationReads : Prop :=
  (∀ (c : Cmd) (s : State), Does s 0x0104 opSysGetConfig c (exec (.sysGetConfig c) s) True
      s.m
      [])
  ∧ (∀ (c : Cmd) (s : State), Does s 0x0204 opTimeGetConfig c (exec (.timeGetConfig c) s) True
      s.m
      (s.m.srcRec ++ s.m.ppsRec))
  ∧ (∀ (c : Cmd) (s : State), Does s 0x0304 opLaneGetConfig c (exec (.laneGetConfig c) s) True
      s.m
      s.m.laneRec)
  ∧ (∀ (c : Cmd) (s : State), Does s 0x0404 opLoopGetConfig c (exec (.loopGetConfig c) s) True
      s.m
      (s.m.loopRec c.inst.toNat))
  ∧ (∀ (c : Cmd) (s : State), Does s 0x0504 opDrvGetConfig c (exec (.drvGetConfig c) s) True
      s.m
      (s.m.drvRec c.inst.toNat))
  ∧ (∀ (c : Cmd) (s : State), Does s 0x0604 opInpGetConfig c (exec (.inpGetConfig c) s) True
      s.m
      (s.m.inpRec c.inst.toNat))
  ∧ (∀ (c : Cmd) (s : State) (r : Bytes), Does s 0x0704 opSafeGetConfig c (exec (.safeGetConfig c) s) (rd c.params 0 1 ≤ 1 ∧ isZero c.params 1 3 = true ∧ (if rd c.params 0 1 = 0 then s.m.safe.rcd else s.m.safe.staged) = some r)
      s.m
      (r ++ le 4 (crcSp r) ++ le 4 (crcJack r)))
  ∧ (∀ (c : Cmd) (s : State), Does s 0x0804 opCanGetConfig c (exec (.canGetConfig c) s) True
      s.m
      (s.m.canRec c.inst.toNat))
  ∧ (∀ (c : Cmd) (s : State), Does s 0x0904 opEthGetConfig c (exec (.ethGetConfig c) s) True
      s.m
      (s.m.ethRec c.inst.toNat))
  ∧ (∀ (c : Cmd) (s : State), Does s 0x0A04 opGnssGetConfig c (exec (.gnssGetConfig c) s) True
      s.m
      (patch s.m.gnssRec 0 (le 1 s.m.gnss.rate)))
  ∧ (∀ (c : Cmd) (s : State), Does s 0x0B04 opFuseGetConfig c (exec (.fuseGetConfig c) s) True
      s.m
      (if c.inst.toNat = 32 then s.m.engRec else if c.inst.toNat = 33 then s.m.accRec else s.m.srcOf c.inst.toNat))
  ∧ (∀ (c : Cmd) (s : State), Does s 0x0C04 opClnkGetConfig c (exec (.clnkGetConfig c) s) True
      s.m
      (s.m.linkRec c.inst.toNat))
  ∧ (∀ (c : Cmd) (s : State), Does s 0x0D04 opPipeGetConfig c (exec (.pipeGetConfig c) s) True
      s.m
      (s.m.cfgOr 0x0D03 c.inst.toNat (zeros 4)))
  ∧ (∀ (c : Cmd) (s : State), Does s 0x0E04 opVisGetConfig c (exec (.visGetConfig c) s) True
      s.m
      (s.m.cfgOr 0x0E03 c.inst.toNat (zeros 4)))
  ∧ (∀ (c : Cmd) (s : State), Does s 0x0F04 opSegGetConfig c (exec (.segGetConfig c) s) True
      s.m
      (if s.m.seg.st = 0 ∨ s.m.seg.inForce.isEmpty then s.m.segRec else s.m.seg.inForce))
  ∧ (∀ (c : Cmd) (s : State), Does s 0x1004 opEvtGetConfig c (exec (.evtGetConfig c) s) True
      s.m
      (s.m.routeAt c.inst.toNat s.m.now).1)
  ∧ (∀ (c : Cmd) (s : State), Does s 0x1104 opLogGetConfig c (exec (.logGetConfig c) s) True
      s.m
      s.m.logRec)
  ∧ (∀ (c : Cmd) (s : State), Does s 0x1204 opNvsGetConfig c (exec (.nvsGetConfig c) s) True
      s.m
      [])
  ∧ (∀ (c : Cmd) (s : State), Does s 0x1304 opUpdGetConfig c (exec (.updGetConfig c) s) True
      s.m
      [])
  ∧ (∀ (c : Cmd) (s : State), Does s 0x1404 opPwrGetConfig c (exec (.pwrGetConfig c) s) True
      s.m
      s.m.pwrRec)
  ∧ (∀ (c : Cmd) (s : State), Does s 0x0103 opSysSetConfig c (exec (.sysSetConfig c) s) True
      s.m
      [])
  ∧ (∀ (c : Cmd) (s : State), Does s 0x0203 opTimeSetConfig c (exec (.timeSetConfig c) s) True
      s.m
      [])
  ∧ (∀ (c : Cmd) (s : State), Does s 0x1203 opNvsSetConfig c (exec (.nvsSetConfig c) s) True
      s.m
      [])
  ∧ (∀ (c : Cmd) (s : State), Does s 0x1303 opUpdSetConfig c (exec (.updSetConfig c) s) True
      s.m
      [])

/-- A record that passes the checks of its table becomes the record of the instance, with what the class does at once. A
packet that the Command Port serves, on operands and a state that meet the condition of its clause, answers the next
state named there: the module with that change, one completion with that status and reply (ACCEPTED, or none yet,
where it stays in flight), and the queue and the bytes SDRAM holds as they were; a line the module writes is sound
again. -/
def Obligations.ConfigurationWrites : Prop :=
  (∀ (c : Cmd) (s : State), Does s 0x0303 opLaneSetConfig c (exec (.laneSetConfig c) s) (c.inst = 0 ∧ rd (slice c.params 0 4) 0 1 ≤ 1 ∧ inRange (rd (slice c.params 0 4) 1 1) 1 10 = true ∧ isZero (slice c.params 0 4) 2 2 = true)
      ((s.m.setCfg 0x0303 0 (slice c.params 0 4)).markSet 0)
      [])
  ∧ (∀ (c : Cmd) (s : State), Does s 0x0403 opLoopSetConfig c (exec (.loopSetConfig c) s) (loopRecordOk (slice c.params 0 120) = true ∧ (s.m.loopCh c.inst.toNat).mode = .off
      ∧ (∀ k, destKey (slice c.params 0 120) = some k → ∀ j < 64, j ≠ c.inst.toNat → destKey (s.m.loopRec j) ≠ some k))
      ((s.m.setCfg 0x0403 c.inst.toNat (slice c.params 0 120)).markSet 1)
      [])
  ∧ (∀ (c : Cmd) (s : State), Does s 0x0503 opDrvSetConfig c (exec (.drvSetConfig c) s) (drvRecordOk c.inst.toNat (slice c.params 0 (drvRecLen c.inst.toNat)) = true ∧ c.inst.toNat < 76 ∧ (s.m.drvCh c.inst.toNat).en = false ∧ (s.m.drvCh c.inst.toNat).mode = 0)
      ((s.m.setCfg 0x0503 c.inst.toNat (slice c.params 0 (drvRecLen c.inst.toNat))).markSet 0)
      [])
  ∧ (∀ (c : Cmd) (s : State), Does s 0x0703 opSafeSetConfig c (exec (.safeSetConfig c) s) (safeRecordOk c.params = true)
      (s.m.setSafe { s.m.safe with staged := some (slice c.params 0 112), confirmed := false })
      [])
  ∧ (∀ (c : Cmd) (s : State), Does s 0x0803 opCanSetConfig c (exec (.canSetConfig c) s) (canRecordOk c.inst.toNat (slice c.params 0 24) = true ∧ (s.m.canCh c.inst.toNat).st = 0)
      ((s.m.setCfg 0x0803 c.inst.toNat (slice c.params 0 24)).markSet 0)
      [])
  ∧ (∀ (c : Cmd) (s : State), Does s 0x0903 opEthSetConfig c (exec (.ethSetConfig c) s) (ethRecordOk c.inst.toNat (slice c.params 0 c.plen.toNat) = true ∧ (s.m.eport c.inst.toNat).link = false)
      (((s.m.setCfg 0x0903 c.inst.toNat (slice c.params 0 c.plen.toNat)).markSet 0).gptpRole s.m.eth.gm)
      [])
  ∧ (∀ (c : Cmd) (s : State), Does s 0x0A03 opGnssSetConfig c (exec (.gnssSetConfig c) s) (gnssRecordOk (slice c.params 0 40) = true)
      ((Mod.setCfg { s.m with gnss := { s.m.gnss with rateFrame := s.m.lanes.frame, inForce := if s.m.gnss.epochRaw = 0 then [] else s.m.gnssRec } }
      0x0A03 0 (slice c.params 0 40)).markSet 0)
      [])
  ∧ (∀ (c : Cmd) (s : State), Does s 0x0B03 opFuseSetConfig c (exec (.fuseSetConfig c) s) ((if c.inst.toNat = 32 then engRecordOk (slice c.params 0 (fuseRecLen c.inst.toNat))
      else if c.inst.toNat = 33 then s.m.accRecordOk (slice c.params 0 (fuseRecLen c.inst.toNat)) else srcRecordOk (slice c.params 0 (fuseRecLen c.inst.toNat))) = true)
      ((s.m.setCfg 0x0B03 c.inst.toNat (slice c.params 0 (fuseRecLen c.inst.toNat))).markSet 1)
      [])
  ∧ (∀ (c : Cmd) (s : State), Does s 0x0C03 opClnkSetConfig c (exec (.clnkSetConfig c) s) (rd (slice c.params 0 4) 0 1 ≤ 1 ∧ rd (slice c.params 0 4) 1 1 ≤ 1 ∧ isZero (slice c.params 0 4) 2 2 = true
      ∧ (s.m.link c.inst.toNat).st = .off)
      ((s.m.setCfg 0x0C03 c.inst.toNat (slice c.params 0 4)).markSet 0)
      [])
  ∧ (∀ (c : Cmd) (s : State), Does s 0x0D03 opPipeSetConfig c (exec (.pipeSetConfig c) s) (flagsRecordOk (slice c.params 0 4) = true)
      ((s.m.setCfg 0x0D03 c.inst.toNat (slice c.params 0 4)).markSet 0)
      [])
  ∧ (∀ (c : Cmd) (s : State), Does s 0x0E03 opVisSetConfig c (exec (.visSetConfig c) s) (flagsRecordOk (slice c.params 0 4) = true)
      ((s.m.setCfg 0x0E03 c.inst.toNat (slice c.params 0 4)).markSet 0)
      [])
  ∧ (∀ (c : Cmd) (s : State), Does s 0x0F03 opSegSetConfig c (exec (.segSetConfig c) s) (segRecordOk (slice c.params 0 16) = true)
      ((s.m.setCfg 0x0F03 0 (slice c.params 0 16)).markSet 0)
      [])
  ∧ (∀ (c : Cmd) (s : State), Does s 0x1003 opEvtSetConfig c (exec (.evtSetConfig c) s) (rd (slice c.params 0 4) 0 2 < 4096 ∧ rd (slice c.params 0 4) 2 1 ≤ 7 ∧ isZero (slice c.params 0 4) 3 1 = true
      ∧ fixedRoute c.inst.toNat = false)
      (s.m.setRoute c.inst.toNat (s.m.evSrc c.inst.toNat).enabled fun n => (n.setCfg 0x1003 c.inst.toNat (slice c.params 0 4)).markSet 0)
      [])
  ∧ (∀ (c : Cmd) (s : State), Does s 0x1103 opLogSetConfig c (exec (.logSetConfig c) s) (isZero (slice c.params 0 4) 1 1 = true ∧ inRange (rd (slice c.params 0 4) 2 2) 1 3600 = true
      ∧ rd s.m.logRec 0 1 = rd (slice c.params 0 4) 0 1 ∧ inRange (rd s.m.logRec 0 1) 1 64 = true)
      ((s.m.setCfg 0x1103 0 (slice c.params 0 4)).markSet 0)
      [])
  ∧ (∀ (c : Cmd) (s : State), Does s 0x1403 opPwrSetConfig c (exec (.pwrSetConfig c) s) (inRange (rd (slice c.params 0 8) 0 2) 50 2000 = true ∧ rd (slice c.params 0 8) 2 2 ≤ 300 ∧ rd (slice c.params 0 8) 4 2 ≤ 1440
      ∧ isZero (slice c.params 0 8) 6 2 = true)
      ((s.m.setCfg 0x1403 0 (slice c.params 0 8)).markSet 0)
      [])
  ∧ (∀ (c : Cmd) (s : State), Does s 0x0603 opInpSetConfig c (exec (.inpSetConfig c) s) (inpRecordOk c.inst.toNat (slice c.params 0 (inpKind c.inst.toNat).len) = true ∧ s.m.quadB c.inst.toNat = false)
      ((((if inpKind c.inst.toNat = .ain ∧ rd (s.m.inpRec c.inst.toNat) 0 1 ≠ rd (slice c.params 0 (inpKind c.inst.toNat).len) 0 1
        then s.m.setInp c.inst.toNat { s.m.inpCh c.inst.toNat with settle := 9 } else s.m).setCfg 0x0603 c.inst.toNat (slice c.params 0 (inpKind c.inst.toNat).len)).markSet 0).leaveVr c.inst.toNat)
      [])
  ∧ (∀ (c : Cmd) (s : State), Ends s 0x0603 opInpSetConfig c (exec (.inpSetConfig c) s) (inpRecordOk c.inst.toNat (slice c.params 0 (inpKind c.inst.toNat).len) = true ∧ s.m.quadB c.inst.toNat = true) St.busy s.m [])

/-- Each SYS command has the effect and the reply that its entry gives. A packet that the Command Port serves, on operands
and a state that meet the condition of its clause, answers the next state named there: the module with that change,
one completion with that status and reply (ACCEPTED, or none yet, where it stays in flight), and the queue and the
bytes SDRAM holds as they were; a line the module writes is sound again. It rests on readings and choices of the
model: log entries 4, 5, 8, 21. -/
def Obligations.SystemCommands : Prop :=
  (∀ (c : Cmd) (s : State), Waits s 0x0110 opFence c (exec (.fence c) s) True
      s.m
      [(c.ring, (s.m.ring c.ring).sqHead)])
  ∧ (∀ (c : Cmd) (s : State), Waits s 0x0111 opBarrier c (exec (.barrier c) s) (isZero c.params 2 2 = true)
      s.m
      (((List.range 16).filter fun r => (Nat.lor (rd c.params 0 2) (2 ^ c.ring)).testBit r).map fun r =>
      (r, if r = c.ring then (s.m.ring r).sqHead else (s.m.ring r).sqTail)))
  ∧ (∀ (c : Cmd) (s : State), Waits s 0x0112 opSnapshot c (exec (.snapshot c) s) (snapParamsOk c = true ∧ rd c.params 1 1 = 0 ∧ s.m.port.snap = none ∧ s.m.port.snapWait = none)
      { s.m with port := { s.m.port with snapWait := some ({ cmd := c, opcode := 0x0112, idx := (s.m.ring c.ring).sqHead - 1 }, s.m.lanes.frame) } }
      [])
  ∧ (∀ (c : Cmd) (s : State) (x : Snapshot), Does s 0x0114 opSnapshotRead c (exec (.snapshotRead c) s) (s.m.port.snapHeld c.ring = false ∧ s.m.port.snap = some x ∧ 1 ≤ rd c.params 4 2 ∧ rd c.params 4 2 ≤ 232 ∧ isZero c.params 6 2 = true
      ∧ rd c.params 0 4 + rd c.params 4 2 ≤ x.image.length ∧ s.m.port.snapReads < 64)
      { s.m with port := { s.m.port with snapReads := s.m.port.snapReads + 1 } }
      (le 4 (rd c.params 0 4) ++ le 2 (rd c.params 4 2) ++ zeros 2 ++ slice x.image (rd c.params 0 4) (rd c.params 4 2)))
  ∧ (∀ (c : Cmd) (s : State), Does s 0x0115 opSnapshotRelease c (exec (.snapshotRelease c) s) (s.m.port.snapHeld c.ring = false ∧ s.m.port.snap ≠ none)
      { s.m with port := { s.m.port with snap := none } }
      [])
  ∧ (∀ (c : Cmd) (s : State), Ends s 0x0118 opSessionProve c (exec (.sessionProve c) s) ((s.m.ring c.ring).session.opened = false) St.notReady s.m [])
  ∧ (∀ (c : Cmd) (s : State), Served s 0x0117 opSessionOpen c → isZero c.params 113 3 = true →
      (let n := s.m.draw.2
       let num := BitVec.ofNat 16 (s.m.draw.1.toNat % 65535 + 1)
       let q := drawBytes 16 n
       let reply := le 2 num.toNat ++ zeros 2 ++ q.1 ++ ((List.range 97).map fun j => Config.ephemeralKey s.m.fresh j) ++ zeros 3
       let full := reply ++ (List.range 96).map fun j => Config.moduleSign s.m.fresh (slice c.params 0 116 ++ reply) j
       let key := Config.sessionKey s.m.fresh (slice c.params 16 97) (slice c.params 0 16 ++ q.1)
       (Config.isP384Point (slice c.params 16 97) = true →
         Becomes (exec (.sessionOpen c) s) s ((Mod.complete (q.2.setRing c.ring { q.2.ring c.ring with session :=
           { opened := true, num := num, key := le 32 key.toNat, transcript := slice c.params 0 116 ++ full, lastRaw := s.m.now } })
           0x0117 c St.ok full 0).settle))
       ∧ (Config.isP384Point (slice c.params 16 97) = false →
         Becomes (exec (.sessionOpen c) s) s (s.m.complete 0x0117 c St.badParam [] 0).settle)))
  ∧ (∀ (c : Cmd) (s : State), Served s 0x0118 opSessionProve c → (s.m.ring c.ring).session.opened = true →
      (let cred := BitVec.ofNat 64 (rd c.params 0 8)
       ((s.m.nvs.creds.contains cred && Config.credVerify cred (s.m.ring c.ring).session.transcript (slice c.params 8 96)) = true →
         Becomes (exec (.sessionProve c) s) s ((Mod.complete (s.m.setRing c.ring { s.m.ring c.ring with
           session := { (s.m.ring c.ring).session with proven := true } }) 0x0118 c St.ok ([1, 0, 0, 0] ++ le 4 60) 0).settle))
       ∧ ((s.m.nvs.creds.contains cred && Config.credVerify cred (s.m.ring c.ring).session.transcript (slice c.params 8 96)) = false →
         Becomes (exec (.sessionProve c) s) s (s.m.complete 0x0118 c St.denied [] 0).settle)))
  ∧ (∀ (c : Cmd) (s : State), Served s 0x0110 opFence c → (s.m.port.flight.all fun f => !f.isFence && f.cmd.ring != c.ring) = true → (s.m.port.laneQ.all fun q => q.cmd.ring != c.ring) = true →
      Becomes (exec (.fence c) s) s (s.m.complete 0x0110 c St.ok [] 0))
  ∧ (∀ (c : Cmd) (s : State), Served s 0x0111 opBarrier c → isZero c.params 2 2 = true → (s.m.port.flight.all fun f => !f.isFence && !(Nat.lor (rd c.params 0 2) (2 ^ c.ring)).testBit f.cmd.ring) = true → (s.m.port.laneQ.all fun q => !(Nat.lor (rd c.params 0 2) (2 ^ c.ring)).testBit q.cmd.ring) = true →
      (∀ r < 16, r ≠ c.ring → (Nat.lor (rd c.params 0 2) (2 ^ c.ring)).testBit r = true → (s.m.ring r).sqHead = (s.m.ring r).sqTail) →
      Becomes (exec (.barrier c) s) s (s.m.complete 0x0111 c St.ok [] 0))

/-- Each TIME command, and FRAME_AT_TIME, has the effect and the reply that its entry gives. A packet that the Command
Port serves, on operands and a state that meet the condition of its clause, answers the next state named there: the
module with that change, one completion with that status and reply (ACCEPTED, or none yet, where it stays in flight),
and the queue and the bytes SDRAM holds as they were; a line the module writes is sound again. It rests on readings
and choices of the model: log entry 36. -/
def Obligations.TimeCommands : Prop :=
  (∀ (c : Cmd) (s : State), Does s 0x0213 opReadTime c (exec (.readTime c) s) True
      s.m
      s.m.readTime)
  ∧ (∀ (c : Cmd) (s : State), Does s 0x0210 opSetSource c (exec (.setSource c) s) (1 ≤ rd (slice c.params 0 16) 0 1 ∧ rd (slice c.params 0 16) 0 1 ≤ 3 ∧ ((List.range 3).all fun k =>
        let v := rd (slice c.params 0 16) (1 + k) 1
        if k < rd (slice c.params 0 16) 0 1 then decide (v ≤ 3) && (v != 0 || rd (slice c.params 0 16) 0 1 == 1) else v == 0) = true)
      { s.m with time := { s.m.time with nextSource := some (slice c.params 0 16) } }
      [])
  ∧ (∀ (c : Cmd) (s : State), Does s 0x0212 opSetPps c (exec (.setPps c) s) (rd (slice c.params 0 16) 0 1 ≤ 1 ∧ rd (slice c.params 0 16) 1 1 ≤ 2 ∧ 1 ≤ rd (slice c.params 0 16) 2 2 ∧ rd (slice c.params 0 16) 2 2 ≤ 500
      ∧ rd (slice c.params 0 16) 4 1 ≤ 1 ∧ rd (slice c.params 0 16) 5 1 ≤ 1 ∧ rdI (slice c.params 0 16) 6 1 = 0
      ∧ isZero (slice c.params 0 16) 7 1 = true)
      { s.m with time := { s.m.time with nextPps := some (slice c.params 0 16) } }
      [])
  ∧ (∀ (c : Cmd) (s : State), Starts s 0x0211 opScheduleCorrection c (exec (.scheduleCorrection c) s) (rd c.params 8 1 = 2 ∧ isZero c.params 9 7 = true ∧ s.m.freeRun = true ∧ s.m.time.pending = none ∧ s.m.now + 1250 ≤ rd c.params 0 8
      ∧ (s.m.time.recs.filter fun r => s.m.now < r.c0 + secs 3600).length < 8192)
      { s.m with time := { s.m.time with pending := some { rcd := { c0 := rd c.params 0 8, t0 := 0, rate := rdI c.params 28 4 }, time := false, slew := 0, keepRate := false, cmd := true } } }
      [])
  ∧ (∀ (c : Cmd) (s : State) (v : Int), Does s 0x0116 opFrameAtTime c (exec (.frameAtTime c) s) (parse96 c.params 0 = some v ∧ s.m.lanes.started = true ∧ s.m.earliest ≤ s.m.frameAt v)
      s.m
      (le 8 (s.m.frameAt v) ++ le 8 (s.m.lanes.f0 + s.m.frameAt v * frameCounts)
      ++ le 4 (((s.m.time.conv (s.m.lanes.f0 + s.m.frameAt v * frameCounts)).1 - v) / 65536).toNat))

/-- Each LANE command, and HOLD_FRAMES, has the effect and the reply that its entry gives. A packet that the Command Port
serves, on operands and a state that meet the condition of its clause, answers the next state named there: the module
with that change, one completion with that status and reply (ACCEPTED, or none yet, where it stays in flight), and the
queue and the bytes SDRAM holds as they were; a line the module writes is sound again. It rests on readings and
choices of the model: log entries 9, 26, 29. -/
def Obligations.LaneCommands : Prop :=
  (∀ (c : Cmd) (s : State), Does s 0x0310 opForceTakeover c (exec (.forceTakeover c) s) (rd c.params 0 1 = 0 ∧ rd c.params 1 1 ≤ 249 ∧ isZero c.params 2 2 = true ∧ s.m.upd.act = none
      ∧ (s.m.lane (laneOf c.inst.toNat)).st = .standby ∧ s.m.lanes.takeover = none)
      { s.m with lanes := { s.m.lanes with takeover := some (.clean (laneOf c.inst.toNat) s.m.lanes.frame false) } }
      [0, 0])
  ∧ (∀ (c : Cmd) (s : State), Waits s 0x0310 opForceTakeover c (exec (.forceTakeover c) s) (rd c.params 0 1 = 1 ∧ rd c.params 1 1 ≤ 249 ∧ isZero c.params 2 2 = true ∧ s.m.upd.act = none
      ∧ (s.m.lane (laneOf c.inst.toNat)).st = .standby ∧ s.m.lanes.takeover = none)
      { s.m with lanes := { s.m.lanes with takeover := some (.silence (laneOf c.inst.toNat) s.m.lanes.frame (rd c.params 1 1) false) } }
      [])
  ∧ (∀ (c : Cmd) (s : State), Ends s 0x0310 opForceTakeover c (exec (.forceTakeover c) s) (rd c.params 0 1 ≤ 1 ∧ rd c.params 1 1 ≤ 249 ∧ isZero c.params 2 2 = true ∧ (s.m.lane (laneOf c.inst.toNat)).st ≠ .standby) St.notReady s.m [])
  ∧ (∀ (c : Cmd) (s : State), Does s 0x0311 opSetRedundancy c (exec (.setRedundancy c) s) (rd c.params 0 1 = 1 ∧ isZero c.params 1 3 = true ∧ s.m.upd.act = none ∧ (s.m.lane (laneOf c.inst.toNat)).st = .active)
      (((s.m.dropPunty (other (laneOf c.inst.toNat))).stopLane (other (laneOf c.inst.toNat))).setRed 3)
      [])
  ∧ (∀ (c : Cmd) (s : State), Does s 0x0312 opGetLaneStats c (exec (.getLaneStats c) s) True
      s.m
      (([s.m.stats.takeovers, s.m.stats.faultsA, s.m.stats.faultsB, s.m.stats.corrected,
      s.m.stats.divergences, s.m.stats.simplexLocks, s.m.stats.marverTimeouts, s.m.stats.vectorMismatches, s.m.stats.heldFault,
      s.m.stats.heldCmd, s.m.stats.resyncsDone, s.m.stats.resyncsFailed, s.m.stats.laneChanged, s.m.stats.maxResync].flatMap fun v => le 4 v)
      ++ le 8 s.m.stats.lastDivFrame ++ le 2 s.m.stats.lastDivWord.toNat ++ le 1 s.m.stats.lastDivDest ++ zeros 1))
  ∧ (∀ (c : Cmd) (s : State), Does s 0x0313 opClearLaneStats c (exec (.clearLaneStats c) s) True
      { s.m with stats := {} }
      [])
  ∧ (∀ (c : Cmd) (s : State) (n : Nat), s.m.takes c.ring = true → s.m.portCheck 0x0113 opHoldFrames c = none → s.m.stampFrame 0x0113 c = .inl n →
      s.m.holdCheck c n = none → s.m.port.laneQ.length < 512 →
      Becomes (exec (.holdFrames c) s) s { s.m with
        lanes := { s.m.lanes with holds := s.m.lanes.holds ++ [(n, n + rd c.params 0 1 - 1)] }
        port := { s.m.port with laneQ := s.m.port.laneQ ++
          [{ cmd := c, opcode := 0x0113, frame := n, idx := (s.m.ring c.ring).sqHead - 1, mark := s.m.laneMark 0x0113 c }] } })

/-- Each LOOP command has the effect and the reply that its entry gives. A packet that the Command Port serves, on
operands and a state that meet the condition of its clause, answers the next state named there: the module with that
change, one completion with that status and reply (ACCEPTED, or none yet, where it stays in flight), and the queue and
the bytes SDRAM holds as they were; a line the module writes is sound again. It rests on readings and choices of the
model: log entries 9, 31. -/
def Obligations.LoopCommands : Prop :=
  (∀ (c : Cmd) (s : State), Does s 0x0405 opLoopEnable c (exec (.loopEnable c) s) (rd (s.m.loopRec c.inst.toNat) 0 1 ≠ 0 ∧ (s.m.loopCh c.inst.toNat).mode = .off)
      (s.m.loopMode c.inst.toNat (modeOf (rd (s.m.loopRec c.inst.toNat) 0 1)))
      [])
  ∧ (∀ (c : Cmd) (s : State), Does s 0x0406 opLoopDisable c (exec (.loopDisable c) s) True
      (s.m.loopMode c.inst.toNat .off)
      [])
  ∧ (∀ (c : Cmd) (s : State), Does s 0x0407 opLoopResetInstance c (exec (.loopResetInstance c) s) True
      ((((s.m.loopMode c.inst.toNat .off).restore 1 0x0403 c.inst.toNat).restore 1 0x0412 (2 * c.inst.toNat)).restore 1 0x0412 (2 * c.inst.toNat + 1))
      [])
  ∧ (∀ (c : Cmd) (s : State), Does s 0x0410 opSetMode c (exec (.setMode c) s) (1 ≤ rd c.params 0 1 ∧ rd c.params 0 1 ≤ 3 ∧ isZero c.params 1 3 = true ∧ S.isFin (rdF c.params 4) = true
      ∧ (s.m.loopCh c.inst.toNat).mode ≠ .off)
      ((s.m.setLoop c.inst.toNat { s.m.loopCh c.inst.toNat with manual := if rd c.params 0 1 = 1 then rdF c.params 4 else (s.m.loopCh c.inst.toNat).manual }).loopMode c.inst.toNat
      (modeOf (rd c.params 0 1)))
      [])
  ∧ (∀ (c : Cmd) (s : State), Does s 0x0411 opSetSetpoint c (exec (.setSetpoint c) s) (rd c.params 0 1 = 1 ∧ isZero c.params 1 3 = true ∧ S.isFin (rdF c.params 4) = true ∧ S.isFin (rdF c.params 8) = true
      ∧ rd (s.m.loopRec c.inst.toNat) 4 1 = 1)
      (s.m.setLoop c.inst.toNat { s.m.loopCh c.inst.toNat with cmdSp := rdF c.params 4 })
      [])
  ∧ (∀ (c : Cmd) (s : State), Does s 0x0412 opSetBreakpoints c (exec (.setBreakpoints c) s) (rd c.params 0 1 = 0 ∧ rd c.params 1 1 = 0 ∧ rd c.params 2 1 = 0 ∧ rd c.params 3 1 ≤ 56 ∧ isZero c.params 5 3 = true
      ∧ (((List.range (rd c.params 3 1)).map fun k => rdF c.params (8 + 4 * k)).all S.isFin) = true)
      (s.m.setLoop c.inst.toNat { s.m.loopCh c.inst.toNat with stage1 := (List.range (rd c.params 3 1)).map fun k => rdF c.params (8 + 4 * k) })
      [])
  ∧ (∀ (c : Cmd) (s : State), Does s 0x0413 opWriteSchedule c (exec (.writeSchedule c) s) (1 ≤ rd c.params 2 2 ∧ rd c.params 2 2 ≤ 112 ∧ rd c.params 0 2 + rd c.params 2 2 ≤ 16384
      ∧ ((List.range (rd c.params 2 2)).any fun k => rd c.params (4 + 2 * k) 2 / 1024 % 4 == 3) = false)
      (Mod.markSet { s.m with sched := foldN (rd c.params 2 2) (fun t k =>
      Tab.put 0 t (rd c.params 0 2 + k) (BitVec.ofNat 16 (rd c.params (4 + 2 * k) 2))) s.m.sched } 1)
      [])
  ∧ (∀ (c : Cmd) (s : State), Does s 0x0414 opWriteCoeff c (exec (.writeCoeff c) s) (rd c.params 0 2 ≤ 1023 ∧ isZero c.params 2 2 = true ∧ (((List.range 22).map fun k => rdF c.params (4 + 4 * k)).all S.isFin) = true
      ∧ s.m.blendSide (rd c.params 0 2) = false ∧ s.m.setInUse (rd c.params 0 2) = false ∧ (∀ i < 64, (s.m.loopCh i).mode ≠ .auto)
      ∧ (((List.range 22).map fun k => rdF c.params (4 + 4 * k)).all (· == 0)) = false)
      (Mod.markSet { s.m with coeff := Tab.put [] s.m.coeff (rd c.params 0 2) ((List.range 22).map fun k => rdF c.params (4 + 4 * k)) } 1)
      [])
  ∧ (∀ (c : Cmd) (s : State), Does s 0x0415 opReadTable c (exec (.readTable c) s) (rd c.params 0 1 = 0 ∧ rd c.params 1 1 = 0 ∧ 1 ≤ rd c.params 4 2 ∧ rd c.params 4 2 ≤ 112
      ∧ rd c.params 2 2 + rd c.params 4 2 ≤ 16384 ∧ isZero c.params 6 2 = true)
      s.m
      ((List.range (rd c.params 4 2)).flatMap fun k => le 2 (Tab.get (0 : BitVec 16) s.m.sched (rd c.params 2 2 + k)).toNat))
  ∧ (∀ (c : Cmd) (s : State), Does s 0x0415 opReadTable c (exec (.readTable c) s) (rd c.params 0 1 = 1 ∧ rd c.params 1 1 = 0 ∧ rd c.params 4 2 = 0 ∧ rd c.params 2 2 ≤ 1023 ∧ isZero c.params 6 2 = true)
      s.m
      ((List.range 22).flatMap fun k => le 4 ((s.m.coeffSet (rd c.params 2 2)).getD k 0).toNat))

/-- Each DRV command has the effect and the reply that its entry gives. A packet that the Command Port serves, on operands
and a state that meet the condition of its clause, answers the next state named there: the module with that change,
one completion with that status and reply (ACCEPTED, or none yet, where it stays in flight), and the queue and the
bytes SDRAM holds as they were; a line the module writes is sound again. It rests on readings and choices of the
model: log entries 9, 33. -/
def Obligations.DriverCommands : Prop :=
  (∀ (c : Cmd) (s : State), Does s 0x0505 opDrvEnable c (exec (.drvEnable c) s) (64 ≤ c.inst.toNat ∧ c.inst.toNat < 76 ∧ (s.m.bank c.inst.toNat).latched = false)
      (s.m.setBank c.inst.toNat { s.m.bank c.inst.toNat with en := true })
      [])
  ∧ (∀ (c : Cmd) (s : State), Does s 0x0505 opDrvEnable c (exec (.drvEnable c) s) (c.inst.toNat < 64 ∧ (s.m.drvCh c.inst.toNat).latched = false ∧ (s.m.drvCh c.inst.toNat).en = false ∧ rd (s.m.drvRec c.inst.toNat) 0 1 ≠ 0)
      ((s.m.setDrv c.inst.toNat { s.m.drvCh c.inst.toNat with en := true, want := 0, fireReq := 0 }).relatch c.inst.toNat)
      [])
  ∧ (∀ (c : Cmd) (s : State), Ends s 0x0505 opDrvEnable c (exec (.drvEnable c) s) (c.inst.toNat < 64 ∧ (s.m.drvCh c.inst.toNat).latched = true) St.notReady s.m [])
  ∧ (∀ (c : Cmd) (s : State), Does s 0x0506 opDrvDisable c (exec (.drvDisable c) s) True
      (s.m.drvDisable c.inst.toNat)
      [])
  ∧ (∀ (c : Cmd) (s : State), Does s 0x0507 opDrvResetInstance c (exec (.drvResetInstance c) s) (c.inst.toNat < 64)
      ((((s.m.drvDisable c.inst.toNat).restore 0 0x0503 c.inst.toNat).drvClear c.inst.toNat).setDrv c.inst.toNat
      { (((s.m.drvDisable c.inst.toNat).restore 0 0x0503 c.inst.toNat).drvClear c.inst.toNat).drvCh c.inst.toNat with faultCode := 0, retriggers := 0, skips := 0 })
      [])
  ∧ (∀ (c : Cmd) (s : State), Does s 0x0510 opSetOutput c (exec (.setOutput c) s) (isZero c.params 2 2 = true ∧ 48 ≤ c.inst.toNat ∧ s.m.drvOwner c.inst.toNat = none ∧ (s.m.drvCh c.inst.toNat).latched = false ∧ (s.m.drvCh c.inst.toNat).en = true)
      ((s.m.setDrv c.inst.toNat { s.m.drvCh c.inst.toNat with want := BitVec.ofNat 16 (rd c.params 0 2) }).relatch c.inst.toNat)
      [])
  ∧ (∀ (c : Cmd) (s : State), Ends s 0x0510 opSetOutput c (exec (.setOutput c) s) (isZero c.params 2 2 = true ∧ 48 ≤ c.inst.toNat ∧ s.m.drvOwner c.inst.toNat ≠ none) St.busy s.m [])
  ∧ (∀ (c : Cmd) (s : State), Does s 0x0513 opClearFault c (exec (.clearFault c) s) True
      (s.m.drvClear c.inst.toNat)
      [])
  ∧ (∀ (c : Cmd) (s : State), Does s 0x0511 opPhFire c (exec (.phFire c) s) (rd c.params 0 1 ≤ 249 ∧ isZero c.params 1 3 = true ∧ rd (s.m.drvRec c.inst.toNat) 0 1 = 3 ∧ s.m.drvOwner c.inst.toNat = none
      ∧ (s.m.drvCh c.inst.toNat).latched = false ∧ (s.m.drvCh c.inst.toNat).en = true)
      ((s.m.setDrv c.inst.toNat { s.m.drvCh c.inst.toNat with fireReq := w32 (rd c.params 0 1 * 65536 + 2 ^ 24) }).relatch c.inst.toNat)
      [])
  ∧ (∀ (c : Cmd) (s : State), Does s 0x0512 opPhStop c (exec (.phStop c) s) (rd c.params 0 1 ≤ 249 ∧ isZero c.params 1 3 = true ∧ rd (s.m.drvRec c.inst.toNat) 0 1 = 3 ∧ s.m.drvOwner c.inst.toNat = none
      ∧ (s.m.drvCh c.inst.toNat).latched = false ∧ (s.m.drvCh c.inst.toNat).en = true)
      ((s.m.setDrv c.inst.toNat { s.m.drvCh c.inst.toNat with fireReq := w32 (rd c.params 0 1 * 65536 + 2 ^ 25) }).relatch c.inst.toNat)
      [])

/-- Each INP command has the effect and the reply that its entry gives. A packet that the Command Port serves, on operands
and a state that meet the condition of its clause, answers the next state named there: the module with that change,
one completion with that status and reply (ACCEPTED, or none yet, where it stays in flight), and the queue and the
bytes SDRAM holds as they were; a line the module writes is sound again. It rests on readings and choices of the
model: log entries 9, 35. -/
def Obligations.InputCommands : Prop :=
  (∀ (c : Cmd) (s : State), Does s 0x0605 opInpEnable c (exec (.inpEnable c) s) True
      (s.m.inpStart c.inst.toNat)
      [])
  ∧ (∀ (c : Cmd) (s : State), Does s 0x0606 opInpDisable c (exec (.inpDisable c) s) True
      (s.m.inpStop c.inst.toNat)
      [])
  ∧ (∀ (c : Cmd) (s : State), Does s 0x0610 opBindSlot c (exec (.bindSlot c) s) (bindOk (slice c.params 0 16) = true)
      (s.m.bindSlot (slice c.params 0 16))
      [])
  ∧ (∀ (c : Cmd) (s : State), Does s 0x0611 opReadSlot c (exec (.readSlot c) s) (rd c.params 0 1 = 0 ∧ isZero c.params 2 2 = true)
      s.m
      (le 4 (Tab.get ({} : FxIn) s.m.inp.fxIn (rd c.params 1 1)).capValue.toNat ++ le 4 (Tab.get ({} : FxIn) s.m.inp.fxIn (rd c.params 1 1)).capStamp.toNat
      ++ le 2 (s.m.inp.age (Tab.get ({} : FxIn) s.m.inp.fxIn (rd c.params 1 1)).capBase) ++ le 1 (Tab.get ({} : FxIn) s.m.inp.fxIn (rd c.params 1 1)).capState.code
      ++ le 1 (s.m.fxOwner (rd c.params 1 1)) ++ le 4 (Tab.get ({} : FxIn) s.m.inp.fxIn (rd c.params 1 1)).drops
      ++ le 4 (Tab.get ({} : FxIn) s.m.inp.fxIn (rd c.params 1 1)).writes ++ le 8 s.m.lanes.frame))
  ∧ (∀ (c : Cmd) (s : State), Does s 0x0612 opReadVector c (exec (.readVector c) s) (1 ≤ rd c.params 2 2 ∧ rd c.params 2 2 ≤ 55 ∧ rd c.params 0 2 + rd c.params 2 2 ≤ 512)
      s.m
      (le 2 (rd c.params 0 2) ++ le 2 (rd c.params 2 2) ++ le 8 s.m.lanes.computed
      ++ le 8 (foldN (rd c.params 2 2) (fun v k => v + b2n (((List.range (rd c.params 2 2)).map fun k =>
          (Tab.get {} s.m.inp.vec (rd c.params 0 2 + k) : VecEl)).getD k {}).bad * 2 ^ k) 0)
      ++ ((List.range (rd c.params 2 2)).map fun k => (Tab.get {} s.m.inp.vec (rd c.params 0 2 + k) : VecEl)).flatMap fun e => le 4 e.val.toNat))
  ∧ (∀ (c : Cmd) (s : State), Does s 0x0607 opInpResetInstance c (exec (.inpResetInstance c) s) True
      (let n := if s.m.quadB c.inst.toNat then s.m else s.m.restore 0 0x0603 c.inst.toNat
      let n := (n.setInp c.inst.toNat { s.m.inpCh c.inst.toNat with
        latched := false, retries := 0, count := 0, pos := 0, plausCnt := 0
        faultCode := if (s.m.inpCh c.inst.toNat).cond then condCode c.inst.toNat else 0
        settle := if inpKind c.inst.toNat == .ain && rd (n.inpRec c.inst.toNat) 0 1 != rd (s.m.inpRec c.inst.toNat) 0 1 then 9 else (s.m.inpCh c.inst.toNat).settle
        on := if inpKind c.inst.toNat = .sup then (s.m.inpCh c.inst.toNat).enabled else (s.m.inpCh c.inst.toNat).on }).leaveVr c.inst.toNat
      let n := if inpKind c.inst.toNat = .sup ∧ (s.m.inpCh c.inst.toNat).faultCode = 8 then n.inpEv 61 c.inst.toNat 8 false else n
      let n := if inpKind c.inst.toNat = .fin ∧ c.inst.toNat % 2 = 0 ∧ (s.m.inpCh c.inst.toNat).faultCode = 7 then n.inpEv 58 c.inst.toNat 7 false else n
      if (s.m.inpCh c.inst.toNat).latched then n.inpEv 61 c.inst.toNat 12 false else n)
      [])

/-- Each SAFE command has the effect and the reply that its entry gives. A packet that the Command Port serves, on
operands and a state that meet the condition of its clause, answers the next state named there: the module with that
change, one completion with that status and reply (ACCEPTED, or none yet, where it stays in flight), and the queue and
the bytes SDRAM holds as they were; a line the module writes is sound again. It rests on readings and choices of the
model: log entry 37. -/
def Obligations.SafetyCommands : Prop :=
  (∀ (c : Cmd) (s : State), Starts s 0x0710 opServiceMode c (exec (.serviceMode c) s) (rd c.params 0 1 = 1 ∧ isZero c.params 1 3 = true ∧ s.m.safe.pairOf 6 = none ∧ s.m.safe.standstill = true)
      (s.m.setSafe { s.m.safe with serviceWait := some (s.m.now + secs 10) })
      [])
  ∧ (∀ (c : Cmd) (s : State), Ends s 0x0710 opServiceMode c (exec (.serviceMode c) s) (rd c.params 0 1 = 1 ∧ isZero c.params 1 3 = true ∧ s.m.safe.pairOf 6 = none ∧ s.m.safe.standstill = false) St.notReady s.m [])
  ∧ (∀ (c : Cmd) (s : State) (r : Bytes), Does s 0x0711 opConfirmParams c (exec (.confirmParams c) s) (s.m.safe.staged = some r ∧ rd c.params 0 4 = crcSp r ∧ rd c.params 4 4 = crcJack r)
      (s.m.setSafe { s.m.safe with confirmed := true })
      [])
  ∧ (∀ (c : Cmd) (s : State), Ends s 0x0711 opConfirmParams c (exec (.confirmParams c) s) (s.m.safe.staged = none) St.notReady s.m [])

/-- Each CAN command has the effect and the reply that its entry gives. A packet that the Command Port serves, on operands
and a state that meet the condition of its clause, answers the next state named there: the module with that change,
one completion with that status and reply (ACCEPTED, or none yet, where it stays in flight), and the queue and the
bytes SDRAM holds as they were; a line the module writes is sound again. It rests on readings and choices of the
model: log entry 54. -/
def Obligations.CanCommands : Prop :=
  (∀ (c : Cmd) (s : State), Does s 0x0805 opCanEnable c (exec (.canEnable c) s) True
      (s.m.canEnable c.inst.toNat)
      [])
  ∧ (∀ (c : Cmd) (s : State), Does s 0x0806 opCanDisable c (exec (.canDisable c) s) True
      (s.m.canDisable c.inst.toNat)
      [])
  ∧ (∀ (c : Cmd) (s : State), Does s 0x0810 opRxRead c (exec (.rxRead c) s) (1 ≤ rd c.params 0 1 ∧ rd c.params 0 1 ≤ 8 ∧ isZero c.params 1 3 = true)
      (s.m.setCan c.inst.toNat { s.m.canCh c.inst.toNat with app := RxFifo.opened { (s.m.canCh c.inst.toNat).app with
      q := (s.m.canCh c.inst.toNat).app.q.drop (takeEntries (rd c.params 0 1) 232 (s.m.canCh c.inst.toNat).app.q).length, drops := 0, locked := false } })
      (le 1 (takeEntries (rd c.params 0 1) 232 (s.m.canCh c.inst.toNat).app.q).length ++ le 1 0
      ++ le 2 ((s.m.canCh c.inst.toNat).app.q.drop (takeEntries (rd c.params 0 1) 232 (s.m.canCh c.inst.toNat).app.q).length).length ++ le 4 (s.m.canCh c.inst.toNat).app.drops
      ++ (takeEntries (rd c.params 0 1) 232 (s.m.canCh c.inst.toNat).app.q).flatMap fun e => e.words.flatMap fun w => le 4 w.toNat))
  ∧ (∀ (c : Cmd) (s : State) (y : CanCh), Does s 0x0811 opTransmit c (exec (.transmit c) s) (rd c.params 0 4 < 2 ^ 31 ∧ rd c.params 4 1 = 0 ∧ isZero c.params 6 2 = true ∧ canLenOk (rd c.params 5 1) false = true
      ∧ (s.m.canCh c.inst.toNat).st ≠ 0 ∧ rd (s.m.canRec c.inst.toNat) 0 1 ≠ 1
      ∧ (s.m.canCh c.inst.toNat).enqueue { frame := canFrameOf (rd c.params 0 4) 0 (slice c.params 8 (rd c.params 5 1)), app := true, confirm := none, attempts := 0 } = some y)
      (s.m.setCan c.inst.toNat y)
      [])
  ∧ (∀ (c : Cmd) (s : State), Ends s 0x0812 opCanAbort c (exec (.canAbort c) s) (rd c.params 0 1 ≤ 2 ∧ isZero c.params 1 3 = true ∧ (s.m.canCh c.inst.toNat).st = 0) St.notReady s.m [])
  ∧ (∀ (c : Cmd) (s : State), Does s 0x0812 opCanAbort c (exec (.canAbort c) s) (rd c.params 0 1 = 2 ∧ isZero c.params 1 3 = true ∧ (s.m.canCh c.inst.toNat).st ≠ 0 ∧ (s.m.canCh c.inst.toNat).tx = [])
      ((s.m.setCan c.inst.toNat { s.m.canCh c.inst.toNat with tx := [] }).canDropped [])
      ([0] ++ zeros 3))
  ∧ (∀ (c : Cmd) (s : State), Does s 0x0813 opRecover c (exec (.recover c) s) ((s.m.canCh c.inst.toNat).st = 3)
      (s.m.setCan c.inst.toNat { s.m.canCh c.inst.toNat with st := 4 })
      [])
  ∧ (∀ (c : Cmd) (s : State), Ends s 0x0813 opRecover c (exec (.recover c) s) ((s.m.canCh c.inst.toNat).st ≠ 3) St.notReady s.m [])
  ∧ (∀ (c : Cmd) (s : State), Does s 0x0814 opResume c (exec (.resume c) s) ((s.m.canCh c.inst.toNat).st = 1 ∧ (s.m.canCh c.inst.toNat).alone = false)
      (s.m.setCan c.inst.toNat { s.m.canCh c.inst.toNat with alone := false, parked := false, acks := 0 })
      [])
  ∧ (∀ (c : Cmd) (s : State), Does s 0x0815 opSetLanePdu c (exec (.setLanePdu c) s) (rd (slice c.params 0 16) 0 1 ≤ 31 ∧ rd (slice c.params 0 16) 1 1 ≤ 7 ∧ rd (slice c.params 0 16) 2 1 = 0
      ∧ canLenOk (rd (slice c.params 0 16) 3 1) false = true ∧ rd (slice c.params 0 16) 4 4 < 2 ^ 31
      ∧ inRange (rd (slice c.params 0 16) 8 2) 1 4000 = true ∧ rd (slice c.params 0 16) 10 2 < rd (slice c.params 0 16) 8 2
      ∧ isZero (slice c.params 0 16) 13 3 = true)
      ((s.m.setCfg 0x0815 (rd (slice c.params 0 16) 0 1) (slice c.params 0 16)).markSet 0)
      [])
  ∧ (∀ (c : Cmd) (s : State), Does s 0x0816 opSetSignal c (exec (.setSignal c) s) (rd (slice c.params 0 20) 1 1 ≤ 31 ∧ rd (slice c.params 0 20) 2 2 ≤ 511 ∧ inRange (rd (slice c.params 0 20) 4 1) 1 32 = true
      ∧ rd (slice c.params 0 20) 5 1 ≤ 1 ∧ rd (slice c.params 0 20) 6 1 ≤ 1 ∧ isZero (slice c.params 0 20) 7 1 = true
      ∧ S.isFin (rdF (slice c.params 0 20) 8) = true ∧ S.isFin (rdF (slice c.params 0 20) 12) = true
      ∧ S.scaled (rdF (slice c.params 0 20) 8) ≠ 0 ∧ s.m.sigFits (slice c.params 0 20) = true)
      ((s.m.setCfg 0x0816 (rd (slice c.params 0 20) 0 1) (slice c.params 0 20)).markSet 0)
      [])
  ∧ (∀ (c : Cmd) (s : State), Does s 0x0807 opCanResetInstance c (exec (.canResetInstance c) s) True
      (((s.m.canDisable c.inst.toNat).restore 0 0x0803 c.inst.toNat).setCan c.inst.toNat { ((s.m.canDisable c.inst.toNat).restore 0 0x0803 c.inst.toNat).canCh c.inst.toNat with
      rxDrops := 0, txOverflow := 0, txFrames := 0, busOffs := 0, hbMissed := 0, app := {} })
      [])

/-- Each ETH command has the effect and the reply that its entry gives. A packet that the Command Port serves, on operands
and a state that meet the condition of its clause, answers the next state named there: the module with that change,
one completion with that status and reply (ACCEPTED, or none yet, where it stays in flight), and the queue and the
bytes SDRAM holds as they were; a line the module writes is sound again. It rests on readings and choices of the
model: log entry 52. -/
def Obligations.EthernetCommands : Prop :=
  (∀ (c : Cmd) (s : State), Does s 0x0905 opEthEnable c (exec (.ethEnable c) s) True
      (s.m.ethOn c.inst.toNat)
      [])
  ∧ (∀ (c : Cmd) (s : State), Does s 0x0911 opSetVlan c (exec (.setVlan c) s) (1 ≤ rd (slice c.params 0 8) 0 2 ∧ rd (slice c.params 0 8) 0 2 ≤ 4094 ∧ 1 ≤ rd (slice c.params 0 8) 2 1
      ∧ rd (slice c.params 0 8) 2 1 ≤ 0x7F ∧ rd (slice c.params 0 8) 3 1 ≤ 0x7F ∧ isZero (slice c.params 0 8) 4 4 = true ∧ s.m.vlans < 256)
      ((s.m.setCfg 0x0911 (rd (slice c.params 0 8) 0 2) (slice c.params 0 8)).markSet 0)
      [])
  ∧ (∀ (c : Cmd) (s : State), Does s 0x0912 opHostRings c (exec (.hostRings c) s) (rd (slice c.params 0 24) 0 8 % 64 = 0 ∧ ringCount (rd (slice c.params 0 24) 16 2) = true
      ∧ inApp (rd (slice c.params 0 24) 0 8) (64 * rd (slice c.params 0 24) 16 2) = true
      ∧ rd (slice c.params 0 24) 8 8 % 64 = 0 ∧ ringCount (rd (slice c.params 0 24) 18 2) = true
      ∧ inApp (rd (slice c.params 0 24) 8 8) (64 * rd (slice c.params 0 24) 18 2) = true
      ∧ isZero (slice c.params 0 24) 20 4 = true ∧ s.m.eth.switchOn = false)
      { s.m with eth := { s.m.eth with rings := some (slice c.params 0 24), txNext := 0, rxNext := 0 } }
      [])
  ∧ (∀ (c : Cmd) (s : State), Does s 0x0910 opSetGcl c (exec (.setGcl c) s) (rd c.params 0 1 = 0 ∧ rd c.params 2 1 ≤ 27 ∧ rd c.params 1 1 + rd c.params 2 1 ≤ 256 ∧ isZero c.params 3 1 = true
      ∧ isZero c.params 6 2 = true ∧ ((List.range (rd c.params 2 1)).all fun i =>
        inRange (rd c.params (24 + 8 * i + 4) 4) 64 1000000000 && rd c.params (24 + 8 * i + 4) 4 % 8 == 0
          && isZero c.params (24 + 8 * i + 1) 3) = true
      ∧ (parse96 c.params 12).isSome = true)
      (s.m.setEport c.inst.toNat { (s.m.eport c.inst.toNat).settled s.m.now with stage := foldN (rd c.params 2 1) (fun (t : Tab (Option (BitVec 8 × Nat))) i =>
      Tab.put none t (rd c.params 1 1 + i) (some (BitVec.ofNat 8 (rd c.params (24 + 8 * i) 1), rd c.params (24 + 8 * i + 4) 4))) ((s.m.eport c.inst.toNat).settled s.m.now).stage })
      [])
  ∧ (∀ (c : Cmd) (s : State), Served s 0x0906 opEthDisable c → exec (.ethDisable c) s
      = .next (State.ethFlush { s with m := ((s.m.ethStop c.inst.toNat).complete 0x0906 c St.ok [] 0).settle }))
  ∧ (∀ (c : Cmd) (s : State), Served s 0x0907 opEthResetInstance c → c.inst = 7 → exec (.ethResetInstance c) s
      = .next (State.ethFlush { s with m := (((s.m.ethStop 7).restore 0 0x0903 7).complete 0x0907 c St.ok [] 0).settle }))

/-- Each GNSS command has the effect and the reply that its entry gives. A packet that the Command Port serves, on
operands and a state that meet the condition of its clause, answers the next state named there: the module with that
change, one completion with that status and reply (ACCEPTED, or none yet, where it stays in flight), and the queue and
the bytes SDRAM holds as they were; a line the module writes is sound again. It rests on readings and choices of the
model: log entry 43. -/
def Obligations.GnssCommands : Prop :=
  (∀ (c : Cmd) (s : State), Does s 0x0A05 opGnssEnable c (exec (.gnssEnable c) s) True
      (s.m.setAnt c.inst.toNat { s.m.ant c.inst.toNat with ask := some true })
      [])
  ∧ (∀ (c : Cmd) (s : State), Does s 0x0A06 opGnssDisable c (exec (.gnssDisable c) s) True
      (s.m.setAnt c.inst.toNat { s.m.ant c.inst.toNat with ask := some false })
      [])
  ∧ (∀ (c : Cmd) (s : State), Does s 0x0A07 opGnssResetInstance c (exec (.gnssResetInstance c) s) ((s.m.ant c.inst.toNat).latched = false)
      (Mod.restore { s.m.setAnt c.inst.toNat { s.m.ant c.inst.toNat with ask := some false, latched := false, shorts := [], epochs := 0 } with
      gnss := { (s.m.setAnt c.inst.toNat { s.m.ant c.inst.toNat with ask := some false, latched := false, shorts := [], epochs := 0 }).gnss with
        corrFrames := 0, corrErrors := 0, corrUnsupported := 0, rateFrame := s.m.lanes.frame,
        inForce := if s.m.gnss.epochRaw = 0 then [] else s.m.gnssRec } } 0 0x0A03 0)
      [])
  ∧ (∀ (c : Cmd) (s : State), Does s 0x0A10 opSendRtcm c (exec (.sendRtcm c) s) (inRange (rd c.params 0 2) 1 236 = true ∧ isZero c.params 2 2 = true ∧ s.m.corrFrom false = true
      ∧ s.m.gnss.bufCcp.length + rd c.params 0 2 ≤ 8192)
      (s.m.stream false (slice c.params 4 (rd c.params 0 2))).1
      (le 2 (s.m.stream false (slice c.params 4 (rd c.params 0 2))).2.length
      ++ le 2 ((s.m.stream false (slice c.params 4 (rd c.params 0 2))).2.filter fun f => !rtcmSound f).length))
  ∧ (∀ (c : Cmd) (s : State), Ends s 0x0A10 opSendRtcm c (exec (.sendRtcm c) s) (inRange (rd c.params 0 2) 1 236 = true ∧ isZero c.params 2 2 = true ∧ s.m.corrFrom false = false) St.notReady s.m [])
  ∧ (∀ (c : Cmd) (s : State), Does s 0x0A11 opGetSats c (exec (.getSats c) s) (isZero c.params 1 3 = true ∧ rd c.params 0 1 < (s.m.ant c.inst.toNat).sats.length)
      s.m
      (le 1 (((s.m.ant c.inst.toNat).sats.drop (rd c.params 0 1)).take 29).length ++ le 1 (s.m.ant c.inst.toNat).sats.length ++ zeros 2
      ++ (((s.m.ant c.inst.toNat).sats.drop (rd c.params 0 1)).take 29).flatMap fun q =>
        le 1 q.system.toNat ++ le 1 q.svid.toNat ++ le 1 q.elevation.toNat ++ le 1 q.use.toNat ++ le 2 q.azimuth.toNat
          ++ le 1 q.cn1.toNat ++ le 1 q.cn2.toNat))
  ∧ (∀ (c : Cmd) (s : State), Does s 0x0A12 opGnssRestart c (exec (.gnssRestart c) s) (rd c.params 0 1 ≤ 2 ∧ isZero c.params 1 3 = true)
      (s.m.gnssRestart (rd c.params 0 1))
      [])

/-- Each FUSE command has the effect and the reply that its entry gives. A packet that the Command Port serves, on
operands and a state that meet the condition of its clause, answers the next state named there: the module with that
change, one completion with that status and reply (ACCEPTED, or none yet, where it stays in flight), and the queue and
the bytes SDRAM holds as they were; a line the module writes is sound again. It rests on readings and choices of the
model: log entry 44. -/
def Obligations.FusionCommands : Prop :=
  (∀ (c : Cmd) (s : State), Does s 0x0B05 opFuseEnable c (exec (.fuseEnable c) s) True
      (s.m.askFuse c.inst.toNat true)
      [])
  ∧ (∀ (c : Cmd) (s : State), Does s 0x0B06 opFuseDisable c (exec (.fuseDisable c) s) True
      (s.m.askFuse c.inst.toNat false)
      [])
  ∧ (∀ (c : Cmd) (s : State), Does s 0x0B07 opFuseResetInstance c (exec (.fuseResetInstance c) s) (c.inst.toNat < 32)
      (((s.m.askFuse c.inst.toNat false).restore 1 0x0B03 c.inst.toNat).setFsrc c.inst.toNat (((s.m.askFuse c.inst.toNat false).restore 1 0x0B03 c.inst.toNat).fsrc c.inst.toNat).cleared)
      [])
  ∧ (∀ (c : Cmd) (s : State), Does s 0x0B10 opWriteTransform c (exec (.writeTransform c) s) (rd (slice c.params 0 36) 0 1 ≤ 63 ∧ isZero (slice c.params 0 36) 1 3 = true
      ∧ ((List.range 3).all fun j => S.isFin (rdF (slice c.params 0 36) (4 + 4 * j))) = true ∧ normOk (slice c.params 0 36) 16 = true
      ∧ rd (slice c.params 0 36) 32 1 ≤ 1 ∧ isZero (slice c.params 0 36) 33 3 = true)
      ((s.m.setCfg 0x0B10 (rd (slice c.params 0 36) 0 1) (normalised (slice c.params 0 36))).markSet 1)
      [])
  ∧ (∀ (c : Cmd) (s : State), Does s 0x0B11 opClearCullet c (exec (.clearCullet c) s) True
      (s.m.setFsrc c.inst.toNat (s.m.fsrc c.inst.toNat).cleared)
      [])
  ∧ (∀ (c : Cmd) (s : State), Ends s 0x0B12 opPushSample c (exec (.pushSample c) s) (rd c.params 0 1 = 1 ∧ isZero c.params 1 7 = true ∧ rd (s.m.srcOf c.inst.toNat) 0 1 = 4 ∧ (D.isFin (pushed c.params 0).v0
      && D.isFin (pushed c.params 0).v1 && S.isFin (pushed c.params 0).v2 && S.isFin (pushed c.params 0).sd) = true
      ∧ (s.m.fsrc c.inst.toNat).enabled = false) St.notReady s.m [])
  ∧ (∀ (c : Cmd) (s : State), Does s 0x0B12 opPushSample c (exec (.pushSample c) s) (rd c.params 0 1 = 1 ∧ isZero c.params 1 7 = true ∧ rd (s.m.srcOf c.inst.toNat) 0 1 = 4 ∧ (D.isFin (pushed c.params 0).v0
      && D.isFin (pushed c.params 0).v1 && S.isFin (pushed c.params 0).v2 && S.isFin (pushed c.params 0).sd) = true
      ∧ (s.m.fsrc c.inst.toNat).enabled = true ∧ (s.m.fuseDue.takeSample c.inst.toNat (pushed c.params 0)).2 = .accepted)
      (s.m.fuseDue.takeSample c.inst.toNat (pushed c.params 0)).1
      (le 1 1 ++ le 1 0 ++ le 1 0 ++ le 1 0))
  ∧ (∀ (c : Cmd) (s : State), Does s 0x0B13 opPathLoad c (exec (.pathLoad c) s) (1 ≤ rd c.params 2 2 ∧ rd c.params 2 2 ≤ 29 ∧ rd c.params 0 2 ≤ 4095 ∧ rd c.params 0 2 + rd c.params 2 2 ≤ 4096
      ∧ isZero c.params 4 4 = true
      ∧ ((List.range (rd c.params 2 2)).all fun k => vertexOk (rdF c.params (8 + 8 * k)) && vertexOk (rdF c.params (12 + 8 * k))) = true)
      { s.m with fuse := { s.m.fuse with
      staging := foldN (rd c.params 2 2) (fun t k => Tab.put (0, 0) t (rd c.params 0 2 + k) (rdF c.params (8 + 8 * k), rdF c.params (12 + 8 * k))) s.m.fuse.staging
      staged := foldN (rd c.params 2 2) (fun t k => Tab.put false t (rd c.params 0 2 + k) true) s.m.fuse.staged } }
      [])
  ∧ (∀ (c : Cmd) (s : State), Does s 0x0B15 opReadTransform c (exec (.readTransform c) s) (rd c.params 0 1 ≤ 63 ∧ isZero c.params 1 3 = true)
      s.m
      (s.m.transform (rd c.params 0 1)))
  ∧ (∀ (c : Cmd) (s : State), Does s 0x0B14 opPathActivate c (exec (.pathActivate c) s) (1 ≤ rd c.params 0 2 ∧ inRange (rd c.params 2 2) 2 4096 = true ∧ isZero c.params 4 4 = true ∧ (D.isFin (rdD c.params 8) && D.isFin (rdD c.params 16)
        && D.isFin (rdD c.params 24)) = true ∧ ((List.range (rd c.params 2 2)).all fun k => Tab.get false s.m.fuse.staged k) = true
      ∧ ((List.range (rd c.params 2 2 - 1)).any fun k =>
        let vs := (List.range (rd c.params 2 2)).map fun k => Tab.get (0, 0) s.m.fuse.staging k
        let a := vs.getD k (0, 0)
        let b := vs.getD (k + 1) (0, 0)
        S.le a.1 b.1 && S.le b.1 a.1 && S.le a.2 b.2 && S.le b.2 a.2) = false)
      { s.m with fuse := { s.m.fuse with nextPath := some (BitVec.ofNat 16 (rd c.params 0 2), slice c.params 8 24, rd c.params 2 2) } }
      [])

/-- Each CLNK command has the effect and the reply that its entry gives. A packet that the Command Port serves, on
operands and a state that meet the condition of its clause, answers the next state named there: the module with that
change, one completion with that status and reply (ACCEPTED, or none yet, where it stays in flight), and the queue and
the bytes SDRAM holds as they were; a line the module writes is sound again. It rests on readings and choices of the
model: log entries 46, 47. -/
def Obligations.CameraLinkCommands : Prop :=
  (∀ (c : Cmd) (s : State), Does s 0x0C05 opClnkEnable c (exec (.clnkEnable c) s) True
      (s.m.linkOn c.inst.toNat)
      [])
  ∧ (∀ (c : Cmd) (s : State), Does s 0x0C06 opClnkDisable c (exec (.clnkDisable c) s) True
      (s.m.linkOff c.inst.toNat)
      [])
  ∧ (∀ (c : Cmd) (s : State), Starts s 0x0C12 opI2cXfer c (exec (.i2cXfer c) s) (rd c.params 0 1 = 0xFF ∧ rd c.params 1 1 ≤ 127 ∧ 1 ≤ rd c.params 2 1 ∧ rd c.params 2 1 ≤ 16 ∧ rd c.params 3 1 ≤ 16 ∧ (s.m.link c.inst.toNat).st = .up)
      (s.m.setLink c.inst.toNat { s.m.link c.inst.toNat with
      seq := (s.m.link c.inst.toNat).seq + 1
      queue := (s.m.link c.inst.toNat).queue ++ [{
        typ := 0x10, seq := (s.m.link c.inst.toNat).seq, slot := 0xFF, cmd := some c
        payload := le 1 0xFF ++ le 1 (rd c.params 1 1) ++ le 1 (rd c.params 2 1) ++ le 1 (rd c.params 3 1) ++ slice c.params 4 (rd c.params 2 1) }] })
      [])
  ∧ (∀ (c : Cmd) (s : State), Ends s 0x0C12 opI2cXfer c (exec (.i2cXfer c) s) (rd c.params 0 1 = 0xFF ∧ rd c.params 1 1 ≤ 127 ∧ 1 ≤ rd c.params 2 1 ∧ rd c.params 2 1 ≤ 16 ∧ rd c.params 3 1 ≤ 16 ∧ (s.m.link c.inst.toNat).st ≠ .up) St.notReady s.m [])
  ∧ (∀ (c : Cmd) (s : State), Does s 0x0C13 opClnkGetSlotStatus c (exec (.clnkGetSlotStatus c) s) (rd c.params 0 1 ≤ 11 ∧ rd c.params 0 1 / 4 = c.inst.toNat ∧ isZero c.params 1 3 = true)
      s.m
      (le 4 (s.m.rx (rd c.params 0 1)).pictures ++ le 4 (s.m.rx (rd c.params 0 1)).dropped ++ le 4 (s.m.rx (rd c.params 0 1)).damagedLines
      ++ le 4 (s.m.rx (rd c.params 0 1)).shortPics ++ le 4 (s.m.rx (rd c.params 0 1)).fsyncs ++ le 4 (s.m.deadline (rd c.params 0 1))
      ++ le 2 (s.m.rx (rd c.params 0 1)).ring.length ++ zeros 2))
  ∧ (∀ (c : Cmd) (s : State), Served s 0x0C07 opClnkResetInstance c → (s.m.link c.inst.toNat).st ≠ .latched →
      (let k := c.inst.toNat
       let n := s.m.linkDown k .off
       let n := n.setLink k { n.link k with trips := [], badBlocks := 0, unsupported := 0, eccFixed := 0,
                                            bcErrors := 0, blocks := 0 }
       let clear := fun (n : Mod) (v : Nat) =>
         let i := 4 * k + v
         let old := n.slotRec i
         let n := n.setRx i { n.rx i with pictures := 0, dropped := 0, damagedLines := 0, shortPics := 0, fsyncs := 0 }
         let n := n.setPs i (n.ps i).cleared
         (n.restore 0 0x0C10 i).slotSet i old
       Becomes (exec (.clnkResetInstance c) s) s (Mod.complete (foldN 4 clear (n.restore 0 0x0C03 k)) 0x0C07 c St.ok [] 0).settle))
  ∧ (∀ (c : Cmd) (s : State), Does s 0x0C10 opSetSlot c (exec (.setSlot c) s) (slotRecOk (slice c.params 0 32) = true ∧ rd (slice c.params 0 32) 0 1 / 4 = c.inst.toNat
      ∧ ((s.m.setCfg 0x0C10 (rd (slice c.params 0 32) 0 1) (slice c.params 0 32)).markSet 0).slotsFit = true
      ∧ ((s.m.setCfg 0x0C10 (rd (slice c.params 0 32) 0 1) (slice c.params 0 32)).markSet 0).admitted = true
      ∧ ((s.m.setCfg 0x0C10 (rd (slice c.params 0 32) 0 1) (slice c.params 0 32)).markSet 0).isoFits = true
      ∧ (slice (s.m.slotRec (rd (slice c.params 0 32) 0 1)) 2 1 ++ [BitVec.ofNat 8 (b2n (slotSpill (s.m.slotRec (rd (slice c.params 0 32) 0 1))))] ++ slice (s.m.slotRec (rd (slice c.params 0 32) 0 1)) 4 6) = (slice (slice c.params 0 32) 2 1 ++ [BitVec.ofNat 8 (b2n (slotSpill (slice c.params 0 32)))] ++ slice (slice c.params 0 32) 4 6))
      (((s.m.setCfg 0x0C10 (rd (slice c.params 0 32) 0 1) (slice c.params 0 32)).markSet 0).slotSet (rd (slice c.params 0 32) 0 1)
      (s.m.slotRec (rd (slice c.params 0 32) 0 1)))
      [])
  ∧ (∀ (c : Cmd) (s : State) (w : Mod), Does s 0x0C10 opSetSlot c (exec (.setSlot c) s) (slotRecOk (slice c.params 0 32) = true ∧ rd (slice c.params 0 32) 0 1 / 4 = c.inst.toNat
      ∧ ((s.m.setCfg 0x0C10 (rd (slice c.params 0 32) 0 1) (slice c.params 0 32)).markSet 0).slotsFit = true
      ∧ ((s.m.setCfg 0x0C10 (rd (slice c.params 0 32) 0 1) (slice c.params 0 32)).markSet 0).admitted = true
      ∧ ((s.m.setCfg 0x0C10 (rd (slice c.params 0 32) 0 1) (slice c.params 0 32)).markSet 0).isoFits = true
      ∧ (slice (s.m.slotRec (rd (slice c.params 0 32) 0 1)) 2 1 ++ [BitVec.ofNat 8 (b2n (slotSpill (s.m.slotRec (rd (slice c.params 0 32) 0 1))))] ++ slice (s.m.slotRec (rd (slice c.params 0 32) 0 1)) 4 6) ≠ (slice (slice c.params 0 32) 2 1 ++ [BitVec.ofNat 8 (b2n (slotSpill (slice c.params 0 32)))] ++ slice (slice c.params 0 32) 4 6)
      ∧ slotOn (s.m.slotRec (rd (slice c.params 0 32) 0 1)) = false ∧ ((s.m.setCfg 0x0C10 (rd (slice c.params 0 32) 0 1) (slice c.params 0 32)).markSet 0).placeSlot (rd (slice c.params 0 32) 0 1) = some w)
      (w.slotSet (rd (slice c.params 0 32) 0 1)
      (s.m.slotRec (rd (slice c.params 0 32) 0 1)))
      [])
  ∧ (∀ (c : Cmd) (s : State) (v : Int), Does s 0x0C11 opFsyncAt c (exec (.fsyncAt c) s) (parse96 c.params 4 = some v ∧ rd c.params 0 1 ≤ 11 ∧ rd c.params 0 1 / 4 = c.inst.toNat ∧ isZero c.params 1 3 = true
      ∧ rd (s.m.rx (rd c.params 0 1)).rcd 12 1 = 2 ∧ (s.m.link c.inst.toNat).st = .up ∧ s.m.now + us 250 ≤ (s.m.time.nearest v)
      ∧ ((s.m.rx (rd c.params 0 1)).edges.any fun o => decide ((s.m.time.nearest v) ≤ o + us (rd (s.m.rx (rd c.params 0 1)).rcd 22 2)) && decide (o ≤ (s.m.time.nearest v) + us (rd (s.m.rx (rd c.params 0 1)).rcd 22 2))) = false
      ∧ ((s.m.rx (rd c.params 0 1)).lastEdge.any fun q => decide ((s.m.time.nearest v) ≤ q.1 + us (rd (s.m.rx (rd c.params 0 1)).rcd 22 2)) && decide (q.1 ≤ (s.m.time.nearest v) + us (rd (s.m.rx (rd c.params 0 1)).rcd 22 2))) = false)
      (s.m.setRx (rd c.params 0 1) { (s.m.rx (rd c.params 0 1)) with edges := ((s.m.rx (rd c.params 0 1)).edges.filter (· < (s.m.time.nearest v))) ++ [(s.m.time.nearest v)] ++ (s.m.rx (rd c.params 0 1)).edges.filter ((s.m.time.nearest v) < ·) })
      (le 8 (s.m.time.nearest v)))

/-- Each PIPE command has the effect and the reply that its entry gives. A packet that the Command Port serves, on
operands and a state that meet the condition of its clause, answers the next state named there: the module with that
change, one completion with that status and reply (ACCEPTED, or none yet, where it stays in flight), and the queue and
the bytes SDRAM holds as they were; a line the module writes is sound again. It rests on readings and choices of the
model: log entries 48, 49. -/
def Obligations.PipeCommands : Prop :=
  (∀ (c : Cmd) (s : State), Does s 0x0D05 opPipeEnable c (exec (.pipeEnable c) s) True
      (s.m.pipeOn c.inst.toNat)
      [])
  ∧ (∀ (c : Cmd) (s : State), Does s 0x0D06 opPipeDisable c (exec (.pipeDisable c) s) ((s.m.pipe c.inst.toNat).st ≠ 1)
      s.m
      [])
  ∧ (∀ (c : Cmd) (s : State), Does s 0x0D06 opPipeDisable c (exec (.pipeDisable c) s) ((s.m.pipe c.inst.toNat).st = 1 ∧ (s.m.pipe c.inst.toNat).job = none)
      (s.m.pipeStop c.inst.toNat 0 0)
      [])
  ∧ (∀ (c : Cmd) (s : State), Starts s 0x0D07 opPipeResetInstance c (exec (.pipeResetInstance c) s) ((s.m.pipe c.inst.toNat).st ≠ 1 ∧ (s.m.pipe c.inst.toNat).testing = none)
      (s.m.setPipe c.inst.toNat { s.m.pipe c.inst.toNat with jobs := 0, late := 0, maxLat := 0, busy := [], testing := some ([c], s.m.now) })
      [])
  ∧ (∀ (c : Cmd) (s : State) (w : Mod), Does s 0x0D10 opSetContext c (exec (.setContext c) s) (rd (slice c.params 0 84) 0 1 ≤ 15 ∧ isZero (slice c.params 0 84) 1 3 = true
      ∧ ctxRecOk ((slice c.params 0 84).drop 4) (s.m.slotRec (rd ((slice c.params 0 84).drop 4) 0 1)) = true
      ∧ (Mod.activate ((s.m.setCfg 0x0D10 (rd (slice c.params 0 84) 0 1) (slice c.params 0 84)).markSet 0)).admitted = true
      ∧ (Mod.activate ((s.m.setCfg 0x0D10 (rd (slice c.params 0 84) 0 1) (slice c.params 0 84)).markSet 0)).placeCtx
          (rd (slice c.params 0 84) 0 1) = some w)
      w
      [])
  ∧ (∀ (c : Cmd) (s : State), Does s 0x0D11 opSelectContext c (exec (.selectContext c) s) (rd c.params 0 1 ≤ 11 ∧ rd c.params 1 1 ≤ 15 ∧ isZero c.params 2 2 = true ∧ (s.m.bound (rd c.params 0 1)).contains (rd c.params 1 1) = true
      ∧ (s.m.setPs (rd c.params 0 1) { s.m.ps (rd c.params 0 1) with nextCtx := some (rd c.params 1 1) }).admitted = true
      ∧ (s.m.setPs (rd c.params 0 1) { s.m.ps (rd c.params 0 1) with nextCtx := some (rd c.params 1 1) }).isoFits = true)
      (s.m.setPs (rd c.params 0 1) { s.m.ps (rd c.params 0 1) with nextCtx := some (rd c.params 1 1) })
      [])
  ∧ (∀ (c : Cmd) (s : State), Does s 0x0D12 opWriteCtxTable c (exec (.writeCtxTable c) s) (rd c.params 0 1 ≤ 15 ∧ rd c.params 1 1 ≤ 1 ∧ 1 ≤ rd c.params 4 2 ∧ rd c.params 4 2 ≤ 112
      ∧ rd c.params 2 2 + rd c.params 4 2 ≤ tabSize (rd c.params 1 1) ∧ isZero c.params 6 2 = true)
      ((s.m.setCfg 0x0D12 (2 * rd c.params 0 1 + rd c.params 1 1) (patch (slice (s.m.stored 0x0D12 (2 * rd c.params 0 1 + rd c.params 1 1)) 0
      (2 * tabSize (rd c.params 1 1))) (2 * rd c.params 2 2) (slice c.params 8 (2 * rd c.params 4 2)))).markSet 0)
      [])
  ∧ (∀ (c : Cmd) (s : State), Does s 0x0D13 opGetContext c (exec (.getContext c) s) (rd c.params 0 1 ≤ 15 ∧ isZero c.params 1 3 = true
      ∧ ((List.range 12).find? fun n => (s.m.ps n).ctx == some (rd c.params 0 1)) = none)
      s.m
      (s.m.ctxRec (rd c.params 0 1) ++ zeros 4))
  ∧ (∀ (c : Cmd) (s : State), Does s 0x0D14 opPipeGetSlotStatus c (exec (.pipeGetSlotStatus c) s) (rd c.params 0 1 ≤ 11 ∧ isZero c.params 1 3 = true ∧ slotOn (s.m.slotRec (rd c.params 0 1)) = false)
      s.m
      (le 1 ((s.m.ps (rd c.params 0 1)).ctx.getD 0xFF) ++ le 1 0xFF ++ zeros 2 ++ le 4 (s.m.ps (rd c.params 0 1)).pictures
      ++ le 4 (s.m.ps (rd c.params 0 1)).short ++ le 4 (s.m.ps (rd c.params 0 1)).long ++ le 4 (s.m.ps (rd c.params 0 1)).padded
      ++ le 4 (s.m.ps (rd c.params 0 1)).truncated ++ le 4 (s.m.ps (rd c.params 0 1)).aborted ++ le 4 (s.m.ps (rd c.params 0 1)).noPipe
      ++ le 4 (s.m.ps (rd c.params 0 1)).skipped ++ le 4 (s.m.ps (rd c.params 0 1)).late ++ le 4 0 ++ le 4 (s.m.ps (rd c.params 0 1)).lastLat))

/-- Each encoder command has the effect and the reply that its entry gives. A packet that the Command Port serves, on
operands and a state that meet the condition of its clause, answers the next state named there: the module with that
change, one completion with that status and reply (ACCEPTED, or none yet, where it stays in flight), and the queue and
the bytes SDRAM holds as they were; a line the module writes is sound again. It rests on readings and choices of the
model: log entries 4, 50. -/
def Obligations.EncoderCommands : Prop :=
  (∀ (c : Cmd) (s : State), Ends s 0x0D20 opEncStart c (exec (.encStart c) s) (encParamsOk (slice c.params 0 24) = true ∧ (s.m.recNext (rd (slice c.params 0 24) 1 1)).isEmpty = false
      ∧ outOn (s.m.recNext (rd (slice c.params 0 24) 1 1)) 1 = true
      ∧ rd (s.m.recNext (rd (slice c.params 0 24) 1 1)) 74 1 = rd (slice c.params 0 24) 2 1
      ∧ inRange (slotW (s.m.slotRec (rd (slice c.params 0 24) 1 1))) 64 8440 = true
      ∧ inRange (slotH (s.m.slotRec (rd (slice c.params 0 24) 1 1))) 64 8440 = true
      ∧ slotW (s.m.slotRec (rd (slice c.params 0 24) 1 1)) % 8 = 0 ∧ slotH (s.m.slotRec (rd (slice c.params 0 24) 1 1)) % 8 = 0
      ∧ slotW (s.m.slotRec (rd (slice c.params 0 24) 1 1)) * slotH (s.m.slotRec (rd (slice c.params 0 24) 1 1)) ≤ 8912896
      ∧ (s.m.enc (rd (slice c.params 0 24) 0 1)).running = true) St.busy s.m [])
  ∧ (∀ (c : Cmd) (s : State) (w : Mod) (level : Nat), Does s 0x0D20 opEncStart c (exec (.encStart c) s) (encParamsOk (slice c.params 0 24) = true ∧ (s.m.recNext (rd (slice c.params 0 24) 1 1)).isEmpty = false
      ∧ outOn (s.m.recNext (rd (slice c.params 0 24) 1 1)) 1 = true
      ∧ rd (s.m.recNext (rd (slice c.params 0 24) 1 1)) 74 1 = rd (slice c.params 0 24) 2 1
      ∧ inRange (slotW (s.m.slotRec (rd (slice c.params 0 24) 1 1))) 64 8440 = true
      ∧ inRange (slotH (s.m.slotRec (rd (slice c.params 0 24) 1 1))) 64 8440 = true
      ∧ slotW (s.m.slotRec (rd (slice c.params 0 24) 1 1)) % 8 = 0 ∧ slotH (s.m.slotRec (rd (slice c.params 0 24) 1 1)) % 8 = 0
      ∧ slotW (s.m.slotRec (rd (slice c.params 0 24) 1 1)) * slotH (s.m.slotRec (rd (slice c.params 0 24) 1 1)) ≤ 8912896
      ∧ (s.m.enc (rd (slice c.params 0 24) 0 1)).running = false
      ∧ encLevel (rd (slice c.params 0 24) 5 1) (slotW (s.m.slotRec (rd (slice c.params 0 24) 1 1))) (slotH (s.m.slotRec (rd (slice c.params 0 24) 1 1)))
        (slotRate (s.m.slotRec (rd (slice c.params 0 24) 1 1))) (rd (slice c.params 0 24) 4 1) = some level
      ∧ s.m.draw.2.setEnc (rd (slice c.params 0 24) 0 1) {
          running := true, params := slice c.params 0 24, ring := s.m.draw.2.fresh, level := level
          fmt := (rd (s.m.recNext (rd (slice c.params 0 24) 1 1)) 74 1, slotW (s.m.slotRec (rd (slice c.params 0 24) 1 1)),
                  slotH (s.m.slotRec (rd (slice c.params 0 24) 1 1))) } = w
      ∧ w.encTotal ≤ 25000000000 * 720720 ∧ w.isoFits = true)
      w
      [])
  ∧ (∀ (c : Cmd) (s : State), Does s 0x0D21 opEncStop c (exec (.encStop c) s) (rd c.params 0 1 ≤ 3 ∧ isZero c.params 1 3 = true ∧ (s.m.enc (rd c.params 0 1)).running = true
      ∧ (s.m.enc (rd c.params 0 1)).held = [])
      (s.m.encStopped (rd c.params 0 1))
      [])
  ∧ (∀ (c : Cmd) (s : State), Ends s 0x0D21 opEncStop c (exec (.encStop c) s) (rd c.params 0 1 ≤ 3 ∧ isZero c.params 1 3 = true ∧ (s.m.enc (rd c.params 0 1)).running = false) St.notReady s.m [])
  ∧ (∀ (c : Cmd) (s : State), Does s 0x0D22 opEncForceIdr c (exec (.encForceIdr c) s) (rd c.params 0 1 ≤ 3 ∧ isZero c.params 1 3 = true ∧ (s.m.enc (rd c.params 0 1)).running = true)
      (s.m.setEnc (rd c.params 0 1) { s.m.enc (rd c.params 0 1) with idr := true })
      [])
  ∧ (∀ (c : Cmd) (s : State), Does s 0x0D24 opEncSetRate c (exec (.encSetRate c) s) (rd c.params 0 1 ≤ 3 ∧ isZero c.params 1 3 = true ∧ inRange (rd c.params 4 4) 100 100000 = true ∧ (s.m.enc (rd c.params 0 1)).running = true
      ∧ rd c.params 4 4 ≤ rd c.params 8 4)
      (s.m.setEnc (rd c.params 0 1) { s.m.enc (rd c.params 0 1) with params := patch (s.m.enc (rd c.params 0 1)).params 8 (slice c.params 4 8) })
      [])
  ∧ (∀ (c : Cmd) (s : State), Does s 0x0D23 opEncGetStatus c (exec (.encGetStatus c) s) True
      s.m
      ((le 4 (ceilDiv s.m.encTotal (100000 * 720720)) ++ zeros 4 ++ (List.range 4).flatMap fun k =>
      let e := s.m.enc k
      let bytes := (e.aus.filter fun p => s.m.now < p.1 + secs 1).foldl (fun a p => a + p.2) 0
      le 1 (b2n e.running) ++ le 1 (rd e.params 2 1) ++ le 1 (if e.running then rd e.params 1 1 else 0xFF) ++ [0] ++ le 4 e.pictures
        ++ le 4 e.skippedIn ++ le 4 (bytes * 8 / 1000)
        ++ le 8 (if e.running then e.ringAt k else 0) ++ le 4 e.ringSize ++ zeros 4)))

/-- Each VIS command has the effect and the reply that its entry gives. A packet that the Command Port serves, on operands
and a state that meet the condition of its clause, answers the next state named there: the module with that change,
one completion with that status and reply (ACCEPTED, or none yet, where it stays in flight), and the queue and the
bytes SDRAM holds as they were; a line the module writes is sound again. It rests on readings and choices of the
model: log entry 51. -/
def Obligations.VisionCommands : Prop :=
  (∀ (c : Cmd) (s : State), Does s 0x0E05 opVisEnable c (exec (.visEnable c) s) True
      (s.m.partOn c.inst.toNat)
      [])
  ∧ (∀ (c : Cmd) (s : State), Does s 0x0E06 opVisDisable c (exec (.visDisable c) s) ((s.m.part c.inst.toNat).st ≠ 2)
      (s.m.partOff c.inst.toNat)
      [])
  ∧ (∀ (c : Cmd) (s : State), Does s 0x0E07 opVisResetInstance c (exec (.visResetInstance c) s) ((s.m.part c.inst.toNat).faultCode = 0)
      (((s.m.partOff c.inst.toNat).setPart c.inst.toNat { (s.m.partOff c.inst.toNat).part c.inst.toNat with faultCode := 0, jobs := 0, overruns := 0, busy := [] }).restore 0 0x0E03 c.inst.toNat)
      [])
  ∧ (∀ (c : Cmd) (s : State), Starts s 0x0E10 opModelLoad c (exec (.modelLoad c) s) (1 ≤ rd c.params 8 4 ∧ rd c.params 8 4 ≤ 33554432 ∧ inApp (rd c.params 0 8) (rd c.params 8 4) = true ∧ isZero c.params 12 4 = true
      ∧ (s.m.part c.inst.toNat).st = 1 ∧ (s.m.part c.inst.toNat).models.length + (s.m.part c.inst.toNat).loading.length < 16)
      (s.m.setPart c.inst.toNat { s.m.part c.inst.toNat with loading := (s.m.part c.inst.toNat).loading ++ [c] })
      [])
  ∧ (∀ (c : Cmd) (s : State), Does s 0x0E11 opModelUnload c (exec (.modelUnload c) s) (isZero c.params 2 2 = true ∧ (s.m.part c.inst.toNat).st = 1 ∧ ((s.m.part c.inst.toNat).model (rd c.params 0 2)).isSome = true
      ∧ (s.m.part c.inst.toNat).queue = [])
      ((s.m.setPart c.inst.toNat { s.m.part c.inst.toNat with
      queue := []
      models := (s.m.part c.inst.toNat).models.map fun d => if d.handle = rd c.params 0 2 then { d with leaving := true } else d }).visSweep c.inst.toNat)
      [])
  ∧ (∀ (c : Cmd) (s : State), Ends s 0x0E12 opSubmit c (exec (.submit c) s) (rd c.params 2 1 ≤ 3 ∧ rd c.params 3 1 ≤ 11 ∧ visMapOk c.params = true ∧ rd c.params 16 8 = 0 ∧ (s.m.part c.inst.toNat).st ≠ 1) St.notReady s.m [])
  ∧ (∀ (c : Cmd) (s : State), Ends s 0x0E13 opCancel c (exec (.cancel c) s) ((s.m.part c.inst.toNat).st ≠ 1) St.notReady s.m [])
  ∧ (∀ (c : Cmd) (s : State) (d : Model) (ctx : Nat) (i : Nat × Nat × Nat), Starts s 0x0E12 opSubmit c (exec (.submit c) s) (rd c.params 2 1 ≤ 3 ∧ rd c.params 3 1 ≤ 11 ∧ visMapOk c.params = true ∧ rd c.params 16 8 = 0 ∧ (s.m.part c.inst.toNat).st = 1
      ∧ (s.m.part c.inst.toNat).model (rd c.params 0 2) = some d ∧ d.leaving = false ∧ (s.m.ps (rd c.params 3 1)).ctx = some ctx
      ∧ outOn (s.m.ps (rd c.params 3 1)).rcd 2 = true ∧ (Tab.get [] (s.m.part c.inst.toNat).queue (rd c.params 2 1) : List VisJob).length < 32
      ∧ s.m.visInput (rd c.params 3 1) (rd c.params 4 4) = some i ∧ (s.m.part c.inst.toNat).running ≠ none
      ∧ (s.m.setPart c.inst.toNat { s.m.part c.inst.toNat with queue := Tab.put [] (s.m.part c.inst.toNat).queue (rd c.params 2 1) ((Tab.get [] (s.m.part c.inst.toNat).queue (rd c.params 2 1) : List VisJob) ++ [{ cmd := c, picture := i.2.1, timeRaw := i.2.2, buf := i.1, inArray := s.m.bufInArray (i.1 / 32) 2 }]) }).partUsed c.inst.toNat ≤ partBytes)
      (s.m.setPart c.inst.toNat { s.m.part c.inst.toNat with queue := Tab.put [] (s.m.part c.inst.toNat).queue (rd c.params 2 1) ((Tab.get [] (s.m.part c.inst.toNat).queue (rd c.params 2 1) : List VisJob) ++ [{ cmd := c, picture := i.2.1, timeRaw := i.2.2, buf := i.1, inArray := s.m.bufInArray (i.1 / 32) 2 }]) })
      [])
  ∧ (∀ (c : Cmd) (s : State) (q : Nat) (js : List VisJob) (j : VisJob), Does s 0x0E13 opCancel c (exec (.cancel c) s) ((s.m.part c.inst.toNat).st = 1
      ∧ ((List.range 4).find? fun q => (Tab.get [] (s.m.part c.inst.toNat).queue q : List VisJob).any fun j =>
          rd j.cmd.params 8 4 == rd c.params 0 4 && !j.aborted) = some q
      ∧ Tab.get [] (s.m.part c.inst.toNat).queue q = js
      ∧ (js.find? fun j => rd j.cmd.params 8 4 == rd c.params 0 4 && !j.aborted) = some j ∧ (s.m.part c.inst.toNat).running ≠ some q)
      ((s.m.setPart c.inst.toNat { s.m.part c.inst.toNat with queue := Tab.put [] (s.m.part c.inst.toNat).queue q (js.erase j) }).visEnd c.inst.toNat j 3 [] 0)
      [])

/-- Each SEG command has the effect and the reply that its entry gives. A packet that the Command Port serves, on operands
and a state that meet the condition of its clause, answers the next state named there: the module with that change,
one completion with that status and reply (ACCEPTED, or none yet, where it stays in flight), and the queue and the
bytes SDRAM holds as they were; a line the module writes is sound again. It rests on readings and choices of the
model: log entry 40. -/
def Obligations.DisplayCommands : Prop :=
  (∀ (c : Cmd) (s : State), Does s 0x0F05 opSegEnable c (exec (.segEnable c) s) True
      { s.m with seg := { s.m.seg with ask := some true } }
      [])
  ∧ (∀ (c : Cmd) (s : State), Does s 0x0F06 opSegDisable c (exec (.segDisable c) s) True
      { s.m with seg := { s.m.seg with ask := some false } }
      [])
  ∧ (∀ (c : Cmd) (s : State), Does s 0x0F07 opSegResetInstance c (exec (.segResetInstance c) s) True
      (Mod.restore { s.m with seg := { s.m.seg with ask := some false, crcErrors := 0 } } 0 0x0F03 0)
      [])
  ∧ (∀ (c : Cmd) (s : State), Does s 0x0F10 opWriteRows c (exec (.writeRows c) s) (1 ≤ rd c.params 0 1 ∧ rd c.params 0 1 ≤ 8 ∧ isZero c.params 1 3 = true ∧ ((List.range (rd c.params 0 1)).any fun j =>
      7 < rd c.params (4 + 16 * j) 1 || !isZero c.params (5 + 16 * j) 1 || !isZero c.params (18 + 16 * j) 2) = false)
      { s.m with seg := foldN (rd c.params 0 1) (fun (x : Seg) j =>
      x.writeRow (rd c.params (4 + 16 * j) 1) (slice c.params (6 + 16 * j) 6) (slice c.params (12 + 16 * j) 6)) s.m.seg }
      [])
  ∧ (∀ (c : Cmd) (s : State), Does s 0x0F11 opSetStartImage c (exec (.setStartImage c) s) (rd c.params 0 1 ≤ 1 ∧ isZero c.params 1 3 = true)
      (Mod.markSet { s.m with seg := { s.m.seg with start := if rd c.params 0 1 = 0 then slice c.params 4 48 else s.m.seg.drive } } 3)
      [])
  ∧ (∀ (c : Cmd) (s : State), Does s 0x0F12 opReadCounters c (exec (.readCounters c) s) (1 ≤ rd c.params 2 2 ∧ rd c.params 2 2 ≤ 59 ∧ rd c.params 0 2 ≤ 383 ∧ rd c.params 0 2 + rd c.params 2 2 ≤ 384)
      s.m
      (le 2 (rd c.params 0 2) ++ le 2 (rd c.params 2 2) ++ (List.range (rd c.params 2 2)).flatMap fun k => le 4 (s.m.seg.onSec (rd c.params 0 2 + k))))
  ∧ (∀ (c : Cmd) (s : State), Does s 0x0F13 opClearCounters c (exec (.clearCounters c) s) True
      { s.m with seg := { s.m.seg with onTicks := [] } }
      [])
  ∧ (∀ (c : Cmd) (s : State), Does s 0x0F14 opReadImage c (exec (.readImage c) s) (rd c.params 0 1 ≤ 1 ∧ isZero c.params 1 3 = true)
      s.m
      (if rd c.params 0 1 = 0 then s.m.seg.drive else s.m.seg.start))

/-- Each EVT command has the effect and the reply that its entry gives. A packet that the Command Port serves, on operands
and a state that meet the condition of its clause, answers the next state named there: the module with that change,
one completion with that status and reply (ACCEPTED, or none yet, where it stays in flight), and the queue and the
bytes SDRAM holds as they were; a line the module writes is sound again. It rests on readings and choices of the
model: log entry 38. -/
def Obligations.EventCommands : Prop :=
  (∀ (c : Cmd) (s : State), Does s 0x1005 opEvtEnable c (exec (.evtEnable c) s) True
      (s.m.setRoute c.inst.toNat true id)
      [])
  ∧ (∀ (c : Cmd) (s : State), Does s 0x1006 opEvtDisable c (exec (.evtDisable c) s) True
      (s.m.setRoute c.inst.toNat false id)
      [])
  ∧ (∀ (c : Cmd) (s : State), Does s 0x1007 opEvtResetInstance c (exec (.evtResetInstance c) s) True
      (let n := s.m.setRoute c.inst.toNat true fun n => n.restore 0 0x1003 c.inst.toNat
      { n with evt := { n.evt with src := Tab.upd {} n.evt.src c.inst.toNat fun x => { x with raises := 0, lost := 0 } } })
      [])
  ∧ (∀ (c : Cmd) (s : State), Does s 0x1010 opRaiseTest c (exec (.raiseTest c) s) True
      (s.m.raiseT c.inst.toNat (w32 (rd c.params 0 4)) true)
      [])
  ∧ (∀ (c : Cmd) (s : State), Does s 0x1011 opGetRoutes c (exec (.getRoutes c) s) ((rd c.params 0 1 = 0 ∨ rd c.params 0 1 = 64) ∧ isZero c.params 1 3 = true)
      s.m
      (((List.range 64).map fun k => (s.m.routeAt (rd c.params 0 1 + k) s.m.now).1).flatMap (fun r => slice r 0 2)
      ++ ((List.range 64).map fun k => (s.m.routeAt (rd c.params 0 1 + k) s.m.now).1).flatMap fun r => slice r 2 1))

/-- Each LOG command has the effect and the reply that its entry gives. A packet that the Command Port serves, on operands
and a state that meet the condition of its clause, answers the next state named there: the module with that change,
one completion with that status and reply (ACCEPTED, or none yet, where it stays in flight), and the queue and the
bytes SDRAM holds as they were; a line the module writes is sound again. It rests on readings and choices of the
model: log entry 39. -/
def Obligations.RecorderCommands : Prop :=
  (∀ (c : Cmd) (s : State), Does s 0x1107 opLogResetInstance c (exec (.logResetInstance c) s) True
      (Mod.restore { s.m with log := { s.m.log with missing := [], short := 0 } } 0 0x1103 0)
      [])
  ∧ (∀ (c : Cmd) (s : State), Does s 0x1110 opLogRead c (exec (.logRead c) s) (rd c.params 0 1 = 1 ∧ rd c.params 1 1 = 0 ∧ rd c.params 2 1 ≤ 7 ∧ isZero c.params 3 1 = true ∧ isZero c.params 10 2 = true ∧ s.m.log.gasp = [])
      { s.m with log := { s.m.log with crcFails := sat32 s.m.log.crcFails } }
      (le 6 s.m.log.head ++ le 6 s.m.log.head ++ le 6 (rd c.params 4 6) ++ le 1 0 ++ le 1 (b2n s.m.log.vol) ++ le 4 s.m.log.unplaced))
  ∧ (∀ (c : Cmd) (s : State), Does s 0x1111 opLogClear c (exec (.logClear c) s) (rd c.params 6 1 ≤ 7 ∧ isZero c.params 7 1 = true ∧ s.m.log.vol = false)
      (let hit := fun (r : LogRec) => decide (r.seq ≤ rd c.params 0 6) && decide (r.sev ≤ rd c.params 6 1)
      let n := { s.m with log := { s.m.log with bank := s.m.log.bank.filter (fun r => !hit r), wq := s.m.log.wq.filter fun r => !hit r } }
      n.logPut (n.ownRec 0x8001 3 (le 4 (s.m.log.held.filter hit).length ++ le 6 (rd c.params 0 6) ++ le 1 (rd c.params 6 1) ++ le 1 c.ring)))
      (le 4 (s.m.log.held.filter fun (r : LogRec) => decide (r.seq ≤ rd c.params 0 6) && decide (r.sev ≤ rd c.params 6 1)).length
      ++ le 6 s.m.log.head ++ zeros 2))

/-- Each NVS command has the effect and the reply that its entry gives. A packet that the Command Port serves, on operands
and a state that meet the condition of its clause, answers the next state named there: the module with that change,
one completion with that status and reply (ACCEPTED, or none yet, where it stays in flight), and the queue and the
bytes SDRAM holds as they were; a line the module writes is sound again. It rests on readings and choices of the
model: log entry 12. -/
def Obligations.StoreCommands : Prop :=
  (∀ (c : Cmd) (s : State), Starts s 0x1210 opNvsStore c (exec (.nvsStore c) s) (c.inst.toNat ≠ 6 ∧ c.inst.toNat ≠ 2 ∧ (s.m.nvSet c.inst.toNat).waiting ≠ [])
      (s.m.setNv c.inst.toNat { s.m.nvSet c.inst.toNat with waiting := (s.m.nvSet c.inst.toNat).waiting ++ [c] })
      [])
  ∧ (∀ (c : Cmd) (s : State), Starts s 0x1210 opNvsStore c (exec (.nvsStore c) s) (c.inst.toNat ≠ 6 ∧ c.inst.toNat ≠ 2 ∧ (s.m.nvSet c.inst.toNat).waiting = [])
      (let n := s.m.setNv c.inst.toNat { s.m.nvSet c.inst.toNat with waiting := [c], order := s.m.nvs.next }
      { n with nvs := { n.nvs with next := n.nvs.next + 1 } })
      [])
  ∧ (∀ (c : Cmd) (s : State), Ends s 0x1210 opNvsStore c (exec (.nvsStore c) s) (c.inst.toNat = 6) St.denied s.m [])
  ∧ (∀ (c : Cmd) (s : State), Does s 0x1211 opReadSet c (exec (.readSet c) s) (1 ≤ rd c.params 4 2 ∧ rd c.params 4 2 ≤ 224 ∧ rd c.params 6 1 = 0 ∧ isZero c.params 7 1 = true ∧ c.inst.toNat = 6
      ∧ rd c.params 0 4 + rd c.params 4 2 ≤ s.m.nvs.identity.length)
      s.m
      (le 4 (rd c.params 0 4) ++ le 2 (rd c.params 4 2) ++ zeros 2 ++ le 4 (s.m.nvSet 6).top ++ zeros 4
      ++ slice s.m.nvs.identity (rd c.params 0 4) (rd c.params 4 2)))
  ∧ (∀ (c : Cmd) (s : State), Does s 0x1212 opWriteApp c (exec (.writeApp c) s) (1 ≤ rd c.params 4 2 ∧ rd c.params 4 2 ≤ 232 ∧ rd c.params 0 4 ≤ 65535
      ∧ rd c.params 0 4 + rd c.params 4 2 ≤ 65536 ∧ isZero c.params 6 2 = true)
      (Mod.markSet { s.m with nvs := { s.m.nvs with
      app := foldN (rd c.params 4 2) (fun t k => Tab.put 0 t (rd c.params 0 4 + k) (c.params.getD (8 + k) 0)) s.m.nvs.app } } 4)
      [])
  ∧ (∀ (c : Cmd) (s : State), Does s 0x1213 opBundleLoad c (exec (.bundleLoad c) s) (1 ≤ rd c.params 4 2 ∧ rd c.params 4 2 ≤ 224 ∧ isZero c.params 6 2 = true ∧ rd c.params 0 4 = 0)
      { s.m with nvs := { s.m.nvs with bundle := slice c.params 8 (rd c.params 4 2) } }
      [])
  ∧ (∀ (c : Cmd) (s : State), Ends s 0x1214 opAdopt c (exec (.adopt c) s) (isZero c.params 4 4 = true ∧ s.m.safe.standstill = false ∧ s.m.safe.st ≠ .noParams) St.locked s.m [])
  ∧ (∀ (c : Cmd) (s : State) (sets : List (Nat × List NvEntry)), Served s 0x1214 opAdopt c → (s.m.safe.standstill = true ∨ s.m.safe.st = .noParams) → isZero c.params 4 4 = true →
      rd c.params 0 4 ≤ s.m.nvs.bundle.length → bundleSets (s.m.nvs.bundle.take (rd c.params 0 4)) = some sets →
      (rd (s.m.nvs.bundle.take (rd c.params 0 4)) 8 4 ≠ s.m.nvs.lineage.toNat ∨ s.m.nvs.creds.contains (BitVec.ofNat 64 (rd (s.m.nvs.bundle.take (rd c.params 0 4)) 36 8)) = false
          ∨ Config.credVerify (BitVec.ofNat 64 (rd (s.m.nvs.bundle.take (rd c.params 0 4)) 36 8)) ((s.m.nvs.bundle.take (rd c.params 0 4)).take (rd c.params 0 4 - 96)) ((s.m.nvs.bundle.take (rd c.params 0 4)).drop (rd c.params 0 4 - 96)) = false →
        Becomes (exec (.adopt c) s) s (s.m.complete 0x1214 c St.denied [] 0).settle)
      ∧ (rd (s.m.nvs.bundle.take (rd c.params 0 4)) 8 4 = s.m.nvs.lineage.toNat → s.m.nvs.creds.contains (BitVec.ofNat 64 (rd (s.m.nvs.bundle.take (rd c.params 0 4)) 36 8)) = true →
        Config.credVerify (BitVec.ofNat 64 (rd (s.m.nvs.bundle.take (rd c.params 0 4)) 36 8)) ((s.m.nvs.bundle.take (rd c.params 0 4)).take (rd c.params 0 4 - 96)) ((s.m.nvs.bundle.take (rd c.params 0 4)).drop (rd c.params 0 4 - 96)) = true →
        ((s.m.upd.act.isSome || s.m.nvs.busySet.isSome || s.m.nvs.adopting.isSome) = true →
          Becomes (exec (.adopt c) s) s (s.m.complete 0x1214 c St.notReady [] 0).settle)
        ∧ ((s.m.upd.act.isSome || s.m.nvs.busySet.isSome || s.m.nvs.adopting.isSome) = false →
          Becomes (exec (.adopt c) s) s ((Mod.complete (Mod.fly { s.m with nvs := { s.m.nvs with adopting := some (adoptionOf c (s.m.nvs.bundle.take (rd c.params 0 4)) sets) } }
            (flightOf s 0x1214 c [])) 0x1214 c St.accepted [] 0).settle))))
  ∧ (∀ (c : Cmd) (s : State), Ends s 0x1214 opAdopt c (exec (.adopt c) s) ((s.m.safe.standstill = true ∨ s.m.safe.st = .noParams) ∧ isZero c.params 4 4 = true ∧ rd c.params 0 4 ≤ s.m.nvs.bundle.length ∧ bundleSets (s.m.nvs.bundle.take (rd c.params 0 4)) = none) St.badParam s.m [])

/-- Each UPD command has the effect and the reply that its entry gives. A packet that the Command Port serves, on operands
and a state that meet the condition of its clause, answers the next state named there: the module with that change,
one completion with that status and reply (ACCEPTED, or none yet, where it stays in flight), and the queue and the
bytes SDRAM holds as they were; a line the module writes is sound again. It rests on readings and choices of the
model: log entries 4, 42. -/
def Obligations.UpdateCommands : Prop :=
  (∀ (c : Cmd) (s : State), Does s 0x1310 opStageBegin c (exec (.stageBegin c) s) (inRange (rd c.params 16 4) 65536 25165824 = true ∧ isZero c.params 20 4 = true ∧ s.m.openStaging = none ∧ s.m.upd.act = none
      ∧ (s.m.slot s.m.target).st ≠ .trial ∧ (s.m.slot s.m.target).st ≠ .suspended)
      ((s.m.setSlot s.m.target { st := .staging, imageId := slice c.params 0 16, size := rd c.params 16 4, writes := sat16 ((s.m.slot s.m.target).writes + 1), lastRaw := s.m.now }).updEv 122 s.m.target 1)
      (CodeSlot.progress { st := .staging, imageId := slice c.params 0 16, size := rd c.params 16 4, writes := sat16 ((s.m.slot s.m.target).writes + 1), lastRaw := s.m.now } s.m.target false))
  ∧ (∀ (c : Cmd) (s : State), Ends s 0x1312 opStageEnd c (exec (.stageEnd c) s) (s.m.openStaging = none) St.notReady s.m [])
  ∧ (∀ (c : Cmd) (s : State) (k : Nat), Does s 0x1313 opActivate c (exec (.activate c) s) (rd c.params 0 1 = 1 ∧ rd c.params 1 1 ≤ 7 ∧ rd c.params 2 2 = 0 ∧ s.m.upd.act = none ∧ s.m.upd.reheat = false
      ∧ ((List.range 2).find? fun k => decide ((s.m.slot k).st = .staged)) = some k)
      (let n := s.m.setSlot k { s.m.slot k with st := .trial, armed := true }
      Mod.updEv { n with upd := { n.upd with pending := 0x1F } } 123 k 8)
      (let n := s.m.setSlot k { s.m.slot k with st := .trial, armed := true }
      Mod.actReply { n with upd := { n.upd with pending := 0x1F } } 0))
  ∧ (∀ (c : Cmd) (s : State), Ends s 0x1314 opUpdConfirm c (exec (.updConfirm c) s) (s.m.upd.act = none ∧ ((List.range 2).find? fun k => decide ((s.m.slot k).st = .trial) && !(s.m.slot k).armed) = none) St.notReady s.m [])
  ∧ (∀ (c : Cmd) (s : State) (k : Nat), Does s 0x1314 opUpdConfirm c (exec (.updConfirm c) s) (s.m.upd.act = none ∧ ((List.range 2).find? fun k => decide ((s.m.slot k).st = .trial) && !(s.m.slot k).armed) = some k
      ∧ s.m.confirmedSlot = none ∧ (s.m.slot k).arb ≤ s.m.upd.otp)
      (let n := s.m.setSlot k { s.m.slot k with st := .confirmed }
      n.updEv 123 k 5)
      (le 1 s.m.upd.otp ++ zeros 3))
  ∧ (∀ (c : Cmd) (s : State) (a : Activation), Does s 0x1315 opUpdAbort c (exec (.updAbort c) s) (s.m.upd.act = some a ∧ a.step ≤ 3)
      (s.m.abortActivation a)
      (zeros 4))
  ∧ (∀ (c : Cmd) (s : State) (a : Activation), Ends s 0x1315 opUpdAbort c (exec (.updAbort c) s) (s.m.upd.act = some a ∧ 3 < a.step) St.busy s.m [])
  ∧ (∀ (c : Cmd) (s : State) (k : Nat), Served s 0x1311 opStageChunk c → s.m.openStaging = some k → rd c.params 2 1 = 0 → isZero c.params 3 1 = true →
      isZero c.params 10 6 = true → rd c.params 0 2 < chunksOf (s.m.slot k).size → 1 ≤ rd c.params 8 2 → rd c.params 8 2 ≤ 224 →
      rd c.params 4 4 = 0 → rd c.params 8 2 < (s.m.slot k).chunkLen (rd c.params 0 2) →
      (rd c.params 0 2 = 0 ∨ (s.m.slot k).verified.contains 0 = true) → (s.m.slot k).verified.contains (rd c.params 0 2) = false →
      (s.m.slot k).partials = [] →
      (let y : CodeSlot := { s.m.slot k with partials := [(rd c.params 0 2, slice c.params 16 (rd c.params 8 2))], lastRaw := s.m.now }
       Becomes (exec (.stageChunk c) s) s ((s.m.setSlot k y).complete 0x1311 c St.ok (chunkReply (rd c.params 0 2) 0 0 y) 0).settle))
  ∧ (∀ (c : Cmd) (s : State) (k : Nat), Served s 0x1312 opStageEnd c → s.m.openStaging = some k → chunksOf (s.m.slot k).size ≤ (s.m.slot k).verified.length →
      (let n := s.m.complete 0x1312 c St.accepted [] 0
       let x := s.m.slot k
       let n := (n.setSlot k { x with st := if x.tagsOk then .staged else .invalid }).updEv 122 k (if x.tagsOk then 3 else 4)
       Becomes (exec (.stageEnd c) s) s (n.complete 0x1312 c (if x.tagsOk then St.ok else St.fault)
         (le 4 x.version ++ le 1 x.arb ++ le 1 (b2n (n.formatOk x)) ++ le 2 0) 0).settle))

/-- Each PWR command has the effect and the reply that its entry gives. A packet that the Command Port serves, on operands
and a state that meet the condition of its clause, answers the next state named there: the module with that change,
one completion with that status and reply (ACCEPTED, or none yet, where it stays in flight), and the queue and the
bytes SDRAM holds as they were; a line the module writes is sound again. It rests on readings and choices of the
model: log entries 19, 56. -/
def Obligations.PowerCommands : Prop :=
  (∀ (c : Cmd) (s : State), Does s 0x1407 opPwrResetInstance c (exec (.pwrResetInstance c) s) True
      (s.m.restore 0 0x1403 0)
      [])
  ∧ (∀ (c : Cmd) (s : State) (g : Nat × Nat), Does s 0x1412 opShutdownHold c (exec (.shutdownHold c) s) (s.m.pwr.grace = some g ∧ inRange (rd c.params 0 2) 1 300 = true ∧ isZero c.params 2 2 = true)
      { s.m with pwr := { s.m.pwr with grace := some (g.1, min (s.m.now + secs (rd c.params 0 2)) (g.1 + secs 600)) } }
      (le 2 ((min (s.m.now + secs (rd c.params 0 2)) (g.1 + secs 600) - s.m.now) / secs 1) ++ zeros 2))
  ∧ (∀ (c : Cmd) (s : State), Ends s 0x1412 opShutdownHold c (exec (.shutdownHold c) s) (inRange (rd c.params 0 2) 1 300 = true ∧ isZero c.params 2 2 = true ∧ s.m.pwr.grace = none) St.notReady s.m [])
  ∧ (∀ (c : Cmd) (s : State), Starts s 0x1413 opDomain c (exec (.domain c) s) (inRange (rd c.params 0 1) 6 8 = true ∧ rd c.params 1 1 = 1 ∧ isZero c.params 2 2 = true ∧ s.m.pwr.mode = .run
      ∧ s.m.pwr.shed.toNat.testBit (rd c.params 0 1) = false)
      (let n := s.m.domainUp (rd c.params 0 1)
      { n with pwr := { n.pwr with waits := n.pwr.waits ++ [(c, n.now + ms 50)] } })
      [])
  ∧ (∀ (c : Cmd) (s : State), Ends s 0x1413 opDomain c (exec (.domain c) s) (inRange (rd c.params 0 1) 6 8 = true ∧ rd c.params 1 1 ≤ 1 ∧ isZero c.params 2 2 = true ∧ s.m.pwr.mode ≠ .run) St.notReady s.m [])
  ∧ (∀ (c : Cmd) (s : State), Served s 0x1410 opModuleReset c → rd c.params 0 1 ≤ 1 → isZero c.params 1 3 = true → s.m.safe.standstill = true →
      Powers (exec (.moduleReset c) s) s ((Mod.complete { s.m with pwr := { s.m.pwr with resetDue := some (rd c.params 0 1) } }
        0x1410 c St.ok [] 0).settle).resetNow)
  ∧ (∀ (c : Cmd) (s : State) (g : Nat × Nat), Served s 0x1411 opShutdownAck c → s.m.pwr.grace = some g →
      Powers (exec (.shutdownAck c) s) s ((Mod.complete { s.m with pwr := { s.m.pwr with grace := some (g.1, s.m.now) } }
        0x1411 c St.ok [] 0).settle).ackNow)

/-- GET_STATUS answers the fields of its table from the state; a measured field takes a free value and nothing else
changes. A packet that the Command Port serves, on operands and a state that meet the condition of its clause, answers
the next state named there: the module with that change, one completion with that status and reply (ACCEPTED, or none
yet, where it stays in flight), and the queue and the bytes SDRAM holds as they were; a line the module writes is
sound again. It rests on readings and choices of the model: log entry 4. -/
def Obligations.StatusReads : Prop :=
  (∀ (c : Cmd) (s : State), Does s 0x0102 opSysGetStatus c (exec (.sysGetStatus c) s) True
      s.m
      [])
  ∧ (∀ (c : Cmd) (s : State), Does s 0x0202 opTimeGetStatus c (exec (.timeGetStatus c) s) True
      s.m
      s.m.readTime)
  ∧ (∀ (c : Cmd) (s : State), Does s 0x0402 opLoopGetStatus c (exec (.loopGetStatus c) s) True
      s.m
      (
      let x := s.m.loopCh c.inst.toNat
      let f := b2n x.fault + b2n x.stale * 2 + b2n x.blend.isSome * 4 + b2n x.limited * 8 + b2n (x.sched1 || x.sched2) * 16
      (le 1 x.mode.code ++ le 1 f ++ le 1 x.bin1 ++ le 1 x.bin2 ++ le 2 x.set
        ++ le 2 (match x.blend with | some b => b.fromSet | none => 0xFFFF)
        ++ le 4 (match x.blend with | some b => b.w.toNat | none => 0)
        ++ le 4 x.bump.toNat ++ le 4 x.yPrev.toNat ++ le 4 x.e.toNat ++ le 4 x.sp.toNat ++ le 4 x.fb.toNat
        ++ le 4 x.runs.toNat ++ le 1 x.faultCode ++ le 1 s.m.loop.places ++ le 2 0 ++ le 8 s.m.lanes.computed)))
  ∧ (∀ (c : Cmd) (s : State), Does s 0x0602 opInpGetStatus c (exec (.inpGetStatus c) s) True
      s.m
      (
      let x := s.m.inpCh c.inst.toNat
      (le 4 x.valA.toNat ++ le 4 x.valB.toNat
        ++ le 2 (b2n x.badA + b2n x.badB * 2 + b2n x.plaus * 4 + b2n x.latched * 8 + b2n x.enabled * 16)
        ++ le 1 x.faultCode ++ le 1 (if inpKind c.inst.toNat = .sup then x.used s.m.now else 0) ++ le 4 0 ++ le 8 s.m.lanes.frame)))
  ∧ (∀ (c : Cmd) (s : State), Does s 0x0702 opSafeGetStatus c (exec (.safeGetStatus c) s) True
      s.m.darkPoll
      (
      let s := s.m.darkPoll.safe
      let r := s.rcd
      (le 1 s.st.code
        ++ le 1 (b2n s.standstill + b2n s.serviceMode * 2 + b2n s.degraded * 4 + b2n s.tickLocal * 8)
        ++ (List.range 5).flatMap (fun f => le 1 (s.func f).code) ++ le 1 s.outBits ++ le 1 s.outFaultBits ++ le 1 0
        ++ le 2 s.faultBits ++ le 4 s.runBits ++ le 4 s.speedA.toNat ++ le 4 s.speedB.toNat ++ le 4 s.cycles.toNat
        ++ le 4 s.discards ++ le 4 (r.elim 0 crcSp) ++ le 4 (r.elim 0 crcJack))))
  ∧ (∀ (c : Cmd) (s : State), Does s 0x0802 opCanGetStatus c (exec (.canGetStatus c) s) True
      s.m
      (
      let ch := c.inst.toNat
      let x := s.m.canCh ch
      let r := s.m.canRec ch
      let fl := b2n x.alone + b2n (x.st == 3 || x.st == 4) * 2 + b2n (rd r 0 1 == 1) * 4 + b2n ((rd r 1 1).testBit 3) * 8
      (le 1 x.st ++ le 1 fl ++ le 2 x.tec ++ le 2 x.rec' ++ le 2 x.app.q.length ++ le 1 x.tx.length
        ++ le 1 x.tdcMeas.toNat ++ le 2 (match x.tx with | e :: _ => e.attempts | [] => 0) ++ le 4 x.rxSeq.toNat
        ++ le 4 x.txFrames ++ le 4 x.rxDrops ++ le 4 x.txOverflow ++ le 4 x.busOffs ++ le 4 x.hbMissed)))
  ∧ (∀ (c : Cmd) (s : State), Does s 0x1002 opEvtGetStatus c (exec (.evtGetStatus c) s) True
      s.m
      (
      let i := c.inst.toNat
      let x := s.m.evSrc i
      let p := s.m.routeAt i s.m.now
      (slice p.1 0 2 ++ le 1 (rd p.1 2 1) ++ le 1 (b2n x.enabled + b2n (fixedRoute i) * 2) ++ le 4 x.raises
        ++ le 4 x.lost ++ le 4 x.param.toNat ++ le 8 x.raw)))
  ∧ (∀ (c : Cmd) (s : State), Does s 0x1102 opLogGetStatus c (exec (.logGetStatus c) s) True
      s.m
      (
      let l := s.m.log
      let smin := l.sMin
      (le 6 l.head ++ le 6 l.oldest ++ le 2 (min 16384 l.readable.length)
        ++ le 1 (b2n l.vol + b2n (decide (l.places ≤ l.held.length)) * 2) ++ le 1 (if smin = 8 then 0xFF else smin)
        ++ le 4 l.unplaced ++ le 4 l.suppTotal ++ le 4 l.crcFails ++ le 1 l.gasp.length ++ zeros 3)))
  ∧ (∀ (c : Cmd) (s : State), Does s 0x1202 opNvsGetStatus c (exec (.nvsGetStatus c) s) True
      s.m
      (
      let k := c.inst.toNat
      let x := s.m.nvSet k
      let st := match x.writing, x.waiting with
        | none, [] => 0 | none, _ => 1 | some _, [] => 2 | some _, _ => 3
      (le 1 st ++ le 1 (b2n x.changed + b2n (x.gens.isEmpty && k != 6) * 2 + b2n x.skipped * 4) ++ le 1 (nvPlaces k)
        ++ le 1 (if k = 6 then 1 else x.gens.length) ++ le 4 x.top ++ le 4 x.writes ++ le 2 (x.worn k / 100) ++ zeros 2
        ++ le 8 x.lastRaw)))
  ∧ (∀ (c : Cmd) (s : State), Does s 0x1302 opUpdGetStatus c (exec (.updGetStatus c) s) True
      s.m
      ((le 1 s.m.upd.running ++ le 1 (s.m.confirmedSlot.getD 0xFF) ++ le 1 s.m.upd.otp
      ++ le 1 (match s.m.upd.act with | some a => a.step | none => 0) ++ le 1 (b2n s.m.upd.reheat) ++ zeros 3
      ++ (s.m.slot 0).bytes ++ (s.m.slot 1).bytes)))
  ∧ (∀ (c : Cmd) (s : State), Does s 0x0D02 opPipeGetStatus c (exec (.pipeGetStatus c) s) True
      s.m
      (
      let k := c.inst.toNat
      let x := s.m.pipe k
      let mine := (List.range 12).filter fun n => slotOn (s.m.slotRec n) && (s.m.ps n).pipe.orElse (fun _ => s.m.assign (s.m.recNext n)) == some k
      let load := mine.foldl (fun a n => a + slotLoad (s.m.slotRec n) (s.m.recNext n)) 0
      (le 1 x.st ++ le 1 x.faultCode ++ le 2 (mine.foldl (fun a n => a + 2 ^ n) 0) ++ le 2 (busyPm s.m.now x.busy) ++ zeros 2
        ++ le 4 x.jobs ++ le 4 x.late ++ le 4 x.maxLat ++ le 4 (ceilDiv load 100000) ++ le 4 (ceilDiv (s.m.slotSum slotLoad) 100000)
        ++ le 2 (ceilDiv s.m.dcSum 200000000) ++ le 2 (ceilDiv (s.m.visnSum false) 25600000000) ++ le 2 (ceilDiv (s.m.visnSum true) 25600000000)
        ++ le 2 (ceilDiv (s.m.slotSum tnrTraffic) 100000000) ++ zeros 4)))
  ∧ (∀ (c : Cmd) (s : State), Does s 0x0E02 opVisGetStatus c (exec (.visGetStatus c) s) True
      s.m
      (
      let p := c.inst.toNat
      let x := s.m.part p
      let now : List (Nat × Nat) := match x.running with
        | some q => (match (Tab.get [] x.queue q : List VisJob) with | j :: _ => [(j.runRaw, s.m.now)] | [] => [])
        | none => []
      (le 1 x.st ++ le 1 x.faultCode ++ le 1 x.models.length ++ le 1 (x.running.getD 0xFF)
        ++ ((List.range 4).flatMap fun q => le 1 (Tab.get [] x.queue q : List VisJob).length) ++ le 4 (s.m.partFree p) ++ le 4 x.jobs
        ++ le 4 x.overruns ++ le 4 (busyPm s.m.now (now ++ x.busy)))))
  ∧ (∀ (c : Cmd) (s : State), Does s 0x0302 opLaneGetStatus c (exec (.laneGetStatus c) s) True
      s.m
      (
      let l := s.m.lanes
      let act := match l.active with | some .a => 0 | some .b => 1 | none => 0xFF
      (le 1 l.a.st.code ++ le 1 l.b.st.code ++ le 1 l.redundancy ++ le 1 act ++ le 4 l.heldRun ++ le 8 l.frame
        ++ le 8 l.lastTakeover ++ le 8 l.lastDivergence ++ le 2 l.progress ++ le 1 (s.m.rejoinsOf .a).length
        ++ le 1 (s.m.rejoinsOf .b).length ++ le 4 l.image)))
  ∧ (∀ (c : Cmd) (s : State), Does s 0x0A02 opGnssGetStatus c (exec (.gnssGetStatus c) s) True
      (
      let d := s.m.draw
      d.2)
      (
      let g := s.m.gnss
      let x := s.m.ant c.inst.toNat
      let d := s.m.draw
      let st := b2n x.bias + b2n x.opened * 2 + b2n x.short * 4 + b2n x.latched * 8 + b2n x.noSignal * 16
      (le 1 g.fix ++ le 1 g.heading ++ le 2 g.flags.toNat ++ le 1 st ++ le 1 x.tracked ++ le 2 d.1.toNat
        ++ le 4 g.corrFrames ++ le 4 g.corrErrors ++ le 4 g.corrUnsupported
        ++ le 2 g.age10 ++ le 2 g.stationId ++ le 4 x.epochs ++ zeros 4 ++ le 8 g.epochRaw)))
  ∧ (∀ (c : Cmd) (s : State), Does s 0x0C02 opClnkGetStatus c (exec (.clnkGetStatus c) s) True
      (
      let d := s.m.draw
      d.2)
      (
      let x := s.m.link c.inst.toNat
      let d := s.m.draw
      (le 1 x.st.code ++ le 1 (b2n x.unaligned + b2n x.pocOpen * 2) ++ le 2 (if x.poc then d.1.toNat % 65536 else 0)
        ++ le 2 (rd x.hub 1 2) ++ le 1 (rd x.hub 0 1) ++ [0] ++ leI 4 x.alignNs ++ le 4 x.badBlocks ++ le 4 x.unsupported
        ++ le 4 x.bcErrors ++ le 8 x.blocks)))
  ∧ (∀ (c : Cmd) (s : State), Does s 0x0F02 opSegGetStatus c (exec (.segGetStatus c) s) True
      (
      let d := s.m.draw
      d.2)
      (
      let x := s.m.seg
      let d := s.m.draw
      (le 1 x.st ++ le 1 (b2n x.park + b2n x.clamped * 2 + b2n x.fault * 4 + b2n (x.dirty != 0) * 8)
        ++ le 2 x.div ++ le 1 x.code ++ leI 1 x.temp ++ le 2 d.1.toNat ++ le 4 x.crcErrors ++ le 4 x.cycles.toNat
        ++ le 2 x.crc.toNat ++ zeros 2 ++ le 4 x.meanOn)))
  ∧ (∀ (c : Cmd) (s : State), Does s 0x1402 opPwrGetStatus c (exec (.pwrGetStatus c) s) True
      (
      let d := s.m.draw
      let e := d.2.draw
      e.2)
      (
      let p := s.m.pwr
      let d := s.m.draw
      let e := d.2.draw
      let mode := match p.mode with | .sleep => 1 | .park => 2 | .run => 3 | .shutdown => 4
      let left := match p.grace with | some g => (g.2 - s.m.now) / secs 1 | none => 0
      (le 1 mode ++ le 1 p.cause ++ le 1 (b2n p.feedA + b2n p.feedB * 2) ++ le 1 (p.thermal.foldl max 0)
        ++ le 2 p.domains.toNat ++ le 8 d.1.toNat ++ le 4 e.1.toNat ++ le 2 left ++ le 4 p.losses)))
  ∧ (∀ (c : Cmd) (s : State), Does s 0x0502 opDrvGetStatus c (exec (.drvGetStatus c) s) (c.inst.toNat < 64)
      (s.m.drvStatusCh c.inst.toNat).2
      (s.m.drvStatusCh c.inst.toNat).1)
  ∧ (∀ (c : Cmd) (s : State), Does s 0x0502 opDrvGetStatus c (exec (.drvGetStatus c) s) (64 ≤ c.inst.toNat)
      (s.m.drvStatusBank c.inst.toNat).2
      (s.m.drvStatusBank c.inst.toNat).1)
  ∧ (∀ (c : Cmd) (s : State), Does s 0x0902 opEthGetStatus c (exec (.ethGetStatus c) s) (c.inst = 6)
      s.m
      (le 4 s.m.eth.bufferDrops ++ le 4 s.m.eth.hostDrops ++ le 4 s.m.liveMacs.length))
  ∧ (∀ (c : Cmd) (s : State), Does s 0x0902 opEthGetStatus c (exec (.ethGetStatus c) s) (c.inst = 7)
      s.m
      (le 1 s.m.eth.role ++ zeros 3 ++ le 8 s.m.eth.gm.toNat ++ le 4 s.m.eth.offset.toNat))
  ∧ (∀ (c : Cmd) (s : State), Does s 0x0B02 opFuseGetStatus c (exec (.fuseGetStatus c) s) (c.inst = 33)
      s.m
      (le 4 s.m.fuse.records ++ le 2 (match s.m.fuse.rcd with | some r => r.span | none => 0) ++ zeros 2 ++ le 4 s.m.fuse.unmatched.toNat
      ++ le 4 s.m.fuse.gaps ++ le 2 s.m.fuse.delay ++ zeros 2))
  ∧ (∀ (c : Cmd) (s : State), Does s 0x0B02 opFuseGetStatus c (exec (.fuseGetStatus c) s) (c.inst = 32)
      s.m
      (le 1 s.m.fuse.st ++ le 1 (rd s.m.engRec 3 1) ++ le 2 s.m.fuseFlags ++ le 4 s.m.fuse.included.toNat
      ++ le 4 (s.m.maskOf fun s => s.excluded != 0).toNat ++ le 4 s.m.fuse.absent.toNat ++ le 4 (s.m.maskOf fun s => s.resync.isSome).toNat
      ++ le 2 (match s.m.fuse.path with | some p => p.1.toNat | none => 0) ++ le 2 (s.m.fuse.segment.getD 0xFFFF)
      ++ le 2 s.m.fuse.staged.length ++ zeros 2 ++ le 4 s.m.fuse.published))

/-- With the module and dispatch running, no parameters, an instance that exists and a sound header, each of these
completes with DENIED and has no other effect. The next state is the module with that completion, whose line of SDRAM
is sound again; the queue and the bytes SDRAM holds stay. -/
def Obligations.DeniedOperations : Prop :=
  (∀ (c : Cmd) (s : State), s.m.takes c.ring = true → c.plen = 0 → c.inst.toNat < 2 → plainHeader c →
      Becomes (exec (.laneEnable c) s) s (s.m.complete 0x0305 c St.denied [] 0))
  ∧ (∀ (c : Cmd) (s : State), s.m.takes c.ring = true → c.plen = 0 → c.inst.toNat < 2 → plainHeader c →
      Becomes (exec (.laneDisable c) s) s (s.m.complete 0x0306 c St.denied [] 0))
  ∧ (∀ (c : Cmd) (s : State), s.m.takes c.ring = true → c.plen = 0 → c.inst.toNat < 2 → plainHeader c →
      Becomes (exec (.laneResetInstance c) s) s (s.m.complete 0x0307 c St.denied [] 0))
  ∧ (∀ (c : Cmd) (s : State), s.m.takes c.ring = true → c.plen = 0 → c.inst.toNat < 1 → plainHeader c →
      Becomes (exec (.logEnable c) s) s (s.m.complete 0x1105 c St.denied [] 0))
  ∧ (∀ (c : Cmd) (s : State), s.m.takes c.ring = true → c.plen = 0 → c.inst.toNat < 1 → plainHeader c →
      Becomes (exec (.logDisable c) s) s (s.m.complete 0x1106 c St.denied [] 0))
  ∧ (∀ (c : Cmd) (s : State), s.m.takes c.ring = true → c.plen = 0 → c.inst.toNat < 7 → plainHeader c →
      Becomes (exec (.nvsEnable c) s) s (s.m.complete 0x1205 c St.denied [] 0))
  ∧ (∀ (c : Cmd) (s : State), s.m.takes c.ring = true → c.plen = 0 → c.inst.toNat < 7 → plainHeader c →
      Becomes (exec (.nvsDisable c) s) s (s.m.complete 0x1206 c St.denied [] 0))
  ∧ (∀ (c : Cmd) (s : State), s.m.takes c.ring = true → c.plen = 0 → c.inst.toNat < 7 → plainHeader c →
      Becomes (exec (.nvsResetInstance c) s) s (s.m.complete 0x1207 c St.denied [] 0))
  ∧ (∀ (c : Cmd) (s : State), s.m.takes c.ring = true → c.plen = 0 → c.inst.toNat < 1 → plainHeader c →
      Becomes (exec (.pwrEnable c) s) s (s.m.complete 0x1405 c St.denied [] 0))
  ∧ (∀ (c : Cmd) (s : State), s.m.takes c.ring = true → c.plen = 0 → c.inst.toNat < 1 → plainHeader c →
      Becomes (exec (.pwrDisable c) s) s (s.m.complete 0x1406 c St.denied [] 0))
  ∧ (∀ (c : Cmd) (s : State), s.m.takes c.ring = true → c.plen = 0 → c.inst.toNat < 12 → plainHeader c →
      Becomes (exec (.safeEnable c) s) s (s.m.complete 0x0705 c St.denied [] 0))
  ∧ (∀ (c : Cmd) (s : State), s.m.takes c.ring = true → c.plen = 0 → c.inst.toNat < 12 → plainHeader c →
      Becomes (exec (.safeDisable c) s) s (s.m.complete 0x0706 c St.denied [] 0))
  ∧ (∀ (c : Cmd) (s : State), s.m.takes c.ring = true → c.plen = 0 → c.inst.toNat < 12 → plainHeader c →
      Becomes (exec (.safeResetInstance c) s) s (s.m.complete 0x0707 c St.denied [] 0))
  ∧ (∀ (c : Cmd) (s : State), s.m.takes c.ring = true → c.plen = 0 → c.inst.toNat < 1 → plainHeader c →
      Becomes (exec (.sysEnable c) s) s (s.m.complete 0x0105 c St.denied [] 0))
  ∧ (∀ (c : Cmd) (s : State), s.m.takes c.ring = true → c.plen = 0 → c.inst.toNat < 1 → plainHeader c →
      Becomes (exec (.sysDisable c) s) s (s.m.complete 0x0106 c St.denied [] 0))
  ∧ (∀ (c : Cmd) (s : State), s.m.takes c.ring = true → c.plen = 0 → c.inst.toNat < 1 → plainHeader c →
      Becomes (exec (.sysResetInstance c) s) s (s.m.complete 0x0107 c St.denied [] 0))
  ∧ (∀ (c : Cmd) (s : State), s.m.takes c.ring = true → c.plen = 0 → c.inst.toNat < 1 → plainHeader c →
      Becomes (exec (.timeEnable c) s) s (s.m.complete 0x0205 c St.denied [] 0))
  ∧ (∀ (c : Cmd) (s : State), s.m.takes c.ring = true → c.plen = 0 → c.inst.toNat < 1 → plainHeader c →
      Becomes (exec (.timeDisable c) s) s (s.m.complete 0x0206 c St.denied [] 0))
  ∧ (∀ (c : Cmd) (s : State), s.m.takes c.ring = true → c.plen = 0 → c.inst.toNat < 1 → plainHeader c →
      Becomes (exec (.timeResetInstance c) s) s (s.m.complete 0x0207 c St.denied [] 0))
  ∧ (∀ (c : Cmd) (s : State), s.m.takes c.ring = true → c.plen = 0 → c.inst.toNat < 1 → plainHeader c →
      Becomes (exec (.updEnable c) s) s (s.m.complete 0x1305 c St.denied [] 0))
  ∧ (∀ (c : Cmd) (s : State), s.m.takes c.ring = true → c.plen = 0 → c.inst.toNat < 1 → plainHeader c →
      Becomes (exec (.updDisable c) s) s (s.m.complete 0x1306 c St.denied [] 0))
  ∧ (∀ (c : Cmd) (s : State), s.m.takes c.ring = true → c.plen = 0 → c.inst.toNat < 1 → plainHeader c →
      Becomes (exec (.updResetInstance c) s) s (s.m.complete 0x1307 c St.denied [] 0))

/-- R102, R103 for a packet that names another frame; R85 at NO_LANE for one whose commit frame is the present one (log
entry 9). -/
def Obligations.LaneChangedWithoutToken : Prop :=
  (∀ (c : Cmd) (s : State), s.m.takes c.ring = true → s.m.portCheck 0x0815 opSetLanePdu c = none →
      (s.m.namesNow 0x0815 c = false → Becomes (exec (.setLanePdu c) s) s (s.m.stamp 0x0815 c))
      ∧ (s.m.namesNow 0x0815 c = true → s.m.lanes.redundancy = 5 →
        Becomes (exec (.setLanePdu c) s) s (s.m.countChanged.complete 0x0815 c St.laneChanged [] 0)))
  ∧ (∀ (c : Cmd) (s : State), s.m.takes c.ring = true → s.m.portCheck 0x0816 opSetSignal c = none →
      (s.m.namesNow 0x0816 c = false → Becomes (exec (.setSignal c) s) s (s.m.stamp 0x0816 c))
      ∧ (s.m.namesNow 0x0816 c = true → s.m.lanes.redundancy = 5 →
        Becomes (exec (.setSignal c) s) s (s.m.countChanged.complete 0x0816 c St.laneChanged [] 0)))
  ∧ (∀ (c : Cmd) (s : State), s.m.takes c.ring = true → s.m.portCheck 0x0503 opDrvSetConfig c = none →
      (s.m.namesNow 0x0503 c = false → Becomes (exec (.drvSetConfig c) s) s (s.m.stamp 0x0503 c))
      ∧ (s.m.namesNow 0x0503 c = true → s.m.lanes.redundancy = 5 →
        Becomes (exec (.drvSetConfig c) s) s (s.m.countChanged.complete 0x0503 c St.laneChanged [] 0)))
  ∧ (∀ (c : Cmd) (s : State), s.m.takes c.ring = true → s.m.portCheck 0x0505 opDrvEnable c = none →
      (s.m.namesNow 0x0505 c = false → Becomes (exec (.drvEnable c) s) s (s.m.stamp 0x0505 c))
      ∧ (s.m.namesNow 0x0505 c = true → s.m.lanes.redundancy = 5 →
        Becomes (exec (.drvEnable c) s) s (s.m.countChanged.complete 0x0505 c St.laneChanged [] 0)))
  ∧ (∀ (c : Cmd) (s : State), s.m.takes c.ring = true → s.m.portCheck 0x0506 opDrvDisable c = none →
      (s.m.namesNow 0x0506 c = false → Becomes (exec (.drvDisable c) s) s (s.m.stamp 0x0506 c))
      ∧ (s.m.namesNow 0x0506 c = true → s.m.lanes.redundancy = 5 →
        Becomes (exec (.drvDisable c) s) s (s.m.countChanged.complete 0x0506 c St.laneChanged [] 0)))
  ∧ (∀ (c : Cmd) (s : State), s.m.takes c.ring = true → s.m.portCheck 0x0507 opDrvResetInstance c = none →
      (s.m.namesNow 0x0507 c = false → Becomes (exec (.drvResetInstance c) s) s (s.m.stamp 0x0507 c))
      ∧ (s.m.namesNow 0x0507 c = true → s.m.lanes.redundancy = 5 →
        Becomes (exec (.drvResetInstance c) s) s (s.m.countChanged.complete 0x0507 c St.laneChanged [] 0)))
  ∧ (∀ (c : Cmd) (s : State), s.m.takes c.ring = true → s.m.portCheck 0x0510 opSetOutput c = none →
      (s.m.namesNow 0x0510 c = false → Becomes (exec (.setOutput c) s) s (s.m.stamp 0x0510 c))
      ∧ (s.m.namesNow 0x0510 c = true → s.m.lanes.redundancy = 5 →
        Becomes (exec (.setOutput c) s) s (s.m.countChanged.complete 0x0510 c St.laneChanged [] 0)))
  ∧ (∀ (c : Cmd) (s : State), s.m.takes c.ring = true → s.m.portCheck 0x0511 opPhFire c = none →
      (s.m.namesNow 0x0511 c = false → Becomes (exec (.phFire c) s) s (s.m.stamp 0x0511 c))
      ∧ (s.m.namesNow 0x0511 c = true → s.m.lanes.redundancy = 5 →
        Becomes (exec (.phFire c) s) s (s.m.countChanged.complete 0x0511 c St.laneChanged [] 0)))
  ∧ (∀ (c : Cmd) (s : State), s.m.takes c.ring = true → s.m.portCheck 0x0512 opPhStop c = none →
      (s.m.namesNow 0x0512 c = false → Becomes (exec (.phStop c) s) s (s.m.stamp 0x0512 c))
      ∧ (s.m.namesNow 0x0512 c = true → s.m.lanes.redundancy = 5 →
        Becomes (exec (.phStop c) s) s (s.m.countChanged.complete 0x0512 c St.laneChanged [] 0)))
  ∧ (∀ (c : Cmd) (s : State), s.m.takes c.ring = true → s.m.portCheck 0x0513 opClearFault c = none →
      (s.m.namesNow 0x0513 c = false → Becomes (exec (.clearFault c) s) s (s.m.stamp 0x0513 c))
      ∧ (s.m.namesNow 0x0513 c = true → s.m.lanes.redundancy = 5 →
        Becomes (exec (.clearFault c) s) s (s.m.countChanged.complete 0x0513 c St.laneChanged [] 0)))
  ∧ (∀ (c : Cmd) (s : State), s.m.takes c.ring = true → s.m.portCheck 0x1003 opEvtSetConfig c = none →
      (s.m.namesNow 0x1003 c = false → Becomes (exec (.evtSetConfig c) s) s (s.m.stamp 0x1003 c))
      ∧ (s.m.namesNow 0x1003 c = true → s.m.lanes.redundancy = 5 →
        Becomes (exec (.evtSetConfig c) s) s (s.m.countChanged.complete 0x1003 c St.laneChanged [] 0)))
  ∧ (∀ (c : Cmd) (s : State), s.m.takes c.ring = true → s.m.portCheck 0x1005 opEvtEnable c = none →
      (s.m.namesNow 0x1005 c = false → Becomes (exec (.evtEnable c) s) s (s.m.stamp 0x1005 c))
      ∧ (s.m.namesNow 0x1005 c = true → s.m.lanes.redundancy = 5 →
        Becomes (exec (.evtEnable c) s) s (s.m.countChanged.complete 0x1005 c St.laneChanged [] 0)))
  ∧ (∀ (c : Cmd) (s : State), s.m.takes c.ring = true → s.m.portCheck 0x1006 opEvtDisable c = none →
      (s.m.namesNow 0x1006 c = false → Becomes (exec (.evtDisable c) s) s (s.m.stamp 0x1006 c))
      ∧ (s.m.namesNow 0x1006 c = true → s.m.lanes.redundancy = 5 →
        Becomes (exec (.evtDisable c) s) s (s.m.countChanged.complete 0x1006 c St.laneChanged [] 0)))
  ∧ (∀ (c : Cmd) (s : State), s.m.takes c.ring = true → s.m.portCheck 0x1007 opEvtResetInstance c = none →
      (s.m.namesNow 0x1007 c = false → Becomes (exec (.evtResetInstance c) s) s (s.m.stamp 0x1007 c))
      ∧ (s.m.namesNow 0x1007 c = true → s.m.lanes.redundancy = 5 →
        Becomes (exec (.evtResetInstance c) s) s (s.m.countChanged.complete 0x1007 c St.laneChanged [] 0)))
  ∧ (∀ (c : Cmd) (s : State), s.m.takes c.ring = true → s.m.portCheck 0x0603 opInpSetConfig c = none →
      (s.m.namesNow 0x0603 c = false → Becomes (exec (.inpSetConfig c) s) s (s.m.stamp 0x0603 c))
      ∧ (s.m.namesNow 0x0603 c = true → s.m.lanes.redundancy = 5 →
        Becomes (exec (.inpSetConfig c) s) s (s.m.countChanged.complete 0x0603 c St.laneChanged [] 0)))
  ∧ (∀ (c : Cmd) (s : State), s.m.takes c.ring = true → s.m.portCheck 0x0605 opInpEnable c = none →
      (s.m.namesNow 0x0605 c = false → Becomes (exec (.inpEnable c) s) s (s.m.stamp 0x0605 c))
      ∧ (s.m.namesNow 0x0605 c = true → s.m.lanes.redundancy = 5 →
        Becomes (exec (.inpEnable c) s) s (s.m.countChanged.complete 0x0605 c St.laneChanged [] 0)))
  ∧ (∀ (c : Cmd) (s : State), s.m.takes c.ring = true → s.m.portCheck 0x0606 opInpDisable c = none →
      (s.m.namesNow 0x0606 c = false → Becomes (exec (.inpDisable c) s) s (s.m.stamp 0x0606 c))
      ∧ (s.m.namesNow 0x0606 c = true → s.m.lanes.redundancy = 5 →
        Becomes (exec (.inpDisable c) s) s (s.m.countChanged.complete 0x0606 c St.laneChanged [] 0)))
  ∧ (∀ (c : Cmd) (s : State), s.m.takes c.ring = true → s.m.portCheck 0x0607 opInpResetInstance c = none →
      (s.m.namesNow 0x0607 c = false → Becomes (exec (.inpResetInstance c) s) s (s.m.stamp 0x0607 c))
      ∧ (s.m.namesNow 0x0607 c = true → s.m.lanes.redundancy = 5 →
        Becomes (exec (.inpResetInstance c) s) s (s.m.countChanged.complete 0x0607 c St.laneChanged [] 0)))
  ∧ (∀ (c : Cmd) (s : State), s.m.takes c.ring = true → s.m.portCheck 0x0610 opBindSlot c = none →
      (s.m.namesNow 0x0610 c = false → Becomes (exec (.bindSlot c) s) s (s.m.stamp 0x0610 c))
      ∧ (s.m.namesNow 0x0610 c = true → s.m.lanes.redundancy = 5 →
        Becomes (exec (.bindSlot c) s) s (s.m.countChanged.complete 0x0610 c St.laneChanged [] 0)))
  ∧ (∀ (c : Cmd) (s : State), s.m.takes c.ring = true → s.m.portCheck 0x0303 opLaneSetConfig c = none →
      (s.m.namesNow 0x0303 c = false → Becomes (exec (.laneSetConfig c) s) s (s.m.stamp 0x0303 c))
      ∧ (s.m.namesNow 0x0303 c = true → s.m.lanes.redundancy = 5 →
        Becomes (exec (.laneSetConfig c) s) s (s.m.countChanged.complete 0x0303 c St.laneChanged [] 0)))
  ∧ (∀ (c : Cmd) (s : State), s.m.takes c.ring = true → s.m.portCheck 0x0310 opForceTakeover c = none →
      (s.m.namesNow 0x0310 c = false → Becomes (exec (.forceTakeover c) s) s (s.m.stamp 0x0310 c))
      ∧ (s.m.namesNow 0x0310 c = true → s.m.lanes.redundancy = 5 →
        Becomes (exec (.forceTakeover c) s) s (s.m.countChanged.complete 0x0310 c St.laneChanged [] 0)))
  ∧ (∀ (c : Cmd) (s : State), s.m.takes c.ring = true → s.m.portCheck 0x0311 opSetRedundancy c = none →
      (s.m.namesNow 0x0311 c = false → Becomes (exec (.setRedundancy c) s) s (s.m.stamp 0x0311 c))
      ∧ (s.m.namesNow 0x0311 c = true → s.m.lanes.redundancy = 5 →
        Becomes (exec (.setRedundancy c) s) s (s.m.countChanged.complete 0x0311 c St.laneChanged [] 0)))
  ∧ (∀ (c : Cmd) (s : State), s.m.takes c.ring = true → s.m.portCheck 0x0403 opLoopSetConfig c = none →
      (s.m.namesNow 0x0403 c = false → Becomes (exec (.loopSetConfig c) s) s (s.m.stamp 0x0403 c))
      ∧ (s.m.namesNow 0x0403 c = true → s.m.lanes.redundancy = 5 →
        Becomes (exec (.loopSetConfig c) s) s (s.m.countChanged.complete 0x0403 c St.laneChanged [] 0)))
  ∧ (∀ (c : Cmd) (s : State), s.m.takes c.ring = true → s.m.portCheck 0x0405 opLoopEnable c = none →
      (s.m.namesNow 0x0405 c = false → Becomes (exec (.loopEnable c) s) s (s.m.stamp 0x0405 c))
      ∧ (s.m.namesNow 0x0405 c = true → s.m.lanes.redundancy = 5 →
        Becomes (exec (.loopEnable c) s) s (s.m.countChanged.complete 0x0405 c St.laneChanged [] 0)))
  ∧ (∀ (c : Cmd) (s : State), s.m.takes c.ring = true → s.m.portCheck 0x0406 opLoopDisable c = none →
      (s.m.namesNow 0x0406 c = false → Becomes (exec (.loopDisable c) s) s (s.m.stamp 0x0406 c))
      ∧ (s.m.namesNow 0x0406 c = true → s.m.lanes.redundancy = 5 →
        Becomes (exec (.loopDisable c) s) s (s.m.countChanged.complete 0x0406 c St.laneChanged [] 0)))
  ∧ (∀ (c : Cmd) (s : State), s.m.takes c.ring = true → s.m.portCheck 0x0407 opLoopResetInstance c = none →
      (s.m.namesNow 0x0407 c = false → Becomes (exec (.loopResetInstance c) s) s (s.m.stamp 0x0407 c))
      ∧ (s.m.namesNow 0x0407 c = true → s.m.lanes.redundancy = 5 →
        Becomes (exec (.loopResetInstance c) s) s (s.m.countChanged.complete 0x0407 c St.laneChanged [] 0)))
  ∧ (∀ (c : Cmd) (s : State), s.m.takes c.ring = true → s.m.portCheck 0x0410 opSetMode c = none →
      (s.m.namesNow 0x0410 c = false → Becomes (exec (.setMode c) s) s (s.m.stamp 0x0410 c))
      ∧ (s.m.namesNow 0x0410 c = true → s.m.lanes.redundancy = 5 →
        Becomes (exec (.setMode c) s) s (s.m.countChanged.complete 0x0410 c St.laneChanged [] 0)))
  ∧ (∀ (c : Cmd) (s : State), s.m.takes c.ring = true → s.m.portCheck 0x0411 opSetSetpoint c = none →
      (s.m.namesNow 0x0411 c = false → Becomes (exec (.setSetpoint c) s) s (s.m.stamp 0x0411 c))
      ∧ (s.m.namesNow 0x0411 c = true → s.m.lanes.redundancy = 5 →
        Becomes (exec (.setSetpoint c) s) s (s.m.countChanged.complete 0x0411 c St.laneChanged [] 0)))
  ∧ (∀ (c : Cmd) (s : State), s.m.takes c.ring = true → s.m.portCheck 0x0413 opWriteSchedule c = none →
      (s.m.namesNow 0x0413 c = false → Becomes (exec (.writeSchedule c) s) s (s.m.stamp 0x0413 c))
      ∧ (s.m.namesNow 0x0413 c = true → s.m.lanes.redundancy = 5 →
        Becomes (exec (.writeSchedule c) s) s (s.m.countChanged.complete 0x0413 c St.laneChanged [] 0)))
  ∧ (∀ (c : Cmd) (s : State), s.m.takes c.ring = true → s.m.portCheck 0x0414 opWriteCoeff c = none →
      (s.m.namesNow 0x0414 c = false → Becomes (exec (.writeCoeff c) s) s (s.m.stamp 0x0414 c))
      ∧ (s.m.namesNow 0x0414 c = true → s.m.lanes.redundancy = 5 →
        Becomes (exec (.writeCoeff c) s) s (s.m.countChanged.complete 0x0414 c St.laneChanged [] 0)))

/-- Each access or event has the effect of its entry in chapters 04, 07 and 17. On operands and a state that meet the
condition of its clause, exec answers the next state named there: the module with that change, and the queue and the
bytes SDRAM holds as they were, except that a clause that stores says what it stores and SDRAM is lost with PD5 off; a
line the module writes is sound again. It rests on readings and choices of the model: log entries 8, 15, 20, 22, 23,
38, 66, 67. -/
def Obligations.PortEventsAct : Prop :=
  (∀ (s : State) (x : Snapshot), s.m.port.snap = some x → 
      Becomes (exec (.snapshotExpiry) s) s
      { s.m.until (x.doneRaw + secs 60) with port := { s.m.port with snap := none } })
  ∧ (∀ (s : State) (r : Nat), (s.m.ring r).session.opened = true → 
      Becomes (exec (.sessionIdleTimeout r) s) s
      ((s.m.until ((s.m.ring r).session.lastRaw + secs 60)).setRing r { s.m.ring r with session := {} }))
  ∧ (∀ (s : State) (r : Nat) (tail : BitVec 32) (written : List Bytes), s.m.appOn = true → r < 12 → 
      Becomes (exec (.cpDoorbell r tail written) s) s
      (s.m.doorbell r tail written).wrote)
  ∧ (∀ (s : State) (r : Nat) (tail : BitVec 32) (written : List Bytes), s.m.appOn = true → 12 ≤ r → 
      Becomes (exec (.cpDoorbell r tail written) s) s
      s.m.busError)
  ∧ (∀ (s : State) (r : Nat) (head : BitVec 32), s.m.appOn = true → r < 12 → 
      Becomes (exec (.cpCqHead r head) s) s
      (s.m.cqHeadWrite r head).wrote)
  ∧ (∀ (s : State) (r : Nat) (on : Bool), s.m.appOn = true → r < 12 → 
      Becomes (exec (.ringEnable r on) s) s
      (s.m.setRing r { s.m.ring r with enable := on }).wrote)
  ∧ (∀ (s : State) (r : Nat), s.m.appOn = true → r < 12 → 
      Becomes (exec (.ringReset r) s) s
      (s.m.ringReset r).wrote)
  ∧ (∀ (s : State) (r : Nat), s.m.alive = true → r < 16 → 
      Becomes (exec (.ringResetDone r) s) s
      (s.m.ringResetDone r))
  ∧ (∀ (s : State) (r : Nat), s.m.alive = true → s.m.port.running = true → s.m.markWaits.nextRing = some r → 
      exec (.commandDispatch) s = .next (
      State.dispatchTurn { s with m := s.m.markWaits } r))
  ∧ (∀ (s : State) (dgram : Bytes) (sender : Nat), s.m.pd 10 = true → 
      exec (.serviceDatagram dgram sender) s = .next (
      s.datagram dgram sender))
  ∧ (∀ (s : State) (data : Bytes), s.m.upd.reheat = true → data.length = 8 → (rd data 0 1).testBit 7 = false → rd data 0 1 % 64 = 0 → 
      Becomes (exec (.reheatCanSegment data) s) s
      { s.m with port := { s.m.port with seg := (data.drop 1).take 7, segNext := 1 } })
  ∧ (∀ (s : State) (data : Bytes), s.m.upd.reheat = true → data.length = 8 → (rd data 0 1).testBit 7 = false → rd data 0 1 % 64 ≠ 0 → rd data 0 1 % 64 = s.m.port.segNext → 
      Becomes (exec (.reheatCanSegment data) s) s
      { s.m with port := { s.m.port with seg := s.m.port.seg ++ (data.drop 1).take 7, segNext := rd data 0 1 % 64 + 1 } })
  ∧ (∀ (s : State) (addr : Nat) (v : BitVec 64), s.m.appOn = true → isRegister addr = true → addr < 0x40010000 → 
      Becomes (exec (.registerWrite addr v) s) s
      (s.m.cpWrite (addr - 0x40000000) v).wrote)
  ∧ (∀ (s : State) (addr : Nat) (v : BitVec 64), s.m.appOn = true → isRegister addr = false → inApp addr 8 = false → isSqSlot addr = false → 
      Becomes (exec (.registerWrite addr v) s) s
      s.m.busError)
  ∧ (∀ (s : State) (addr : Nat) (v : BitVec 64), s.m.appOn = true → inApp addr 8 = true → 
      exec (.registerWrite addr v) s = .next (
      State.writeMem { s with m := s.m.wrote } addr (le 8 v.toNat)))
  ∧ (∀ (s : State) (q : Access) (wr : Bool), q.lane = none → s.m.appOn = true → isReserved q.addr = true → 
      Becomes (exec (.reservedAccess q wr) s) s
      s.m.busError)
  ∧ (∀ (s : State) (q : Access), q.lane = none → s.m.appOn = true → isReadOnly q.addr = true → 
      Becomes (exec (.reservedAccess q true) s) s
      s.m.busError)
  ∧ (∀ (s : State) (q : Access), q.lane = none → s.m.appOn = true → isReserved q.addr = false → isRegister q.addr = true → 
      Becomes (exec (.reservedAccess q false) s) s
      (s.m.readReg q.core q.addr))
  ∧ (∀ (s : State) (q : Access), q.lane = none → s.m.appOn = true → isReserved q.addr = false → isRegister q.addr = false → isSdram q.addr = true → (List.range 8).any (fun k => s.m.poison.contains ((q.addr + k) / 64)) = false → 
      Becomes (exec (.reservedAccess q false) s) s
      (s.m.answered (rd (s.busMem q.addr 8) 0 8)))
  ∧ (∀ (s : State) (q : Access), q.lane = none → s.m.appOn = true → isReserved q.addr = false → isRegister q.addr = false → isSdram q.addr = true → (List.range 8).any (fun k => s.m.poison.contains ((q.addr + k) / 64)) = true → 
      Becomes (exec (.reservedAccess q false) s) s
      s.m.busError)
  ∧ (∀ (s : State) (q : Access) (l : Lane) (wr : Bool), q.lane = some l → s.m.alive = true → (s.m.lane l).st.hears = true → inRange q.addr 0x50000000 0x500007FF = false → 
      Becomes (exec (.reservedAccess q wr) s) s
      s.m.busError)
  ∧ (∀ (s : State) (q : Access) (l : Lane), q.lane = some l → s.m.alive = true → (s.m.lane l).st.hears = true → inRange q.addr 0x50000000 0x500007FF = true → 
      Becomes (exec (.reservedAccess q true) s) s
      s.m.wrote)
  ∧ (∀ (s : State) (q : Access) (l : Lane), q.lane = some l → s.m.alive = true → (s.m.lane l).st.hears = true → inRange q.addr 0x50000000 0x500007FF = true → 
      Becomes (exec (.reservedAccess q false) s) s
      (s.m.readLane l (q.addr - 0x50000000)))
  ∧ (∀ (s : State) (slot : Nat) (w : BitVec 64), s.m.alive = true → s.m.writerOn 1 = true → slot < 256 → s.m.fxOwner slot = 1 → 
      Becomes (exec (.fxIn 1 slot w false) s) s
      { s.m.fxPut 1 slot (BitVec.ofNat 32 w.toNat) (w.toNat.testBit 63) with bus := { value := 0, error := false } })
  ∧ (∀ (s : State) (slot : Nat) (w : BitVec 64), s.m.alive = true → s.m.writerOn 1 = true → slot < 256 → s.m.fxOwner slot ≠ 1 → 
      Becomes (exec (.fxIn 1 slot w false) s) s
      { s.m.fxDrop 1 slot with bus := { value := 0, error := true } })
  ∧ (∀ (s : State) (line word : Nat) (v : BitVec 32), line < 8 → word < 4 → 
      Becomes (exec (.evtMask line word v) s) s
      ((s.m.setLine line { s.m.intLine line with mask := putWord (s.m.intLine line).mask word v }).answered 0))
  ∧ (∀ (s : State) (line word : Nat) (v : BitVec 32), line < 8 → word < 4 → 
      Becomes (exec (.evtPend line word v) s) s
      ((s.m.setLine line { s.m.intLine line with
        pend := foldN 32 (fun p k => if v.getLsbD k && decide (Tab.get 0 (s.m.intLine line).pendRaw (32 * word + k) ≤ s.m.now) then p &&& ~~~(BitVec.ofNat 128 (2 ^ (32 * word + k))) else p) (s.m.intLine line).pend }).answered 0))
  ∧ (∀ (s : State) (line : Nat) (r : Raise) (t : List Raise), line < 8 → (s.m.intLine line).q = r :: t → 
      Becomes (exec (.evtQHead line 0) s) s
      ((s.m.setLine line { s.m.intLine line with locked := true }).answered (r.word 0)))
  ∧ (∀ (s : State) (line : Nat) (r : Raise) (t : List Raise), line < 8 → (s.m.intLine line).q = r :: t → (s.m.intLine line).locked = true → 
      Becomes (exec (.evtQHead line 3) s) s
      ((s.m.setLine line { s.m.intLine line with q := t, locked := false }).answered (r.word 3)))
  ∧ (∀ (s : State) (line word : Nat), line < 8 → word < 4 → (s.m.intLine line).q = [] → 
      Becomes (exec (.evtQHead line word) s) s
      (s.m.answered 0))
  ∧ (∀ (s : State) (line : Nat), line < 8 → 
      Becomes (exec (.evtQDrops line) s) s
      ((s.m.setLine line { s.m.intLine line with drops := 0 }).answered (s.m.intLine line).drops))
  ∧ (∀ (s : State) (src : Nat) (param : BitVec 32) (line : Option Nat), src < 128 → src ≠ 6 → 
      Becomes (exec (.eventRaise src ⟨param, line⟩) s) s
      (s.m.raiseT src param false))
  ∧ (∀ (s : State) (param : BitVec 32), s.m.pd 5 = true → 
      Becomes (exec (.eventRaise 6 ⟨param, none⟩) s) s
      (Mod.raiseT { s.m with eccCount := s.m.eccCount + 1 } 6 param false))
  ∧ (∀ (s : State) (param : BitVec 32) (k : Nat), s.m.pd 5 = true → isSdram (64 * k) = true → s.m.poison.contains k = false → 
      exec (.eventRaise 6 ⟨param, some k⟩) s = .next (
      { s with m := Mod.raiseT { s.m with poison := k :: s.m.poison } 6 param false }))

/-- Each event has the effect of its entry in chapter 02. On operands and a state that meet the condition of its clause,
exec answers the next state named there: the module with that change, and the queue and the bytes SDRAM holds as they
were, except that a clause that stores says what it stores and SDRAM is lost with PD5 off; a line the module writes is
sound again. It rests on readings and choices of the model: log entries 4, 57, 65. -/
def Obligations.TimeEventsAct : Prop :=
  (∀ (s : State) (core : Nat), 
      Becomes (exec (.tbMtLo core) s) s
      { s.m with
      time := { s.m.time with cap := Tab.upd {} s.m.time.cap core fun x =>
        { x with mt := BitVec.ofNat 96 (mt96 s.m.mt), mtRaw := BitVec.ofNat 64 s.m.now } }
      bus := { value := BitVec.ofNat 64 (BitVec.ofNat 96 (mt96 s.m.mt)).toNat, error := false } })
  ∧ (∀ (s : State) (core : Nat) (raw : BitVec 64), 
      Becomes (exec (.tbConvIn core raw) s) s
      { s.m with
      time := { s.m.time with cap := Tab.upd {} s.m.time.cap core fun x =>
        { x with convIn := raw, conv := BitVec.ofNat 96 (mt96 (s.m.time.conv raw.toNat).1), extrap := (s.m.time.conv raw.toNat).2 } }
      bus := { value := 0, error := false } })
  ∧ (∀ (s : State) (avail : List (Nat × Int)) (nav : Option NavLeap), s.m.alive = true → 
      Becomes (exec (.ppsOutEdge avail nav) s) s
      (s.m.ppsOutEdge avail nav))
  ∧ (∀ (s : State), 
      Becomes (exec (.correctionEffect) s) s
      s.m.correct)
  ∧ (∀ (s : State), s.m.alive = true → 
      Powers (exec (.ref0MonitorTrip false) s) s
      s.m.ref0Fails)
  ∧ (∀ (s : State), s.m.alive = true → 
      Powers (exec (.ref0MonitorTrip true) s) s
      (s.m.ref0Fails.laneFails .a 6))
  ∧ (∀ (s : State) (ppm : Int), s.m.alive = true → s.m.time.ref = false → s.m.time.ref1Failed = false → s.m.estimateJudges = false → (250 < ppm ∨ ppm < -250) → 
      Powers (exec (.refMismatch ppm) s) s
      s.m.ref0Fails)
  ∧ (∀ (s : State) (ppm : Int), s.m.alive = true → s.m.time.ref = false → s.m.time.ref1Failed = false → s.m.estimateJudges = false → (-250 ≤ ppm ∧ ppm ≤ 250) → 
      Powers (exec (.refMismatch ppm) s) s
      s.m.ref1Fails)
  ∧ (∀ (s : State), s.m.alive = true → s.m.time.ref = false → 
      Powers (exec (.ref1Stop) s) s
      (s.m.ref1Fails.laneFails .b 6))
  ∧ (∀ (s : State) (src : Nat) (n : Mod), s.m.alive = true → n = s.m.until s.m.lossAt → n.inUse = some src → src ≠ 0 → n.time.lost = false → n.srcLost src = true → 
      Becomes (exec (.sourceLost) s) s
      (Mod.raise { n with time := { n.time with lost := true } } 9 (src + 512 + src * 65536)))
  ∧ (∀ (s : State), s.m.seeSources.time.ppsInLast = none → 
      Becomes (exec (.ppsInEdge) s) s
      (Mod.seeSources { s.m.seeSources with time := { s.m.seeSources.time with ppsInLast := some s.m.seeSources.now } }))
  ∧ (∀ (s : State) (c : Nat) (n : Mod), n = s.m.seeSources → n.time.ppsInLast = some c → 100000 * 65536 < (n.mt - (n.time.conv c).1 - unitsPerSec).natAbs → 
      Becomes (exec (.ppsInEdge) s) s
      (Mod.raise { n with time := { n.time with ppsInRejects := inc32 n.time.ppsInRejects } } 13 0))
  ∧ (∀ (s : State) (c : Nat) (n : Mod), n = s.m.seeSources → n.time.ppsInLast = some c → (n.mt - (n.time.conv c).1 - unitsPerSec).natAbs ≤ 100000 * 65536 → 
      Becomes (exec (.ppsInEdge) s) s
      (Mod.seeSources { n with time := { n.time with ppsInLast := some n.now } }))

/-- Each event has the effect of its entry in chapter 03. On operands and a state that meet the condition of its clause,
exec answers the next state named there: the module with that change, and the queue and the bytes SDRAM holds as they
were, except that a clause that stores says what it stores and SDRAM is lost with PD5 off; a line the module writes is
sound again. It rests on readings and choices of the model: log entries 4, 11, 16, 24, 25, 26, 27, 28. -/
def Obligations.LaneEventsAct : Prop :=
  (∀ (s : State) (inp : FrameIn), s.m.alive = true → s.m.lanes.run = true → 
      Powers (exec (.frameStart inp) s) s
      (s.m.frame inp true))
  ∧ (∀ (s : State), s.m.alive = true → s.m.lanes.run = true → 
      Powers (exec (.frameTickMissing) s) s
      (s.m.frame {} false))
  ∧ (∀ (s : State), 
      Becomes (exec (.tokenDecision) s) s
      s.m.tokenDecision)
  ∧ (∀ (s : State), 
      Becomes (exec (.forcedSilence) s) s
      s.m.forcedSilence)
  ∧ (∀ (s : State) (lane : Lane) (check : Nat), 1 ≤ check → check ≤ 6 → 
      Becomes (exec (.laneSelfFault lane check) s) s
      (s.m.laneFails lane check))
  ∧ (∀ (s : State) (lane : Lane), (s.m.lane lane).st ≠ .off → 
      Becomes (exec (.laneCorrectedEcc lane) s) s
      (Mod.laneEv { s.m with stats := { s.m.stats with corrected := inc32 s.m.stats.corrected } } lane 0))
  ∧ (∀ (s : State) (lane : Lane), (s.m.lane lane).st = .loading → s.m.lanes.restart = false → s.m.upd.act = none → s.m.lanePowered lane = true → 
      Becomes (exec (.laneReloadDone lane true) s) s
      (((s.m.laneClockUp lane).setLane lane { (s.m.laneClockUp lane).lane lane with newVersion := false }).toResync lane).redund)
  ∧ (∀ (s : State) (lane : Lane), (s.m.lane lane).st = .loading → s.m.lanes.restart = false → s.m.upd.act = none → s.m.lanePowered lane = true → 
      Becomes (exec (.laneReloadDone lane false) s) s
      (((s.m.toState lane .silent).limitRejoin lane).redund))
  ∧ (∀ (s : State) (lane : Lane) (ok : Bool), (s.m.lane lane).st = .loading → s.m.lanes.restart = true → s.m.lanePowered lane = true → 
      Becomes (exec (.laneReloadDone lane ok) s) s
      ((if ok then s.m.laneClockUp lane else s.m).loadEnded lane ok))
  ∧ (∀ (s : State) (lane : Lane), s.m.lanes.token ≠ none → s.m.lanePowered lane = true → s.m.actResets lane = false → s.m.mayRejoin lane = true → 
      Becomes (exec (.perLaneReset lane) s) s
      (((s.m.setLane lane { s.m.lane lane with rejoins := s.m.now :: s.m.rejoinsOf lane, ordered := false }).toState lane .loading).redund))
  ∧ (∀ (s : State) (p : Punty) (act : Lane), s.m.lanes.punty = some p → s.m.lanes.active = some act → p.start < s.m.lanes.frame → s.m.upd.act = none → p.left ≤ 16384 → 
      Becomes (exec (.puntyTransferDone) s) s
      (let n := ((s.m.until (s.m.lanes.frameRaw + us 250)).copyFifos act p.recv).toState p.recv .standby
      let n := n.setLane p.recv { n.lane p.recv with ready := false, abandoned := 0 }
      (Mod.redund (Mod.raise { n with
        lanes := { n.lanes with punty := none }
        stats := { n.stats with resyncsDone := inc32 n.stats.resyncsDone, maxResync := max n.stats.maxResync (s.m.lanes.frame - p.start) } } 5 0)).endRejoin
        St.ok (s.m.lanes.frame + 1)))
  ∧ (∀ (s : State) (p : Punty), s.m.lanes.punty = some p → p.start + 400 ≤ s.m.lanes.frame → (s.m.lane p.recv).abandoned + 1 < 3 → 
      Becomes (exec (.puntyTransferTimeout) s) s
      (let n := s.m.setLane p.recv { s.m.lane p.recv with abandoned := (s.m.lane p.recv).abandoned + 1 }
      let n := Mod.raise { n with
        lanes := { n.lanes with punty := none }
        stats := { n.stats with resyncsFailed := inc32 n.stats.resyncsFailed } } 5 1
      { n with lanes := { n.lanes with retry := some (p.recv, n.now) } }))
  ∧ (∀ (s : State) (l : Lane) (t : Nat), s.m.lanes.retry = some (l, t) → 
      Becomes (exec (.puntyRetry) s) s
      ((s.m.until (t + secs 1)).startPunty l))

/-- Each event has the effect of its entry in chapter 06. On operands and a state that meet the condition of its clause,
exec answers the next state named there: the module with that change, and the queue and the bytes SDRAM holds as they
were, except that a clause that stores says what it stores and SDRAM is lost with PD5 off; a line the module writes is
sound again. It rests on readings and choices of the model: log entries 16, 33, 64. -/
def Obligations.DriverEventsAct : Prop :=
  (∀ (s : State) (i t : Nat), (s.m.drvCh i).due = some t → i < 48 → (s.m.drvCh i).dueStop = false → (s.m.drvCh i).mode = 3 → 
      Becomes (exec (.phFireInstant i) s) s
      (((s.m.until t).setDrv i { s.m.drvCh i with due := none }).phFire i))
  ∧ (∀ (s : State) (i t : Nat), (s.m.drvCh i).due = some t → i < 48 → (s.m.drvCh i).dueStop = true → (s.m.drvCh i).mode = 3 → (s.m.drvCh i).phase = .hold → 
      Becomes (exec (.profileStop i) s) s
      (((s.m.until t).setDrv i { s.m.drvCh i with due := none, dueStop := false }).toZero i))
  ∧ (∀ (s : State) (i k t : Nat), ((s.m.bank (bankOf i)).queue.find? fun p => p.1 == i) = some (k, t) → 
      Becomes (exec (.boostWaitExpiry i) s) s
      (((s.m.until (t + us (rd (s.m.drvRec (bankOf i)) 0 2))).setBank (bankOf i)
      { s.m.bank (bankOf i) with queue := (s.m.bank (bankOf i)).queue.filter fun p => p.1 != i }).boostSkip i))
  ∧ (∀ (s : State) (i : Nat), (s.m.drvCh i).phase = .boost → 
      Becomes (exec (.boostEnd i true) s) s
      ((s.m.setDrv i { (s.m.drvCh i).enter .peak s.m.now with boostTimeout := false }).leavePath i))
  ∧ (∀ (s : State) (i : Nat), (s.m.drvCh i).phase = .peak → 
      Becomes (exec (.peakEnd i) s) s
      (let n := s.m.until ((s.m.drvCh i).phaseRaw + us (rd (s.m.drvRec i) 18 2))
      (n.setDrv i { (s.m.drvCh i).enter .hold n.now with decay := rd (n.drvRec i) 2 1 }).mixTurn i))
  ∧ (∀ (s : State) (i : Nat), (s.m.drvCh i).phase = .hold → rd (s.m.drvRec i) 20 4 ≠ 0 → 
      Becomes (exec (.holdEnd i) s) s
      ((s.m.until ((s.m.drvCh i).phaseRaw + us (rd (s.m.drvRec i) 20 4))).toZero i))
  ∧ (∀ (s : State) (i : Nat), i < 48 → (s.m.drvCh i).phase = .decay → 
      Becomes (exec (.decayEnd i) s) s
      ((s.m.setDrv i { (s.m.drvCh i).enter .idle s.m.now with mode := if s.m.chOn i then (s.m.drvCh i).mode else 0 }).bankSwitch (bankOf i)))
  ∧ (∀ (s : State) (i code : Nat), s.m.pd 9 = true → i < 64 → 
      Becomes (exec (.drvFaultDetect i code) s) s
      (s.m.detectCh i code))
  ∧ (∀ (s : State) (i code : Nat), s.m.pd 9 = true → 64 ≤ i → i < 76 → 
      Becomes (exec (.drvFaultDetect i code) s) s
      (s.m.detectBank i code))
  ∧ (∀ (s : State) (i code : Nat), s.m.pd 9 = true → 76 ≤ i → i < 79 → 
      Becomes (exec (.drvFaultDetect i code) s) s
      (s.m.detectConv i code))
  ∧ (∀ (s : State) (i : Nat) (n : Mod), i < 64 → (s.m.drvCh i).latched = false → (s.m.drvCh i).held = [3] → n = s.m.until ((s.m.drvCh i).retryRaw + ms 100) → 
      Becomes (exec (.drvRetry i) s) s
      ((n.setDrv i { s.m.drvCh i with held := [], retries := (s.m.drvCh i).retries + 1, retryRaw := n.now }).applyMode i))
  ∧ (∀ (s : State) (i : Nat), i < 64 → (s.m.drvCh i).latched = false → (s.m.drvCh i).held = [7] → 
      Becomes (exec (.drvRetry i) s) s
      ((s.m.setDrv i { s.m.drvCh i with held := [] }).applyMode i))
  ∧ (∀ (s : State) (i : Nat), 64 ≤ i → i < 76 → (s.m.bank i).latched = false → (s.m.bank i).held = true → 
      Becomes (exec (.drvRetry i) s) s
      (foldN 4 (fun (m : Mod) k => m.applyMode (4 * (i - 64) + k)) (s.m.setBank i { s.m.bank i with held := false })))
  ∧ (∀ (s : State) (i : Nat), 76 ≤ i → i < 79 → (s.m.conv i).latched = false → (s.m.conv i).held = true → 
      Becomes (exec (.drvRetry i) s) s
      (let n := s.m.until (((s.m.conv i).trips.headD 0) + secs 1)
      n.setConv i { s.m.conv i with held := false, running := (s.m.conv i).en, railRaw := n.now }))
  ∧ (∀ (s : State) (i : Nat), i < 48 → s.m.pd 9 = true → (rd (s.m.drvRec i) 1 1).testBit 3 = true → (s.m.drvCh i).mode = 0 → (s.m.drvCh i).flags.contains 1 = false → 
      Becomes (exec (.openLoadTest i true) s) s
      (s.m.flagCh i 1))
  ∧ (∀ (s : State) (i : Nat), i < 48 → s.m.pd 9 = true → (rd (s.m.drvRec i) 1 1).testBit 3 = true → (s.m.drvCh i).mode = 0 → 
      Becomes (exec (.openLoadTest i false) s) s
      ((s.m.unflagCh i 1).unflagCh i 2))
  ∧ (∀ (s : State) (i : Nat), i < 48 → (s.m.drvCh i).clampHot = false → 
      Becomes (exec (.clampUnavailable i 15 true) s) s
      (((s.m.setDrv i { s.m.drvCh i with clampHot := true, faultCode := 15 }).clampEv i 15 true).bankSwitch (bankOf i)))
  ∧ (∀ (s : State) (i : Nat), i < 48 → (s.m.drvCh i).clampLost = false → 
      Becomes (exec (.clampUnavailable i 10 true) s) s
      (((s.m.setDrv i { s.m.drvCh i with clampLost := true, faultCode := 10 }).clampEv i 10 true).bankSwitch (bankOf i)))
  ∧ (∀ (s : State) (i code : Nat), i < 64 → (s.m.drvCh i).latched = false → (code = 2 ∨ code = 6 ∨ ((code = 3 ∨ code = 7) ∧ (s.m.drvCh i).held.contains code = false)) → 
      Becomes (exec (.diagnosticClearing i code) s) s
      (s.m.unflagCh i code))

/-- Each event has the effect of its entry in chapter 07. On operands and a state that meet the condition of its clause,
exec answers the next state named there: the module with that change, and the queue and the bytes SDRAM holds as they
were, except that a clause that stores says what it stores and SDRAM is lost with PD5 off; a line the module writes is
sound again. It rests on readings and choices of the model: log entries 16, 34, 35. -/
def Obligations.InputEventsAct : Prop :=
  (∀ (s : State) (fin : Nat) (level : Bool), fin < 32 → rd (s.m.inpRec (64 + fin / 2 * 2)) 0 1 ≠ 3 → rd (s.m.inpRec (64 + fin)) 0 1 ≠ 0 → (s.m.inpCh (64 + fin)).enabled = true → edgeSel (rd (s.m.inpRec (64 + fin)) 1 1) level = true → 
      Becomes (exec (.qualifyingEdge fin level false) s) s
      (s.m.setInp (64 + fin) (InpCh.counted { s.m.inpCh (64 + fin) with level := level } (s.m.now - us (rd (s.m.inpRec (64 + fin)) 3 1)) false)))
  ∧ (∀ (s : State) (lsn : Nat) (peak : BitVec 16), lsn < 8 → (s.m.inpCh (96 + lsn)).enabled = true → rd (s.m.inpRec (96 + lsn)) 2 2 < peak.toNat → (s.m.inpCh (96 + lsn)).edge = none → 
      Becomes (exec (.impact lsn peak) s) s
      (s.m.setInp (96 + lsn) { s.m.inpCh (96 + lsn) with
      peak := if (s.m.inpCh (96 + lsn)).peak.toNat < peak.toNat then peak else (s.m.inpCh (96 + lsn)).peak
      count := (s.m.inpCh (96 + lsn)).count + 1, edge := some s.m.now }))
  ∧ (∀ (s : State) (i : Nat), inpKind i = .lsn → i ≥ 96 → (s.m.inpCh i).enabled = true → (s.m.inpCh i).cond = false → 
      Becomes (exec (.biasCheck i false) s) s
      ((s.m.setInp i { s.m.inpCh i with cond := true, faultCode := 6 }).inpEv 59 i 6 true))
  ∧ (∀ (s : State) (sup : Nat) (out : Bool), sup < 8 → (s.m.inpCh (107 + sup)).on = true → (s.m.inpCh (107 + sup)).cond ≠ out → 
      Becomes (exec (.supTol sup out) s) s
      ((s.m.setInp (107 + sup) { s.m.inpCh (107 + sup) with cond := out, faultCode := if out then 9 else 0, retries := (s.m.inpCh (107 + sup)).used s.m.now, faultRaw := s.m.now }).inpEv 61 (107 + sup) 9 out))
  ∧ (∀ (s : State) (sup : Nat), sup < 8 → (s.m.inpCh (107 + sup)).on = true → (s.m.inpCh (107 + sup)).used s.m.now < rd (s.m.inpRec (107 + sup)) 2 1 → 
      Becomes (exec (.supOvercurrent sup) s) s
      ((s.m.setInp (107 + sup) { s.m.inpCh (107 + sup) with on := false, faultCode := 8, retries := (s.m.inpCh (107 + sup)).used s.m.now, retryRaw := s.m.now, faultRaw := s.m.now }).inpEv 61 (107 + sup) 8 true))
  ∧ (∀ (s : State) (sup : Nat), sup < 8 → (s.m.inpCh (107 + sup)).on = false → (s.m.inpCh (107 + sup)).latched = false → (s.m.inpCh (107 + sup)).enabled = true → (s.m.inpCh (107 + sup)).faultCode = 8 → 
      Becomes (exec (.supRetry sup) s) s
      (((s.m.until ((s.m.inpCh (107 + sup)).retryRaw + ms 100)).setInp (107 + sup) { s.m.inpCh (107 + sup) with on := true, faultCode := 0, retries := (s.m.inpCh (107 + sup)).retries + 1 }).inpEv 61 (107 + sup) 8 false))

/-- Each event has the effect of its entry in chapter 08. On operands and a state that meet the condition of its clause,
exec answers the next state named there: the module with that change, and the queue and the bytes SDRAM holds as they
were, except that a clause that stores says what it stores and SDRAM is lost with PD5 off; a line the module writes is
sound again. It rests on readings and choices of the model: log entries 16, 37. -/
def Obligations.SafetyEventsAct : Prop :=
  (∀ (s : State) (inp : SafeIn), s.m.safeCycles = true → inp.tick = true → 
      Becomes (exec (.safetyCycle inp) s) s
      ((s.m.until s.m.nextTick).safetyCycle inp))
  ∧ (∀ (s : State) (inp : SafeIn), s.m.safeCycles = true → (s.m.until s.m.localTick).safe.tickLocal = true → 
      Becomes (exec (.safetyTickMissing inp) s) s
      ((s.m.until s.m.localTick).safetyCycle { inp with tick := false }))
  ∧ (∀ (s : State) (inp : SafeIn), s.m.safeCycles = true → (s.m.until s.m.localTick).safe.tickLocal = false → 
      Becomes (exec (.safetyTickMissing inp) s) s
      (let n := s.m.until s.m.localTick
      ((n.setSafe { n.safe with tickLocal := true }).ev 64 0 9 true).safetyCycle { inp with tick := false }))
  ∧ (∀ (s : State), s.m.pulses = true → 
      Becomes (exec (.testPulse 0) s) s
      (let n := s.m.until (s.m.nextPulse 0)
      n.setSafe { n.safe with pulseA := some n.now }))
  ∧ (∀ (s : State), s.m.pulses = true → 
      Becomes (exec (.testPulse 1) s) s
      (let n := s.m.until (s.m.nextPulse 1)
      n.setSafe { n.safe with pulseB := some n.now }))
  ∧ (∀ (s : State) (supply : Nat) (levels before : BitVec 24) (n : Mod), s.m.pulses = true → n = (s.m.safe.pulse supply).elim s.m (fun r => s.m.until (r + us 250)) → 
      Becomes (exec (.pulseCheck supply levels before) s) s
      (Mod.watchService s.m.safe.serviceMode (n.judgePulse supply levels before).jackPoll))
  ∧ (∀ (s : State) (i : Nat) (level : Bool), i < 24 → 
      Becomes (exec (.safetyInputEdge i level) s) s
      (s.m.sinEdge i level))
  ∧ (∀ (s : State) (i : Nat) (c : SinCh) (n : Mod), i < 24 → c = (Tab.get {} s.m.safe.sin i : SinCh).afterBlank → c.seen ≠ c.filt → s.m.safeOn = true → n = (s.m.until (filterDue (s.m.safe.pulse (i % 2)) c.since (s.m.safe.filterTime i))).darkPoll.jackPoll → (n.safe.role (i / 2) ≠ 5 ∧ n.safe.role (i / 2) ≠ 7) → n.safe.spRuns = true → 
      Becomes (exec (.safetyFilterExpiry i) s) s
      (Mod.watchService s.m.safe.serviceMode
        (n.setSafe { n.safe with sin := Tab.put {} n.safe.sin i { c with filt := c.seen, jfilt := c.seen } }).jackPoll))
  ∧ (∀ (s : State) (r k : Nat), s.m.safe.press = some r → s.m.safe.pairOf 5 = some k → s.m.safe.pairRun k = false → s.m.safe.stuck = false → r + ms 100 ≤ s.m.now → s.m.now ≤ r + secs 5 → (Tab.get {} s.m.safe.pair k : SafePair).fault = 0 → s.m.safe.serviceWait = none → 
      Becomes (exec (.resetRelease) s) s
      (s.m.setSafe { s.m.safe with press := none, stuck := false, resetPulse := true }).jackReset)
  ∧ (∀ (s : State) (r : Nat), s.m.safe.serviceWait = some r → 
      Becomes (exec (.serviceModeTimeout) s) s
      (let n := s.m.until r
      let n := n.setSafe { n.safe with serviceWait := none }
      (n.port.flight.filter fun f => f.opcode == 0x0710).foldl (fun (n : Mod) f => n.finish 0x0710 f.cmd St.timeout) n))
  ∧ (∀ (s : State) (r : Nat), s.m.safe.tripLine = some r → 
      Becomes (exec (.jackTripLine) s) s
      (Mod.watchService s.m.safe.serviceMode (s.m.until (r + ms 2)).jackOpensGround))
  ∧ (∀ (s : State) (r : Nat) (n : Mod), s.m.safe.oldestDemand = some r → n = (s.m.until (r + ms (s.m.safe.fld 92 2 + 1000))).jackPoll → n.safe.oldestDemand = some r → r + ms (n.safe.fld 92 2 + 1000) ≤ n.now → 
      Becomes (exec (.jackBackstop) s) s
      (Mod.watchService s.m.safe.serviceMode n.jackOpensGround))
  ∧ (∀ (s : State) (r : Nat) (n : Mod), s.m.safe.oldestDemand = some r → n = (s.m.until (r + ms (s.m.safe.fld 92 2 + 1000))).jackPoll → n.safe.oldestDemand = none → 
      Becomes (exec (.jackBackstop) s) s
      (Mod.watchService s.m.safe.serviceMode n))
  ∧ (∀ (s : State) (r : Nat), s.m.safeOn = true → s.m.safe.jseatRaw = none → s.m.safe.seatRaw = some r → s.m.safe.func 3 = .delay → s.m.safe.spRuns = true → 
      Becomes (exec (.seatDelayExpiry) s) s
      (Mod.watchService s.m.safe.serviceMode ((s.m.until (r + ms (100 * s.m.safe.fld 94 2))).seatExpire)))
  ∧ (∀ (s : State) (r : Nat), s.m.safeOn = true → s.m.safe.jseatRaw = some r → s.m.safe.jseatTrip = false → (s.m.until (r + ms (100 * s.m.safe.fld 94 2))).jackPoll.safe.seatRaw = none → 
      Becomes (exec (.seatDelayExpiry) s) s
      (Mod.watchService s.m.safe.serviceMode ((s.m.until (r + ms (100 * s.m.safe.fld 94 2))).jackPoll)))
  ∧ (∀ (s : State) (out t : Nat) (jack : Bool) (n : Mod), s.m.darkPoll.safe.darkDue out jack s.m.darkPoll.now = some t → out < 8 → s.m.darkPoll.safe.energised out = true → s.m.darkPoll.safe.fld (80 + out) 1 ≠ 0 → s.m.darkPoll.safe.spRuns = true → n = (s.m.darkPoll.until t).darkPoll → 
      Becomes (exec (.darkTest out jack false) s) s
      (Mod.watchService s.m.safe.serviceMode (let n := n.setSafe { n.safe with
          dark := some (out, jack, n.now + us 300)
          sout := Tab.upd {} n.safe.sout out fun x =>
            if jack then { x with j := false, darkJ := some n.now } else { x with p := false, darkP := some n.now } }
      (n.until (n.now + us 200)).latchOut out (if jack then 7 else 6))))
  ∧ (∀ (s : State) (out t : Nat) (jack : Bool) (n : Mod), s.m.darkPoll.safe.darkDue out jack s.m.darkPoll.now = some t → out < 8 → s.m.darkPoll.safe.energised out = true → s.m.darkPoll.safe.fld (80 + out) 1 ≠ 0 → s.m.darkPoll.safe.spRuns = true → n = (s.m.darkPoll.until t).darkPoll → 
      Becomes (exec (.darkTest out jack true) s) s
      (Mod.watchService s.m.safe.serviceMode (n.setSafe { n.safe with
          dark := some (out, jack, n.now + us 300)
          sout := Tab.upd {} n.safe.sout out fun x =>
            if jack then { x with j := false, darkJ := some n.now } else { x with p := false, darkP := some n.now } })))
  ∧ (∀ (s : State), s.m.pd 4 = true → 
      Becomes (exec (.jackClockFail) s) s
      (s.m.setSafe s.m.safe.jackOpensAll))
  ∧ (∀ (s : State) (r : Nat), s.m.pd 4 = true → s.m.safe.cycleRaw = some r → 
      Becomes (exec (.lifeLineTimeout) s) s
      (let n := s.m.until (r + ms 2)
      n.setSafe n.safe.jackOpensAll))
  ∧ (∀ (s : State), s.m.pd 4 = true → 
      Becomes (exec (.lockstepMismatch) s) s
      (s.m.setSafe { s.m.safe with spRuns := false, sout := foldN 8 (fun t o => Tab.upd {} t o fun x => { x with p := false }) s.m.safe.sout }))
  ∧ (∀ (s : State) (n : Mod), s.m.safePdus = true → s.m.safe.pduWait = none → n = s.m.until (s.m.safe.txRaw + ms 10) → 
      Becomes (exec (.safetyPduTx) s) s
      (n.sendPdu s.m.safe.txData n.now))
  ∧ (∀ (s : State) (n : Mod) (due : Nat), s.m.safePdus = true → s.m.safe.pduWait = some due → n = s.m.until due → 
      Becomes (exec (.safetyPduTx) s) s
      (n.safeSlots n.now))
  ∧ (∀ (s : State) (ch : Nat) (id : BitVec 32) (data : Bytes) (n : Mod), (ch = 6 ∨ ch = 7) → s.m.canHears ch = true → n = s.m.canTake ch (canFrameOf (id.toNat % 2 ^ 29 + 2 ^ 29) 1 data) → n.safeCycles = true → n.safe.rcd.isSome = true → id.toNat % 2 ^ 29 = n.safe.fld 100 4 → rd data 12 4 = pduCrc ch (id.toNat % 2 ^ 29) data → rd data 10 1 = n.safe.fld 108 1 → rd data 11 1 = 1 → data.length = 16 → 
      Becomes (exec (.safetyPduRx ch id data) s) s
      (n.pduCopy ch (BitVec.ofNat 16 (rd data 8 2)) (data.take 8)))
  ∧ (∀ (s : State) (ch : Nat) (id : BitVec 32) (data : Bytes) (n : Mod), (ch = 6 ∨ ch = 7) → s.m.canHears ch = true → n = s.m.canTake ch (canFrameOf (id.toNat % 2 ^ 29 + 2 ^ 29) 1 data) → n.safeCycles = true → rd data 12 4 ≠ pduCrc ch (id.toNat % 2 ^ 29) data → 
      Becomes (exec (.safetyPduRx ch id data) s) s
      n.discardCopy)
  ∧ (∀ (s : State) (ch : Nat) (id : BitVec 32) (data : Bytes), (ch = 6 ∨ ch = 7) → s.m.canHears ch = false → 
      Becomes (exec (.safetyPduRx ch id data) s) s
      (s.m.canTake ch (canFrameOf (id.toNat % 2 ^ 29 + 2 ^ 29) 1 data)))
  ∧ (∀ (s : State), s.m.safePdus = true → 
      Becomes (exec (.pduWatchdog) s) s
      ((s.m.until (s.m.safe.rxRaw + ms 25)).commFault 16))
  ∧ (∀ (s : State) (test : SafetyTest), s.m.pd 4 = true → (s.m.nvs.safety = none ∨ test.spOk = false) → 
      Becomes (exec (.safetyStart test) s) s
      (((s.m.setSafe { s.m.safe.restart s.m.nvs.safety with spRuns := true, rcd := none, rxRaw := s.m.now, txRaw := s.m.now }).ev 71 0 19 true).setSafeSt .noParams))
  ∧ (∀ (s : State) (r : Bytes) (test : SafetyTest), s.m.pd 4 = true → s.m.nvs.safety = some r → test.spOk = true → test.jackOk = true → 
      Becomes (exec (.safetyStart test) s) s
      (((s.m.setSafe { s.m.safe.restart s.m.nvs.safety with spRuns := true, rcd := some r, rxRaw := s.m.now, txRaw := s.m.now }).setSafeSt .test).startTest test))
  ∧ (∀ (s : State) (r : Bytes) (test : SafetyTest), s.m.pd 4 = true → s.m.nvs.safety = some r → test.spOk = true → test.jackOk = false → 
      Becomes (exec (.safetyStart test) s) s
      (let n := ((s.m.setSafe { s.m.safe.restart s.m.nvs.safety with spRuns := true, rcd := some r, rxRaw := s.m.now, txRaw := s.m.now }))
      ((((n.setSafe n.safe.jackOpensAll).ev 71 0 19 true).setSafeSt .test).startTest test)))
  ∧ (∀ (s : State), s.m.pd 4 = true → s.m.safe.foldA = true → 
      Becomes (exec (.foldback 0 false) s) s
      ((s.m.setSafe { s.m.safe with foldA := false }).ev 67 0 10 false))
  ∧ (∀ (s : State), s.m.pd 4 = true → s.m.safe.foldB = true → 
      Becomes (exec (.foldback 1 false) s) s
      ((s.m.setSafe { s.m.safe with foldB := false }).ev 67 1 11 false))
  ∧ (∀ (s : State) (out : Nat), out < 8 → s.m.darkPoll.safe.energised out = true → 
      Becomes (exec (.limitationSwitchOff out) s) s
      (Mod.watchService s.m.safe.serviceMode (s.m.darkPoll.latchOut out 8)))

/-- Each event has the effect of its entry in chapter 09. On operands and a state that meet the condition of its clause,
exec answers the next state named there: the module with that change, and the queue and the bytes SDRAM holds as they
were, except that a clause that stores says what it stores and SDRAM is lost with PD5 off; a line the module writes is
sound again. It rests on readings and choices of the model: log entries 4, 16, 41, 43. -/
def Obligations.GnssEventsAct : Prop :=
  (∀ (s : State) (meas : List GnssMeas) (sats : List (Nat × SatRow)), s.m.pd 8 = true → s.m.lanes.started = true → s.m.lanes.frame % epochFrames (s.m.rateAt s.m.lanes.frame) = 0 → (s.m.gnss.epochRaw ≠ s.m.lanes.frameRaw ∨ s.m.gnss.epochRaw = 0) → 
      Becomes (exec (.gnssEpoch meas sats) s) s
      (let raw := s.m.lanes.frameRaw
      let n := ((s.m.takeRecord (s.m.rateAt s.m.lanes.frame)).antAsk 0).antAsk 1
      let n := { n with gnss := { n.gnss with
        epochRaw := raw, epochFrame := n.lanes.frame, epochOpen := true, pvtOpen := true, epochStep := n.gnss.clockStep
        clockStep := false, stepSince := 0 } }
      ((n.latchAnt 0 raw meas sats).latchAnt 1 raw meas sats).takeRef))
  ∧ (∀ (s : State), s.m.pd 8 = true → s.m.gnss.epochOpen = true → 
      Becomes (exec (.gnssEpochPublish) s) s
      ((Mod.publishEpoch { s.m with gnss := { s.m.gnss with epochOpen := false } } 0).publishEpoch 1))
  ∧ (∀ (s : State) (q : PvtIn), s.m.pd 8 = true → s.m.gnss.pvtOpen = true → 
      Becomes (exec (.gnssPvt q) s) s
      (let o := s.m.solve q
      let n := s.m.choose o.fix1 o.fix2
      let w := (n.keepSol o q)
      let w := if o.fix ≠ n.gnss.fix ∨ o.status ≠ n.gnss.heading then
          w.ev 98 o.fix o.status (decide (1 ≤ o.fix) && decide (o.dual < 5)) else w
      (w.publishAt 10 1 2 w.epochNs (n.pvtBody o q)).pvtSlots o n.corrUsed n.gnss.age10 q))
  ∧ (∀ (s : State) (can : Bool) (frame : Bytes), s.m.pd 8 = true → s.m.corrFrom can = true → rtcmSound frame = false → 
      Becomes (exec (.rtcmFrame can frame) s) s
      (Mod.corrEv { s.m with gnss := { s.m.gnss with corrErrors := inc32 s.m.gnss.corrErrors } } 4 true))
  ∧ (∀ (s : State) (can : Bool) (frame p : Bytes), s.m.pd 8 = true → s.m.corrFrom can = true → rtcmSound frame = true → p = (frame.drop 3).take (rtcmLen frame) → rtcmUsed (msgBits p 0 12) = false → 
      Becomes (exec (.rtcmFrame can frame) s) s
      (Mod.corrEv { s.m with gnss := { s.m.gnss with corrUnsupported := inc32 s.m.gnss.corrUnsupported } } 6 true))
  ∧ (∀ (s : State) (can : Bool) (frame p : Bytes), s.m.pd 8 = true → s.m.corrFrom can = true → rtcmSound frame = true → p = (frame.drop 3).take (rtcmLen frame) → (msgBits p 0 12 = 1005 ∨ msgBits p 0 12 = 1006) → 
      Becomes (exec (.rtcmFrame can frame) s) s
      (Mod.stationMsg { s.m with gnss := { s.m.gnss with corrFrames := inc32 s.m.gnss.corrFrames } } p))
  ∧ (∀ (s : State) (can : Bool) (frame p : Bytes), s.m.pd 8 = true → s.m.corrFrom can = true → rtcmSound frame = true → p = (frame.drop 3).take (rtcmLen frame) → msgBits p 0 12 = 1033 → 
      Becomes (exec (.rtcmFrame can frame) s) s
      { s.m with gnss := { s.m.gnss with corrFrames := inc32 s.m.gnss.corrFrames } })
  ∧ (∀ (s : State) (can : Bool) (frame p : Bytes), s.m.pd 8 = true → s.m.corrFrom can = true → rtcmSound frame = true → p = (frame.drop 3).take (rtcmLen frame) → rtcmUsed (msgBits p 0 12) = true → (msgBits p 0 12 ≠ 1005 ∧ msgBits p 0 12 ≠ 1006 ∧ msgBits p 0 12 ≠ 1033) → 
      Becomes (exec (.rtcmFrame can frame) s) s
      (Mod.msm { s.m with gnss := { s.m.gnss with corrFrames := inc32 s.m.gnss.corrFrames } } can (msgBits p 12 12)
        (if msgBits p 0 12 = 1124 ∨ msgBits p 0 12 = 1127 then (msgBits p 24 30 + 14000) % 604800000 else msgBits p 24 30)
        (msmSystem (msgBits p 0 12)) (msgBits p 54 1 == 0)))
  ∧ (∀ (s : State) (r : Nat), s.m.gnss.refRaw = some r → s.m.pd 8 = true → s.m.gnss.aged = false → 
      Becomes (exec (.corrAged) s) s
      (let n := s.m.until (r + rd s.m.gnssRec 12 2 * 12500000 + 1)
      Mod.corrEv { n with gnss := { n.gnss with aged := true } } 2 true))
  ∧ (∀ (s : State) (sq : Byte) (rest : Bytes), s.m.pd 8 = true → s.m.corrFrom true = true → s.m.gnss.canSeq = none → 
      Becomes (exec (.rtcmCanFrame (sq :: rest)) s) s
      (Mod.stream { s.m with gnss := { s.m.gnss with canSeq := some sq } } true rest).1)
  ∧ (∀ (s : State) (sq q : Byte) (rest : Bytes), s.m.pd 8 = true → s.m.corrFrom true = true → s.m.gnss.canSeq = some q → sq ≠ q + 1 → 
      Becomes (exec (.rtcmCanFrame (sq :: rest)) s) s
      ((Mod.corrEv { s.m with gnss := { s.m.gnss with canSeq := some sq, bufCan := [], corrErrors := inc32 s.m.gnss.corrErrors } } 5 true).stream true rest).1)
  ∧ (∀ (s : State) (sq q : Byte) (rest : Bytes), s.m.pd 8 = true → s.m.corrFrom true = true → s.m.gnss.canSeq = some q → sq = q + 1 → 
      Becomes (exec (.rtcmCanFrame (sq :: rest)) s) s
      (Mod.stream { s.m with gnss := { s.m.gnss with canSeq := some sq } } true rest).1)
  ∧ (∀ (s : State) (k : Nat), k ≤ 1 → s.m.pd 8 = true → (s.m.ant k).bias = true → (s.m.ant k).opened = false → 
      Becomes (exec (.antBiasFault k .opened) s) s
      ((s.m.setAnt k { s.m.ant k with opened := true }).antEv k 1 true))
  ∧ (∀ (s : State) (k : Nat), k ≤ 1 → s.m.pd 8 = true → (s.m.ant k).bias = true → (s.m.ant k).opened = true → 
      Becomes (exec (.antBiasFault k .restored) s) s
      ((s.m.setAnt k { s.m.ant k with opened := false }).antEv k 1 false))
  ∧ (∀ (s : State) (k : Nat) (shorts : List Nat) (n : Mod), k ≤ 1 → s.m.pd 8 = true → (s.m.ant k).bias = true → shorts = s.m.now :: (s.m.ant k).shorts.filter (fun t => s.m.now < t + secs 60) → n = (if (s.m.ant k).opened = true then s.m.antEv k 1 false else s.m) → 
      Becomes (exec (.antBiasFault k .short) s) s
      (let n := (n.setAnt k (Antenna.loseAll { s.m.ant k with
          opened := false, short := true, bias := false, shorts := shorts, latched := decide (5 ≤ shorts.length) } n.now)).antEv k 2 true
      if 5 ≤ shorts.length then n.antEv k 3 true else n))
  ∧ (∀ (s : State) (k : Nat), k ≤ 1 → s.m.pd 8 = true → (s.m.ant k).short = true → (s.m.ant k).latched = false → 
      Becomes (exec (.antBiasRetry k) s) s
      ((((s.m.until ((s.m.ant k).shorts.headD 0 + secs 1)).setAnt k { s.m.ant k with short := false }).biasNow k).antEv k 2 false))
  ∧ (∀ (s : State) (k ch : Nat), k ≤ 1 → s.m.pd 8 = true → (Tab.get {} (s.m.ant k).chan ch : GnssCh).lock = true → 
      Becomes (exec (.lockLost k ch) s) s
      (s.m.setAnt k { s.m.ant k with chan := Tab.upd {} (s.m.ant k).chan ch fun (c : GnssCh) => { c with lock := false, search := true, lockRaw := s.m.now } }))
  ∧ (∀ (s : State) (k ch : Nat), k ≤ 1 → s.m.pd 8 = true → (Tab.get {} (s.m.ant k).chan ch : GnssCh).search = true → 
      Becomes (exec (.searchTimeout k ch) s) s
      ((s.m.until ((Tab.get {} (s.m.ant k).chan ch : GnssCh).lockRaw + secs 10)).setAnt k { s.m.ant k with chan := Tab.put {} (s.m.ant k).chan ch {} }))
  ∧ (∀ (s : State) (k : Nat) (n : Mod), k ≤ 1 → s.m.pd 8 = true → (s.m.ant k).enabled = true → (s.m.ant k).noSignal = false → (s.m.ant k).tracked = 0 → n = (if (s.m.ant k).chan.isEmpty = true then s.m else s.m.until ((s.m.ant k).chan.foldl (fun t p => max t p.2.lockRaw) 0 + secs 1)) → 
      Becomes (exec (.noSignal k) s) s
      ((n.setAnt k { s.m.ant k with noSignal := true }).antEv k 4 true))
  ∧ (∀ (s : State) (r : Nat), s.m.pd 8 = true → s.m.gnss.onAnt2 = false → s.m.gnss.ant1Out = some r → 
      Becomes (exec (.ant2Fallback true) s) s
      (let n := s.m.until (r + secs 1)
      { n with gnss := { n.gnss with onAnt2 := true } }))
  ∧ (∀ (s : State) (r : Nat), s.m.pd 8 = true → s.m.gnss.onAnt2 = true → s.m.gnss.ant1Back = some r → 
      Becomes (exec (.ant2Fallback false) s) s
      (let n := s.m.until (r + secs 5)
      { n with gnss := { n.gnss with onAnt2 := false } }))
  ∧ (∀ (s : State) (k ch : Nat) (n : Mod), k ≤ 1 → ch ≤ 95 → s.m.pd 8 = true → (s.m.ant k).enabled = true → ((s.m.ant k).ch ch).search = true → n = s.m.setAnt k { s.m.ant k with chan := Tab.put {} (s.m.ant k).chan ch { (s.m.ant k).ch ch with lock := true, search := false, lockRaw := s.m.now, slip := true }, noSignal := false } → 
      Becomes (exec (.reacquisition k ch) s) s
      (if (s.m.ant k).noSignal then n.antEv k 4 false else n))

/-- Each event has the effect of its entry in chapter 10. On operands and a state that meet the condition of its clause,
exec answers the next state named there: the module with that change, and the queue and the bytes SDRAM holds as they
were, except that a clause that stores says what it stores and SDRAM is lost with PD5 off; a line the module writes is
sound again. It rests on readings and choices of the model: log entries 4, 44, 67. -/
def Obligations.FusionEventsAct : Prop :=
  (∀ (s : State), s.m.pd 5 = true → s.m.lanes.started = true → s.m.lanes.frame % 40 = 0 → s.m.fuse.started = false → 
      Becomes (exec (.fusionCycle) s) s
      (s.m.fuseDue.startCycle (s.m.lanes.frame / 40)))
  ∧ (∀ (s : State) (k : Nat) (x : FuseIn) (n : Mod), s.m.pd 5 = true → n = s.m.fuseDue → n.pd 5 = true → k < 32 → n.srcOn k = true → rd (n.srcOf k) 0 1 = 1 → n.gnss.pvtRaw ≠ 0 → 
      Becomes (exec (.fuseSample k x) s) s
      (n.takeSample k (n.gnssSample x.sd)).1)
  ∧ (∀ (s : State) (k : Nat) (x : FuseIn) (n : Mod), s.m.pd 5 = true → n = s.m.fuseDue → n.pd 5 = true → k < 32 → n.srcOn k = true → rd (n.srcOf k) 0 1 = 2 → 
      Becomes (exec (.fuseSample k x) s) s
      (n.takeSample k (n.imuSample (rd (n.srcOf k) 2 1) x.sd)).1)
  ∧ (∀ (s : State) (k : Nat) (x y : FuseIn) (n : Mod), s.m.pd 5 = true → n = s.m.fuseDue → n.pd 5 = true → k < 32 → n.srcOn k = true → rd (n.srcOf k) 0 1 = 3 → n.slotSample (rd (n.srcOf k) 2 1) x.sd = some y → 
      Becomes (exec (.fuseSample k x) s) s
      (n.takeSample k y).1)
  ∧ (∀ (s : State) (k : Nat) (x : FuseIn) (n : Mod), s.m.pd 5 = true → n = s.m.fuseDue → n.pd 5 = true → k < 32 → n.srcOn k = true → rd (n.srcOf k) 0 1 = 4 → 
      Becomes (exec (.fuseSample k x) s) s
      (n.takeSample k x).1)
  ∧ (∀ (s : State), s.m.pd 5 = true → 
      Becomes (exec (.fuseStatePublish) s) s
      s.m.fusePublish)
  ∧ (∀ (s : State) (w : Mod), s.m.pd 5 = true → s.m.fuse.started = true → s.m.fuse.next ≤ s.m.fuse.cycle → w = s.m.fusePublish → 
      Becomes (exec (.fusionClose) s) s
      (let i := w.fuse.next
      let t := w.cycleRaw i
      let c := w.closeAt t
      let n := w.until c
      let n := foldN 32 (fun (m : Mod) k => m.coverage k t) n
      let gone := (List.range 32).filter fun k => n.srcOn k && n.gone k t
      let n := { n with fuse := { n.fuse with absent := srcMask gone } }
      let n := (n.estimate t).yieldCycle i t
      let n := foldN 32 (fun (m : Mod) k => m.setFsrc k ((m.fsrc k).used t)) n
      Mod.setupsDue { n with fuse := { n.fuse with closed := some i, closedRaw := c, next := i + 1, toPublish := n.fuse.enabled } }))

/-- Each event has the effect of its entry in chapter 11. On operands and a state that meet the condition of its clause,
exec answers the next state named there: the module with that change, and the queue and the bytes SDRAM holds as they
were, except that a clause that stores says what it stores and SDRAM is lost with PD5 off; a line the module writes is
sound again. It rests on readings and choices of the model: log entries 16, 41, 45, 46, 47, 48. -/
def Obligations.CameraLinkEventsAct : Prop :=
  (∀ (s : State) (k : Nat), k ≤ 2 → s.m.pd 7 = true → (s.m.link k).poc = true → (s.m.link k).trips = [] → 
      Becomes (exec (.pocFault k) s) s
      (((s.m.setLink k { s.m.link k with trips := [s.m.now], short := true }).linkEv k 2 true).linkDown k .down))
  ∧ (∀ (s : State) (k : Nat), k ≤ 2 → s.m.pd 7 = true → (s.m.link k).st = .down → (s.m.link k).short = false → 
      Becomes (exec (.pocRetry k) s) s
      (let n := s.m.until ((s.m.link k).stRaw + secs 1)
      (n.setLink k { n.link k with poc := rd (n.linkRec k) 0 1 == 1 }).linkTo k .powering))
  ∧ (∀ (s : State) (k : Nat) (o : Bool), k ≤ 2 → s.m.pd 7 = true → (s.m.link k).poc = true → (s.m.link k).pocOpen ≠ o → 
      Becomes (exec (.pocOpen k o) s) s
      ((s.m.setLink k { s.m.link k with pocOpen := o }).linkEv k 1 o))
  ∧ (∀ (s : State) (k : Nat), k ≤ 2 → s.m.pd 7 = true → (s.m.link k).st = .powering → 
      Becomes (exec (.poweringTimeout k) s) s
      ((s.m.until ((s.m.link k).stRaw + ms 500)).linkDown k .down))
  ∧ (∀ (s : State) (k : Nat), k ≤ 2 → s.m.pd 7 = true → (s.m.link k).st = .powering → s.m.now ≤ (s.m.link k).stRaw + ms 500 → 
      Becomes (exec (.backChannelLock k) s) s
      (s.m.linkTo k .training))
  ∧ (∀ (s : State) (k : Nat), k ≤ 2 → s.m.pd 7 = true → (s.m.link k).st = .powering → (s.m.link k).stRaw + ms 500 < s.m.now → 
      Becomes (exec (.backChannelLock k) s) s
      (s.m.linkDown k .down))
  ∧ (∀ (s : State) (k : Nat), k ≤ 2 → s.m.pd 7 = true → (s.m.link k).locked = false → (s.m.link k).lockLost = false → (s.m.link k).st = .training → 
      Becomes (exec (.blockLock k true) s) s
      ((s.m.setLink k { s.m.link k with locked := true, lockLost := false }).tryAlign k))
  ∧ (∀ (s : State) (k : Nat), k ≤ 2 → s.m.pd 7 = true → (s.m.link k).locked = true → (s.m.link k).st = .up → 
      Becomes (exec (.blockLock k false) s) s
      (((s.m.setLink k { s.m.link k with locked := false, lockLost := true }).linkEv k 4 true).linkTo k .training))
  ∧ (∀ (s : State) (k : Nat) (block : Bytes), k ≤ 2 → s.m.pd 7 = true → (s.m.link k).locked = true → block.length ≠ 256 → 
      Becomes (exec (.linkBlock k block) s) s
      (s.m.badBlock k))
  ∧ (∀ (s : State) (k : Nat) (block : Bytes), k ≤ 2 → s.m.pd 7 = true → (s.m.link k).locked = true → block.length = 256 → crc32 (block.take 252) = rd block 252 4 → rd block 0 1 = 1 → 1 ≤ rd block 4 2 → rd block 4 2 ≤ 240 → (s.m.link k).st = .up → slotOn (s.m.slotRec (4 * k + rd block 1 1 % 4)) = true → 
      Becomes (exec (.linkBlock k block) s) s
      ((s.m.setLink k { s.m.link k with blocks := (s.m.link k).blocks + 1 }).dataBlock (4 * k + rd block 1 1 % 4) block))
  ∧ (∀ (s : State) (k : Nat) (msg : Bytes), k ≤ 2 → s.m.pd 7 = true → ((s.m.link k).st = .training ∨ (s.m.link k).st = .aligning ∨ (s.m.link k).st = .up) → msg.length = 32 → crc32 (msg.take 28) = rd msg 28 4 → rd msg 0 1 = 0x22 → 
      Becomes (exec (.backChannelMessage k msg) s) s
      (s.m.setLink k { s.m.link k with echo := some (rd (slice msg 4 24) 0 8, rd (slice msg 4 24) 8 8, s.m.now) }))
  ∧ (∀ (s : State) (k : Nat) (msg : Bytes), k ≤ 2 → s.m.pd 7 = true → ((s.m.link k).st = .training ∨ (s.m.link k).st = .aligning ∨ (s.m.link k).st = .up) → msg.length ≠ 32 → 
      Becomes (exec (.backChannelMessage k msg) s) s
      (s.m.setLink k { s.m.link k with bcErrors := inc32 (s.m.link k).bcErrors }))
  ∧ (∀ (s : State) (k w : Nat) (n : Mod), k ≤ 2 → s.m.pd 7 = true → ((s.m.link k).st = .training ∨ (s.m.link k).st = .aligning ∨ (s.m.link k).st = .up) → w = max (s.m.link k).windows ((s.m.now - (s.m.link k).trainRaw + us 64 - 1) / us 64) → n = s.m.until ((s.m.link k).trainRaw + us 64 * w) → w % 2 = 1 → 
      Becomes (exec (.backChannelWindow k) s) s
      (n.setLink k { s.m.link k with windows := w + 1 }))
  ∧ (∀ (s : State) (k w : Nat) (n : Mod), k ≤ 2 → s.m.pd 7 = true → ((s.m.link k).st = .training ∨ (s.m.link k).st = .aligning ∨ (s.m.link k).st = .up) → w = max (s.m.link k).windows ((s.m.now - (s.m.link k).trainRaw + us 64 - 1) / us 64) → n = s.m.until ((s.m.link k).trainRaw + us 64 * w) → w % 2 = 0 → 
      Becomes (exec (.backChannelWindow k) s) s
      (n.setLink k (Link.window 101 { s.m.link k with windows := w + 1 } n.now (n.now + us 64))))
  ∧ (∀ (s : State) (k : Nat), k ≤ 2 → s.m.pd 7 = true → (s.m.link k).st = .training → (s.m.link k).echo = none → 
      Becomes (exec (.timeSync k) s) s
      (let n := s.m.until ((s.m.link k).syncRaw + ms 1)
      let q : BcMsg := { typ := 0x12, seq := (s.m.link k).seq, slot := 0xFF, payload := zeros 8 ++ leI 8 (-(s.m.link k).alignNs) }
      n.setLink k { s.m.link k with
        good := 0, bad := 0, silent := min 10 ((s.m.link k).silent + 1), syncRaw := n.now, echo := none, seq := (s.m.link k).seq + 1
        queue := (s.m.link k).queue.filter (fun y => y.typ != 0x12) ++ [q] }))
  ∧ (∀ (s : State) (k r : Nat), (s.m.link k).status = some r → k ≤ 2 → s.m.pd 7 = true → (s.m.link k).st = .up → 
      Becomes (exec (.hubLost k) s) s
      (((((s.m.until (r + ms 50)).setLink k { s.m.link k with hubLost := true }).linkEv k 5 true).linkTo k .training).i2cFail k))
  ∧ (∀ (s : State) (k : Nat) (q : BcMsg), (s.m.link k).await = some q → k ≤ 2 → s.m.pd 7 = true → q.sends < 3 → 
      Becomes (exec (.i2cRetryTimeout k) s) s
      ((s.m.until (q.sentRaw + ms 2)).setLink k { s.m.link k with await := none, queue := q :: (s.m.link k).queue }))
  ∧ (∀ (s : State) (i ed : Nat) (es : List Nat), i ≤ 11 → s.m.pd 7 = true → (s.m.link (i / 4)).st = .up → (s.m.rx i).edges = ed :: es → 
      Becomes (exec (.fsyncEdge i) s) s
      (let l := s.m.link (i / 4)
      let q : BcMsg := { typ := 0x11, seq := l.seq, slot := i % 4, payload := le 8 ed ++ le 2 (rd (s.m.rx i).rcd 20 2) }
      ((s.m.until (ed - us 200)).setLink (i / 4) { l with seq := l.seq + 1, queue := l.queue ++ [q] }).setRx i
        { s.m.rx i with edges := es, lastEdge := some (ed, l.unaligned), trig := (s.m.rx i).trig ++ [(ed, l.unaligned)], fsyncs := inc32 (s.m.rx i).fsyncs }))
  ∧ (∀ (s : State) (g : GatherIn) (x : Bytes × Bytes) (rest : List (Bytes × Bytes)) (arr : Nat) (n : Mod), (s.m.rx g.slot).pending = x :: rest → s.m.pd 7 = true → arr = s.m.now - (s.m.now + 2 ^ 32 - rd x.1 12 4) % 2 ^ 32 → n = s.m.setRx g.slot { s.m.rx g.slot with pending := rest, linePer := if (s.m.rx g.slot).lineRaw = 0 then 0 else arr - (s.m.rx g.slot).lineRaw, lineRaw := arr } → slotH (s.m.rx g.slot).rcd ≤ rd x.1 4 2 → 
      Becomes (exec (.gatherLine g) s) s
      (let n := n.updPic g.slot (rd x.1 0 4) fun q => { q with excess := q.excess + 1 }
      (n.setPs g.slot { n.ps g.slot with long := inc32 (n.ps g.slot).long }).picStep g.slot))
  ∧ (∀ (s : State) (g : GatherIn) (x : Bytes × Bytes) (rest : List (Bytes × Bytes)) (arr : Nat) (n : Mod), (s.m.rx g.slot).pending = x :: rest → s.m.pd 7 = true → arr = s.m.now - (s.m.now + 2 ^ 32 - rd x.1 12 4) % 2 ^ 32 → n = s.m.setRx g.slot { s.m.rx g.slot with pending := rest, linePer := if (s.m.rx g.slot).lineRaw = 0 then 0 else arr - (s.m.rx g.slot).lineRaw, lineRaw := arr } → rd x.1 4 2 < slotH (s.m.rx g.slot).rcd → slotRing (s.m.rx g.slot).rcd ≤ (s.m.rx g.slot).ring.length → rd x.1 0 4 = (s.m.rx g.slot).cur → 
      Becomes (exec (.gatherLine g) s) s
      (n.dropPic g.slot (rd x.1 0 4)))
  ∧ (∀ (s : State) (g : GatherIn) (x : Bytes × Bytes) (rest : List (Bytes × Bytes)) (arr : Nat) (n : Mod), (s.m.rx g.slot).pending = x :: rest → s.m.pd 7 = true → arr = s.m.now - (s.m.now + 2 ^ 32 - rd x.1 12 4) % 2 ^ 32 → n = s.m.setRx g.slot { s.m.rx g.slot with pending := rest, linePer := if (s.m.rx g.slot).lineRaw = 0 then 0 else arr - (s.m.rx g.slot).lineRaw, lineRaw := arr } → rd x.1 4 2 < slotH (s.m.rx g.slot).rcd → (s.m.rx g.slot).ring.length < slotRing (s.m.rx g.slot).rcd → g.fault = 0 → (slotSpill (s.m.rx g.slot).rcd = false ∨ s.m.pd 5 = true) → 
      Becomes (exec (.gatherLine g) s) s
      (let rcd := (s.m.rx g.slot).rcd
      let dmg := decide (rd (x).1 6 2 % 2 = 1)
      let px := rd (x).1 8 2
      let pad := !dmg && decide (px < slotW rcd)
      let cut := !dmg && decide (slotW rcd < px)
      let n := (n).updPic g.slot (rd x.1 0 4) fun q => { q with
        lines := q.lines + 1, lastRaw := arr, arrivals := arr :: q.arrivals
        damaged := if dmg then q.damaged ++ [rd (x).1 4 2] else q.damaged
        padded := q.padded + b2n pad, truncated := q.truncated + b2n cut }
      let n := n.setPs g.slot { n.ps g.slot with
        padded := sat32 ((n.ps g.slot).padded + b2n pad), truncated := sat32 ((n.ps g.slot).truncated + b2n cut) }
      (n.ringPut g.slot (x)).picStep g.slot))
  ∧ (∀ (s : State) (g : GatherIn) (x : Bytes × Bytes) (rest : List (Bytes × Bytes)) (arr : Nat) (n : Mod), (s.m.rx g.slot).pending = x :: rest → s.m.pd 7 = true → arr = s.m.now - (s.m.now + 2 ^ 32 - rd x.1 12 4) % 2 ^ 32 → n = s.m.setRx g.slot { s.m.rx g.slot with pending := rest, linePer := if (s.m.rx g.slot).lineRaw = 0 then 0 else arr - (s.m.rx g.slot).lineRaw, lineRaw := arr } → rd x.1 4 2 < slotH (s.m.rx g.slot).rcd → (s.m.rx g.slot).ring.length < slotRing (s.m.rx g.slot).rcd → g.fault = 2 → slotSpill (s.m.rx g.slot).rcd = false → 
      Becomes (exec (.gatherLine g) s) s
      (let rcd := (s.m.rx g.slot).rcd
      let dmg := decide (rd (withFlags x 17).1 6 2 % 2 = 1)
      let px := rd (withFlags x 17).1 8 2
      let pad := !dmg && decide (px < slotW rcd)
      let cut := !dmg && decide (slotW rcd < px)
      let n := (n.gatherFault g.slot 2).updPic g.slot (rd x.1 0 4) fun q => { q with
        lines := q.lines + 1, lastRaw := arr, arrivals := arr :: q.arrivals
        damaged := if dmg then q.damaged ++ [rd (withFlags x 17).1 4 2] else q.damaged
        padded := q.padded + b2n pad, truncated := q.truncated + b2n cut }
      let n := n.setPs g.slot { n.ps g.slot with
        padded := sat32 ((n.ps g.slot).padded + b2n pad), truncated := sat32 ((n.ps g.slot).truncated + b2n cut) }
      (n.ringPut g.slot (withFlags x 17)).picStep g.slot))
  ∧ (∀ (s : State) (g : GatherIn) (x : Bytes × Bytes) (rest : List (Bytes × Bytes)) (arr : Nat) (n : Mod), (s.m.rx g.slot).pending = x :: rest → s.m.pd 7 = true → arr = s.m.now - (s.m.now + 2 ^ 32 - rd x.1 12 4) % 2 ^ 32 → n = s.m.setRx g.slot { s.m.rx g.slot with pending := rest, linePer := if (s.m.rx g.slot).lineRaw = 0 then 0 else arr - (s.m.rx g.slot).lineRaw, lineRaw := arr } → rd x.1 4 2 < slotH (s.m.rx g.slot).rcd → (s.m.rx g.slot).ring.length < slotRing (s.m.rx g.slot).rcd → g.fault = 3 → slotSpill (s.m.rx g.slot).rcd = true → s.m.pd 5 = true → 
      Becomes (exec (.gatherLine g) s) s
      (let rcd := (s.m.rx g.slot).rcd
      let dmg := decide (rd (x).1 6 2 % 2 = 1)
      let px := rd (x).1 8 2
      let pad := !dmg && decide (px < slotW rcd)
      let cut := !dmg && decide (slotW rcd < px)
      let n := (n.gatherFault g.slot 3).updPic g.slot (rd x.1 0 4) fun q => { q with
        lines := q.lines + 1, lastRaw := arr, arrivals := arr :: q.arrivals
        damaged := if dmg then q.damaged ++ [rd (x).1 4 2] else q.damaged
        padded := q.padded + b2n pad, truncated := q.truncated + b2n cut }
      let n := n.setPs g.slot { n.ps g.slot with
        padded := sat32 ((n.ps g.slot).padded + b2n pad), truncated := sat32 ((n.ps g.slot).truncated + b2n cut) }
      (n.ringPut g.slot (x)).picStep g.slot))
  ∧ (∀ (s : State) (g : GatherIn) (x : Bytes × Bytes) (rest : List (Bytes × Bytes)) (arr : Nat) (n : Mod), (s.m.rx g.slot).pending = x :: rest → s.m.pd 7 = true → arr = s.m.now - (s.m.now + 2 ^ 32 - rd x.1 12 4) % 2 ^ 32 → n = s.m.setRx g.slot { s.m.rx g.slot with pending := rest, linePer := if (s.m.rx g.slot).lineRaw = 0 then 0 else arr - (s.m.rx g.slot).lineRaw, lineRaw := arr } → rd x.1 4 2 < slotH (s.m.rx g.slot).rcd → (s.m.rx g.slot).ring.length < slotRing (s.m.rx g.slot).rcd → slotSpill (s.m.rx g.slot).rcd = true → s.m.pd 5 = false → 
      Becomes (exec (.gatherLine g) s) s
      ((n.gatherFault g.slot 3).picStep g.slot))

/-- Each event has the effect of its entry in chapters 12 and 13. On operands and a state that meet the condition of its
clause, exec answers the next state named there: the module with that change, and the queue and the bytes SDRAM holds
as they were, except that a clause that stores says what it stores and SDRAM is lost with PD5 off; a line the module
writes is sound again. It rests on readings and choices of the model: log entries 5, 16, 48, 49, 50, 51. -/
def Obligations.PictureEventsAct : Prop :=
  (∀ (s : State) (k : Nat) (j : PipeJob) (p : Pic), k ≤ 1 → s.m.pd 7 = true → (s.m.pipe k).st = 1 → (s.m.pipe k).stopping = false → (s.m.pipe k).job = none → s.m.pickJob k = some j → ((s.m.ps j.slot).pics.find? fun p => p.num == j.picture) = some p → j.stripe ≠ 0 → 
      Becomes (exec (.pipeJobStart k) s) s
      (let mine := fun (e : Bytes × Bytes) => rd e.1 0 4 == j.picture && rd e.1 4 2 < j.hi
      let own := (s.m.rx j.slot).ring.filter mine
      let lines := p.carry ++ own
      let n := s.m.setRx j.slot { s.m.rx j.slot with ring := (s.m.rx j.slot).ring.filter fun e => !mine e }
      let n := n.setPs j.slot { s.m.ps j.slot with ready := (s.m.ps j.slot).ready.drop 1 }
      let n := n.updPic j.slot j.picture fun p => { p with
        carry := lines.drop (lines.length - 8), sound := soundLines (mosaicSize (rd p.rcd 2 1)) (p.sound ++ own) }
      n.setPipe k { s.m.pipe k with
        job := some { j with start := n.now, pixels := slotW (s.m.rx j.slot).rcd * lines.length, lines := p.sound ++ lines } }))
  ∧ (∀ (s : State) (k : Nat) (j : PipeJob) (p : Pic), k ≤ 1 → s.m.pd 7 = true → (s.m.pipe k).st = 1 → (s.m.pipe k).stopping = false → (s.m.pipe k).job = none → s.m.pickJob k = some j → ((s.m.ps j.slot).pics.find? fun p => p.num == j.picture) = some p → j.stripe = 0 → 
      Becomes (exec (.pipeJobStart k) s) s
      (let mine := fun (e : Bytes × Bytes) => rd e.1 0 4 == j.picture && rd e.1 4 2 < j.hi
      let own := (s.m.rx j.slot).ring.filter mine
      let lines := p.carry ++ own
      let n := s.m.setRx j.slot { s.m.rx j.slot with ring := (s.m.rx j.slot).ring.filter fun e => !mine e }
      let n := n.setPs j.slot { s.m.ps j.slot with ready := (s.m.ps j.slot).ready.drop 1 }
      let n := n.updPic j.slot j.picture fun p => { p with
        carry := lines.drop (lines.length - 8), sound := soundLines (mosaicSize (rd p.rcd 2 1)) (p.sound ++ own) }
      let n := n.openBufs j.slot p
      n.setPipe k { s.m.pipe k with
        job := some { j with start := n.now, pixels := slotW (s.m.rx j.slot).rcd * lines.length, lines := p.sound ++ lines } }))
  ∧ (∀ (s : State) (k : Nat) (j : PipeJob), (s.m.pipe k).job = some j → s.m.pd 7 = true → k ≤ 1 → ((s.m.ps j.slot).pics.find? fun p => p.num == j.picture) = none → s.m.now ≤ j.readyRaw + ms 2 → j.start + (j.pixels + 7) / 8 ≤ j.readyRaw + ms 2 → 
      Becomes (exec (.pipeJobDone k) s) s
      (let n := s.m.until (j.start + (j.pixels + 7) / 8)
      let n := (n.setPipe k { s.m.pipe k with
        job := none, jobs := inc32 (s.m.pipe k).jobs, maxLat := max (s.m.pipe k).maxLat (sat32 ((n.now - j.readyRaw + 124) / 125))
        busy := (j.start, n.now) :: lastSecond n.now (s.m.pipe k).busy }).picStep j.slot
      if (n.pipe k).stopping then n.pipeStop k 0 0 else n))
  ∧ (∀ (s : State) (k : Nat), k ≤ 1 → s.m.pd 7 = true → (s.m.pipe k).st = 1 → 
      Becomes (exec (.pipeFault k 1) s) s
      ((s.m.ev (107 + k) k 1 true).pipeStop k 2 1))
  ∧ (∀ (s : State) (k : Nat) (cs : List Cmd) (r : Nat), (s.m.pipe k).testing = some (cs, r) → k ≤ 1 → s.m.pd 7 = true → (s.m.pipe k).faultCode = 0 → 
      Becomes (exec (.pipeSelfTestDone k 0) s) s
      (cs.foldl (fun (n : Mod) c => n.finish 0x0D07 c St.ok)
      ((s.m.until (r + ms 2)).setPipe k { s.m.pipe k with testing := none, st := 1, faultCode := 0 })))
  ∧ (∀ (s : State) (i : Nat), i ≤ 11 → s.m.pd 7 = true → 
      Becomes (exec (.noPipe i) s) s
      ((s.m.setPs i { s.m.ps i with pics := (s.m.ps i).pics.map fun q => if q.status = 3 then { q with ended := true } else q }).picStep i))
  ∧ (∀ (s : State) (p q : Nat), (s.m.part p).running = some q → p ≤ 1 → s.m.pd 6 = true → s.m.visStuck p = false → 
      Becomes (exec (.visPreempt p) s) s
      (let n := s.m.visPause p
      let x := n.part p
      let higher := (List.range q).any fun h => (Tab.get [] x.queue h : List VisJob).any fun j => !j.aborted
      let js : List VisJob := Tab.get [] x.queue q
      let js := if higher then match js with
          | j :: l => (if j.aborted then j else { j with preempts := j.preempts + 1 }) :: l
          | [] => []
        else js
      ((n.setPart p { x with queue := Tab.put [] x.queue q js }).visSweep p).visRun p))
  ∧ (∀ (s : State) (p q : Nat), (s.m.part p).running = some q → p ≤ 1 → s.m.pd 6 = true → s.m.visStuck p = true → 
      Becomes (exec (.visPreempt p) s) s
      (s.m.partFault p 2))
  ∧ (∀ (s : State) (p q : Nat) (tensor : Bytes) (j : VisJob) (d : Model), p ≤ 1 → s.m.pd 6 = true → s.m.visStuck p = false → s.m.visNow p = some (q, j, d) → j.aborted = false → 1250 * j.ran ≤ j.bound d * us 1 → rd j.cmd.params 16 8 = 0 → 
      Becomes (exec (.visJobEnd p tensor) s) s
      (let n := s.m.visPause p
      let x := n.part p
      let n := n.setPart p { x with queue := Tab.put [] x.queue q (Tab.get [] x.queue q : List VisJob).tail, running := none, jobs := inc32 x.jobs }
      ((n.visEnd p j 0 ((slice tensor 0 d.kmp.outBytes).take 160) (slice tensor 0 d.kmp.outBytes).length).visSweep p).visRun p))
  ∧ (∀ (s : State) (p q : Nat) (tensor : Bytes) (j : VisJob) (d : Model), p ≤ 1 → s.m.pd 6 = true → s.m.visStuck p = false → s.m.visNow p = some (q, j, d) → j.aborted = false → j.bound d * us 1 < 1250 * j.ran → rd j.cmd.params 16 8 = 0 → 
      Becomes (exec (.visJobEnd p tensor) s) s
      (let n := s.m.visPause p
      let x := n.part p
      let n := n.setPart p { x with queue := Tab.put [] x.queue q (Tab.get [] x.queue q : List VisJob).tail, running := none, jobs := inc32 x.jobs, overruns := inc32 x.overruns }
      (((n.jobEv p 1).visEnd p j 1 ((slice tensor 0 d.kmp.outBytes).take 160) (slice tensor 0 d.kmp.outBytes).length).visSweep p).visRun p))
  ∧ (∀ (s : State) (p q : Nat) (tensor : Bytes) (j : VisJob) (d : Model), p ≤ 1 → s.m.pd 6 = true → s.m.visStuck p = false → s.m.visNow p = some (q, j, d) → j.aborted = true → 
      Becomes (exec (.visJobEnd p tensor) s) s
      (let n := s.m.visPause p
      let x := n.part p
      let n := n.setPart p { x with queue := Tab.put [] x.queue q (Tab.get [] x.queue q : List VisJob).tail, running := none, jobs := x.jobs }
      ((n.visEnd p j 3 [] (slice tensor 0 d.kmp.outBytes).length).visSweep p).visRun p))
  ∧ (∀ (s : State) (p : Nat) (tensor : Bytes), p ≤ 1 → s.m.pd 6 = true → s.m.visStuck p = true → 
      Becomes (exec (.visJobEnd p tensor) s) s
      (s.m.partFault p 2))
  ∧ (∀ (s : State) (p : Nat), p ≤ 1 → s.m.pd 6 = true → (s.m.part p).st = 1 → 
      Becomes (exec (.visFault p 1) s) s
      (let n := s.m.ev (112 + p) p 1 true
      (n.setPart p { n.part p with st := 2, faultCode := 1 }).visClear p 4))
  ∧ (∀ (s : State) (p : Nat) (c : Cmd) (cs : List Cmd) (kmp : KmpIn) (n : Mod), (s.m.part p).loading = c :: cs → p ≤ 1 → s.m.pd 6 = true → n = s.m.setPart p { s.m.part p with loading := cs } → (s.m.part p).models.length < 16 → kmp.weights ≤ n.partFree p → 
      Becomes (exec (.modelLoadDone p kmp) s) s
      (if n.kmpOk kmp (s.readMem (rd c.params 0 8) (rd c.params 8 4)) = true then
        let h := (s.m.part p).nextHandle
        let o := n.setPart p { n.part p with models := (n.part p).models ++ [{ handle := h, kmp := kmp }], nextHandle := (h + 1) % 65536 }
        (o.ev 115 p 1 true).finish 0x0E10 c St.ok
          (le 2 h ++ le 2 kmp.layers ++ le 4 kmp.wcetUs ++ le 4 kmp.weights ++ le 4 kmp.acts ++ le 4 kmp.inBytes ++ le 4 kmp.outBytes)
      else (n.ev 115 p 2 true).finish 0x0E10 c St.badParam))
  ∧ (∀ (s : State) (p : Nat) (c : Cmd) (cs : List Cmd) (kmp : KmpIn) (n : Mod), (s.m.part p).loading = c :: cs → p ≤ 1 → s.m.pd 6 = true → n = s.m.setPart p { s.m.part p with loading := cs } → (kmp.target = false ∨ kmp.version ≠ 1 ∨ 180000 < kmp.layerNs) → 
      Becomes (exec (.modelLoadDone p kmp) s) s
      ((n.ev 115 p 2 true).finish 0x0E10 c St.badParam))
  ∧ (∀ (s : State) (p : Nat) (c : Cmd) (cs : List Cmd) (kmp : KmpIn) (n : Mod), (s.m.part p).loading = c :: cs → p ≤ 1 → s.m.pd 6 = true → n = s.m.setPart p { s.m.part p with loading := cs } → (16 ≤ (s.m.part p).models.length ∨ n.partFree p < kmp.weights) → 
      Becomes (exec (.modelLoadDone p kmp) s) s
      (if n.kmpOk kmp (s.readMem (rd c.params 0 8) (rd c.params 8 4)) = true then n.finish 0x0E10 c St.noResource
      else (n.ev 115 p 2 true).finish 0x0E10 c St.badParam))
  ∧ (∀ (s : State) (k : Nat) (au : AuIn) (h : Nat × Nat × Nat) (hs : List (Nat × Nat × Nat)), (s.m.enc k).held = h :: hs → k ≤ 3 → s.m.pd 7 = true → (s.m.enc k).running = true → (s.m.enc k).stopping = false → (s.m.enc k).idr = true → 
      Becomes (exec (.encAu k au) s) s
      (let x := s.m.enc k
      let bytes := x.auBytes true h.2.2 au.slice
      let qp := max (rd x.params 16 1) (min (rd x.params 17 1) au.qpAvg)
      let n := s.m.publishAu k (1 + b2n au.hrdOverflow * 4) qp h.2.1 h.2.2 x.bytePos bytes.length
      (n.setEnc k { x with
        held := hs, pictures := inc32 x.pictures, bytePos := x.bytePos + bytes.length, idr := false, sinceIdr := 1
        coded := (x.bytePos, bytes) :: x.keptAus (x.bytePos + bytes.length)
        aus := (n.now, bytes.length) :: x.aus.filter fun p => n.now < p.1 + secs 1 }).cleanse (x.ringAt k) x.ringSize))
  ∧ (∀ (s : State) (k : Nat), k ≤ 3 → s.m.pd 7 = true → 
      Becomes (exec (.encStreamStop k true) s) s
      (foldN 4 (fun (n : Mod) x => n.encStopped x) (s.m.ev 109 k 1 true)))
  ∧ (∀ (s : State) (k : Nat) (q : Nat × Nat), k ≤ 3 → s.m.pd 7 = true → (s.m.enc k).mismatch = some q → 
      Becomes (exec (.encStreamStop k false) s) s
      (((s.m.publishAu k 2 0 q.1 q.2 (s.m.enc k).bytePos 0).ev 109 k 3 true).encStopped k))

/-- Each event has the effect of its entry in chapter 14. On operands and a state that meet the condition of its clause,
exec answers the next state named there: the module with that change, and the queue and the bytes SDRAM holds as they
were, except that a clause that stores says what it stores and SDRAM is lost with PD5 off; a line the module writes is
sound again. It rests on readings and choices of the model: log entries 4, 16, 54. -/
def Obligations.CanEventsAct : Prop :=
  (∀ (s : State) (ch word : Nat) (lane : Lane), ch < 8 → word < 20 → 
      Becomes (exec (.canRxfHead lane ch word) s) s
      (let n := s.m.canDue
      let f := (n.canCh ch).fifo lane
      let p := f.read word f.avail
      { n.setCan ch ((n.canCh ch).setFifo lane p.2) with bus := { value := BitVec.ofNat 64 p.1.toNat, error := false } }))
  ∧ (∀ (s : State) (ch : Nat) (lane : Lane), ch < 8 → 
      Becomes (exec (.canRxfDrops (some lane) ch) s) s
      { s.m.setCan ch ((s.m.canCh ch).setFifo lane { (s.m.canCh ch).fifo lane with drops := 0 }) with
      bus := { value := BitVec.ofNat 64 ((s.m.canCh ch).fifo lane).drops, error := false } })
  ∧ (∀ (s : State) (ch : Nat), ch < 8 → 
      Becomes (exec (.canRxfDrops none ch) s) s
      { s.m.setCan ch { s.m.canCh ch with app := { (s.m.canCh ch).app with drops := 0 } } with
      bus := { value := BitVec.ofNat 64 (s.m.canCh ch).app.drops, error := false } })
  ∧ (∀ (s : State) (ch : Nat) (f : CanFrame) (n : Mod), n = s.m.canDue → ch < 8 → n.pd 10 = true → (n.canCh ch).st = 1 → (n.canCh ch).alone = false → (n.canCh ch).rec' < 128 → (n.canCh ch).app.q.length < 512 → (n.canCh ch).app.q.length + 1 ≠ rd (n.canRec ch) 20 2 → s.m.isRtcmCan ch f = false → s.m.isSafetyPdu ch f = false → (ch ≠ 0 ∨ isSegment f = false) → 
      Becomes (exec (.canFrameRx ch f) s) s
      (let x := n.canCh ch
      let seq := x.rxSeq + 1
      let sof := (n.now - f.age - 15) % 2 ^ 32
      (n.setCan ch { x with
        rxSeq := seq, acks := 0, alone := false, parked := false, rec' := x.rec' - 1
        app := (x.app.write f seq sof).opened
        fifoA := if n.lanes.a.st.hears then x.fifoA.write f seq sof else x.fifoA
        fifoB := if n.lanes.b.st.hears then x.fifoB.write f seq sof else x.fifoB }).canCounters ch))
  ∧ (∀ (s : State) (ch : Nat) (f : CanFrame), s.m.canHears ch = true → s.m.isRtcmCan ch f = true → s.m.isSafetyPdu ch f = false → (ch ≠ 0 ∨ isSegment f = false) → 
      Becomes (exec (.canFrameRx ch f) s) s
      ((s.m.canTake ch f).rtcmCan f.data))
  ∧ (∀ (s : State) (ch : Nat) (f : CanFrame), s.m.canHears ch = true → s.m.isRtcmCan ch f = false → s.m.isSafetyPdu ch f = true → ch ≠ 0 → 
      Becomes (exec (.canFrameRx ch f) s) s
      ((s.m.canTake ch f).safetyPdu ch f.idw f.data))
  ∧ (∀ (s : State) (f : CanFrame), s.m.canHears 0 = true → s.m.isRtcmCan 0 f = false → isSegment f = true → 
      exec (.canFrameRx 0 f) s = .next (
      State.segment { s with m := s.m.canTake 0 f } f.data))
  ∧ (∀ (s : State) (ch : Nat) (f : CanFrame), s.m.canHears ch = false → 
      Becomes (exec (.canFrameRx ch f) s) s
      (s.m.canTake ch f))
  ∧ (∀ (s : State) (ch : Nat) (f : CanFrame) (n : Mod), n = s.m.pduReady ch → ch < 8 → n.pd 10 = true → ((n.canCh ch).st = 1 ∨ (n.canCh ch).st = 2) → (n.canCh ch).attempt = none → rd (n.canRec ch) 0 1 = 0 → n.canOffer ch = some (.heartbeat, f) → 
      Becomes (exec (.arbitrationOpportunity ch) s) s
      (n.setCan ch { n.canCh ch with attempt := some (.heartbeat, { f with esi := f.fdf && (n.canCh ch).st == 2 }, n.now - 15), hbTried := true }))
  ∧ (∀ (s : State) (ch : Nat) (f : CanFrame) (n : Mod), n = s.m.pduReady ch → ch < 8 → n.pd 10 = true → ((n.canCh ch).st = 1 ∨ (n.canCh ch).st = 2) → (n.canCh ch).attempt = none → rd (n.canRec ch) 0 1 = 0 → n.canOffer ch = some (.mailbox, f) → 
      Becomes (exec (.arbitrationOpportunity ch) s) s
      (n.setCan ch { n.canCh ch with attempt := some (.mailbox, { f with esi := f.fdf && (n.canCh ch).st == 2 }, n.now - 15) }))
  ∧ (∀ (s : State) (ch : Nat) (f : CanFrame) (t : TxEntry) (l : List TxEntry) (n : Mod), n = s.m.pduReady ch → ch < 8 → n.pd 10 = true → ((n.canCh ch).st = 1 ∨ (n.canCh ch).st = 2) → (n.canCh ch).attempt = none → rd (n.canRec ch) 0 1 = 0 → n.canOffer ch = some (.fifo, f) → (n.canCh ch).tx = t :: l → 
      Becomes (exec (.arbitrationOpportunity ch) s) s
      (n.setCan ch { n.canCh ch with attempt := some (.fifo, { f with esi := f.fdf && (n.canCh ch).st == 2 }, n.now - 15), tx := { t with attempts := sat16 (t.attempts + 1) } :: l }))
  ∧ (∀ (s : State) (ch : Nat) (pick : TxPick) (f : CanFrame) (r : Nat), (s.m.canCh ch).attempt = some (pick, f, r) → pick ≠ .fifo → (s.m.canCh ch).alone = false → 
      Becomes (exec (.canTxEnd ch .lostArbitration) s) s
      (s.m.setCan ch { s.m.canCh ch with attempt := none }))
  ∧ (∀ (s : State) (ch : Nat) (pick : TxPick) (f : CanFrame) (r : Nat), (s.m.canCh ch).attempt = some (pick, f, r) → pick ≠ .fifo → (s.m.canCh ch).alone = true → 
      Becomes (exec (.canTxEnd ch .lostArbitration) s) s
      (s.m.setCan ch { s.m.canCh ch with attempt := none, mailbox := (s.m.canCh ch).mailboxAfter pick f }))
  ∧ (∀ (s : State) (ch : Nat) (pick : TxPick) (f : CanFrame) (r : Nat), (s.m.canCh ch).attempt = some (pick, f, r) → pick ≠ .fifo → 
      Becomes (exec (.canTxEnd ch .sent) s) s
      (s.m.canSent ch pick f r))
  ∧ (∀ (s : State) (ch : Nat), (s.m.canCh ch).st = 4 → (s.m.canCh ch).warn = false → 
      Becomes (exec (.busOffRecovered ch) s) s
      (((s.m.setCan ch { s.m.canCh ch with st := 1, tec := 0, rec' := 0, warn := false }).canStEv ch 4 false).canStEv ch 5 false))
  ∧ (∀ (s : State) (ch : Nat), ch < 8 → s.m.pd 10 = true → s.m.upd.reheat = false → (s.m.canCh ch).st ≠ 0 → ms (rd (s.m.canRec ch) 14 2) ≠ 0 → (s.m.canCh ch).hbDue = false → 
      Becomes (exec (.heartbeatDue ch) s) s
      (let x := s.m.canCh ch
      let due := x.enRaw + ((x.hbRaw - x.enRaw) / ms (rd (s.m.canRec ch) 14 2) + 1) * ms (rd (s.m.canRec ch) 14 2)
      (s.m.until due).setCan ch { x with hbDue := true, hbTried := false, hbRaw := due, hbCount := x.hbCount + 1 }))
  ∧ (∀ (s : State), 
      Powers (exec (.can1Wake) s) s
      s.m.wakeUp)
  ∧ (∀ (s : State) (ch : Nat), ch < 8 → (s.m.canCh ch).st = 1 → 
      Becomes (exec (.receiveError ch 1) s) s
      ((s.m.setCan ch { s.m.canCh ch with rec' := min 255 ((s.m.canCh ch).rec' + 1) }).canAfter ch))

/-- Each event has the effect of its entry in chapter 15. On operands and a state that meet the condition of its clause,
exec answers the next state named there: the module with that change, and the queue and the bytes SDRAM holds as they
were, except that a clause that stores says what it stores and SDRAM is lost with PD5 off; a line the module writes is
sound again. It rests on readings and choices of the model: log entries 4, 16, 52, 53. -/
def Obligations.EthernetEventsAct : Prop :=
  (∀ (s : State) (k : Nat) (f : Bytes), k ≤ 5 → s.m.pd 10 = true → (s.m.eport k).enabled = true → (s.m.eport k).link = true → f.length < 60 → 
      Becomes (exec (.ethFrameRx k f) s) s
      ((s.m.setEport k { s.m.eport k with rx := inc32 (s.m.eport k).rx }).rxDrop k))
  ∧ (∀ (s : State) (k : Nat) (f : Bytes) (v : Nat × Nat) (n : Mod), k ≤ 5 → s.m.pd 10 = true → (s.m.eport k).enabled = true → (s.m.eport k).link = true → 60 ≤ f.length → f.length ≤ 1518 → ((slice (slice f 0 6) 0 5 ≠ [0x01, 0x80, 0xC2, 0x00, 0x00] ∨ 16 ≤ rd (slice f 0 6) 5 1)) → s.m.eth.switchOn = true → n = s.m.setEport k { s.m.eport k with rx := inc32 (s.m.eport k).rx } → v = vidPcp f (rd (n.ethRec k) 2 2) → n.memberOf v.1 k = true → n.forEndpoint k v.1 (slice f 0 6) = false → 
      exec (.ethFrameRx k f) s = .next (
      State.forward { s with m := n.learn v.1 (slice f 6 6) k } k f v.1 v.2
      (((n.now : Int) - (rdI (n.ethRec k) 4 2 + 4) / 8)).toNat))
  ∧ (∀ (s : State) (k : Nat) (f : Bytes) (v : Nat × Nat) (n : Mod), k ≤ 5 → s.m.pd 10 = true → (s.m.eport k).enabled = true → (s.m.eport k).link = true → 60 ≤ f.length → f.length ≤ 1518 → ((slice (slice f 0 6) 0 5 ≠ [0x01, 0x80, 0xC2, 0x00, 0x00] ∨ 16 ≤ rd (slice f 0 6) 5 1)) → s.m.eth.switchOn = true → n = s.m.setEport k { s.m.eport k with rx := inc32 (s.m.eport k).rx } → v = vidPcp f (rd (n.ethRec k) 2 2) → n.memberOf v.1 k = false → n.forEndpoint k v.1 (slice f 0 6) = false → 
      Becomes (exec (.ethFrameRx k f) s) s
      (n.rxDrop k))
  ∧ (∀ (s : State) (k l q : Nat) (f : EthFrame) (x : State), k ≤ 5 → s.m.pd 10 = true → (s.m.eport k).enabled = true → (s.m.eport k).link = true → x = s.dropAll k → (x.m.eport k).nextLaunch = some (l, q, f) → (x.m.eport k).busy ≤ l → x.m.now ≤ l → (x.m.until l).gateFits k q (wireNs k f.bytes) = true → 
      exec (.launchTime k) s = .next (
      State.send { x with m := (x.m.until l).popFrame k q } k f 0))
  ∧ (∀ (s : State) (k q : Nat) (f : EthFrame) (x : State), k ≤ 5 → s.m.pd 10 = true → (s.m.eport k).enabled = true → (s.m.eport k).link = true → State.dropAll { s with m := s.m.until (s.m.eport k).busy } k = x → x.m.txPick k = some (q, f) → 
      exec (.ethFrameTx k) s = .next (
      State.send { x with m := x.m.popFrame k q } k f (if f.late then 1 else 0)))
  ∧ (∀ (s : State) (k : Nat) (x : Gcl), (s.m.eport k).next = some x → k ≤ 5 → s.m.pd 10 = true → 
      Becomes (exec (.gclChangeover k) s) s
      ((s.m.until x.start).setEport k { s.m.eport k with gcl := some x, next := none, gate := 0 }))
  ∧ (∀ (s : State) (k : Nat) (x : Gcl) (en : BitVec 8 × Nat) (l : List (BitVec 8 × Nat)), s.m.gates k = some x → k ≤ 5 → s.m.pd 10 = true → x.start ≤ s.m.now → x.ahead s.m.now = en :: l → 
      Becomes (exec (.gateEvent k) s) s
      (let n := s.m.until (s.m.now + (en.2 + 7) / 8)
      n.setEport k { n.eport k with gate := x.entryAt n.now }))
  ∧ (∀ (s : State) (r : Bytes), s.m.pd 10 = true → s.m.eth.switchOn = true → s.m.eth.rings = some r → rd (s.readMem (rd r 0 8 + 64 * s.m.eth.txNext) 64) 12 1 % 2 = 1 → 
      exec (.descriptorPoll) s = .next (
      (let m := s.m.until (s.m.eth.pollRaw + us 1)
      let m := { m with eth := { m.eth with pollRaw := m.now, txNext := (s.m.eth.txNext + 1) % max 1 (rd r 16 2) } }
      State.fetchTx { s with m := m } s.m.eth.txNext (s.readMem (rd r 0 8 + 64 * s.m.eth.txNext) 64))))
  ∧ (∀ (s : State) (k : Nat) (off : BitVec 32), k ≤ 5 → s.m.pd 10 = true → s.m.gptpPort k = true → (s.m.eport k).gptp = 2 → 
      Becomes (exec (.gptpMessage k (.sync off)) s) s
      (let n := s.m.seeSources
      (Mod.seeSources { n with eth := { n.eth with offset := off, syncs := min 3 (n.eth.syncs + 1), syncRaw := n.now } }).relaySync k))
  ∧ (∀ (s : State) (k : Nat) (gm : BitVec 64) (vec : Bytes), k ≤ 5 → s.m.pd 10 = true → s.m.gptpPort k = true → 
      Becomes (exec (.gptpMessage k (.announce gm true vec)) s) s
      ((foldN 6 (fun (m : Mod) p => if m.gptpPort p then m.setEport p { m.eport p with gptp := if p = k then 2 else 1 } else m)
        { s.m with eth := { s.m.eth with gmVec := vec } }).gptpRole gm))
  ∧ (∀ (s : State) (k : Nat) (gm : BitVec 64) (vec : Bytes), k ≤ 5 → s.m.pd 10 = true → s.m.gptpPort k = true → 
      Becomes (exec (.gptpMessage k (.announce gm false vec)) s) s
      ((s.m.setEport k { s.m.eport k with gptp := 1 }).gptpRole s.m.eth.gm))
  ∧ (∀ (s : State) (k : Nat), k ≤ 5 → s.m.pd 10 = true → s.m.gptpPort k = true → (s.m.eport k).gptp = 2 → 
      Becomes (exec (.gptpMessage k .syncLost) s) s
      (let n := ((s.m.until s.m.syncEnd).setEport k { s.m.eport k with gptp := 1 }).syncLoss
      n.gptpRole n.eth.gm))
  ∧ (∀ (s : State) (k : Nat) (ns : BitVec 32) (capable : Bool), k ≤ 5 → s.m.pd 10 = true → s.m.gptpPort k = true → (capable && decide (ns.toNat ≤ 800)) ≠ (s.m.eport k).capable → 
      Becomes (exec (.gptpMessage k (.pdelay ns capable)) s) s
      ((s.m.setEport k { s.m.eport k with pdelay := ns, capable := capable && decide (ns.toNat ≤ 800) }).gptpEv 4 (capable && decide (ns.toNat ≤ 800))))
  ∧ (∀ (s : State) (k : Nat) (n : Mod) (f : Bytes) (fs : List Bytes), k ≤ 5 → s.m.pd 10 = true → s.m.gptpPort k = true → n = (s.m.until (s.m.ptpDue k).1).until (s.m.eport k).busy → (n.eport k).ptpOut = f :: fs → n.gateFits k 7 (wireNs k f) = true → 
      exec (.gptpSyncTx k) s = .next (
      (let o := (n.ptpTaken k (s.m.ptpDue k).2).ptpFollow k f (n.txStamp k)
      State.send { s with m := o.gptpRole n.eth.gm } k { bytes := f, launch := none, desc := none, late := false } 0)))
  ∧ (∀ (s : State) (k : Nat) (n : Mod) (f : Bytes), k ≤ 5 → s.m.pd 10 = true → s.m.gptpPort k = true → n = (s.m.until (s.m.ptpDue k).1).until (s.m.eport k).busy → (n.eport k).ptpOut = [] → f = n.ptpNew k (s.m.ptpDue k).2 → n.gateFits k 7 (wireNs k f) = true → 
      exec (.gptpSyncTx k) s = .next (
      (let o := (n.ptpTaken k (s.m.ptpDue k).2).ptpFollow k f (n.txStamp k)
      State.send { s with m := o.gptpRole n.eth.gm } k { bytes := f, launch := none, desc := none, late := false } 0)))
  ∧ (∀ (s : State) (k : Nat), k ≤ 5 → s.m.pd 10 = true → (s.m.eport k).enabled = true → (s.m.eport k).link = false → 
      Becomes (exec (.linkChange k true) s) s
      (let n := (s.m.setEport k { s.m.eport k with link := true }).portEv k 1 true
      n.gptpRole n.eth.gm))
  ∧ (∀ (s : State) (k : Nat), k ≤ 5 → s.m.pd 10 = true → (s.m.eport k).enabled = true → (s.m.eport k).link = true → 
      exec (.linkChange k false) s = .next (
      State.ethFlush { s with m := (s.m.linkGone k).gptpRole (s.m.linkGone k).eth.gm }))

/-- Each event has the effect of its entry in chapters 16 to 19. On operands and a state that meet the condition of its
clause, exec answers the next state named there: the module with that change, and the queue and the bytes SDRAM holds
as they were, except that a clause that stores says what it stores and SDRAM is lost with PD5 off; a line the module
writes is sound again. It rests on readings and choices of the model: log entries 4, 12, 16, 39, 40, 42. -/
def Obligations.StoreEventsAct : Prop :=
  (∀ (s : State), s.m.alive = true → s.m.seg.ask = some false → 
      Becomes (exec (.driveCycleStart) s) s
      { s.m with seg := { s.m.seg with ask := none, st := 0 } })
  ∧ (∀ (s : State), s.m.alive = true → s.m.seg.ask = none → s.m.seg.st = 1 → s.m.seg.dirty = 0 → s.m.seg.refresh = false → s.m.seg.inForce = s.m.segRec → s.m.segRec ≠ [] → s.m.pwr.mode ≠ .park → 
      Becomes (exec (.driveCycleStart) s) s
      { s.m with seg := { s.m.seg with
      park := false, div := rd s.m.segRec 2 2, code := s.m.seg.nextCode.getD s.m.seg.code, nextCode := none
      drive := copyRows 0 s.m.seg.pend s.m.seg.drive, shadow := copyRows 0 s.m.seg.pend s.m.seg.shadow } })
  ∧ (∀ (s : State) (flips : List Nat), s.m.alive = true → s.m.seg.st ≠ 0 → segCrc (flipBits s.m.seg.counted.drive flips) = segCrc s.m.seg.counted.shadow → 
      Becomes (exec (.driveCycleEnd flips) s) s
      { s.m with seg := { s.m.seg.counted with
      drive := flipBits s.m.seg.counted.drive flips, cycles := s.m.seg.counted.cycles + 1
      crc := BitVec.ofNat 16 (segCrc (flipBits s.m.seg.counted.drive flips)) } })
  ∧ (∀ (s : State) (temp : Int), s.m.alive = true → 
      Becomes (exec (.vlcdCompensation temp) s) s
      (let n := s.m.draw.2
      { n with seg := { n.seg with
          temp := temp, nextCode := some (n.vlcdCode n.segRec temp (s.m.draw.1.toNat.testBit 0)).1
          clamped := (n.vlcdCode n.segRec temp (s.m.draw.1.toNat.testBit 0)).2 } }))
  ∧ (∀ (s : State) (out : Bool), s.m.alive = true → s.m.seg.fault ≠ out → 
      Becomes (exec (.vlcdReg out) s) s
      (Mod.ev { s.m with seg := { s.m.seg with fault := out } } 117 0 1 out))
  ∧ (∀ (s : State), s.m.alive = true → 
      Becomes (exec (.counterWrite true) s) s
      s.m.writeCounters)
  ∧ (∀ (s : State), s.m.alive = true → 
      Becomes (exec (.counterWrite false) s) s
      ((s.m.wear 3).ev 117 0 2 true))
  ∧ (∀ (s : State), 
      Becomes (exec (.recordAccept) s) s
      s.m.recordAccept)
  ∧ (∀ (s : State) (r : LogRec) (l : List LogRec) (decayed : List Nat), s.m.log.wq = r :: l → 
      Becomes (exec (.recordWrite ⟨true, decayed⟩) s) s
      (let gone := decayed.filter fun q => !s.m.log.badSeqs.contains q && s.m.log.bank.any fun r => r.seq == q
      let n := { s.m with log := { s.m.log with badSeqs := s.m.log.badSeqs ++ gone } }
      { n with log := { n.log with wq := l, bank := n.log.bank ++ [r], verifyFails := 0 } }))
  ∧ (∀ (s : State) (r : LogRec) (l : List LogRec) (decayed : List Nat), s.m.log.wq = r :: l → 
      Becomes (exec (.recordWrite ⟨false, decayed⟩) s) s
      (let gone := decayed.filter fun q => !s.m.log.badSeqs.contains q && s.m.log.bank.any fun r => r.seq == q
      let n := { s.m with log := { s.m.log with badSeqs := s.m.log.badSeqs ++ gone } }
      { n with log := { n.log with verifyFails := min 2 (n.log.verifyFails + 1) } }))
  ∧ (∀ (s : State), s.m.log.short ≠ 0 → 
      Becomes (exec (.bucketRefill) s) s
      (let n := s.m.until ((s.m.now / secs (rd s.m.logRec 2 2) + 1) * secs (rd s.m.logRec 2 2))
      { n with log := { n.log with short := n.log.short - 1 } }))
  ∧ (∀ (s : State), s.m.log.vol = false → s.m.log.wq = [] → 
      Becomes (exec (.bankFailed 2 0) s) s
      (let r := s.m.ownRec 0x8002 7 (le 2 0xFFFF ++ le 1 2)
      Mod.logStateEv { s.m with log := { s.m.log with
        head := s.m.log.head + 1, gasp := lastGasp (s.m.log.gasp ++ [r]), vol := true, bankBad := true, wq := []
        ram := [{ r with vol := true }], verifyFails := 0 } } true))
  ∧ (∀ (s : State) (k : Nat), s.m.nvs.busySet = none → s.m.nvs.adopting = none → s.m.nvs.nextSet = some k → 
      Becomes (exec (.storeTaken) s) s
      (s.m.setNv k { s.m.nvSet k with writing := some (s.m.running k, (s.m.nvSet k).waiting, 0), waiting := [], order := 0, changed := false }))
  ∧ (∀ (s : State) (k : Nat) (ok : Bool), s.m.nvs.adopting = none → s.m.nvs.busySet = some k → 
      Becomes (exec (.storeWritten ok) s) s
      (s.m.storeEnds k ok))
  ∧ (∀ (s : State) (a : Adoption) (ok : Bool), s.m.nvs.adopting = some a → 
      Becomes (exec (.storeWritten ok) s) s
      (s.m.adoptStep a ok))
  ∧ (∀ (s : State), s.m.lanes.run = true → 
      Becomes (exec (.hoursWrite) s) s
      (s.m.until (s.m.nvs.hoursLast + secs 360)).writeHours)
  ∧ (∀ (s : State) (k : Nat), ((List.range 2).find? fun k => decide ((s.m.slot k).st = .staging)) = some k → 
      Becomes (exec (.stagingTimeout) s) s
      (((s.m.until ((s.m.slot k).lastRaw + secs 600)).setSlot k (s.m.slot k).suspend).updEv 122 k 6))
  ∧ (∀ (s : State) (a : Activation), s.m.upd.act = some a → a.step = 3 → a.splitFrame + splitFrames a.cmd ≤ s.m.lanes.frame → s.m.lanes.computed ≠ s.m.lanes.frame → 
      Becomes (exec (.splitEnd) s) s
      { s.m with upd := { s.m.upd with act := some { a with step := 4 } } })
  ∧ (∀ (s : State) (a : Activation), s.m.upd.act = some a → a.step = 3 → a.splitFrame + splitFrames a.cmd ≤ s.m.lanes.frame → s.m.lanes.computed = s.m.lanes.frame → 
      Becomes (exec (.splitEnd) s) s
      (Mod.until { s.m with upd := { s.m.upd with act := some { a with step := 4 } } } (s.m.lanes.frameRaw + 31200)).splitMove)
  ∧ (∀ (s : State), s.m.alive = true → s.m.lanes.run = false → s.m.upd.reheat = false → 
      Powers (exec (.reheatEntry) s) s
      s.m.enterReheat)
  ∧ (∀ (s : State) (k : Nat) (loads : List Bool), s.m.alive = true → s.m.lanes.run = false → s.m.upd.reheat = false → (s.m.slot 0).st ≠ .trial → (s.m.slot 1).st ≠ .trial → (s.m.slot 0).armed = false → (s.m.slot 1).armed = false → s.m.confirmedSlot = some k → 
      Powers (exec (.slotSelection (true :: loads)) s) s
      (s.m.loadSlot k .confirmed true))

/-- Each event has the effect of its entry in chapter 20. On operands and a state that meet the condition of its clause,
exec answers the next state named there: the module with that change, and the queue and the bytes SDRAM holds as they
were, except that a clause that stores says what it stores and SDRAM is lost with PD5 off; a line the module writes is
sound again. It rests on readings and choices of the model: log entries 2, 16, 19, 28, 55, 56, 57, 58, 59. -/
def Obligations.PowerEventsAct : Prop :=
  (∀ (s : State), 
      Powers (exec (.powerOn) s) s
      (Mod.fullReset { s.m with
      gnss := { s.m.gnss with hasEph := false, hasAlm := false, last := none }
      pwr := { s.m.pwr with supply := [], thermal := [], throttled := false, feedA := false, feedB := false } } 1))
  ∧ (∀ (s : State), 
      Powers (exec (.resetN) s) s
      (let n := s.m.retained
      { n with pwr := { n.pwr with inReset := true, cause := 3 } }))
  ∧ (∀ (s : State), s.m.pwr.inReset = true → 
      Powers (exec (.resetNRelease) s) s
      (s.m.fullReset 3))
  ∧ (∀ (s : State), s.m.alive = true → 
      Powers (exec (.watchdog) s) s
      (s.m.fullReset 4))
  ∧ (∀ (s : State) (t0 : Nat), s.m.pwr.restartAt = some t0 → s.m.alive = true → 
      Powers (exec (.restart) s) s
      ((s.m.until t0).warmReset 9))
  ∧ (∀ (s : State), s.m.pwr.inReset = false → s.m.alive = true → s.m.pwr.key = false → s.m.pwr.mode = .park → s.m.pwr.starting = false → s.m.upd.reheat = false → s.m.pwr.thermal.contains 4 = false → 
      Powers (exec (.keyHigh) s) s
      (let n := Mod.ev { s.m with pwr := { s.m.pwr with key := true } } 124 0 7 true
      Mod.moduleStart { n with pwr := { n.pwr with starting := true, milestone := 0, failed := 0, retried := 0 } }))
  ∧ (∀ (s : State), s.m.pwr.inReset = false → s.m.alive = false → 
      Powers (exec (.keyHigh) s) s
      ((Mod.fullReset { s.m with pwr := { s.m.pwr with key := true } } 10).ev 124 0 7 true))
  ∧ (∀ (s : State), s.m.alive = true → s.m.pwr.key = true → s.m.pwr.mode = .run → 
      Becomes (exec (.keyLow) s) s
      (Mod.ev { s.m with pwr := { s.m.pwr with key := false } } 124 0 7 false).enterShutdown)
  ∧ (∀ (s : State) (x : Nat × Nat), s.m.pwr.grace = some x → s.m.pwr.mode = .shutdown → 
      Powers (exec (.shutdownGraceExpiry) s) s
      ((s.m.until x.2).shutdownRun false))
  ∧ (∀ (s : State), 
      Powers (exec (.wakeInput) s) s
      (Mod.wakeUp { s.m with pwr := { s.m.pwr with wake := true } }))
  ∧ (∀ (s : State), s.m.alive = true → s.m.pwr.mode = .park → s.m.pwr.starting = false → s.m.upd.reheat = false → 
      Powers (exec (.parkTimeout) s) s
      (let n := s.m.until (s.m.pwr.parkRaw + secs (60 * rd s.m.pwrRec 4 2))
      Mod.sleepNow { n.writeHours.writeCounters with pwr := { n.pwr with wake := false } }))
  ∧ (∀ (s : State), s.m.alive = true → s.m.pwr.starting = true → s.m.upd.reheat = false → s.m.pwr.milestone = 0 → 
      Powers (exec (.startMilestone) s) s
      { s.m with pwr := { s.m.pwr with milestone := 1 } })
  ∧ (∀ (s : State), s.m.alive = true → s.m.pwr.starting = true → s.m.upd.reheat = false → s.m.pwr.milestone = 1 → 
      Powers (exec (.startMilestone) s) s
      (let n := s.m.domainsUp [10]
      { n with pwr := { n.pwr with milestone := 2 } }))
  ∧ (∀ (s : State), s.m.alive = true → s.m.pwr.starting = true → s.m.upd.reheat = false → s.m.pwr.milestone = 5 → 
      Powers (exec (.startMilestone) s) s
      (let n := s.m.domainsUp [5]
      { n with pwr := { n.pwr with milestone := 6 } }))
  ∧ (∀ (s : State), s.m.alive = true → s.m.pwr.starting = true → s.m.upd.reheat = false → s.m.pwr.milestone = 2 → 
      Powers (exec (.startMilestone) s) s
      (let n := (s.m.domainsUp [2, 3, 4, 9]).beginLoads
      { n with pwr := { n.pwr with milestone := 3 } }))
  ∧ (∀ (s : State) (pd : Nat), 2 ≤ pd → pd ≤ 10 → s.m.pd pd = true → s.m.alive = true → (((s.m.blockDown pd).setPd pd false).ev 125 pd 2 true).pwr.retried.toNat.testBit pd = true → 
      Powers (exec (.domainFault pd) s) s
      ((((s.m.blockDown pd).setPd pd false).ev 125 pd 2 true).failedPd pd))
  ∧ (∀ (s : State) (on : Bool), s.m.alive = true → 
      Becomes (exec (.crank on) s) s
      (s.m.supplyEv 3 0 on).throttle)
  ∧ (∀ (s : State) (other : Bool), 
      Becomes (exec (.feedSwitch .a other) s) s
      { s.m with pwr := { s.m.pwr with feedA := other } })
  ∧ (∀ (s : State) (other : Bool), 
      Becomes (exec (.feedSwitch .b other) s) s
      { s.m with pwr := { s.m.pwr with feedB := other } })
  ∧ (∀ (s : State) (feed : Nat) (on : Bool), s.m.alive = true → feed < 2 → 
      Becomes (exec (.feedLow feed on) s) s
      (s.m.supplyEv (1 + feed) feed on))
  ∧ (∀ (s : State) (feed : Nat) (on : Bool), s.m.alive = true → 2 ≤ feed → feed ≤ 4 → 
      Becomes (exec (.feedLow feed on) s) s
      (s.m.supplyEv 5 (feed - 2) on))
  ∧ (∀ (s : State) (feed : Nat) (on : Bool), s.m.alive = true → feed ≤ 4 → 
      Becomes (exec (.overvoltage feed on) s) s
      (s.m.supplyEv 6 feed on))
  ∧ (∀ (s : State), s.m.alive = true → 
      Powers (exec (.supplyLoss) s) s
      (let n := s.m.ev 124 0 4 true
      let n := Mod.allDown { n with pwr := { n.pwr with losses := n.pwr.losses + 1 } }
      let n := foldN 6 (fun (m : Mod) k =>
        if (m.nvSet k).writing.isSome then m.setNv k { m.nvSet k with writing := none, interrupted := true } else m) n
      let n := n.writeHours.logDrain
      let n := n.until (n.now + ms 50)
      if n.pwr.key then n.fullReset 2
      else { n.retained with pwr := { n.retained.pwr with mode := .sleep, cause := 2 } }))
  ∧ (∀ (s : State), s.m.alive = true → s.m.pwr.clocks = [] → 
      Powers (exec (.clockFail 2) s) s
      (let n := s.m.ev 125 2 3 true
      Mod.laneFails { n with pwr := { n.pwr with clocks := n.pwr.clocks ++ [2] } } .a 6))
  ∧ (∀ (s : State) (code : Nat), s.m.alive = true → 1 ≤ code → code ≤ 4 → s.m.pwr.thermal.contains code = false → 
      Powers (exec (.thermalStep code true) s) s
      ((Mod.ev { s.m with pwr := { s.m.pwr with thermal := s.m.pwr.thermal ++ [code] } } 126 0 code true).thermalOn code))
  ∧ (∀ (s : State) (code : Nat), s.m.alive = true → 1 ≤ code → code ≤ 4 → s.m.pwr.thermal.contains code = true → 
      Powers (exec (.thermalStep code false) s) s
      ((Mod.ev { s.m with pwr := { s.m.pwr with thermal := s.m.pwr.thermal.filter fun j => j != code } } 126 0 code false).thermalOff code))
end

