-- ==== Sys2Proof/Laws/Bytes.lean ====
section
/-! SUPPORT. Little-endian fields: writing one and reading it back; and the width of a CRC. -/

namespace Sys2Proof.Machine

open Sys2Proof

@[simp] theorem le_length (n v : Nat) : (le n v).length = n := by
  induction n generalizing v with
  | zero => rfl
  | succ n ih => simp [le, ih]

@[simp] theorem zeros_length (n : Nat) : (zeros n).length = n := by simp [zeros]

@[simp] theorem slice_length (bs : Bytes) (off n : Nat) : (slice bs off n).length = n := by simp [slice]

/-- A field at an offset is a field at the head of what follows. -/
theorem rd_drop (bs : Bytes) (off n : Nat) : rd bs off n = rd (bs.drop off) 0 n := by
  have key : ∀ k, rd bs (off + k) n = rd (bs.drop off) k n := by
    induction n with
    | zero => intro k; rfl
    | succ n ih =>
      intro k
      have hd : (bs.getD (off + k) 0) = (bs.drop off).getD k 0 := by simp
      simp only [rd, hd]
      rw [Nat.add_assoc, ih (k + 1)]
  simpa using key 0

/-- A field written at the head reads back, truncated to its width. -/
theorem rd_le (n v : Nat) (t : Bytes) : rd (le n v ++ t) 0 n = v % 256 ^ n := by
  induction n generalizing v with
  | zero => simp [rd, Nat.mod_one]
  | succ n ih =>
    have h0 : ((le (n + 1) v ++ t).getD 0 0).toNat = v % 256 := by simp [le]
    have h1 : rd (le (n + 1) v ++ t) 1 n = (v / 256) % 256 ^ n := by
      rw [rd_drop]
      simp only [le, List.cons_append, List.drop_succ_cons, List.drop_zero]
      exact ih (v / 256)
    simp only [rd, h0, Nat.zero_add, h1]
    rw [Nat.pow_succ', Nat.mod_mul]

/-- A field that stands after `p` reads back. -/
theorem rd_le_at (p t : Bytes) (off n v : Nat) (h : p.length = off) : rd (p ++ (le n v ++ t)) off n = v % 256 ^ n := by
  rw [rd_drop, List.drop_left' h]
  exact rd_le n v t

theorem slice_eq_take (bs : Bytes) (n : Nat) (h : n ≤ bs.length) : slice bs 0 n = bs.take n := by
  apply List.ext_getElem
  · simp [slice, h]
  · intro i h1 h2
    simp only [slice, List.length_map, List.length_range] at h1
    have hb : i < bs.length := by omega
    simp [slice, List.getElem?_eq_getElem hb]

theorem xor_lt {a b : Nat} (ha : a < 2 ^ 32) (hb : b < 2 ^ 32) : a ^^^ b < 2 ^ 32 := Nat.xor_lt_two_pow ha hb

theorem crcRBit_lt (poly c : Nat) (hp : poly < 2 ^ 32) (hc : c < 2 ^ 32) : crcRBit poly c < 2 ^ 32 := by
  have h2 : c / 2 < 2 ^ 32 := by omega
  unfold crcRBit
  split
  · exact xor_lt h2 hp
  · exact h2

theorem crcRByte_lt (poly c : Nat) (b : Byte) (hp : poly < 2 ^ 32) (hc : c < 2 ^ 32) : crcRByte poly c b < 2 ^ 32 := by
  have hb : b.toNat < 2 ^ 32 := by have := b.isLt; omega
  have key : ∀ (l : List Nat) x, x < 2 ^ 32 → l.foldl (fun x _ => crcRBit poly x) x < 2 ^ 32 := by
    intro l
    induction l with
    | nil => intro x hx; exact hx
    | cons _ l ih => intro x hx; exact ih _ (crcRBit_lt poly x hp hx)
  exact key _ _ (xor_lt hc hb)

/-- CRC-32C is a 32-bit number (R472). -/
theorem crc32c_lt (bs : Bytes) : crc32c bs < 2 ^ 32 := by
  have key : ∀ (l : Bytes) x, x < 2 ^ 32 → l.foldl (crcRByte 0x82F63B78) x < 2 ^ 32 := by
    intro l
    induction l with
    | nil => intro x hx; exact hx
    | cons b l ih => intro x hx; exact ih _ (crcRByte_lt _ x b (by decide) hx)
  exact xor_lt (key bs _ (by decide)) (by decide)

end Sys2Proof.Machine
end

