-- ==== Sys2Proof/Laws/State.lean ====
section
/-! SUPPORT. One lemma per field per update of the module: an update of one part leaves every other part as it is. -/

namespace Sys2Proof.Machine

open Sys2Proof

@[simp] theorem until_fresh (m : Mod) (c : Nat) : (m.until c).fresh = m.fresh := rfl
@[simp] theorem until_pwr (m : Mod) (c : Nat) : (m.until c).pwr = m.pwr := rfl
@[simp] theorem until_lanes (m : Mod) (c : Nat) : (m.until c).lanes = m.lanes := rfl
@[simp] theorem until_stats (m : Mod) (c : Nat) : (m.until c).stats = m.stats := rfl
@[simp] theorem until_port (m : Mod) (c : Nat) : (m.until c).port = m.port := rfl
@[simp] theorem until_cfg (m : Mod) (c : Nat) : (m.until c).cfg = m.cfg := rfl
@[simp] theorem until_sched (m : Mod) (c : Nat) : (m.until c).sched = m.sched := rfl
@[simp] theorem until_coeff (m : Mod) (c : Nat) : (m.until c).coeff = m.coeff := rfl
@[simp] theorem until_loop (m : Mod) (c : Nat) : (m.until c).loop = m.loop := rfl
@[simp] theorem until_drv (m : Mod) (c : Nat) : (m.until c).drv = m.drv := rfl
@[simp] theorem until_inp (m : Mod) (c : Nat) : (m.until c).inp = m.inp := rfl
@[simp] theorem until_safe (m : Mod) (c : Nat) : (m.until c).safe = m.safe := rfl
@[simp] theorem until_gnss (m : Mod) (c : Nat) : (m.until c).gnss = m.gnss := rfl
@[simp] theorem until_fuse (m : Mod) (c : Nat) : (m.until c).fuse = m.fuse := rfl
@[simp] theorem until_clnk (m : Mod) (c : Nat) : (m.until c).clnk = m.clnk := rfl
@[simp] theorem until_pipes (m : Mod) (c : Nat) : (m.until c).pipes = m.pipes := rfl
@[simp] theorem until_vis (m : Mod) (c : Nat) : (m.until c).vis = m.vis := rfl
@[simp] theorem until_can (m : Mod) (c : Nat) : (m.until c).can = m.can := rfl
@[simp] theorem until_eth (m : Mod) (c : Nat) : (m.until c).eth = m.eth := rfl
@[simp] theorem until_seg (m : Mod) (c : Nat) : (m.until c).seg = m.seg := rfl
@[simp] theorem until_evt (m : Mod) (c : Nat) : (m.until c).evt = m.evt := rfl
@[simp] theorem until_log (m : Mod) (c : Nat) : (m.until c).log = m.log := rfl
@[simp] theorem until_nvs (m : Mod) (c : Nat) : (m.until c).nvs = m.nvs := rfl
@[simp] theorem until_upd (m : Mod) (c : Nat) : (m.until c).upd = m.upd := rfl
@[simp] theorem until_pubs (m : Mod) (c : Nat) : (m.until c).pubs = m.pubs := rfl
@[simp] theorem until_poison (m : Mod) (c : Nat) : (m.until c).poison = m.poison := rfl
@[simp] theorem until_bus (m : Mod) (c : Nat) : (m.until c).bus = m.bus := rfl
@[simp] theorem until_eccCount (m : Mod) (c : Nat) : (m.until c).eccCount = m.eccCount := rfl

@[simp] theorem setCfg_fresh (m : Mod) (op idx : Nat) (b : Bytes) : (m.setCfg op idx b).fresh = m.fresh := rfl
@[simp] theorem setCfg_pwr (m : Mod) (op idx : Nat) (b : Bytes) : (m.setCfg op idx b).pwr = m.pwr := rfl
@[simp] theorem setCfg_time (m : Mod) (op idx : Nat) (b : Bytes) : (m.setCfg op idx b).time = m.time := rfl
@[simp] theorem setCfg_lanes (m : Mod) (op idx : Nat) (b : Bytes) : (m.setCfg op idx b).lanes = m.lanes := rfl
@[simp] theorem setCfg_stats (m : Mod) (op idx : Nat) (b : Bytes) : (m.setCfg op idx b).stats = m.stats := rfl
@[simp] theorem setCfg_port (m : Mod) (op idx : Nat) (b : Bytes) : (m.setCfg op idx b).port = m.port := rfl
@[simp] theorem setCfg_sched (m : Mod) (op idx : Nat) (b : Bytes) : (m.setCfg op idx b).sched = m.sched := rfl
@[simp] theorem setCfg_coeff (m : Mod) (op idx : Nat) (b : Bytes) : (m.setCfg op idx b).coeff = m.coeff := rfl
@[simp] theorem setCfg_loop (m : Mod) (op idx : Nat) (b : Bytes) : (m.setCfg op idx b).loop = m.loop := rfl
@[simp] theorem setCfg_drv (m : Mod) (op idx : Nat) (b : Bytes) : (m.setCfg op idx b).drv = m.drv := rfl
@[simp] theorem setCfg_inp (m : Mod) (op idx : Nat) (b : Bytes) : (m.setCfg op idx b).inp = m.inp := rfl
@[simp] theorem setCfg_safe (m : Mod) (op idx : Nat) (b : Bytes) : (m.setCfg op idx b).safe = m.safe := rfl
@[simp] theorem setCfg_gnss (m : Mod) (op idx : Nat) (b : Bytes) : (m.setCfg op idx b).gnss = m.gnss := rfl
@[simp] theorem setCfg_fuse (m : Mod) (op idx : Nat) (b : Bytes) : (m.setCfg op idx b).fuse = m.fuse := rfl
@[simp] theorem setCfg_clnk (m : Mod) (op idx : Nat) (b : Bytes) : (m.setCfg op idx b).clnk = m.clnk := rfl
@[simp] theorem setCfg_pipes (m : Mod) (op idx : Nat) (b : Bytes) : (m.setCfg op idx b).pipes = m.pipes := rfl
@[simp] theorem setCfg_vis (m : Mod) (op idx : Nat) (b : Bytes) : (m.setCfg op idx b).vis = m.vis := rfl
@[simp] theorem setCfg_can (m : Mod) (op idx : Nat) (b : Bytes) : (m.setCfg op idx b).can = m.can := rfl
@[simp] theorem setCfg_eth (m : Mod) (op idx : Nat) (b : Bytes) : (m.setCfg op idx b).eth = m.eth := rfl
@[simp] theorem setCfg_seg (m : Mod) (op idx : Nat) (b : Bytes) : (m.setCfg op idx b).seg = m.seg := rfl
@[simp] theorem setCfg_evt (m : Mod) (op idx : Nat) (b : Bytes) : (m.setCfg op idx b).evt = m.evt := rfl
@[simp] theorem setCfg_log (m : Mod) (op idx : Nat) (b : Bytes) : (m.setCfg op idx b).log = m.log := rfl
@[simp] theorem setCfg_nvs (m : Mod) (op idx : Nat) (b : Bytes) : (m.setCfg op idx b).nvs = m.nvs := rfl
@[simp] theorem setCfg_upd (m : Mod) (op idx : Nat) (b : Bytes) : (m.setCfg op idx b).upd = m.upd := rfl
@[simp] theorem setCfg_pubs (m : Mod) (op idx : Nat) (b : Bytes) : (m.setCfg op idx b).pubs = m.pubs := rfl
@[simp] theorem setCfg_poison (m : Mod) (op idx : Nat) (b : Bytes) : (m.setCfg op idx b).poison = m.poison := rfl
@[simp] theorem setCfg_bus (m : Mod) (op idx : Nat) (b : Bytes) : (m.setCfg op idx b).bus = m.bus := rfl
@[simp] theorem setCfg_eccCount (m : Mod) (op idx : Nat) (b : Bytes) : (m.setCfg op idx b).eccCount = m.eccCount := rfl

@[simp] theorem restore_fresh (m : Mod) (set op idx : Nat) : (m.restore set op idx).fresh = m.fresh := rfl
@[simp] theorem restore_pwr (m : Mod) (set op idx : Nat) : (m.restore set op idx).pwr = m.pwr := rfl
@[simp] theorem restore_time (m : Mod) (set op idx : Nat) : (m.restore set op idx).time = m.time := rfl
@[simp] theorem restore_lanes (m : Mod) (set op idx : Nat) : (m.restore set op idx).lanes = m.lanes := rfl
@[simp] theorem restore_stats (m : Mod) (set op idx : Nat) : (m.restore set op idx).stats = m.stats := rfl
@[simp] theorem restore_port (m : Mod) (set op idx : Nat) : (m.restore set op idx).port = m.port := rfl
@[simp] theorem restore_sched (m : Mod) (set op idx : Nat) : (m.restore set op idx).sched = m.sched := rfl
@[simp] theorem restore_coeff (m : Mod) (set op idx : Nat) : (m.restore set op idx).coeff = m.coeff := rfl
@[simp] theorem restore_loop (m : Mod) (set op idx : Nat) : (m.restore set op idx).loop = m.loop := rfl
@[simp] theorem restore_drv (m : Mod) (set op idx : Nat) : (m.restore set op idx).drv = m.drv := rfl
@[simp] theorem restore_inp (m : Mod) (set op idx : Nat) : (m.restore set op idx).inp = m.inp := rfl
@[simp] theorem restore_safe (m : Mod) (set op idx : Nat) : (m.restore set op idx).safe = m.safe := rfl
@[simp] theorem restore_gnss (m : Mod) (set op idx : Nat) : (m.restore set op idx).gnss = m.gnss := rfl
@[simp] theorem restore_fuse (m : Mod) (set op idx : Nat) : (m.restore set op idx).fuse = m.fuse := rfl
@[simp] theorem restore_clnk (m : Mod) (set op idx : Nat) : (m.restore set op idx).clnk = m.clnk := rfl
@[simp] theorem restore_pipes (m : Mod) (set op idx : Nat) : (m.restore set op idx).pipes = m.pipes := rfl
@[simp] theorem restore_vis (m : Mod) (set op idx : Nat) : (m.restore set op idx).vis = m.vis := rfl
@[simp] theorem restore_can (m : Mod) (set op idx : Nat) : (m.restore set op idx).can = m.can := rfl
@[simp] theorem restore_eth (m : Mod) (set op idx : Nat) : (m.restore set op idx).eth = m.eth := rfl
@[simp] theorem restore_seg (m : Mod) (set op idx : Nat) : (m.restore set op idx).seg = m.seg := rfl
@[simp] theorem restore_evt (m : Mod) (set op idx : Nat) : (m.restore set op idx).evt = m.evt := rfl
@[simp] theorem restore_log (m : Mod) (set op idx : Nat) : (m.restore set op idx).log = m.log := rfl
@[simp] theorem restore_nvs (m : Mod) (set op idx : Nat) : (m.restore set op idx).nvs = m.nvs := rfl
@[simp] theorem restore_upd (m : Mod) (set op idx : Nat) : (m.restore set op idx).upd = m.upd := rfl
@[simp] theorem restore_pubs (m : Mod) (set op idx : Nat) : (m.restore set op idx).pubs = m.pubs := rfl
@[simp] theorem restore_poison (m : Mod) (set op idx : Nat) : (m.restore set op idx).poison = m.poison := rfl
@[simp] theorem restore_bus (m : Mod) (set op idx : Nat) : (m.restore set op idx).bus = m.bus := rfl
@[simp] theorem restore_eccCount (m : Mod) (set op idx : Nat) : (m.restore set op idx).eccCount = m.eccCount := rfl

@[simp] theorem markSet_fresh (m : Mod) (set : Nat) : (m.markSet set).fresh = m.fresh := rfl
@[simp] theorem markSet_pwr (m : Mod) (set : Nat) : (m.markSet set).pwr = m.pwr := rfl
@[simp] theorem markSet_time (m : Mod) (set : Nat) : (m.markSet set).time = m.time := rfl
@[simp] theorem markSet_lanes (m : Mod) (set : Nat) : (m.markSet set).lanes = m.lanes := rfl
@[simp] theorem markSet_stats (m : Mod) (set : Nat) : (m.markSet set).stats = m.stats := rfl
@[simp] theorem markSet_port (m : Mod) (set : Nat) : (m.markSet set).port = m.port := rfl
@[simp] theorem markSet_cfg (m : Mod) (set : Nat) : (m.markSet set).cfg = m.cfg := rfl
@[simp] theorem markSet_sched (m : Mod) (set : Nat) : (m.markSet set).sched = m.sched := rfl
@[simp] theorem markSet_coeff (m : Mod) (set : Nat) : (m.markSet set).coeff = m.coeff := rfl
@[simp] theorem markSet_loop (m : Mod) (set : Nat) : (m.markSet set).loop = m.loop := rfl
@[simp] theorem markSet_drv (m : Mod) (set : Nat) : (m.markSet set).drv = m.drv := rfl
@[simp] theorem markSet_inp (m : Mod) (set : Nat) : (m.markSet set).inp = m.inp := rfl
@[simp] theorem markSet_safe (m : Mod) (set : Nat) : (m.markSet set).safe = m.safe := rfl
@[simp] theorem markSet_gnss (m : Mod) (set : Nat) : (m.markSet set).gnss = m.gnss := rfl
@[simp] theorem markSet_fuse (m : Mod) (set : Nat) : (m.markSet set).fuse = m.fuse := rfl
@[simp] theorem markSet_clnk (m : Mod) (set : Nat) : (m.markSet set).clnk = m.clnk := rfl
@[simp] theorem markSet_pipes (m : Mod) (set : Nat) : (m.markSet set).pipes = m.pipes := rfl
@[simp] theorem markSet_vis (m : Mod) (set : Nat) : (m.markSet set).vis = m.vis := rfl
@[simp] theorem markSet_can (m : Mod) (set : Nat) : (m.markSet set).can = m.can := rfl
@[simp] theorem markSet_eth (m : Mod) (set : Nat) : (m.markSet set).eth = m.eth := rfl
@[simp] theorem markSet_seg (m : Mod) (set : Nat) : (m.markSet set).seg = m.seg := rfl
@[simp] theorem markSet_evt (m : Mod) (set : Nat) : (m.markSet set).evt = m.evt := rfl
@[simp] theorem markSet_log (m : Mod) (set : Nat) : (m.markSet set).log = m.log := rfl
@[simp] theorem markSet_upd (m : Mod) (set : Nat) : (m.markSet set).upd = m.upd := rfl
@[simp] theorem markSet_pubs (m : Mod) (set : Nat) : (m.markSet set).pubs = m.pubs := rfl
@[simp] theorem markSet_poison (m : Mod) (set : Nat) : (m.markSet set).poison = m.poison := rfl
@[simp] theorem markSet_bus (m : Mod) (set : Nat) : (m.markSet set).bus = m.bus := rfl
@[simp] theorem markSet_eccCount (m : Mod) (set : Nat) : (m.markSet set).eccCount = m.eccCount := rfl

@[simp] theorem setRing_fresh (m : Mod) (r : Nat) (x : Ring) : (m.setRing r x).fresh = m.fresh := rfl
@[simp] theorem setRing_pwr (m : Mod) (r : Nat) (x : Ring) : (m.setRing r x).pwr = m.pwr := rfl
@[simp] theorem setRing_time (m : Mod) (r : Nat) (x : Ring) : (m.setRing r x).time = m.time := rfl
@[simp] theorem setRing_lanes (m : Mod) (r : Nat) (x : Ring) : (m.setRing r x).lanes = m.lanes := rfl
@[simp] theorem setRing_stats (m : Mod) (r : Nat) (x : Ring) : (m.setRing r x).stats = m.stats := rfl
@[simp] theorem setRing_cfg (m : Mod) (r : Nat) (x : Ring) : (m.setRing r x).cfg = m.cfg := rfl
@[simp] theorem setRing_sched (m : Mod) (r : Nat) (x : Ring) : (m.setRing r x).sched = m.sched := rfl
@[simp] theorem setRing_coeff (m : Mod) (r : Nat) (x : Ring) : (m.setRing r x).coeff = m.coeff := rfl
@[simp] theorem setRing_loop (m : Mod) (r : Nat) (x : Ring) : (m.setRing r x).loop = m.loop := rfl
@[simp] theorem setRing_drv (m : Mod) (r : Nat) (x : Ring) : (m.setRing r x).drv = m.drv := rfl
@[simp] theorem setRing_inp (m : Mod) (r : Nat) (x : Ring) : (m.setRing r x).inp = m.inp := rfl
@[simp] theorem setRing_safe (m : Mod) (r : Nat) (x : Ring) : (m.setRing r x).safe = m.safe := rfl
@[simp] theorem setRing_gnss (m : Mod) (r : Nat) (x : Ring) : (m.setRing r x).gnss = m.gnss := rfl
@[simp] theorem setRing_fuse (m : Mod) (r : Nat) (x : Ring) : (m.setRing r x).fuse = m.fuse := rfl
@[simp] theorem setRing_clnk (m : Mod) (r : Nat) (x : Ring) : (m.setRing r x).clnk = m.clnk := rfl
@[simp] theorem setRing_pipes (m : Mod) (r : Nat) (x : Ring) : (m.setRing r x).pipes = m.pipes := rfl
@[simp] theorem setRing_vis (m : Mod) (r : Nat) (x : Ring) : (m.setRing r x).vis = m.vis := rfl
@[simp] theorem setRing_can (m : Mod) (r : Nat) (x : Ring) : (m.setRing r x).can = m.can := rfl
@[simp] theorem setRing_eth (m : Mod) (r : Nat) (x : Ring) : (m.setRing r x).eth = m.eth := rfl
@[simp] theorem setRing_seg (m : Mod) (r : Nat) (x : Ring) : (m.setRing r x).seg = m.seg := rfl
@[simp] theorem setRing_evt (m : Mod) (r : Nat) (x : Ring) : (m.setRing r x).evt = m.evt := rfl
@[simp] theorem setRing_log (m : Mod) (r : Nat) (x : Ring) : (m.setRing r x).log = m.log := rfl
@[simp] theorem setRing_nvs (m : Mod) (r : Nat) (x : Ring) : (m.setRing r x).nvs = m.nvs := rfl
@[simp] theorem setRing_upd (m : Mod) (r : Nat) (x : Ring) : (m.setRing r x).upd = m.upd := rfl
@[simp] theorem setRing_pubs (m : Mod) (r : Nat) (x : Ring) : (m.setRing r x).pubs = m.pubs := rfl
@[simp] theorem setRing_poison (m : Mod) (r : Nat) (x : Ring) : (m.setRing r x).poison = m.poison := rfl
@[simp] theorem setRing_bus (m : Mod) (r : Nat) (x : Ring) : (m.setRing r x).bus = m.bus := rfl
@[simp] theorem setRing_eccCount (m : Mod) (r : Nat) (x : Ring) : (m.setRing r x).eccCount = m.eccCount := rfl

@[simp] theorem fly_fresh (m : Mod) (f : Flight) : (m.fly f).fresh = m.fresh := rfl
@[simp] theorem fly_pwr (m : Mod) (f : Flight) : (m.fly f).pwr = m.pwr := rfl
@[simp] theorem fly_time (m : Mod) (f : Flight) : (m.fly f).time = m.time := rfl
@[simp] theorem fly_lanes (m : Mod) (f : Flight) : (m.fly f).lanes = m.lanes := rfl
@[simp] theorem fly_stats (m : Mod) (f : Flight) : (m.fly f).stats = m.stats := rfl
@[simp] theorem fly_cfg (m : Mod) (f : Flight) : (m.fly f).cfg = m.cfg := rfl
@[simp] theorem fly_sched (m : Mod) (f : Flight) : (m.fly f).sched = m.sched := rfl
@[simp] theorem fly_coeff (m : Mod) (f : Flight) : (m.fly f).coeff = m.coeff := rfl
@[simp] theorem fly_loop (m : Mod) (f : Flight) : (m.fly f).loop = m.loop := rfl
@[simp] theorem fly_drv (m : Mod) (f : Flight) : (m.fly f).drv = m.drv := rfl
@[simp] theorem fly_inp (m : Mod) (f : Flight) : (m.fly f).inp = m.inp := rfl
@[simp] theorem fly_safe (m : Mod) (f : Flight) : (m.fly f).safe = m.safe := rfl
@[simp] theorem fly_gnss (m : Mod) (f : Flight) : (m.fly f).gnss = m.gnss := rfl
@[simp] theorem fly_fuse (m : Mod) (f : Flight) : (m.fly f).fuse = m.fuse := rfl
@[simp] theorem fly_clnk (m : Mod) (f : Flight) : (m.fly f).clnk = m.clnk := rfl
@[simp] theorem fly_pipes (m : Mod) (f : Flight) : (m.fly f).pipes = m.pipes := rfl
@[simp] theorem fly_vis (m : Mod) (f : Flight) : (m.fly f).vis = m.vis := rfl
@[simp] theorem fly_can (m : Mod) (f : Flight) : (m.fly f).can = m.can := rfl
@[simp] theorem fly_eth (m : Mod) (f : Flight) : (m.fly f).eth = m.eth := rfl
@[simp] theorem fly_seg (m : Mod) (f : Flight) : (m.fly f).seg = m.seg := rfl
@[simp] theorem fly_evt (m : Mod) (f : Flight) : (m.fly f).evt = m.evt := rfl
@[simp] theorem fly_log (m : Mod) (f : Flight) : (m.fly f).log = m.log := rfl
@[simp] theorem fly_nvs (m : Mod) (f : Flight) : (m.fly f).nvs = m.nvs := rfl
@[simp] theorem fly_upd (m : Mod) (f : Flight) : (m.fly f).upd = m.upd := rfl
@[simp] theorem fly_pubs (m : Mod) (f : Flight) : (m.fly f).pubs = m.pubs := rfl
@[simp] theorem fly_poison (m : Mod) (f : Flight) : (m.fly f).poison = m.poison := rfl
@[simp] theorem fly_bus (m : Mod) (f : Flight) : (m.fly f).bus = m.bus := rfl
@[simp] theorem fly_eccCount (m : Mod) (f : Flight) : (m.fly f).eccCount = m.eccCount := rfl

@[simp] theorem countChanged_fresh (m : Mod) : (m.countChanged).fresh = m.fresh := rfl
@[simp] theorem countChanged_pwr (m : Mod) : (m.countChanged).pwr = m.pwr := rfl
@[simp] theorem countChanged_time (m : Mod) : (m.countChanged).time = m.time := rfl
@[simp] theorem countChanged_lanes (m : Mod) : (m.countChanged).lanes = m.lanes := rfl
@[simp] theorem countChanged_port (m : Mod) : (m.countChanged).port = m.port := rfl
@[simp] theorem countChanged_cfg (m : Mod) : (m.countChanged).cfg = m.cfg := rfl
@[simp] theorem countChanged_sched (m : Mod) : (m.countChanged).sched = m.sched := rfl
@[simp] theorem countChanged_coeff (m : Mod) : (m.countChanged).coeff = m.coeff := rfl
@[simp] theorem countChanged_loop (m : Mod) : (m.countChanged).loop = m.loop := rfl
@[simp] theorem countChanged_drv (m : Mod) : (m.countChanged).drv = m.drv := rfl
@[simp] theorem countChanged_inp (m : Mod) : (m.countChanged).inp = m.inp := rfl
@[simp] theorem countChanged_safe (m : Mod) : (m.countChanged).safe = m.safe := rfl
@[simp] theorem countChanged_gnss (m : Mod) : (m.countChanged).gnss = m.gnss := rfl
@[simp] theorem countChanged_fuse (m : Mod) : (m.countChanged).fuse = m.fuse := rfl
@[simp] theorem countChanged_clnk (m : Mod) : (m.countChanged).clnk = m.clnk := rfl
@[simp] theorem countChanged_pipes (m : Mod) : (m.countChanged).pipes = m.pipes := rfl
@[simp] theorem countChanged_vis (m : Mod) : (m.countChanged).vis = m.vis := rfl
@[simp] theorem countChanged_can (m : Mod) : (m.countChanged).can = m.can := rfl
@[simp] theorem countChanged_eth (m : Mod) : (m.countChanged).eth = m.eth := rfl
@[simp] theorem countChanged_seg (m : Mod) : (m.countChanged).seg = m.seg := rfl
@[simp] theorem countChanged_evt (m : Mod) : (m.countChanged).evt = m.evt := rfl
@[simp] theorem countChanged_log (m : Mod) : (m.countChanged).log = m.log := rfl
@[simp] theorem countChanged_nvs (m : Mod) : (m.countChanged).nvs = m.nvs := rfl
@[simp] theorem countChanged_upd (m : Mod) : (m.countChanged).upd = m.upd := rfl
@[simp] theorem countChanged_pubs (m : Mod) : (m.countChanged).pubs = m.pubs := rfl
@[simp] theorem countChanged_poison (m : Mod) : (m.countChanged).poison = m.poison := rfl
@[simp] theorem countChanged_bus (m : Mod) : (m.countChanged).bus = m.bus := rfl
@[simp] theorem countChanged_eccCount (m : Mod) : (m.countChanged).eccCount = m.eccCount := rfl

@[simp] theorem setLoop_fresh (m : Mod) (i : Nat) (x : LoopCh) : (m.setLoop i x).fresh = m.fresh := rfl
@[simp] theorem setLoop_pwr (m : Mod) (i : Nat) (x : LoopCh) : (m.setLoop i x).pwr = m.pwr := rfl
@[simp] theorem setLoop_time (m : Mod) (i : Nat) (x : LoopCh) : (m.setLoop i x).time = m.time := rfl
@[simp] theorem setLoop_lanes (m : Mod) (i : Nat) (x : LoopCh) : (m.setLoop i x).lanes = m.lanes := rfl
@[simp] theorem setLoop_stats (m : Mod) (i : Nat) (x : LoopCh) : (m.setLoop i x).stats = m.stats := rfl
@[simp] theorem setLoop_port (m : Mod) (i : Nat) (x : LoopCh) : (m.setLoop i x).port = m.port := rfl
@[simp] theorem setLoop_cfg (m : Mod) (i : Nat) (x : LoopCh) : (m.setLoop i x).cfg = m.cfg := rfl
@[simp] theorem setLoop_sched (m : Mod) (i : Nat) (x : LoopCh) : (m.setLoop i x).sched = m.sched := rfl
@[simp] theorem setLoop_coeff (m : Mod) (i : Nat) (x : LoopCh) : (m.setLoop i x).coeff = m.coeff := rfl
@[simp] theorem setLoop_drv (m : Mod) (i : Nat) (x : LoopCh) : (m.setLoop i x).drv = m.drv := rfl
@[simp] theorem setLoop_inp (m : Mod) (i : Nat) (x : LoopCh) : (m.setLoop i x).inp = m.inp := rfl
@[simp] theorem setLoop_safe (m : Mod) (i : Nat) (x : LoopCh) : (m.setLoop i x).safe = m.safe := rfl
@[simp] theorem setLoop_gnss (m : Mod) (i : Nat) (x : LoopCh) : (m.setLoop i x).gnss = m.gnss := rfl
@[simp] theorem setLoop_fuse (m : Mod) (i : Nat) (x : LoopCh) : (m.setLoop i x).fuse = m.fuse := rfl
@[simp] theorem setLoop_clnk (m : Mod) (i : Nat) (x : LoopCh) : (m.setLoop i x).clnk = m.clnk := rfl
@[simp] theorem setLoop_pipes (m : Mod) (i : Nat) (x : LoopCh) : (m.setLoop i x).pipes = m.pipes := rfl
@[simp] theorem setLoop_vis (m : Mod) (i : Nat) (x : LoopCh) : (m.setLoop i x).vis = m.vis := rfl
@[simp] theorem setLoop_can (m : Mod) (i : Nat) (x : LoopCh) : (m.setLoop i x).can = m.can := rfl
@[simp] theorem setLoop_eth (m : Mod) (i : Nat) (x : LoopCh) : (m.setLoop i x).eth = m.eth := rfl
@[simp] theorem setLoop_seg (m : Mod) (i : Nat) (x : LoopCh) : (m.setLoop i x).seg = m.seg := rfl
@[simp] theorem setLoop_evt (m : Mod) (i : Nat) (x : LoopCh) : (m.setLoop i x).evt = m.evt := rfl
@[simp] theorem setLoop_log (m : Mod) (i : Nat) (x : LoopCh) : (m.setLoop i x).log = m.log := rfl
@[simp] theorem setLoop_nvs (m : Mod) (i : Nat) (x : LoopCh) : (m.setLoop i x).nvs = m.nvs := rfl
@[simp] theorem setLoop_upd (m : Mod) (i : Nat) (x : LoopCh) : (m.setLoop i x).upd = m.upd := rfl
@[simp] theorem setLoop_pubs (m : Mod) (i : Nat) (x : LoopCh) : (m.setLoop i x).pubs = m.pubs := rfl
@[simp] theorem setLoop_poison (m : Mod) (i : Nat) (x : LoopCh) : (m.setLoop i x).poison = m.poison := rfl
@[simp] theorem setLoop_bus (m : Mod) (i : Nat) (x : LoopCh) : (m.setLoop i x).bus = m.bus := rfl
@[simp] theorem setLoop_eccCount (m : Mod) (i : Nat) (x : LoopCh) : (m.setLoop i x).eccCount = m.eccCount := rfl

@[simp] theorem setDrv_fresh (m : Mod) (i : Nat) (x : OutCh) : (m.setDrv i x).fresh = m.fresh := rfl
@[simp] theorem setDrv_pwr (m : Mod) (i : Nat) (x : OutCh) : (m.setDrv i x).pwr = m.pwr := rfl
@[simp] theorem setDrv_time (m : Mod) (i : Nat) (x : OutCh) : (m.setDrv i x).time = m.time := rfl
@[simp] theorem setDrv_lanes (m : Mod) (i : Nat) (x : OutCh) : (m.setDrv i x).lanes = m.lanes := rfl
@[simp] theorem setDrv_stats (m : Mod) (i : Nat) (x : OutCh) : (m.setDrv i x).stats = m.stats := rfl
@[simp] theorem setDrv_port (m : Mod) (i : Nat) (x : OutCh) : (m.setDrv i x).port = m.port := rfl
@[simp] theorem setDrv_cfg (m : Mod) (i : Nat) (x : OutCh) : (m.setDrv i x).cfg = m.cfg := rfl
@[simp] theorem setDrv_sched (m : Mod) (i : Nat) (x : OutCh) : (m.setDrv i x).sched = m.sched := rfl
@[simp] theorem setDrv_coeff (m : Mod) (i : Nat) (x : OutCh) : (m.setDrv i x).coeff = m.coeff := rfl
@[simp] theorem setDrv_loop (m : Mod) (i : Nat) (x : OutCh) : (m.setDrv i x).loop = m.loop := rfl
@[simp] theorem setDrv_inp (m : Mod) (i : Nat) (x : OutCh) : (m.setDrv i x).inp = m.inp := rfl
@[simp] theorem setDrv_safe (m : Mod) (i : Nat) (x : OutCh) : (m.setDrv i x).safe = m.safe := rfl
@[simp] theorem setDrv_gnss (m : Mod) (i : Nat) (x : OutCh) : (m.setDrv i x).gnss = m.gnss := rfl
@[simp] theorem setDrv_fuse (m : Mod) (i : Nat) (x : OutCh) : (m.setDrv i x).fuse = m.fuse := rfl
@[simp] theorem setDrv_clnk (m : Mod) (i : Nat) (x : OutCh) : (m.setDrv i x).clnk = m.clnk := rfl
@[simp] theorem setDrv_pipes (m : Mod) (i : Nat) (x : OutCh) : (m.setDrv i x).pipes = m.pipes := rfl
@[simp] theorem setDrv_vis (m : Mod) (i : Nat) (x : OutCh) : (m.setDrv i x).vis = m.vis := rfl
@[simp] theorem setDrv_can (m : Mod) (i : Nat) (x : OutCh) : (m.setDrv i x).can = m.can := rfl
@[simp] theorem setDrv_eth (m : Mod) (i : Nat) (x : OutCh) : (m.setDrv i x).eth = m.eth := rfl
@[simp] theorem setDrv_seg (m : Mod) (i : Nat) (x : OutCh) : (m.setDrv i x).seg = m.seg := rfl
@[simp] theorem setDrv_evt (m : Mod) (i : Nat) (x : OutCh) : (m.setDrv i x).evt = m.evt := rfl
@[simp] theorem setDrv_log (m : Mod) (i : Nat) (x : OutCh) : (m.setDrv i x).log = m.log := rfl
@[simp] theorem setDrv_nvs (m : Mod) (i : Nat) (x : OutCh) : (m.setDrv i x).nvs = m.nvs := rfl
@[simp] theorem setDrv_upd (m : Mod) (i : Nat) (x : OutCh) : (m.setDrv i x).upd = m.upd := rfl
@[simp] theorem setDrv_pubs (m : Mod) (i : Nat) (x : OutCh) : (m.setDrv i x).pubs = m.pubs := rfl
@[simp] theorem setDrv_poison (m : Mod) (i : Nat) (x : OutCh) : (m.setDrv i x).poison = m.poison := rfl
@[simp] theorem setDrv_bus (m : Mod) (i : Nat) (x : OutCh) : (m.setDrv i x).bus = m.bus := rfl
@[simp] theorem setDrv_eccCount (m : Mod) (i : Nat) (x : OutCh) : (m.setDrv i x).eccCount = m.eccCount := rfl

@[simp] theorem setBank_fresh (m : Mod) (b : Nat) (x : Bank) : (m.setBank b x).fresh = m.fresh := rfl
@[simp] theorem setBank_pwr (m : Mod) (b : Nat) (x : Bank) : (m.setBank b x).pwr = m.pwr := rfl
@[simp] theorem setBank_time (m : Mod) (b : Nat) (x : Bank) : (m.setBank b x).time = m.time := rfl
@[simp] theorem setBank_lanes (m : Mod) (b : Nat) (x : Bank) : (m.setBank b x).lanes = m.lanes := rfl
@[simp] theorem setBank_stats (m : Mod) (b : Nat) (x : Bank) : (m.setBank b x).stats = m.stats := rfl
@[simp] theorem setBank_port (m : Mod) (b : Nat) (x : Bank) : (m.setBank b x).port = m.port := rfl
@[simp] theorem setBank_cfg (m : Mod) (b : Nat) (x : Bank) : (m.setBank b x).cfg = m.cfg := rfl
@[simp] theorem setBank_sched (m : Mod) (b : Nat) (x : Bank) : (m.setBank b x).sched = m.sched := rfl
@[simp] theorem setBank_coeff (m : Mod) (b : Nat) (x : Bank) : (m.setBank b x).coeff = m.coeff := rfl
@[simp] theorem setBank_loop (m : Mod) (b : Nat) (x : Bank) : (m.setBank b x).loop = m.loop := rfl
@[simp] theorem setBank_inp (m : Mod) (b : Nat) (x : Bank) : (m.setBank b x).inp = m.inp := rfl
@[simp] theorem setBank_safe (m : Mod) (b : Nat) (x : Bank) : (m.setBank b x).safe = m.safe := rfl
@[simp] theorem setBank_gnss (m : Mod) (b : Nat) (x : Bank) : (m.setBank b x).gnss = m.gnss := rfl
@[simp] theorem setBank_fuse (m : Mod) (b : Nat) (x : Bank) : (m.setBank b x).fuse = m.fuse := rfl
@[simp] theorem setBank_clnk (m : Mod) (b : Nat) (x : Bank) : (m.setBank b x).clnk = m.clnk := rfl
@[simp] theorem setBank_pipes (m : Mod) (b : Nat) (x : Bank) : (m.setBank b x).pipes = m.pipes := rfl
@[simp] theorem setBank_vis (m : Mod) (b : Nat) (x : Bank) : (m.setBank b x).vis = m.vis := rfl
@[simp] theorem setBank_can (m : Mod) (b : Nat) (x : Bank) : (m.setBank b x).can = m.can := rfl
@[simp] theorem setBank_eth (m : Mod) (b : Nat) (x : Bank) : (m.setBank b x).eth = m.eth := rfl
@[simp] theorem setBank_seg (m : Mod) (b : Nat) (x : Bank) : (m.setBank b x).seg = m.seg := rfl
@[simp] theorem setBank_evt (m : Mod) (b : Nat) (x : Bank) : (m.setBank b x).evt = m.evt := rfl
@[simp] theorem setBank_log (m : Mod) (b : Nat) (x : Bank) : (m.setBank b x).log = m.log := rfl
@[simp] theorem setBank_nvs (m : Mod) (b : Nat) (x : Bank) : (m.setBank b x).nvs = m.nvs := rfl
@[simp] theorem setBank_upd (m : Mod) (b : Nat) (x : Bank) : (m.setBank b x).upd = m.upd := rfl
@[simp] theorem setBank_pubs (m : Mod) (b : Nat) (x : Bank) : (m.setBank b x).pubs = m.pubs := rfl
@[simp] theorem setBank_poison (m : Mod) (b : Nat) (x : Bank) : (m.setBank b x).poison = m.poison := rfl
@[simp] theorem setBank_bus (m : Mod) (b : Nat) (x : Bank) : (m.setBank b x).bus = m.bus := rfl
@[simp] theorem setBank_eccCount (m : Mod) (b : Nat) (x : Bank) : (m.setBank b x).eccCount = m.eccCount := rfl

@[simp] theorem setConv_fresh (m : Mod) (b : Nat) (x : Boost) : (m.setConv b x).fresh = m.fresh := rfl
@[simp] theorem setConv_pwr (m : Mod) (b : Nat) (x : Boost) : (m.setConv b x).pwr = m.pwr := rfl
@[simp] theorem setConv_time (m : Mod) (b : Nat) (x : Boost) : (m.setConv b x).time = m.time := rfl
@[simp] theorem setConv_lanes (m : Mod) (b : Nat) (x : Boost) : (m.setConv b x).lanes = m.lanes := rfl
@[simp] theorem setConv_stats (m : Mod) (b : Nat) (x : Boost) : (m.setConv b x).stats = m.stats := rfl
@[simp] theorem setConv_port (m : Mod) (b : Nat) (x : Boost) : (m.setConv b x).port = m.port := rfl
@[simp] theorem setConv_cfg (m : Mod) (b : Nat) (x : Boost) : (m.setConv b x).cfg = m.cfg := rfl
@[simp] theorem setConv_sched (m : Mod) (b : Nat) (x : Boost) : (m.setConv b x).sched = m.sched := rfl
@[simp] theorem setConv_coeff (m : Mod) (b : Nat) (x : Boost) : (m.setConv b x).coeff = m.coeff := rfl
@[simp] theorem setConv_loop (m : Mod) (b : Nat) (x : Boost) : (m.setConv b x).loop = m.loop := rfl
@[simp] theorem setConv_inp (m : Mod) (b : Nat) (x : Boost) : (m.setConv b x).inp = m.inp := rfl
@[simp] theorem setConv_safe (m : Mod) (b : Nat) (x : Boost) : (m.setConv b x).safe = m.safe := rfl
@[simp] theorem setConv_gnss (m : Mod) (b : Nat) (x : Boost) : (m.setConv b x).gnss = m.gnss := rfl
@[simp] theorem setConv_fuse (m : Mod) (b : Nat) (x : Boost) : (m.setConv b x).fuse = m.fuse := rfl
@[simp] theorem setConv_clnk (m : Mod) (b : Nat) (x : Boost) : (m.setConv b x).clnk = m.clnk := rfl
@[simp] theorem setConv_pipes (m : Mod) (b : Nat) (x : Boost) : (m.setConv b x).pipes = m.pipes := rfl
@[simp] theorem setConv_vis (m : Mod) (b : Nat) (x : Boost) : (m.setConv b x).vis = m.vis := rfl
@[simp] theorem setConv_can (m : Mod) (b : Nat) (x : Boost) : (m.setConv b x).can = m.can := rfl
@[simp] theorem setConv_eth (m : Mod) (b : Nat) (x : Boost) : (m.setConv b x).eth = m.eth := rfl
@[simp] theorem setConv_seg (m : Mod) (b : Nat) (x : Boost) : (m.setConv b x).seg = m.seg := rfl
@[simp] theorem setConv_evt (m : Mod) (b : Nat) (x : Boost) : (m.setConv b x).evt = m.evt := rfl
@[simp] theorem setConv_log (m : Mod) (b : Nat) (x : Boost) : (m.setConv b x).log = m.log := rfl
@[simp] theorem setConv_nvs (m : Mod) (b : Nat) (x : Boost) : (m.setConv b x).nvs = m.nvs := rfl
@[simp] theorem setConv_upd (m : Mod) (b : Nat) (x : Boost) : (m.setConv b x).upd = m.upd := rfl
@[simp] theorem setConv_pubs (m : Mod) (b : Nat) (x : Boost) : (m.setConv b x).pubs = m.pubs := rfl
@[simp] theorem setConv_poison (m : Mod) (b : Nat) (x : Boost) : (m.setConv b x).poison = m.poison := rfl
@[simp] theorem setConv_bus (m : Mod) (b : Nat) (x : Boost) : (m.setConv b x).bus = m.bus := rfl
@[simp] theorem setConv_eccCount (m : Mod) (b : Nat) (x : Boost) : (m.setConv b x).eccCount = m.eccCount := rfl

@[simp] theorem setInp_fresh (m : Mod) (i : Nat) (x : InpCh) : (m.setInp i x).fresh = m.fresh := rfl
@[simp] theorem setInp_pwr (m : Mod) (i : Nat) (x : InpCh) : (m.setInp i x).pwr = m.pwr := rfl
@[simp] theorem setInp_time (m : Mod) (i : Nat) (x : InpCh) : (m.setInp i x).time = m.time := rfl
@[simp] theorem setInp_lanes (m : Mod) (i : Nat) (x : InpCh) : (m.setInp i x).lanes = m.lanes := rfl
@[simp] theorem setInp_stats (m : Mod) (i : Nat) (x : InpCh) : (m.setInp i x).stats = m.stats := rfl
@[simp] theorem setInp_port (m : Mod) (i : Nat) (x : InpCh) : (m.setInp i x).port = m.port := rfl
@[simp] theorem setInp_cfg (m : Mod) (i : Nat) (x : InpCh) : (m.setInp i x).cfg = m.cfg := rfl
@[simp] theorem setInp_sched (m : Mod) (i : Nat) (x : InpCh) : (m.setInp i x).sched = m.sched := rfl
@[simp] theorem setInp_coeff (m : Mod) (i : Nat) (x : InpCh) : (m.setInp i x).coeff = m.coeff := rfl
@[simp] theorem setInp_loop (m : Mod) (i : Nat) (x : InpCh) : (m.setInp i x).loop = m.loop := rfl
@[simp] theorem setInp_drv (m : Mod) (i : Nat) (x : InpCh) : (m.setInp i x).drv = m.drv := rfl
@[simp] theorem setInp_safe (m : Mod) (i : Nat) (x : InpCh) : (m.setInp i x).safe = m.safe := rfl
@[simp] theorem setInp_gnss (m : Mod) (i : Nat) (x : InpCh) : (m.setInp i x).gnss = m.gnss := rfl
@[simp] theorem setInp_fuse (m : Mod) (i : Nat) (x : InpCh) : (m.setInp i x).fuse = m.fuse := rfl
@[simp] theorem setInp_clnk (m : Mod) (i : Nat) (x : InpCh) : (m.setInp i x).clnk = m.clnk := rfl
@[simp] theorem setInp_pipes (m : Mod) (i : Nat) (x : InpCh) : (m.setInp i x).pipes = m.pipes := rfl
@[simp] theorem setInp_vis (m : Mod) (i : Nat) (x : InpCh) : (m.setInp i x).vis = m.vis := rfl
@[simp] theorem setInp_can (m : Mod) (i : Nat) (x : InpCh) : (m.setInp i x).can = m.can := rfl
@[simp] theorem setInp_eth (m : Mod) (i : Nat) (x : InpCh) : (m.setInp i x).eth = m.eth := rfl
@[simp] theorem setInp_seg (m : Mod) (i : Nat) (x : InpCh) : (m.setInp i x).seg = m.seg := rfl
@[simp] theorem setInp_evt (m : Mod) (i : Nat) (x : InpCh) : (m.setInp i x).evt = m.evt := rfl
@[simp] theorem setInp_log (m : Mod) (i : Nat) (x : InpCh) : (m.setInp i x).log = m.log := rfl
@[simp] theorem setInp_nvs (m : Mod) (i : Nat) (x : InpCh) : (m.setInp i x).nvs = m.nvs := rfl
@[simp] theorem setInp_upd (m : Mod) (i : Nat) (x : InpCh) : (m.setInp i x).upd = m.upd := rfl
@[simp] theorem setInp_pubs (m : Mod) (i : Nat) (x : InpCh) : (m.setInp i x).pubs = m.pubs := rfl
@[simp] theorem setInp_poison (m : Mod) (i : Nat) (x : InpCh) : (m.setInp i x).poison = m.poison := rfl
@[simp] theorem setInp_bus (m : Mod) (i : Nat) (x : InpCh) : (m.setInp i x).bus = m.bus := rfl
@[simp] theorem setInp_eccCount (m : Mod) (i : Nat) (x : InpCh) : (m.setInp i x).eccCount = m.eccCount := rfl

@[simp] theorem setSafe_fresh (m : Mod) (x : Safe) : (m.setSafe x).fresh = m.fresh := rfl
@[simp] theorem setSafe_pwr (m : Mod) (x : Safe) : (m.setSafe x).pwr = m.pwr := rfl
@[simp] theorem setSafe_time (m : Mod) (x : Safe) : (m.setSafe x).time = m.time := rfl
@[simp] theorem setSafe_lanes (m : Mod) (x : Safe) : (m.setSafe x).lanes = m.lanes := rfl
@[simp] theorem setSafe_stats (m : Mod) (x : Safe) : (m.setSafe x).stats = m.stats := rfl
@[simp] theorem setSafe_port (m : Mod) (x : Safe) : (m.setSafe x).port = m.port := rfl
@[simp] theorem setSafe_cfg (m : Mod) (x : Safe) : (m.setSafe x).cfg = m.cfg := rfl
@[simp] theorem setSafe_sched (m : Mod) (x : Safe) : (m.setSafe x).sched = m.sched := rfl
@[simp] theorem setSafe_coeff (m : Mod) (x : Safe) : (m.setSafe x).coeff = m.coeff := rfl
@[simp] theorem setSafe_loop (m : Mod) (x : Safe) : (m.setSafe x).loop = m.loop := rfl
@[simp] theorem setSafe_drv (m : Mod) (x : Safe) : (m.setSafe x).drv = m.drv := rfl
@[simp] theorem setSafe_inp (m : Mod) (x : Safe) : (m.setSafe x).inp = m.inp := rfl
@[simp] theorem setSafe_gnss (m : Mod) (x : Safe) : (m.setSafe x).gnss = m.gnss := rfl
@[simp] theorem setSafe_fuse (m : Mod) (x : Safe) : (m.setSafe x).fuse = m.fuse := rfl
@[simp] theorem setSafe_clnk (m : Mod) (x : Safe) : (m.setSafe x).clnk = m.clnk := rfl
@[simp] theorem setSafe_pipes (m : Mod) (x : Safe) : (m.setSafe x).pipes = m.pipes := rfl
@[simp] theorem setSafe_vis (m : Mod) (x : Safe) : (m.setSafe x).vis = m.vis := rfl
@[simp] theorem setSafe_can (m : Mod) (x : Safe) : (m.setSafe x).can = m.can := rfl
@[simp] theorem setSafe_eth (m : Mod) (x : Safe) : (m.setSafe x).eth = m.eth := rfl
@[simp] theorem setSafe_seg (m : Mod) (x : Safe) : (m.setSafe x).seg = m.seg := rfl
@[simp] theorem setSafe_evt (m : Mod) (x : Safe) : (m.setSafe x).evt = m.evt := rfl
@[simp] theorem setSafe_log (m : Mod) (x : Safe) : (m.setSafe x).log = m.log := rfl
@[simp] theorem setSafe_nvs (m : Mod) (x : Safe) : (m.setSafe x).nvs = m.nvs := rfl
@[simp] theorem setSafe_upd (m : Mod) (x : Safe) : (m.setSafe x).upd = m.upd := rfl
@[simp] theorem setSafe_pubs (m : Mod) (x : Safe) : (m.setSafe x).pubs = m.pubs := rfl
@[simp] theorem setSafe_poison (m : Mod) (x : Safe) : (m.setSafe x).poison = m.poison := rfl
@[simp] theorem setSafe_bus (m : Mod) (x : Safe) : (m.setSafe x).bus = m.bus := rfl
@[simp] theorem setSafe_eccCount (m : Mod) (x : Safe) : (m.setSafe x).eccCount = m.eccCount := rfl

@[simp] theorem setCan_fresh (m : Mod) (ch : Nat) (x : CanCh) : (m.setCan ch x).fresh = m.fresh := rfl
@[simp] theorem setCan_pwr (m : Mod) (ch : Nat) (x : CanCh) : (m.setCan ch x).pwr = m.pwr := rfl
@[simp] theorem setCan_time (m : Mod) (ch : Nat) (x : CanCh) : (m.setCan ch x).time = m.time := rfl
@[simp] theorem setCan_lanes (m : Mod) (ch : Nat) (x : CanCh) : (m.setCan ch x).lanes = m.lanes := rfl
@[simp] theorem setCan_stats (m : Mod) (ch : Nat) (x : CanCh) : (m.setCan ch x).stats = m.stats := rfl
@[simp] theorem setCan_port (m : Mod) (ch : Nat) (x : CanCh) : (m.setCan ch x).port = m.port := rfl
@[simp] theorem setCan_cfg (m : Mod) (ch : Nat) (x : CanCh) : (m.setCan ch x).cfg = m.cfg := rfl
@[simp] theorem setCan_sched (m : Mod) (ch : Nat) (x : CanCh) : (m.setCan ch x).sched = m.sched := rfl
@[simp] theorem setCan_coeff (m : Mod) (ch : Nat) (x : CanCh) : (m.setCan ch x).coeff = m.coeff := rfl
@[simp] theorem setCan_loop (m : Mod) (ch : Nat) (x : CanCh) : (m.setCan ch x).loop = m.loop := rfl
@[simp] theorem setCan_drv (m : Mod) (ch : Nat) (x : CanCh) : (m.setCan ch x).drv = m.drv := rfl
@[simp] theorem setCan_inp (m : Mod) (ch : Nat) (x : CanCh) : (m.setCan ch x).inp = m.inp := rfl
@[simp] theorem setCan_safe (m : Mod) (ch : Nat) (x : CanCh) : (m.setCan ch x).safe = m.safe := rfl
@[simp] theorem setCan_gnss (m : Mod) (ch : Nat) (x : CanCh) : (m.setCan ch x).gnss = m.gnss := rfl
@[simp] theorem setCan_fuse (m : Mod) (ch : Nat) (x : CanCh) : (m.setCan ch x).fuse = m.fuse := rfl
@[simp] theorem setCan_clnk (m : Mod) (ch : Nat) (x : CanCh) : (m.setCan ch x).clnk = m.clnk := rfl
@[simp] theorem setCan_pipes (m : Mod) (ch : Nat) (x : CanCh) : (m.setCan ch x).pipes = m.pipes := rfl
@[simp] theorem setCan_vis (m : Mod) (ch : Nat) (x : CanCh) : (m.setCan ch x).vis = m.vis := rfl
@[simp] theorem setCan_eth (m : Mod) (ch : Nat) (x : CanCh) : (m.setCan ch x).eth = m.eth := rfl
@[simp] theorem setCan_seg (m : Mod) (ch : Nat) (x : CanCh) : (m.setCan ch x).seg = m.seg := rfl
@[simp] theorem setCan_evt (m : Mod) (ch : Nat) (x : CanCh) : (m.setCan ch x).evt = m.evt := rfl
@[simp] theorem setCan_log (m : Mod) (ch : Nat) (x : CanCh) : (m.setCan ch x).log = m.log := rfl
@[simp] theorem setCan_nvs (m : Mod) (ch : Nat) (x : CanCh) : (m.setCan ch x).nvs = m.nvs := rfl
@[simp] theorem setCan_upd (m : Mod) (ch : Nat) (x : CanCh) : (m.setCan ch x).upd = m.upd := rfl
@[simp] theorem setCan_pubs (m : Mod) (ch : Nat) (x : CanCh) : (m.setCan ch x).pubs = m.pubs := rfl
@[simp] theorem setCan_poison (m : Mod) (ch : Nat) (x : CanCh) : (m.setCan ch x).poison = m.poison := rfl
@[simp] theorem setCan_bus (m : Mod) (ch : Nat) (x : CanCh) : (m.setCan ch x).bus = m.bus := rfl
@[simp] theorem setCan_eccCount (m : Mod) (ch : Nat) (x : CanCh) : (m.setCan ch x).eccCount = m.eccCount := rfl

@[simp] theorem setLane_fresh (m : Mod) (l : Lane) (u : LaneUnit) : (m.setLane l u).fresh = m.fresh := rfl
@[simp] theorem setLane_pwr (m : Mod) (l : Lane) (u : LaneUnit) : (m.setLane l u).pwr = m.pwr := rfl
@[simp] theorem setLane_time (m : Mod) (l : Lane) (u : LaneUnit) : (m.setLane l u).time = m.time := rfl
@[simp] theorem setLane_stats (m : Mod) (l : Lane) (u : LaneUnit) : (m.setLane l u).stats = m.stats := rfl
@[simp] theorem setLane_port (m : Mod) (l : Lane) (u : LaneUnit) : (m.setLane l u).port = m.port := rfl
@[simp] theorem setLane_cfg (m : Mod) (l : Lane) (u : LaneUnit) : (m.setLane l u).cfg = m.cfg := rfl
@[simp] theorem setLane_sched (m : Mod) (l : Lane) (u : LaneUnit) : (m.setLane l u).sched = m.sched := rfl
@[simp] theorem setLane_coeff (m : Mod) (l : Lane) (u : LaneUnit) : (m.setLane l u).coeff = m.coeff := rfl
@[simp] theorem setLane_loop (m : Mod) (l : Lane) (u : LaneUnit) : (m.setLane l u).loop = m.loop := rfl
@[simp] theorem setLane_drv (m : Mod) (l : Lane) (u : LaneUnit) : (m.setLane l u).drv = m.drv := rfl
@[simp] theorem setLane_inp (m : Mod) (l : Lane) (u : LaneUnit) : (m.setLane l u).inp = m.inp := rfl
@[simp] theorem setLane_safe (m : Mod) (l : Lane) (u : LaneUnit) : (m.setLane l u).safe = m.safe := rfl
@[simp] theorem setLane_gnss (m : Mod) (l : Lane) (u : LaneUnit) : (m.setLane l u).gnss = m.gnss := rfl
@[simp] theorem setLane_fuse (m : Mod) (l : Lane) (u : LaneUnit) : (m.setLane l u).fuse = m.fuse := rfl
@[simp] theorem setLane_clnk (m : Mod) (l : Lane) (u : LaneUnit) : (m.setLane l u).clnk = m.clnk := rfl
@[simp] theorem setLane_pipes (m : Mod) (l : Lane) (u : LaneUnit) : (m.setLane l u).pipes = m.pipes := rfl
@[simp] theorem setLane_vis (m : Mod) (l : Lane) (u : LaneUnit) : (m.setLane l u).vis = m.vis := rfl
@[simp] theorem setLane_can (m : Mod) (l : Lane) (u : LaneUnit) : (m.setLane l u).can = m.can := rfl
@[simp] theorem setLane_eth (m : Mod) (l : Lane) (u : LaneUnit) : (m.setLane l u).eth = m.eth := rfl
@[simp] theorem setLane_seg (m : Mod) (l : Lane) (u : LaneUnit) : (m.setLane l u).seg = m.seg := rfl
@[simp] theorem setLane_evt (m : Mod) (l : Lane) (u : LaneUnit) : (m.setLane l u).evt = m.evt := rfl
@[simp] theorem setLane_log (m : Mod) (l : Lane) (u : LaneUnit) : (m.setLane l u).log = m.log := rfl
@[simp] theorem setLane_nvs (m : Mod) (l : Lane) (u : LaneUnit) : (m.setLane l u).nvs = m.nvs := rfl
@[simp] theorem setLane_upd (m : Mod) (l : Lane) (u : LaneUnit) : (m.setLane l u).upd = m.upd := rfl
@[simp] theorem setLane_pubs (m : Mod) (l : Lane) (u : LaneUnit) : (m.setLane l u).pubs = m.pubs := rfl
@[simp] theorem setLane_poison (m : Mod) (l : Lane) (u : LaneUnit) : (m.setLane l u).poison = m.poison := rfl
@[simp] theorem setLane_bus (m : Mod) (l : Lane) (u : LaneUnit) : (m.setLane l u).bus = m.bus := rfl
@[simp] theorem setLane_eccCount (m : Mod) (l : Lane) (u : LaneUnit) : (m.setLane l u).eccCount = m.eccCount := rfl

@[simp] theorem setEport_fresh (m : Mod) (k : Nat) (x : EthPort) : (m.setEport k x).fresh = m.fresh := rfl
@[simp] theorem setEport_pwr (m : Mod) (k : Nat) (x : EthPort) : (m.setEport k x).pwr = m.pwr := rfl
@[simp] theorem setEport_time (m : Mod) (k : Nat) (x : EthPort) : (m.setEport k x).time = m.time := rfl
@[simp] theorem setEport_lanes (m : Mod) (k : Nat) (x : EthPort) : (m.setEport k x).lanes = m.lanes := rfl
@[simp] theorem setEport_stats (m : Mod) (k : Nat) (x : EthPort) : (m.setEport k x).stats = m.stats := rfl
@[simp] theorem setEport_port (m : Mod) (k : Nat) (x : EthPort) : (m.setEport k x).port = m.port := rfl
@[simp] theorem setEport_cfg (m : Mod) (k : Nat) (x : EthPort) : (m.setEport k x).cfg = m.cfg := rfl
@[simp] theorem setEport_sched (m : Mod) (k : Nat) (x : EthPort) : (m.setEport k x).sched = m.sched := rfl
@[simp] theorem setEport_coeff (m : Mod) (k : Nat) (x : EthPort) : (m.setEport k x).coeff = m.coeff := rfl
@[simp] theorem setEport_loop (m : Mod) (k : Nat) (x : EthPort) : (m.setEport k x).loop = m.loop := rfl
@[simp] theorem setEport_drv (m : Mod) (k : Nat) (x : EthPort) : (m.setEport k x).drv = m.drv := rfl
@[simp] theorem setEport_inp (m : Mod) (k : Nat) (x : EthPort) : (m.setEport k x).inp = m.inp := rfl
@[simp] theorem setEport_safe (m : Mod) (k : Nat) (x : EthPort) : (m.setEport k x).safe = m.safe := rfl
@[simp] theorem setEport_gnss (m : Mod) (k : Nat) (x : EthPort) : (m.setEport k x).gnss = m.gnss := rfl
@[simp] theorem setEport_fuse (m : Mod) (k : Nat) (x : EthPort) : (m.setEport k x).fuse = m.fuse := rfl
@[simp] theorem setEport_clnk (m : Mod) (k : Nat) (x : EthPort) : (m.setEport k x).clnk = m.clnk := rfl
@[simp] theorem setEport_pipes (m : Mod) (k : Nat) (x : EthPort) : (m.setEport k x).pipes = m.pipes := rfl
@[simp] theorem setEport_vis (m : Mod) (k : Nat) (x : EthPort) : (m.setEport k x).vis = m.vis := rfl
@[simp] theorem setEport_can (m : Mod) (k : Nat) (x : EthPort) : (m.setEport k x).can = m.can := rfl
@[simp] theorem setEport_seg (m : Mod) (k : Nat) (x : EthPort) : (m.setEport k x).seg = m.seg := rfl
@[simp] theorem setEport_evt (m : Mod) (k : Nat) (x : EthPort) : (m.setEport k x).evt = m.evt := rfl
@[simp] theorem setEport_log (m : Mod) (k : Nat) (x : EthPort) : (m.setEport k x).log = m.log := rfl
@[simp] theorem setEport_nvs (m : Mod) (k : Nat) (x : EthPort) : (m.setEport k x).nvs = m.nvs := rfl
@[simp] theorem setEport_upd (m : Mod) (k : Nat) (x : EthPort) : (m.setEport k x).upd = m.upd := rfl
@[simp] theorem setEport_pubs (m : Mod) (k : Nat) (x : EthPort) : (m.setEport k x).pubs = m.pubs := rfl
@[simp] theorem setEport_poison (m : Mod) (k : Nat) (x : EthPort) : (m.setEport k x).poison = m.poison := rfl
@[simp] theorem setEport_bus (m : Mod) (k : Nat) (x : EthPort) : (m.setEport k x).bus = m.bus := rfl
@[simp] theorem setEport_eccCount (m : Mod) (k : Nat) (x : EthPort) : (m.setEport k x).eccCount = m.eccCount := rfl

@[simp] theorem setAnt_fresh (m : Mod) (k : Nat) (x : Antenna) : (m.setAnt k x).fresh = m.fresh := rfl
@[simp] theorem setAnt_pwr (m : Mod) (k : Nat) (x : Antenna) : (m.setAnt k x).pwr = m.pwr := rfl
@[simp] theorem setAnt_time (m : Mod) (k : Nat) (x : Antenna) : (m.setAnt k x).time = m.time := rfl
@[simp] theorem setAnt_lanes (m : Mod) (k : Nat) (x : Antenna) : (m.setAnt k x).lanes = m.lanes := rfl
@[simp] theorem setAnt_stats (m : Mod) (k : Nat) (x : Antenna) : (m.setAnt k x).stats = m.stats := rfl
@[simp] theorem setAnt_port (m : Mod) (k : Nat) (x : Antenna) : (m.setAnt k x).port = m.port := rfl
@[simp] theorem setAnt_cfg (m : Mod) (k : Nat) (x : Antenna) : (m.setAnt k x).cfg = m.cfg := rfl
@[simp] theorem setAnt_sched (m : Mod) (k : Nat) (x : Antenna) : (m.setAnt k x).sched = m.sched := rfl
@[simp] theorem setAnt_coeff (m : Mod) (k : Nat) (x : Antenna) : (m.setAnt k x).coeff = m.coeff := rfl
@[simp] theorem setAnt_loop (m : Mod) (k : Nat) (x : Antenna) : (m.setAnt k x).loop = m.loop := rfl
@[simp] theorem setAnt_drv (m : Mod) (k : Nat) (x : Antenna) : (m.setAnt k x).drv = m.drv := rfl
@[simp] theorem setAnt_inp (m : Mod) (k : Nat) (x : Antenna) : (m.setAnt k x).inp = m.inp := rfl
@[simp] theorem setAnt_safe (m : Mod) (k : Nat) (x : Antenna) : (m.setAnt k x).safe = m.safe := rfl
@[simp] theorem setAnt_fuse (m : Mod) (k : Nat) (x : Antenna) : (m.setAnt k x).fuse = m.fuse := rfl
@[simp] theorem setAnt_clnk (m : Mod) (k : Nat) (x : Antenna) : (m.setAnt k x).clnk = m.clnk := rfl
@[simp] theorem setAnt_pipes (m : Mod) (k : Nat) (x : Antenna) : (m.setAnt k x).pipes = m.pipes := rfl
@[simp] theorem setAnt_vis (m : Mod) (k : Nat) (x : Antenna) : (m.setAnt k x).vis = m.vis := rfl
@[simp] theorem setAnt_can (m : Mod) (k : Nat) (x : Antenna) : (m.setAnt k x).can = m.can := rfl
@[simp] theorem setAnt_eth (m : Mod) (k : Nat) (x : Antenna) : (m.setAnt k x).eth = m.eth := rfl
@[simp] theorem setAnt_seg (m : Mod) (k : Nat) (x : Antenna) : (m.setAnt k x).seg = m.seg := rfl
@[simp] theorem setAnt_evt (m : Mod) (k : Nat) (x : Antenna) : (m.setAnt k x).evt = m.evt := rfl
@[simp] theorem setAnt_log (m : Mod) (k : Nat) (x : Antenna) : (m.setAnt k x).log = m.log := rfl
@[simp] theorem setAnt_nvs (m : Mod) (k : Nat) (x : Antenna) : (m.setAnt k x).nvs = m.nvs := rfl
@[simp] theorem setAnt_upd (m : Mod) (k : Nat) (x : Antenna) : (m.setAnt k x).upd = m.upd := rfl
@[simp] theorem setAnt_pubs (m : Mod) (k : Nat) (x : Antenna) : (m.setAnt k x).pubs = m.pubs := rfl
@[simp] theorem setAnt_poison (m : Mod) (k : Nat) (x : Antenna) : (m.setAnt k x).poison = m.poison := rfl
@[simp] theorem setAnt_bus (m : Mod) (k : Nat) (x : Antenna) : (m.setAnt k x).bus = m.bus := rfl
@[simp] theorem setAnt_eccCount (m : Mod) (k : Nat) (x : Antenna) : (m.setAnt k x).eccCount = m.eccCount := rfl

@[simp] theorem setFsrc_fresh (m : Mod) (n : Nat) (x : FuseSrc) : (m.setFsrc n x).fresh = m.fresh := rfl
@[simp] theorem setFsrc_pwr (m : Mod) (n : Nat) (x : FuseSrc) : (m.setFsrc n x).pwr = m.pwr := rfl
@[simp] theorem setFsrc_time (m : Mod) (n : Nat) (x : FuseSrc) : (m.setFsrc n x).time = m.time := rfl
@[simp] theorem setFsrc_lanes (m : Mod) (n : Nat) (x : FuseSrc) : (m.setFsrc n x).lanes = m.lanes := rfl
@[simp] theorem setFsrc_stats (m : Mod) (n : Nat) (x : FuseSrc) : (m.setFsrc n x).stats = m.stats := rfl
@[simp] theorem setFsrc_port (m : Mod) (n : Nat) (x : FuseSrc) : (m.setFsrc n x).port = m.port := rfl
@[simp] theorem setFsrc_cfg (m : Mod) (n : Nat) (x : FuseSrc) : (m.setFsrc n x).cfg = m.cfg := rfl
@[simp] theorem setFsrc_sched (m : Mod) (n : Nat) (x : FuseSrc) : (m.setFsrc n x).sched = m.sched := rfl
@[simp] theorem setFsrc_coeff (m : Mod) (n : Nat) (x : FuseSrc) : (m.setFsrc n x).coeff = m.coeff := rfl
@[simp] theorem setFsrc_loop (m : Mod) (n : Nat) (x : FuseSrc) : (m.setFsrc n x).loop = m.loop := rfl
@[simp] theorem setFsrc_drv (m : Mod) (n : Nat) (x : FuseSrc) : (m.setFsrc n x).drv = m.drv := rfl
@[simp] theorem setFsrc_inp (m : Mod) (n : Nat) (x : FuseSrc) : (m.setFsrc n x).inp = m.inp := rfl
@[simp] theorem setFsrc_safe (m : Mod) (n : Nat) (x : FuseSrc) : (m.setFsrc n x).safe = m.safe := rfl
@[simp] theorem setFsrc_gnss (m : Mod) (n : Nat) (x : FuseSrc) : (m.setFsrc n x).gnss = m.gnss := rfl
@[simp] theorem setFsrc_clnk (m : Mod) (n : Nat) (x : FuseSrc) : (m.setFsrc n x).clnk = m.clnk := rfl
@[simp] theorem setFsrc_pipes (m : Mod) (n : Nat) (x : FuseSrc) : (m.setFsrc n x).pipes = m.pipes := rfl
@[simp] theorem setFsrc_vis (m : Mod) (n : Nat) (x : FuseSrc) : (m.setFsrc n x).vis = m.vis := rfl
@[simp] theorem setFsrc_can (m : Mod) (n : Nat) (x : FuseSrc) : (m.setFsrc n x).can = m.can := rfl
@[simp] theorem setFsrc_eth (m : Mod) (n : Nat) (x : FuseSrc) : (m.setFsrc n x).eth = m.eth := rfl
@[simp] theorem setFsrc_seg (m : Mod) (n : Nat) (x : FuseSrc) : (m.setFsrc n x).seg = m.seg := rfl
@[simp] theorem setFsrc_evt (m : Mod) (n : Nat) (x : FuseSrc) : (m.setFsrc n x).evt = m.evt := rfl
@[simp] theorem setFsrc_log (m : Mod) (n : Nat) (x : FuseSrc) : (m.setFsrc n x).log = m.log := rfl
@[simp] theorem setFsrc_nvs (m : Mod) (n : Nat) (x : FuseSrc) : (m.setFsrc n x).nvs = m.nvs := rfl
@[simp] theorem setFsrc_upd (m : Mod) (n : Nat) (x : FuseSrc) : (m.setFsrc n x).upd = m.upd := rfl
@[simp] theorem setFsrc_pubs (m : Mod) (n : Nat) (x : FuseSrc) : (m.setFsrc n x).pubs = m.pubs := rfl
@[simp] theorem setFsrc_poison (m : Mod) (n : Nat) (x : FuseSrc) : (m.setFsrc n x).poison = m.poison := rfl
@[simp] theorem setFsrc_bus (m : Mod) (n : Nat) (x : FuseSrc) : (m.setFsrc n x).bus = m.bus := rfl
@[simp] theorem setFsrc_eccCount (m : Mod) (n : Nat) (x : FuseSrc) : (m.setFsrc n x).eccCount = m.eccCount := rfl

@[simp] theorem setLink_fresh (m : Mod) (k : Nat) (x : Link) : (m.setLink k x).fresh = m.fresh := rfl
@[simp] theorem setLink_pwr (m : Mod) (k : Nat) (x : Link) : (m.setLink k x).pwr = m.pwr := rfl
@[simp] theorem setLink_time (m : Mod) (k : Nat) (x : Link) : (m.setLink k x).time = m.time := rfl
@[simp] theorem setLink_lanes (m : Mod) (k : Nat) (x : Link) : (m.setLink k x).lanes = m.lanes := rfl
@[simp] theorem setLink_stats (m : Mod) (k : Nat) (x : Link) : (m.setLink k x).stats = m.stats := rfl
@[simp] theorem setLink_port (m : Mod) (k : Nat) (x : Link) : (m.setLink k x).port = m.port := rfl
@[simp] theorem setLink_cfg (m : Mod) (k : Nat) (x : Link) : (m.setLink k x).cfg = m.cfg := rfl
@[simp] theorem setLink_sched (m : Mod) (k : Nat) (x : Link) : (m.setLink k x).sched = m.sched := rfl
@[simp] theorem setLink_coeff (m : Mod) (k : Nat) (x : Link) : (m.setLink k x).coeff = m.coeff := rfl
@[simp] theorem setLink_loop (m : Mod) (k : Nat) (x : Link) : (m.setLink k x).loop = m.loop := rfl
@[simp] theorem setLink_drv (m : Mod) (k : Nat) (x : Link) : (m.setLink k x).drv = m.drv := rfl
@[simp] theorem setLink_inp (m : Mod) (k : Nat) (x : Link) : (m.setLink k x).inp = m.inp := rfl
@[simp] theorem setLink_safe (m : Mod) (k : Nat) (x : Link) : (m.setLink k x).safe = m.safe := rfl
@[simp] theorem setLink_gnss (m : Mod) (k : Nat) (x : Link) : (m.setLink k x).gnss = m.gnss := rfl
@[simp] theorem setLink_fuse (m : Mod) (k : Nat) (x : Link) : (m.setLink k x).fuse = m.fuse := rfl
@[simp] theorem setLink_pipes (m : Mod) (k : Nat) (x : Link) : (m.setLink k x).pipes = m.pipes := rfl
@[simp] theorem setLink_vis (m : Mod) (k : Nat) (x : Link) : (m.setLink k x).vis = m.vis := rfl
@[simp] theorem setLink_can (m : Mod) (k : Nat) (x : Link) : (m.setLink k x).can = m.can := rfl
@[simp] theorem setLink_eth (m : Mod) (k : Nat) (x : Link) : (m.setLink k x).eth = m.eth := rfl
@[simp] theorem setLink_seg (m : Mod) (k : Nat) (x : Link) : (m.setLink k x).seg = m.seg := rfl
@[simp] theorem setLink_evt (m : Mod) (k : Nat) (x : Link) : (m.setLink k x).evt = m.evt := rfl
@[simp] theorem setLink_log (m : Mod) (k : Nat) (x : Link) : (m.setLink k x).log = m.log := rfl
@[simp] theorem setLink_nvs (m : Mod) (k : Nat) (x : Link) : (m.setLink k x).nvs = m.nvs := rfl
@[simp] theorem setLink_upd (m : Mod) (k : Nat) (x : Link) : (m.setLink k x).upd = m.upd := rfl
@[simp] theorem setLink_pubs (m : Mod) (k : Nat) (x : Link) : (m.setLink k x).pubs = m.pubs := rfl
@[simp] theorem setLink_poison (m : Mod) (k : Nat) (x : Link) : (m.setLink k x).poison = m.poison := rfl
@[simp] theorem setLink_bus (m : Mod) (k : Nat) (x : Link) : (m.setLink k x).bus = m.bus := rfl
@[simp] theorem setLink_eccCount (m : Mod) (k : Nat) (x : Link) : (m.setLink k x).eccCount = m.eccCount := rfl

@[simp] theorem setRx_fresh (m : Mod) (n : Nat) (x : SlotRx) : (m.setRx n x).fresh = m.fresh := rfl
@[simp] theorem setRx_pwr (m : Mod) (n : Nat) (x : SlotRx) : (m.setRx n x).pwr = m.pwr := rfl
@[simp] theorem setRx_time (m : Mod) (n : Nat) (x : SlotRx) : (m.setRx n x).time = m.time := rfl
@[simp] theorem setRx_lanes (m : Mod) (n : Nat) (x : SlotRx) : (m.setRx n x).lanes = m.lanes := rfl
@[simp] theorem setRx_stats (m : Mod) (n : Nat) (x : SlotRx) : (m.setRx n x).stats = m.stats := rfl
@[simp] theorem setRx_port (m : Mod) (n : Nat) (x : SlotRx) : (m.setRx n x).port = m.port := rfl
@[simp] theorem setRx_cfg (m : Mod) (n : Nat) (x : SlotRx) : (m.setRx n x).cfg = m.cfg := rfl
@[simp] theorem setRx_sched (m : Mod) (n : Nat) (x : SlotRx) : (m.setRx n x).sched = m.sched := rfl
@[simp] theorem setRx_coeff (m : Mod) (n : Nat) (x : SlotRx) : (m.setRx n x).coeff = m.coeff := rfl
@[simp] theorem setRx_loop (m : Mod) (n : Nat) (x : SlotRx) : (m.setRx n x).loop = m.loop := rfl
@[simp] theorem setRx_drv (m : Mod) (n : Nat) (x : SlotRx) : (m.setRx n x).drv = m.drv := rfl
@[simp] theorem setRx_inp (m : Mod) (n : Nat) (x : SlotRx) : (m.setRx n x).inp = m.inp := rfl
@[simp] theorem setRx_safe (m : Mod) (n : Nat) (x : SlotRx) : (m.setRx n x).safe = m.safe := rfl
@[simp] theorem setRx_gnss (m : Mod) (n : Nat) (x : SlotRx) : (m.setRx n x).gnss = m.gnss := rfl
@[simp] theorem setRx_fuse (m : Mod) (n : Nat) (x : SlotRx) : (m.setRx n x).fuse = m.fuse := rfl
@[simp] theorem setRx_pipes (m : Mod) (n : Nat) (x : SlotRx) : (m.setRx n x).pipes = m.pipes := rfl
@[simp] theorem setRx_vis (m : Mod) (n : Nat) (x : SlotRx) : (m.setRx n x).vis = m.vis := rfl
@[simp] theorem setRx_can (m : Mod) (n : Nat) (x : SlotRx) : (m.setRx n x).can = m.can := rfl
@[simp] theorem setRx_eth (m : Mod) (n : Nat) (x : SlotRx) : (m.setRx n x).eth = m.eth := rfl
@[simp] theorem setRx_seg (m : Mod) (n : Nat) (x : SlotRx) : (m.setRx n x).seg = m.seg := rfl
@[simp] theorem setRx_evt (m : Mod) (n : Nat) (x : SlotRx) : (m.setRx n x).evt = m.evt := rfl
@[simp] theorem setRx_log (m : Mod) (n : Nat) (x : SlotRx) : (m.setRx n x).log = m.log := rfl
@[simp] theorem setRx_nvs (m : Mod) (n : Nat) (x : SlotRx) : (m.setRx n x).nvs = m.nvs := rfl
@[simp] theorem setRx_upd (m : Mod) (n : Nat) (x : SlotRx) : (m.setRx n x).upd = m.upd := rfl
@[simp] theorem setRx_pubs (m : Mod) (n : Nat) (x : SlotRx) : (m.setRx n x).pubs = m.pubs := rfl
@[simp] theorem setRx_poison (m : Mod) (n : Nat) (x : SlotRx) : (m.setRx n x).poison = m.poison := rfl
@[simp] theorem setRx_bus (m : Mod) (n : Nat) (x : SlotRx) : (m.setRx n x).bus = m.bus := rfl
@[simp] theorem setRx_eccCount (m : Mod) (n : Nat) (x : SlotRx) : (m.setRx n x).eccCount = m.eccCount := rfl

@[simp] theorem setPs_fresh (m : Mod) (n : Nat) (x : PipeSlot) : (m.setPs n x).fresh = m.fresh := rfl
@[simp] theorem setPs_pwr (m : Mod) (n : Nat) (x : PipeSlot) : (m.setPs n x).pwr = m.pwr := rfl
@[simp] theorem setPs_time (m : Mod) (n : Nat) (x : PipeSlot) : (m.setPs n x).time = m.time := rfl
@[simp] theorem setPs_lanes (m : Mod) (n : Nat) (x : PipeSlot) : (m.setPs n x).lanes = m.lanes := rfl
@[simp] theorem setPs_stats (m : Mod) (n : Nat) (x : PipeSlot) : (m.setPs n x).stats = m.stats := rfl
@[simp] theorem setPs_port (m : Mod) (n : Nat) (x : PipeSlot) : (m.setPs n x).port = m.port := rfl
@[simp] theorem setPs_cfg (m : Mod) (n : Nat) (x : PipeSlot) : (m.setPs n x).cfg = m.cfg := rfl
@[simp] theorem setPs_sched (m : Mod) (n : Nat) (x : PipeSlot) : (m.setPs n x).sched = m.sched := rfl
@[simp] theorem setPs_coeff (m : Mod) (n : Nat) (x : PipeSlot) : (m.setPs n x).coeff = m.coeff := rfl
@[simp] theorem setPs_loop (m : Mod) (n : Nat) (x : PipeSlot) : (m.setPs n x).loop = m.loop := rfl
@[simp] theorem setPs_drv (m : Mod) (n : Nat) (x : PipeSlot) : (m.setPs n x).drv = m.drv := rfl
@[simp] theorem setPs_inp (m : Mod) (n : Nat) (x : PipeSlot) : (m.setPs n x).inp = m.inp := rfl
@[simp] theorem setPs_safe (m : Mod) (n : Nat) (x : PipeSlot) : (m.setPs n x).safe = m.safe := rfl
@[simp] theorem setPs_gnss (m : Mod) (n : Nat) (x : PipeSlot) : (m.setPs n x).gnss = m.gnss := rfl
@[simp] theorem setPs_fuse (m : Mod) (n : Nat) (x : PipeSlot) : (m.setPs n x).fuse = m.fuse := rfl
@[simp] theorem setPs_clnk (m : Mod) (n : Nat) (x : PipeSlot) : (m.setPs n x).clnk = m.clnk := rfl
@[simp] theorem setPs_vis (m : Mod) (n : Nat) (x : PipeSlot) : (m.setPs n x).vis = m.vis := rfl
@[simp] theorem setPs_can (m : Mod) (n : Nat) (x : PipeSlot) : (m.setPs n x).can = m.can := rfl
@[simp] theorem setPs_eth (m : Mod) (n : Nat) (x : PipeSlot) : (m.setPs n x).eth = m.eth := rfl
@[simp] theorem setPs_seg (m : Mod) (n : Nat) (x : PipeSlot) : (m.setPs n x).seg = m.seg := rfl
@[simp] theorem setPs_evt (m : Mod) (n : Nat) (x : PipeSlot) : (m.setPs n x).evt = m.evt := rfl
@[simp] theorem setPs_log (m : Mod) (n : Nat) (x : PipeSlot) : (m.setPs n x).log = m.log := rfl
@[simp] theorem setPs_nvs (m : Mod) (n : Nat) (x : PipeSlot) : (m.setPs n x).nvs = m.nvs := rfl
@[simp] theorem setPs_upd (m : Mod) (n : Nat) (x : PipeSlot) : (m.setPs n x).upd = m.upd := rfl
@[simp] theorem setPs_pubs (m : Mod) (n : Nat) (x : PipeSlot) : (m.setPs n x).pubs = m.pubs := rfl
@[simp] theorem setPs_poison (m : Mod) (n : Nat) (x : PipeSlot) : (m.setPs n x).poison = m.poison := rfl
@[simp] theorem setPs_bus (m : Mod) (n : Nat) (x : PipeSlot) : (m.setPs n x).bus = m.bus := rfl
@[simp] theorem setPs_eccCount (m : Mod) (n : Nat) (x : PipeSlot) : (m.setPs n x).eccCount = m.eccCount := rfl

@[simp] theorem setPipe_fresh (m : Mod) (k : Nat) (x : Pipe) : (m.setPipe k x).fresh = m.fresh := rfl
@[simp] theorem setPipe_pwr (m : Mod) (k : Nat) (x : Pipe) : (m.setPipe k x).pwr = m.pwr := rfl
@[simp] theorem setPipe_time (m : Mod) (k : Nat) (x : Pipe) : (m.setPipe k x).time = m.time := rfl
@[simp] theorem setPipe_lanes (m : Mod) (k : Nat) (x : Pipe) : (m.setPipe k x).lanes = m.lanes := rfl
@[simp] theorem setPipe_stats (m : Mod) (k : Nat) (x : Pipe) : (m.setPipe k x).stats = m.stats := rfl
@[simp] theorem setPipe_port (m : Mod) (k : Nat) (x : Pipe) : (m.setPipe k x).port = m.port := rfl
@[simp] theorem setPipe_cfg (m : Mod) (k : Nat) (x : Pipe) : (m.setPipe k x).cfg = m.cfg := rfl
@[simp] theorem setPipe_sched (m : Mod) (k : Nat) (x : Pipe) : (m.setPipe k x).sched = m.sched := rfl
@[simp] theorem setPipe_coeff (m : Mod) (k : Nat) (x : Pipe) : (m.setPipe k x).coeff = m.coeff := rfl
@[simp] theorem setPipe_loop (m : Mod) (k : Nat) (x : Pipe) : (m.setPipe k x).loop = m.loop := rfl
@[simp] theorem setPipe_drv (m : Mod) (k : Nat) (x : Pipe) : (m.setPipe k x).drv = m.drv := rfl
@[simp] theorem setPipe_inp (m : Mod) (k : Nat) (x : Pipe) : (m.setPipe k x).inp = m.inp := rfl
@[simp] theorem setPipe_safe (m : Mod) (k : Nat) (x : Pipe) : (m.setPipe k x).safe = m.safe := rfl
@[simp] theorem setPipe_gnss (m : Mod) (k : Nat) (x : Pipe) : (m.setPipe k x).gnss = m.gnss := rfl
@[simp] theorem setPipe_fuse (m : Mod) (k : Nat) (x : Pipe) : (m.setPipe k x).fuse = m.fuse := rfl
@[simp] theorem setPipe_clnk (m : Mod) (k : Nat) (x : Pipe) : (m.setPipe k x).clnk = m.clnk := rfl
@[simp] theorem setPipe_vis (m : Mod) (k : Nat) (x : Pipe) : (m.setPipe k x).vis = m.vis := rfl
@[simp] theorem setPipe_can (m : Mod) (k : Nat) (x : Pipe) : (m.setPipe k x).can = m.can := rfl
@[simp] theorem setPipe_eth (m : Mod) (k : Nat) (x : Pipe) : (m.setPipe k x).eth = m.eth := rfl
@[simp] theorem setPipe_seg (m : Mod) (k : Nat) (x : Pipe) : (m.setPipe k x).seg = m.seg := rfl
@[simp] theorem setPipe_evt (m : Mod) (k : Nat) (x : Pipe) : (m.setPipe k x).evt = m.evt := rfl
@[simp] theorem setPipe_log (m : Mod) (k : Nat) (x : Pipe) : (m.setPipe k x).log = m.log := rfl
@[simp] theorem setPipe_nvs (m : Mod) (k : Nat) (x : Pipe) : (m.setPipe k x).nvs = m.nvs := rfl
@[simp] theorem setPipe_upd (m : Mod) (k : Nat) (x : Pipe) : (m.setPipe k x).upd = m.upd := rfl
@[simp] theorem setPipe_pubs (m : Mod) (k : Nat) (x : Pipe) : (m.setPipe k x).pubs = m.pubs := rfl
@[simp] theorem setPipe_poison (m : Mod) (k : Nat) (x : Pipe) : (m.setPipe k x).poison = m.poison := rfl
@[simp] theorem setPipe_bus (m : Mod) (k : Nat) (x : Pipe) : (m.setPipe k x).bus = m.bus := rfl
@[simp] theorem setPipe_eccCount (m : Mod) (k : Nat) (x : Pipe) : (m.setPipe k x).eccCount = m.eccCount := rfl

@[simp] theorem setEnc_fresh (m : Mod) (k : Nat) (x : EncStream) : (m.setEnc k x).fresh = m.fresh := rfl
@[simp] theorem setEnc_pwr (m : Mod) (k : Nat) (x : EncStream) : (m.setEnc k x).pwr = m.pwr := rfl
@[simp] theorem setEnc_time (m : Mod) (k : Nat) (x : EncStream) : (m.setEnc k x).time = m.time := rfl
@[simp] theorem setEnc_lanes (m : Mod) (k : Nat) (x : EncStream) : (m.setEnc k x).lanes = m.lanes := rfl
@[simp] theorem setEnc_stats (m : Mod) (k : Nat) (x : EncStream) : (m.setEnc k x).stats = m.stats := rfl
@[simp] theorem setEnc_port (m : Mod) (k : Nat) (x : EncStream) : (m.setEnc k x).port = m.port := rfl
@[simp] theorem setEnc_cfg (m : Mod) (k : Nat) (x : EncStream) : (m.setEnc k x).cfg = m.cfg := rfl
@[simp] theorem setEnc_sched (m : Mod) (k : Nat) (x : EncStream) : (m.setEnc k x).sched = m.sched := rfl
@[simp] theorem setEnc_coeff (m : Mod) (k : Nat) (x : EncStream) : (m.setEnc k x).coeff = m.coeff := rfl
@[simp] theorem setEnc_loop (m : Mod) (k : Nat) (x : EncStream) : (m.setEnc k x).loop = m.loop := rfl
@[simp] theorem setEnc_drv (m : Mod) (k : Nat) (x : EncStream) : (m.setEnc k x).drv = m.drv := rfl
@[simp] theorem setEnc_inp (m : Mod) (k : Nat) (x : EncStream) : (m.setEnc k x).inp = m.inp := rfl
@[simp] theorem setEnc_safe (m : Mod) (k : Nat) (x : EncStream) : (m.setEnc k x).safe = m.safe := rfl
@[simp] theorem setEnc_gnss (m : Mod) (k : Nat) (x : EncStream) : (m.setEnc k x).gnss = m.gnss := rfl
@[simp] theorem setEnc_fuse (m : Mod) (k : Nat) (x : EncStream) : (m.setEnc k x).fuse = m.fuse := rfl
@[simp] theorem setEnc_clnk (m : Mod) (k : Nat) (x : EncStream) : (m.setEnc k x).clnk = m.clnk := rfl
@[simp] theorem setEnc_vis (m : Mod) (k : Nat) (x : EncStream) : (m.setEnc k x).vis = m.vis := rfl
@[simp] theorem setEnc_can (m : Mod) (k : Nat) (x : EncStream) : (m.setEnc k x).can = m.can := rfl
@[simp] theorem setEnc_eth (m : Mod) (k : Nat) (x : EncStream) : (m.setEnc k x).eth = m.eth := rfl
@[simp] theorem setEnc_seg (m : Mod) (k : Nat) (x : EncStream) : (m.setEnc k x).seg = m.seg := rfl
@[simp] theorem setEnc_evt (m : Mod) (k : Nat) (x : EncStream) : (m.setEnc k x).evt = m.evt := rfl
@[simp] theorem setEnc_log (m : Mod) (k : Nat) (x : EncStream) : (m.setEnc k x).log = m.log := rfl
@[simp] theorem setEnc_nvs (m : Mod) (k : Nat) (x : EncStream) : (m.setEnc k x).nvs = m.nvs := rfl
@[simp] theorem setEnc_upd (m : Mod) (k : Nat) (x : EncStream) : (m.setEnc k x).upd = m.upd := rfl
@[simp] theorem setEnc_pubs (m : Mod) (k : Nat) (x : EncStream) : (m.setEnc k x).pubs = m.pubs := rfl
@[simp] theorem setEnc_poison (m : Mod) (k : Nat) (x : EncStream) : (m.setEnc k x).poison = m.poison := rfl
@[simp] theorem setEnc_bus (m : Mod) (k : Nat) (x : EncStream) : (m.setEnc k x).bus = m.bus := rfl
@[simp] theorem setEnc_eccCount (m : Mod) (k : Nat) (x : EncStream) : (m.setEnc k x).eccCount = m.eccCount := rfl

@[simp] theorem setPart_fresh (m : Mod) (k : Nat) (x : Part) : (m.setPart k x).fresh = m.fresh := rfl
@[simp] theorem setPart_pwr (m : Mod) (k : Nat) (x : Part) : (m.setPart k x).pwr = m.pwr := rfl
@[simp] theorem setPart_time (m : Mod) (k : Nat) (x : Part) : (m.setPart k x).time = m.time := rfl
@[simp] theorem setPart_lanes (m : Mod) (k : Nat) (x : Part) : (m.setPart k x).lanes = m.lanes := rfl
@[simp] theorem setPart_stats (m : Mod) (k : Nat) (x : Part) : (m.setPart k x).stats = m.stats := rfl
@[simp] theorem setPart_port (m : Mod) (k : Nat) (x : Part) : (m.setPart k x).port = m.port := rfl
@[simp] theorem setPart_cfg (m : Mod) (k : Nat) (x : Part) : (m.setPart k x).cfg = m.cfg := rfl
@[simp] theorem setPart_sched (m : Mod) (k : Nat) (x : Part) : (m.setPart k x).sched = m.sched := rfl
@[simp] theorem setPart_coeff (m : Mod) (k : Nat) (x : Part) : (m.setPart k x).coeff = m.coeff := rfl
@[simp] theorem setPart_loop (m : Mod) (k : Nat) (x : Part) : (m.setPart k x).loop = m.loop := rfl
@[simp] theorem setPart_drv (m : Mod) (k : Nat) (x : Part) : (m.setPart k x).drv = m.drv := rfl
@[simp] theorem setPart_inp (m : Mod) (k : Nat) (x : Part) : (m.setPart k x).inp = m.inp := rfl
@[simp] theorem setPart_safe (m : Mod) (k : Nat) (x : Part) : (m.setPart k x).safe = m.safe := rfl
@[simp] theorem setPart_gnss (m : Mod) (k : Nat) (x : Part) : (m.setPart k x).gnss = m.gnss := rfl
@[simp] theorem setPart_fuse (m : Mod) (k : Nat) (x : Part) : (m.setPart k x).fuse = m.fuse := rfl
@[simp] theorem setPart_clnk (m : Mod) (k : Nat) (x : Part) : (m.setPart k x).clnk = m.clnk := rfl
@[simp] theorem setPart_pipes (m : Mod) (k : Nat) (x : Part) : (m.setPart k x).pipes = m.pipes := rfl
@[simp] theorem setPart_can (m : Mod) (k : Nat) (x : Part) : (m.setPart k x).can = m.can := rfl
@[simp] theorem setPart_eth (m : Mod) (k : Nat) (x : Part) : (m.setPart k x).eth = m.eth := rfl
@[simp] theorem setPart_seg (m : Mod) (k : Nat) (x : Part) : (m.setPart k x).seg = m.seg := rfl
@[simp] theorem setPart_evt (m : Mod) (k : Nat) (x : Part) : (m.setPart k x).evt = m.evt := rfl
@[simp] theorem setPart_log (m : Mod) (k : Nat) (x : Part) : (m.setPart k x).log = m.log := rfl
@[simp] theorem setPart_nvs (m : Mod) (k : Nat) (x : Part) : (m.setPart k x).nvs = m.nvs := rfl
@[simp] theorem setPart_upd (m : Mod) (k : Nat) (x : Part) : (m.setPart k x).upd = m.upd := rfl
@[simp] theorem setPart_pubs (m : Mod) (k : Nat) (x : Part) : (m.setPart k x).pubs = m.pubs := rfl
@[simp] theorem setPart_poison (m : Mod) (k : Nat) (x : Part) : (m.setPart k x).poison = m.poison := rfl
@[simp] theorem setPart_bus (m : Mod) (k : Nat) (x : Part) : (m.setPart k x).bus = m.bus := rfl
@[simp] theorem setPart_eccCount (m : Mod) (k : Nat) (x : Part) : (m.setPart k x).eccCount = m.eccCount := rfl

@[simp] theorem setNv_fresh (m : Mod) (k : Nat) (x : NvSet) : (m.setNv k x).fresh = m.fresh := rfl
@[simp] theorem setNv_pwr (m : Mod) (k : Nat) (x : NvSet) : (m.setNv k x).pwr = m.pwr := rfl
@[simp] theorem setNv_time (m : Mod) (k : Nat) (x : NvSet) : (m.setNv k x).time = m.time := rfl
@[simp] theorem setNv_lanes (m : Mod) (k : Nat) (x : NvSet) : (m.setNv k x).lanes = m.lanes := rfl
@[simp] theorem setNv_stats (m : Mod) (k : Nat) (x : NvSet) : (m.setNv k x).stats = m.stats := rfl
@[simp] theorem setNv_port (m : Mod) (k : Nat) (x : NvSet) : (m.setNv k x).port = m.port := rfl
@[simp] theorem setNv_cfg (m : Mod) (k : Nat) (x : NvSet) : (m.setNv k x).cfg = m.cfg := rfl
@[simp] theorem setNv_sched (m : Mod) (k : Nat) (x : NvSet) : (m.setNv k x).sched = m.sched := rfl
@[simp] theorem setNv_coeff (m : Mod) (k : Nat) (x : NvSet) : (m.setNv k x).coeff = m.coeff := rfl
@[simp] theorem setNv_loop (m : Mod) (k : Nat) (x : NvSet) : (m.setNv k x).loop = m.loop := rfl
@[simp] theorem setNv_drv (m : Mod) (k : Nat) (x : NvSet) : (m.setNv k x).drv = m.drv := rfl
@[simp] theorem setNv_inp (m : Mod) (k : Nat) (x : NvSet) : (m.setNv k x).inp = m.inp := rfl
@[simp] theorem setNv_safe (m : Mod) (k : Nat) (x : NvSet) : (m.setNv k x).safe = m.safe := rfl
@[simp] theorem setNv_gnss (m : Mod) (k : Nat) (x : NvSet) : (m.setNv k x).gnss = m.gnss := rfl
@[simp] theorem setNv_fuse (m : Mod) (k : Nat) (x : NvSet) : (m.setNv k x).fuse = m.fuse := rfl
@[simp] theorem setNv_clnk (m : Mod) (k : Nat) (x : NvSet) : (m.setNv k x).clnk = m.clnk := rfl
@[simp] theorem setNv_pipes (m : Mod) (k : Nat) (x : NvSet) : (m.setNv k x).pipes = m.pipes := rfl
@[simp] theorem setNv_vis (m : Mod) (k : Nat) (x : NvSet) : (m.setNv k x).vis = m.vis := rfl
@[simp] theorem setNv_can (m : Mod) (k : Nat) (x : NvSet) : (m.setNv k x).can = m.can := rfl
@[simp] theorem setNv_eth (m : Mod) (k : Nat) (x : NvSet) : (m.setNv k x).eth = m.eth := rfl
@[simp] theorem setNv_seg (m : Mod) (k : Nat) (x : NvSet) : (m.setNv k x).seg = m.seg := rfl
@[simp] theorem setNv_evt (m : Mod) (k : Nat) (x : NvSet) : (m.setNv k x).evt = m.evt := rfl
@[simp] theorem setNv_log (m : Mod) (k : Nat) (x : NvSet) : (m.setNv k x).log = m.log := rfl
@[simp] theorem setNv_upd (m : Mod) (k : Nat) (x : NvSet) : (m.setNv k x).upd = m.upd := rfl
@[simp] theorem setNv_pubs (m : Mod) (k : Nat) (x : NvSet) : (m.setNv k x).pubs = m.pubs := rfl
@[simp] theorem setNv_poison (m : Mod) (k : Nat) (x : NvSet) : (m.setNv k x).poison = m.poison := rfl
@[simp] theorem setNv_bus (m : Mod) (k : Nat) (x : NvSet) : (m.setNv k x).bus = m.bus := rfl
@[simp] theorem setNv_eccCount (m : Mod) (k : Nat) (x : NvSet) : (m.setNv k x).eccCount = m.eccCount := rfl

@[simp] theorem setSlot_fresh (m : Mod) (k : Nat) (x : CodeSlot) : (m.setSlot k x).fresh = m.fresh := rfl
@[simp] theorem setSlot_pwr (m : Mod) (k : Nat) (x : CodeSlot) : (m.setSlot k x).pwr = m.pwr := rfl
@[simp] theorem setSlot_time (m : Mod) (k : Nat) (x : CodeSlot) : (m.setSlot k x).time = m.time := rfl
@[simp] theorem setSlot_lanes (m : Mod) (k : Nat) (x : CodeSlot) : (m.setSlot k x).lanes = m.lanes := rfl
@[simp] theorem setSlot_stats (m : Mod) (k : Nat) (x : CodeSlot) : (m.setSlot k x).stats = m.stats := rfl
@[simp] theorem setSlot_port (m : Mod) (k : Nat) (x : CodeSlot) : (m.setSlot k x).port = m.port := rfl
@[simp] theorem setSlot_cfg (m : Mod) (k : Nat) (x : CodeSlot) : (m.setSlot k x).cfg = m.cfg := rfl
@[simp] theorem setSlot_sched (m : Mod) (k : Nat) (x : CodeSlot) : (m.setSlot k x).sched = m.sched := rfl
@[simp] theorem setSlot_coeff (m : Mod) (k : Nat) (x : CodeSlot) : (m.setSlot k x).coeff = m.coeff := rfl
@[simp] theorem setSlot_loop (m : Mod) (k : Nat) (x : CodeSlot) : (m.setSlot k x).loop = m.loop := rfl
@[simp] theorem setSlot_drv (m : Mod) (k : Nat) (x : CodeSlot) : (m.setSlot k x).drv = m.drv := rfl
@[simp] theorem setSlot_inp (m : Mod) (k : Nat) (x : CodeSlot) : (m.setSlot k x).inp = m.inp := rfl
@[simp] theorem setSlot_safe (m : Mod) (k : Nat) (x : CodeSlot) : (m.setSlot k x).safe = m.safe := rfl
@[simp] theorem setSlot_gnss (m : Mod) (k : Nat) (x : CodeSlot) : (m.setSlot k x).gnss = m.gnss := rfl
@[simp] theorem setSlot_fuse (m : Mod) (k : Nat) (x : CodeSlot) : (m.setSlot k x).fuse = m.fuse := rfl
@[simp] theorem setSlot_clnk (m : Mod) (k : Nat) (x : CodeSlot) : (m.setSlot k x).clnk = m.clnk := rfl
@[simp] theorem setSlot_pipes (m : Mod) (k : Nat) (x : CodeSlot) : (m.setSlot k x).pipes = m.pipes := rfl
@[simp] theorem setSlot_vis (m : Mod) (k : Nat) (x : CodeSlot) : (m.setSlot k x).vis = m.vis := rfl
@[simp] theorem setSlot_can (m : Mod) (k : Nat) (x : CodeSlot) : (m.setSlot k x).can = m.can := rfl
@[simp] theorem setSlot_eth (m : Mod) (k : Nat) (x : CodeSlot) : (m.setSlot k x).eth = m.eth := rfl
@[simp] theorem setSlot_seg (m : Mod) (k : Nat) (x : CodeSlot) : (m.setSlot k x).seg = m.seg := rfl
@[simp] theorem setSlot_evt (m : Mod) (k : Nat) (x : CodeSlot) : (m.setSlot k x).evt = m.evt := rfl
@[simp] theorem setSlot_log (m : Mod) (k : Nat) (x : CodeSlot) : (m.setSlot k x).log = m.log := rfl
@[simp] theorem setSlot_nvs (m : Mod) (k : Nat) (x : CodeSlot) : (m.setSlot k x).nvs = m.nvs := rfl
@[simp] theorem setSlot_pubs (m : Mod) (k : Nat) (x : CodeSlot) : (m.setSlot k x).pubs = m.pubs := rfl
@[simp] theorem setSlot_poison (m : Mod) (k : Nat) (x : CodeSlot) : (m.setSlot k x).poison = m.poison := rfl
@[simp] theorem setSlot_bus (m : Mod) (k : Nat) (x : CodeSlot) : (m.setSlot k x).bus = m.bus := rfl
@[simp] theorem setSlot_eccCount (m : Mod) (k : Nat) (x : CodeSlot) : (m.setSlot k x).eccCount = m.eccCount := rfl

@[simp] theorem setLine_fresh (m : Mod) (n : Nat) (l : IntLine) : (m.setLine n l).fresh = m.fresh := rfl
@[simp] theorem setLine_pwr (m : Mod) (n : Nat) (l : IntLine) : (m.setLine n l).pwr = m.pwr := rfl
@[simp] theorem setLine_time (m : Mod) (n : Nat) (l : IntLine) : (m.setLine n l).time = m.time := rfl
@[simp] theorem setLine_lanes (m : Mod) (n : Nat) (l : IntLine) : (m.setLine n l).lanes = m.lanes := rfl
@[simp] theorem setLine_stats (m : Mod) (n : Nat) (l : IntLine) : (m.setLine n l).stats = m.stats := rfl
@[simp] theorem setLine_port (m : Mod) (n : Nat) (l : IntLine) : (m.setLine n l).port = m.port := rfl
@[simp] theorem setLine_cfg (m : Mod) (n : Nat) (l : IntLine) : (m.setLine n l).cfg = m.cfg := rfl
@[simp] theorem setLine_sched (m : Mod) (n : Nat) (l : IntLine) : (m.setLine n l).sched = m.sched := rfl
@[simp] theorem setLine_coeff (m : Mod) (n : Nat) (l : IntLine) : (m.setLine n l).coeff = m.coeff := rfl
@[simp] theorem setLine_loop (m : Mod) (n : Nat) (l : IntLine) : (m.setLine n l).loop = m.loop := rfl
@[simp] theorem setLine_drv (m : Mod) (n : Nat) (l : IntLine) : (m.setLine n l).drv = m.drv := rfl
@[simp] theorem setLine_inp (m : Mod) (n : Nat) (l : IntLine) : (m.setLine n l).inp = m.inp := rfl
@[simp] theorem setLine_safe (m : Mod) (n : Nat) (l : IntLine) : (m.setLine n l).safe = m.safe := rfl
@[simp] theorem setLine_gnss (m : Mod) (n : Nat) (l : IntLine) : (m.setLine n l).gnss = m.gnss := rfl
@[simp] theorem setLine_fuse (m : Mod) (n : Nat) (l : IntLine) : (m.setLine n l).fuse = m.fuse := rfl
@[simp] theorem setLine_clnk (m : Mod) (n : Nat) (l : IntLine) : (m.setLine n l).clnk = m.clnk := rfl
@[simp] theorem setLine_pipes (m : Mod) (n : Nat) (l : IntLine) : (m.setLine n l).pipes = m.pipes := rfl
@[simp] theorem setLine_vis (m : Mod) (n : Nat) (l : IntLine) : (m.setLine n l).vis = m.vis := rfl
@[simp] theorem setLine_can (m : Mod) (n : Nat) (l : IntLine) : (m.setLine n l).can = m.can := rfl
@[simp] theorem setLine_eth (m : Mod) (n : Nat) (l : IntLine) : (m.setLine n l).eth = m.eth := rfl
@[simp] theorem setLine_seg (m : Mod) (n : Nat) (l : IntLine) : (m.setLine n l).seg = m.seg := rfl
@[simp] theorem setLine_log (m : Mod) (n : Nat) (l : IntLine) : (m.setLine n l).log = m.log := rfl
@[simp] theorem setLine_nvs (m : Mod) (n : Nat) (l : IntLine) : (m.setLine n l).nvs = m.nvs := rfl
@[simp] theorem setLine_upd (m : Mod) (n : Nat) (l : IntLine) : (m.setLine n l).upd = m.upd := rfl
@[simp] theorem setLine_pubs (m : Mod) (n : Nat) (l : IntLine) : (m.setLine n l).pubs = m.pubs := rfl
@[simp] theorem setLine_poison (m : Mod) (n : Nat) (l : IntLine) : (m.setLine n l).poison = m.poison := rfl
@[simp] theorem setLine_bus (m : Mod) (n : Nat) (l : IntLine) : (m.setLine n l).bus = m.bus := rfl
@[simp] theorem setLine_eccCount (m : Mod) (n : Nat) (l : IntLine) : (m.setLine n l).eccCount = m.eccCount := rfl

@[simp] theorem setPd_fresh (m : Mod) (k : Nat) (on : Bool) : (m.setPd k on).fresh = m.fresh := rfl
@[simp] theorem setPd_time (m : Mod) (k : Nat) (on : Bool) : (m.setPd k on).time = m.time := rfl
@[simp] theorem setPd_lanes (m : Mod) (k : Nat) (on : Bool) : (m.setPd k on).lanes = m.lanes := rfl
@[simp] theorem setPd_stats (m : Mod) (k : Nat) (on : Bool) : (m.setPd k on).stats = m.stats := rfl
@[simp] theorem setPd_port (m : Mod) (k : Nat) (on : Bool) : (m.setPd k on).port = m.port := rfl
@[simp] theorem setPd_cfg (m : Mod) (k : Nat) (on : Bool) : (m.setPd k on).cfg = m.cfg := rfl
@[simp] theorem setPd_sched (m : Mod) (k : Nat) (on : Bool) : (m.setPd k on).sched = m.sched := rfl
@[simp] theorem setPd_coeff (m : Mod) (k : Nat) (on : Bool) : (m.setPd k on).coeff = m.coeff := rfl
@[simp] theorem setPd_loop (m : Mod) (k : Nat) (on : Bool) : (m.setPd k on).loop = m.loop := rfl
@[simp] theorem setPd_drv (m : Mod) (k : Nat) (on : Bool) : (m.setPd k on).drv = m.drv := rfl
@[simp] theorem setPd_inp (m : Mod) (k : Nat) (on : Bool) : (m.setPd k on).inp = m.inp := rfl
@[simp] theorem setPd_safe (m : Mod) (k : Nat) (on : Bool) : (m.setPd k on).safe = m.safe := rfl
@[simp] theorem setPd_gnss (m : Mod) (k : Nat) (on : Bool) : (m.setPd k on).gnss = m.gnss := rfl
@[simp] theorem setPd_fuse (m : Mod) (k : Nat) (on : Bool) : (m.setPd k on).fuse = m.fuse := rfl
@[simp] theorem setPd_clnk (m : Mod) (k : Nat) (on : Bool) : (m.setPd k on).clnk = m.clnk := rfl
@[simp] theorem setPd_pipes (m : Mod) (k : Nat) (on : Bool) : (m.setPd k on).pipes = m.pipes := rfl
@[simp] theorem setPd_vis (m : Mod) (k : Nat) (on : Bool) : (m.setPd k on).vis = m.vis := rfl
@[simp] theorem setPd_can (m : Mod) (k : Nat) (on : Bool) : (m.setPd k on).can = m.can := rfl
@[simp] theorem setPd_eth (m : Mod) (k : Nat) (on : Bool) : (m.setPd k on).eth = m.eth := rfl
@[simp] theorem setPd_seg (m : Mod) (k : Nat) (on : Bool) : (m.setPd k on).seg = m.seg := rfl
@[simp] theorem setPd_evt (m : Mod) (k : Nat) (on : Bool) : (m.setPd k on).evt = m.evt := rfl
@[simp] theorem setPd_log (m : Mod) (k : Nat) (on : Bool) : (m.setPd k on).log = m.log := rfl
@[simp] theorem setPd_nvs (m : Mod) (k : Nat) (on : Bool) : (m.setPd k on).nvs = m.nvs := rfl
@[simp] theorem setPd_upd (m : Mod) (k : Nat) (on : Bool) : (m.setPd k on).upd = m.upd := rfl
@[simp] theorem setPd_pubs (m : Mod) (k : Nat) (on : Bool) : (m.setPd k on).pubs = m.pubs := rfl
@[simp] theorem setPd_poison (m : Mod) (k : Nat) (on : Bool) : (m.setPd k on).poison = m.poison := rfl
@[simp] theorem setPd_bus (m : Mod) (k : Nat) (on : Bool) : (m.setPd k on).bus = m.bus := rfl
@[simp] theorem setPd_eccCount (m : Mod) (k : Nat) (on : Bool) : (m.setPd k on).eccCount = m.eccCount := rfl

@[simp] theorem answered_fresh (m : Mod) (v : Nat) : (m.answered v).fresh = m.fresh := rfl
@[simp] theorem answered_pwr (m : Mod) (v : Nat) : (m.answered v).pwr = m.pwr := rfl
@[simp] theorem answered_time (m : Mod) (v : Nat) : (m.answered v).time = m.time := rfl
@[simp] theorem answered_lanes (m : Mod) (v : Nat) : (m.answered v).lanes = m.lanes := rfl
@[simp] theorem answered_stats (m : Mod) (v : Nat) : (m.answered v).stats = m.stats := rfl
@[simp] theorem answered_port (m : Mod) (v : Nat) : (m.answered v).port = m.port := rfl
@[simp] theorem answered_cfg (m : Mod) (v : Nat) : (m.answered v).cfg = m.cfg := rfl
@[simp] theorem answered_sched (m : Mod) (v : Nat) : (m.answered v).sched = m.sched := rfl
@[simp] theorem answered_coeff (m : Mod) (v : Nat) : (m.answered v).coeff = m.coeff := rfl
@[simp] theorem answered_loop (m : Mod) (v : Nat) : (m.answered v).loop = m.loop := rfl
@[simp] theorem answered_drv (m : Mod) (v : Nat) : (m.answered v).drv = m.drv := rfl
@[simp] theorem answered_inp (m : Mod) (v : Nat) : (m.answered v).inp = m.inp := rfl
@[simp] theorem answered_safe (m : Mod) (v : Nat) : (m.answered v).safe = m.safe := rfl
@[simp] theorem answered_gnss (m : Mod) (v : Nat) : (m.answered v).gnss = m.gnss := rfl
@[simp] theorem answered_fuse (m : Mod) (v : Nat) : (m.answered v).fuse = m.fuse := rfl
@[simp] theorem answered_clnk (m : Mod) (v : Nat) : (m.answered v).clnk = m.clnk := rfl
@[simp] theorem answered_pipes (m : Mod) (v : Nat) : (m.answered v).pipes = m.pipes := rfl
@[simp] theorem answered_vis (m : Mod) (v : Nat) : (m.answered v).vis = m.vis := rfl
@[simp] theorem answered_can (m : Mod) (v : Nat) : (m.answered v).can = m.can := rfl
@[simp] theorem answered_eth (m : Mod) (v : Nat) : (m.answered v).eth = m.eth := rfl
@[simp] theorem answered_seg (m : Mod) (v : Nat) : (m.answered v).seg = m.seg := rfl
@[simp] theorem answered_evt (m : Mod) (v : Nat) : (m.answered v).evt = m.evt := rfl
@[simp] theorem answered_log (m : Mod) (v : Nat) : (m.answered v).log = m.log := rfl
@[simp] theorem answered_nvs (m : Mod) (v : Nat) : (m.answered v).nvs = m.nvs := rfl
@[simp] theorem answered_upd (m : Mod) (v : Nat) : (m.answered v).upd = m.upd := rfl
@[simp] theorem answered_pubs (m : Mod) (v : Nat) : (m.answered v).pubs = m.pubs := rfl
@[simp] theorem answered_poison (m : Mod) (v : Nat) : (m.answered v).poison = m.poison := rfl

@[simp] theorem busError_fresh (m : Mod) : (m.busError).fresh = m.fresh := rfl
@[simp] theorem busError_pwr (m : Mod) : (m.busError).pwr = m.pwr := rfl
@[simp] theorem busError_time (m : Mod) : (m.busError).time = m.time := rfl
@[simp] theorem busError_lanes (m : Mod) : (m.busError).lanes = m.lanes := rfl
@[simp] theorem busError_stats (m : Mod) : (m.busError).stats = m.stats := rfl
@[simp] theorem busError_port (m : Mod) : (m.busError).port = m.port := rfl
@[simp] theorem busError_cfg (m : Mod) : (m.busError).cfg = m.cfg := rfl
@[simp] theorem busError_sched (m : Mod) : (m.busError).sched = m.sched := rfl
@[simp] theorem busError_coeff (m : Mod) : (m.busError).coeff = m.coeff := rfl
@[simp] theorem busError_loop (m : Mod) : (m.busError).loop = m.loop := rfl
@[simp] theorem busError_drv (m : Mod) : (m.busError).drv = m.drv := rfl
@[simp] theorem busError_inp (m : Mod) : (m.busError).inp = m.inp := rfl
@[simp] theorem busError_safe (m : Mod) : (m.busError).safe = m.safe := rfl
@[simp] theorem busError_gnss (m : Mod) : (m.busError).gnss = m.gnss := rfl
@[simp] theorem busError_fuse (m : Mod) : (m.busError).fuse = m.fuse := rfl
@[simp] theorem busError_clnk (m : Mod) : (m.busError).clnk = m.clnk := rfl
@[simp] theorem busError_pipes (m : Mod) : (m.busError).pipes = m.pipes := rfl
@[simp] theorem busError_vis (m : Mod) : (m.busError).vis = m.vis := rfl
@[simp] theorem busError_can (m : Mod) : (m.busError).can = m.can := rfl
@[simp] theorem busError_eth (m : Mod) : (m.busError).eth = m.eth := rfl
@[simp] theorem busError_seg (m : Mod) : (m.busError).seg = m.seg := rfl
@[simp] theorem busError_evt (m : Mod) : (m.busError).evt = m.evt := rfl
@[simp] theorem busError_log (m : Mod) : (m.busError).log = m.log := rfl
@[simp] theorem busError_nvs (m : Mod) : (m.busError).nvs = m.nvs := rfl
@[simp] theorem busError_upd (m : Mod) : (m.busError).upd = m.upd := rfl
@[simp] theorem busError_pubs (m : Mod) : (m.busError).pubs = m.pubs := rfl
@[simp] theorem busError_poison (m : Mod) : (m.busError).poison = m.poison := rfl

@[simp] theorem wrote_fresh (m : Mod) : (m.wrote).fresh = m.fresh := rfl
@[simp] theorem wrote_pwr (m : Mod) : (m.wrote).pwr = m.pwr := rfl
@[simp] theorem wrote_time (m : Mod) : (m.wrote).time = m.time := rfl
@[simp] theorem wrote_lanes (m : Mod) : (m.wrote).lanes = m.lanes := rfl
@[simp] theorem wrote_stats (m : Mod) : (m.wrote).stats = m.stats := rfl
@[simp] theorem wrote_port (m : Mod) : (m.wrote).port = m.port := rfl
@[simp] theorem wrote_cfg (m : Mod) : (m.wrote).cfg = m.cfg := rfl
@[simp] theorem wrote_sched (m : Mod) : (m.wrote).sched = m.sched := rfl
@[simp] theorem wrote_coeff (m : Mod) : (m.wrote).coeff = m.coeff := rfl
@[simp] theorem wrote_loop (m : Mod) : (m.wrote).loop = m.loop := rfl
@[simp] theorem wrote_drv (m : Mod) : (m.wrote).drv = m.drv := rfl
@[simp] theorem wrote_inp (m : Mod) : (m.wrote).inp = m.inp := rfl
@[simp] theorem wrote_safe (m : Mod) : (m.wrote).safe = m.safe := rfl
@[simp] theorem wrote_gnss (m : Mod) : (m.wrote).gnss = m.gnss := rfl
@[simp] theorem wrote_fuse (m : Mod) : (m.wrote).fuse = m.fuse := rfl
@[simp] theorem wrote_clnk (m : Mod) : (m.wrote).clnk = m.clnk := rfl
@[simp] theorem wrote_pipes (m : Mod) : (m.wrote).pipes = m.pipes := rfl
@[simp] theorem wrote_vis (m : Mod) : (m.wrote).vis = m.vis := rfl
@[simp] theorem wrote_can (m : Mod) : (m.wrote).can = m.can := rfl
@[simp] theorem wrote_eth (m : Mod) : (m.wrote).eth = m.eth := rfl
@[simp] theorem wrote_seg (m : Mod) : (m.wrote).seg = m.seg := rfl
@[simp] theorem wrote_evt (m : Mod) : (m.wrote).evt = m.evt := rfl
@[simp] theorem wrote_log (m : Mod) : (m.wrote).log = m.log := rfl
@[simp] theorem wrote_nvs (m : Mod) : (m.wrote).nvs = m.nvs := rfl
@[simp] theorem wrote_upd (m : Mod) : (m.wrote).upd = m.upd := rfl
@[simp] theorem wrote_pubs (m : Mod) : (m.wrote).pubs = m.pubs := rfl
@[simp] theorem wrote_poison (m : Mod) : (m.wrote).poison = m.poison := rfl

/-! Drawing a free value counts the draw and nothing else. -/

@[simp] theorem draw_pwr (m : Mod) : m.draw.2.pwr = m.pwr := rfl
@[simp] theorem draw_time (m : Mod) : m.draw.2.time = m.time := rfl
@[simp] theorem draw_lanes (m : Mod) : m.draw.2.lanes = m.lanes := rfl
@[simp] theorem draw_stats (m : Mod) : m.draw.2.stats = m.stats := rfl
@[simp] theorem draw_port (m : Mod) : m.draw.2.port = m.port := rfl
@[simp] theorem draw_cfg (m : Mod) : m.draw.2.cfg = m.cfg := rfl
@[simp] theorem draw_sched (m : Mod) : m.draw.2.sched = m.sched := rfl
@[simp] theorem draw_coeff (m : Mod) : m.draw.2.coeff = m.coeff := rfl
@[simp] theorem draw_loop (m : Mod) : m.draw.2.loop = m.loop := rfl
@[simp] theorem draw_drv (m : Mod) : m.draw.2.drv = m.drv := rfl
@[simp] theorem draw_inp (m : Mod) : m.draw.2.inp = m.inp := rfl
@[simp] theorem draw_safe (m : Mod) : m.draw.2.safe = m.safe := rfl
@[simp] theorem draw_gnss (m : Mod) : m.draw.2.gnss = m.gnss := rfl
@[simp] theorem draw_fuse (m : Mod) : m.draw.2.fuse = m.fuse := rfl
@[simp] theorem draw_clnk (m : Mod) : m.draw.2.clnk = m.clnk := rfl
@[simp] theorem draw_pipes (m : Mod) : m.draw.2.pipes = m.pipes := rfl
@[simp] theorem draw_vis (m : Mod) : m.draw.2.vis = m.vis := rfl
@[simp] theorem draw_can (m : Mod) : m.draw.2.can = m.can := rfl
@[simp] theorem draw_eth (m : Mod) : m.draw.2.eth = m.eth := rfl
@[simp] theorem draw_seg (m : Mod) : m.draw.2.seg = m.seg := rfl
@[simp] theorem draw_evt (m : Mod) : m.draw.2.evt = m.evt := rfl
@[simp] theorem draw_log (m : Mod) : m.draw.2.log = m.log := rfl
@[simp] theorem draw_nvs (m : Mod) : m.draw.2.nvs = m.nvs := rfl
@[simp] theorem draw_upd (m : Mod) : m.draw.2.upd = m.upd := rfl
@[simp] theorem draw_pubs (m : Mod) : m.draw.2.pubs = m.pubs := rfl
@[simp] theorem draw_poison (m : Mod) : m.draw.2.poison = m.poison := rfl
@[simp] theorem draw_bus (m : Mod) : m.draw.2.bus = m.bus := rfl
@[simp] theorem draw_eccCount (m : Mod) : m.draw.2.eccCount = m.eccCount := rfl

/-! The instant a meaning carries the raw counter to (R31). -/

@[simp] theorem until_now (m : Mod) (c : Nat) : (m.until c).now = max m.now c := rfl

end Sys2Proof.Machine
end

