-- ==== Sys2Proof/Laws/Raise.lean ====
section
/-! SUPPORT. Raising an event changes the event fabric and nothing else (R372). -/

namespace Sys2Proof.Machine

open Sys2Proof

/-- All a raise can do: the event fabric is another one. -/
theorem raiseT_spec (m : Mod) (src : Nat) (param : BitVec 32) (test : Bool) :
    ∃ e, m.raiseT src param test = { m with evt := e } := by
  unfold Mod.raiseT
  split
  · exact ⟨_, rfl⟩
  · exact ⟨m.evt, rfl⟩

@[simp] theorem raiseT_fresh (m : Mod) (src : Nat) (param : BitVec 32) (test : Bool) :
    (m.raiseT src param test).fresh = m.fresh := by
  obtain ⟨e, h⟩ := raiseT_spec m src param test
  rw [h]
@[simp] theorem raiseT_pwr (m : Mod) (src : Nat) (param : BitVec 32) (test : Bool) :
    (m.raiseT src param test).pwr = m.pwr := by
  obtain ⟨e, h⟩ := raiseT_spec m src param test
  rw [h]
@[simp] theorem raiseT_time (m : Mod) (src : Nat) (param : BitVec 32) (test : Bool) :
    (m.raiseT src param test).time = m.time := by
  obtain ⟨e, h⟩ := raiseT_spec m src param test
  rw [h]
@[simp] theorem raiseT_lanes (m : Mod) (src : Nat) (param : BitVec 32) (test : Bool) :
    (m.raiseT src param test).lanes = m.lanes := by
  obtain ⟨e, h⟩ := raiseT_spec m src param test
  rw [h]
@[simp] theorem raiseT_stats (m : Mod) (src : Nat) (param : BitVec 32) (test : Bool) :
    (m.raiseT src param test).stats = m.stats := by
  obtain ⟨e, h⟩ := raiseT_spec m src param test
  rw [h]
@[simp] theorem raiseT_port (m : Mod) (src : Nat) (param : BitVec 32) (test : Bool) :
    (m.raiseT src param test).port = m.port := by
  obtain ⟨e, h⟩ := raiseT_spec m src param test
  rw [h]
@[simp] theorem raiseT_cfg (m : Mod) (src : Nat) (param : BitVec 32) (test : Bool) :
    (m.raiseT src param test).cfg = m.cfg := by
  obtain ⟨e, h⟩ := raiseT_spec m src param test
  rw [h]
@[simp] theorem raiseT_sched (m : Mod) (src : Nat) (param : BitVec 32) (test : Bool) :
    (m.raiseT src param test).sched = m.sched := by
  obtain ⟨e, h⟩ := raiseT_spec m src param test
  rw [h]
@[simp] theorem raiseT_coeff (m : Mod) (src : Nat) (param : BitVec 32) (test : Bool) :
    (m.raiseT src param test).coeff = m.coeff := by
  obtain ⟨e, h⟩ := raiseT_spec m src param test
  rw [h]
@[simp] theorem raiseT_loop (m : Mod) (src : Nat) (param : BitVec 32) (test : Bool) :
    (m.raiseT src param test).loop = m.loop := by
  obtain ⟨e, h⟩ := raiseT_spec m src param test
  rw [h]
@[simp] theorem raiseT_drv (m : Mod) (src : Nat) (param : BitVec 32) (test : Bool) :
    (m.raiseT src param test).drv = m.drv := by
  obtain ⟨e, h⟩ := raiseT_spec m src param test
  rw [h]
@[simp] theorem raiseT_inp (m : Mod) (src : Nat) (param : BitVec 32) (test : Bool) :
    (m.raiseT src param test).inp = m.inp := by
  obtain ⟨e, h⟩ := raiseT_spec m src param test
  rw [h]
@[simp] theorem raiseT_safe (m : Mod) (src : Nat) (param : BitVec 32) (test : Bool) :
    (m.raiseT src param test).safe = m.safe := by
  obtain ⟨e, h⟩ := raiseT_spec m src param test
  rw [h]
@[simp] theorem raiseT_gnss (m : Mod) (src : Nat) (param : BitVec 32) (test : Bool) :
    (m.raiseT src param test).gnss = m.gnss := by
  obtain ⟨e, h⟩ := raiseT_spec m src param test
  rw [h]
@[simp] theorem raiseT_fuse (m : Mod) (src : Nat) (param : BitVec 32) (test : Bool) :
    (m.raiseT src param test).fuse = m.fuse := by
  obtain ⟨e, h⟩ := raiseT_spec m src param test
  rw [h]
@[simp] theorem raiseT_clnk (m : Mod) (src : Nat) (param : BitVec 32) (test : Bool) :
    (m.raiseT src param test).clnk = m.clnk := by
  obtain ⟨e, h⟩ := raiseT_spec m src param test
  rw [h]
@[simp] theorem raiseT_pipes (m : Mod) (src : Nat) (param : BitVec 32) (test : Bool) :
    (m.raiseT src param test).pipes = m.pipes := by
  obtain ⟨e, h⟩ := raiseT_spec m src param test
  rw [h]
@[simp] theorem raiseT_vis (m : Mod) (src : Nat) (param : BitVec 32) (test : Bool) :
    (m.raiseT src param test).vis = m.vis := by
  obtain ⟨e, h⟩ := raiseT_spec m src param test
  rw [h]
@[simp] theorem raiseT_can (m : Mod) (src : Nat) (param : BitVec 32) (test : Bool) :
    (m.raiseT src param test).can = m.can := by
  obtain ⟨e, h⟩ := raiseT_spec m src param test
  rw [h]
@[simp] theorem raiseT_eth (m : Mod) (src : Nat) (param : BitVec 32) (test : Bool) :
    (m.raiseT src param test).eth = m.eth := by
  obtain ⟨e, h⟩ := raiseT_spec m src param test
  rw [h]
@[simp] theorem raiseT_seg (m : Mod) (src : Nat) (param : BitVec 32) (test : Bool) :
    (m.raiseT src param test).seg = m.seg := by
  obtain ⟨e, h⟩ := raiseT_spec m src param test
  rw [h]
@[simp] theorem raiseT_log (m : Mod) (src : Nat) (param : BitVec 32) (test : Bool) :
    (m.raiseT src param test).log = m.log := by
  obtain ⟨e, h⟩ := raiseT_spec m src param test
  rw [h]
@[simp] theorem raiseT_nvs (m : Mod) (src : Nat) (param : BitVec 32) (test : Bool) :
    (m.raiseT src param test).nvs = m.nvs := by
  obtain ⟨e, h⟩ := raiseT_spec m src param test
  rw [h]
@[simp] theorem raiseT_upd (m : Mod) (src : Nat) (param : BitVec 32) (test : Bool) :
    (m.raiseT src param test).upd = m.upd := by
  obtain ⟨e, h⟩ := raiseT_spec m src param test
  rw [h]
@[simp] theorem raiseT_pubs (m : Mod) (src : Nat) (param : BitVec 32) (test : Bool) :
    (m.raiseT src param test).pubs = m.pubs := by
  obtain ⟨e, h⟩ := raiseT_spec m src param test
  rw [h]
@[simp] theorem raiseT_poison (m : Mod) (src : Nat) (param : BitVec 32) (test : Bool) :
    (m.raiseT src param test).poison = m.poison := by
  obtain ⟨e, h⟩ := raiseT_spec m src param test
  rw [h]
@[simp] theorem raiseT_bus (m : Mod) (src : Nat) (param : BitVec 32) (test : Bool) :
    (m.raiseT src param test).bus = m.bus := by
  obtain ⟨e, h⟩ := raiseT_spec m src param test
  rw [h]

@[simp] theorem raise_fresh (m : Mod) (src param : Nat) : (m.raise src param).fresh = m.fresh := raiseT_fresh ..
@[simp] theorem raise_pwr (m : Mod) (src param : Nat) : (m.raise src param).pwr = m.pwr := raiseT_pwr ..
@[simp] theorem raise_time (m : Mod) (src param : Nat) : (m.raise src param).time = m.time := raiseT_time ..
@[simp] theorem raise_lanes (m : Mod) (src param : Nat) : (m.raise src param).lanes = m.lanes := raiseT_lanes ..
@[simp] theorem raise_stats (m : Mod) (src param : Nat) : (m.raise src param).stats = m.stats := raiseT_stats ..
@[simp] theorem raise_port (m : Mod) (src param : Nat) : (m.raise src param).port = m.port := raiseT_port ..
@[simp] theorem raise_cfg (m : Mod) (src param : Nat) : (m.raise src param).cfg = m.cfg := raiseT_cfg ..
@[simp] theorem raise_sched (m : Mod) (src param : Nat) : (m.raise src param).sched = m.sched := raiseT_sched ..
@[simp] theorem raise_coeff (m : Mod) (src param : Nat) : (m.raise src param).coeff = m.coeff := raiseT_coeff ..
@[simp] theorem raise_loop (m : Mod) (src param : Nat) : (m.raise src param).loop = m.loop := raiseT_loop ..
@[simp] theorem raise_drv (m : Mod) (src param : Nat) : (m.raise src param).drv = m.drv := raiseT_drv ..
@[simp] theorem raise_inp (m : Mod) (src param : Nat) : (m.raise src param).inp = m.inp := raiseT_inp ..
@[simp] theorem raise_safe (m : Mod) (src param : Nat) : (m.raise src param).safe = m.safe := raiseT_safe ..
@[simp] theorem raise_gnss (m : Mod) (src param : Nat) : (m.raise src param).gnss = m.gnss := raiseT_gnss ..
@[simp] theorem raise_fuse (m : Mod) (src param : Nat) : (m.raise src param).fuse = m.fuse := raiseT_fuse ..
@[simp] theorem raise_clnk (m : Mod) (src param : Nat) : (m.raise src param).clnk = m.clnk := raiseT_clnk ..
@[simp] theorem raise_pipes (m : Mod) (src param : Nat) : (m.raise src param).pipes = m.pipes := raiseT_pipes ..
@[simp] theorem raise_vis (m : Mod) (src param : Nat) : (m.raise src param).vis = m.vis := raiseT_vis ..
@[simp] theorem raise_can (m : Mod) (src param : Nat) : (m.raise src param).can = m.can := raiseT_can ..
@[simp] theorem raise_eth (m : Mod) (src param : Nat) : (m.raise src param).eth = m.eth := raiseT_eth ..
@[simp] theorem raise_seg (m : Mod) (src param : Nat) : (m.raise src param).seg = m.seg := raiseT_seg ..
@[simp] theorem raise_log (m : Mod) (src param : Nat) : (m.raise src param).log = m.log := raiseT_log ..
@[simp] theorem raise_nvs (m : Mod) (src param : Nat) : (m.raise src param).nvs = m.nvs := raiseT_nvs ..
@[simp] theorem raise_upd (m : Mod) (src param : Nat) : (m.raise src param).upd = m.upd := raiseT_upd ..
@[simp] theorem raise_pubs (m : Mod) (src param : Nat) : (m.raise src param).pubs = m.pubs := raiseT_pubs ..
@[simp] theorem raise_poison (m : Mod) (src param : Nat) : (m.raise src param).poison = m.poison := raiseT_poison ..
@[simp] theorem raise_bus (m : Mod) (src param : Nat) : (m.raise src param).bus = m.bus := raiseT_bus ..

@[simp] theorem ev_fresh (m : Mod) (src num code : Nat) (value : Bool) : (m.ev src num code value).fresh = m.fresh := raiseT_fresh ..
@[simp] theorem ev_pwr (m : Mod) (src num code : Nat) (value : Bool) : (m.ev src num code value).pwr = m.pwr := raiseT_pwr ..
@[simp] theorem ev_time (m : Mod) (src num code : Nat) (value : Bool) : (m.ev src num code value).time = m.time := raiseT_time ..
@[simp] theorem ev_lanes (m : Mod) (src num code : Nat) (value : Bool) : (m.ev src num code value).lanes = m.lanes := raiseT_lanes ..
@[simp] theorem ev_stats (m : Mod) (src num code : Nat) (value : Bool) : (m.ev src num code value).stats = m.stats := raiseT_stats ..
@[simp] theorem ev_port (m : Mod) (src num code : Nat) (value : Bool) : (m.ev src num code value).port = m.port := raiseT_port ..
@[simp] theorem ev_cfg (m : Mod) (src num code : Nat) (value : Bool) : (m.ev src num code value).cfg = m.cfg := raiseT_cfg ..
@[simp] theorem ev_sched (m : Mod) (src num code : Nat) (value : Bool) : (m.ev src num code value).sched = m.sched := raiseT_sched ..
@[simp] theorem ev_coeff (m : Mod) (src num code : Nat) (value : Bool) : (m.ev src num code value).coeff = m.coeff := raiseT_coeff ..
@[simp] theorem ev_loop (m : Mod) (src num code : Nat) (value : Bool) : (m.ev src num code value).loop = m.loop := raiseT_loop ..
@[simp] theorem ev_drv (m : Mod) (src num code : Nat) (value : Bool) : (m.ev src num code value).drv = m.drv := raiseT_drv ..
@[simp] theorem ev_inp (m : Mod) (src num code : Nat) (value : Bool) : (m.ev src num code value).inp = m.inp := raiseT_inp ..
@[simp] theorem ev_safe (m : Mod) (src num code : Nat) (value : Bool) : (m.ev src num code value).safe = m.safe := raiseT_safe ..
@[simp] theorem ev_gnss (m : Mod) (src num code : Nat) (value : Bool) : (m.ev src num code value).gnss = m.gnss := raiseT_gnss ..
@[simp] theorem ev_fuse (m : Mod) (src num code : Nat) (value : Bool) : (m.ev src num code value).fuse = m.fuse := raiseT_fuse ..
@[simp] theorem ev_clnk (m : Mod) (src num code : Nat) (value : Bool) : (m.ev src num code value).clnk = m.clnk := raiseT_clnk ..
@[simp] theorem ev_pipes (m : Mod) (src num code : Nat) (value : Bool) : (m.ev src num code value).pipes = m.pipes := raiseT_pipes ..
@[simp] theorem ev_vis (m : Mod) (src num code : Nat) (value : Bool) : (m.ev src num code value).vis = m.vis := raiseT_vis ..
@[simp] theorem ev_can (m : Mod) (src num code : Nat) (value : Bool) : (m.ev src num code value).can = m.can := raiseT_can ..
@[simp] theorem ev_eth (m : Mod) (src num code : Nat) (value : Bool) : (m.ev src num code value).eth = m.eth := raiseT_eth ..
@[simp] theorem ev_seg (m : Mod) (src num code : Nat) (value : Bool) : (m.ev src num code value).seg = m.seg := raiseT_seg ..
@[simp] theorem ev_log (m : Mod) (src num code : Nat) (value : Bool) : (m.ev src num code value).log = m.log := raiseT_log ..
@[simp] theorem ev_nvs (m : Mod) (src num code : Nat) (value : Bool) : (m.ev src num code value).nvs = m.nvs := raiseT_nvs ..
@[simp] theorem ev_upd (m : Mod) (src num code : Nat) (value : Bool) : (m.ev src num code value).upd = m.upd := raiseT_upd ..
@[simp] theorem ev_pubs (m : Mod) (src num code : Nat) (value : Bool) : (m.ev src num code value).pubs = m.pubs := raiseT_pubs ..
@[simp] theorem ev_poison (m : Mod) (src num code : Nat) (value : Bool) : (m.ev src num code value).poison = m.poison := raiseT_poison ..
@[simp] theorem ev_bus (m : Mod) (src num code : Nat) (value : Bool) : (m.ev src num code value).bus = m.bus := raiseT_bus ..

@[simp] theorem inpEv_fresh (m : Mod) (src inst code : Nat) (value : Bool) : (m.inpEv src inst code value).fresh = m.fresh := raiseT_fresh ..
@[simp] theorem inpEv_pwr (m : Mod) (src inst code : Nat) (value : Bool) : (m.inpEv src inst code value).pwr = m.pwr := raiseT_pwr ..
@[simp] theorem inpEv_time (m : Mod) (src inst code : Nat) (value : Bool) : (m.inpEv src inst code value).time = m.time := raiseT_time ..
@[simp] theorem inpEv_lanes (m : Mod) (src inst code : Nat) (value : Bool) : (m.inpEv src inst code value).lanes = m.lanes := raiseT_lanes ..
@[simp] theorem inpEv_stats (m : Mod) (src inst code : Nat) (value : Bool) : (m.inpEv src inst code value).stats = m.stats := raiseT_stats ..
@[simp] theorem inpEv_port (m : Mod) (src inst code : Nat) (value : Bool) : (m.inpEv src inst code value).port = m.port := raiseT_port ..
@[simp] theorem inpEv_cfg (m : Mod) (src inst code : Nat) (value : Bool) : (m.inpEv src inst code value).cfg = m.cfg := raiseT_cfg ..
@[simp] theorem inpEv_sched (m : Mod) (src inst code : Nat) (value : Bool) : (m.inpEv src inst code value).sched = m.sched := raiseT_sched ..
@[simp] theorem inpEv_coeff (m : Mod) (src inst code : Nat) (value : Bool) : (m.inpEv src inst code value).coeff = m.coeff := raiseT_coeff ..
@[simp] theorem inpEv_loop (m : Mod) (src inst code : Nat) (value : Bool) : (m.inpEv src inst code value).loop = m.loop := raiseT_loop ..
@[simp] theorem inpEv_drv (m : Mod) (src inst code : Nat) (value : Bool) : (m.inpEv src inst code value).drv = m.drv := raiseT_drv ..
@[simp] theorem inpEv_inp (m : Mod) (src inst code : Nat) (value : Bool) : (m.inpEv src inst code value).inp = m.inp := raiseT_inp ..
@[simp] theorem inpEv_safe (m : Mod) (src inst code : Nat) (value : Bool) : (m.inpEv src inst code value).safe = m.safe := raiseT_safe ..
@[simp] theorem inpEv_gnss (m : Mod) (src inst code : Nat) (value : Bool) : (m.inpEv src inst code value).gnss = m.gnss := raiseT_gnss ..
@[simp] theorem inpEv_fuse (m : Mod) (src inst code : Nat) (value : Bool) : (m.inpEv src inst code value).fuse = m.fuse := raiseT_fuse ..
@[simp] theorem inpEv_clnk (m : Mod) (src inst code : Nat) (value : Bool) : (m.inpEv src inst code value).clnk = m.clnk := raiseT_clnk ..
@[simp] theorem inpEv_pipes (m : Mod) (src inst code : Nat) (value : Bool) : (m.inpEv src inst code value).pipes = m.pipes := raiseT_pipes ..
@[simp] theorem inpEv_vis (m : Mod) (src inst code : Nat) (value : Bool) : (m.inpEv src inst code value).vis = m.vis := raiseT_vis ..
@[simp] theorem inpEv_can (m : Mod) (src inst code : Nat) (value : Bool) : (m.inpEv src inst code value).can = m.can := raiseT_can ..
@[simp] theorem inpEv_eth (m : Mod) (src inst code : Nat) (value : Bool) : (m.inpEv src inst code value).eth = m.eth := raiseT_eth ..
@[simp] theorem inpEv_seg (m : Mod) (src inst code : Nat) (value : Bool) : (m.inpEv src inst code value).seg = m.seg := raiseT_seg ..
@[simp] theorem inpEv_log (m : Mod) (src inst code : Nat) (value : Bool) : (m.inpEv src inst code value).log = m.log := raiseT_log ..
@[simp] theorem inpEv_nvs (m : Mod) (src inst code : Nat) (value : Bool) : (m.inpEv src inst code value).nvs = m.nvs := raiseT_nvs ..
@[simp] theorem inpEv_upd (m : Mod) (src inst code : Nat) (value : Bool) : (m.inpEv src inst code value).upd = m.upd := raiseT_upd ..
@[simp] theorem inpEv_pubs (m : Mod) (src inst code : Nat) (value : Bool) : (m.inpEv src inst code value).pubs = m.pubs := raiseT_pubs ..
@[simp] theorem inpEv_poison (m : Mod) (src inst code : Nat) (value : Bool) : (m.inpEv src inst code value).poison = m.poison := raiseT_poison ..
@[simp] theorem inpEv_bus (m : Mod) (src inst code : Nat) (value : Bool) : (m.inpEv src inst code value).bus = m.bus := raiseT_bus ..

@[simp] theorem laneEv_fresh (m : Mod) (l : Lane) (code : Nat) : (m.laneEv l code).fresh = m.fresh := raiseT_fresh ..
@[simp] theorem laneEv_pwr (m : Mod) (l : Lane) (code : Nat) : (m.laneEv l code).pwr = m.pwr := raiseT_pwr ..
@[simp] theorem laneEv_time (m : Mod) (l : Lane) (code : Nat) : (m.laneEv l code).time = m.time := raiseT_time ..
@[simp] theorem laneEv_lanes (m : Mod) (l : Lane) (code : Nat) : (m.laneEv l code).lanes = m.lanes := raiseT_lanes ..
@[simp] theorem laneEv_stats (m : Mod) (l : Lane) (code : Nat) : (m.laneEv l code).stats = m.stats := raiseT_stats ..
@[simp] theorem laneEv_port (m : Mod) (l : Lane) (code : Nat) : (m.laneEv l code).port = m.port := raiseT_port ..
@[simp] theorem laneEv_cfg (m : Mod) (l : Lane) (code : Nat) : (m.laneEv l code).cfg = m.cfg := raiseT_cfg ..
@[simp] theorem laneEv_sched (m : Mod) (l : Lane) (code : Nat) : (m.laneEv l code).sched = m.sched := raiseT_sched ..
@[simp] theorem laneEv_coeff (m : Mod) (l : Lane) (code : Nat) : (m.laneEv l code).coeff = m.coeff := raiseT_coeff ..
@[simp] theorem laneEv_loop (m : Mod) (l : Lane) (code : Nat) : (m.laneEv l code).loop = m.loop := raiseT_loop ..
@[simp] theorem laneEv_drv (m : Mod) (l : Lane) (code : Nat) : (m.laneEv l code).drv = m.drv := raiseT_drv ..
@[simp] theorem laneEv_inp (m : Mod) (l : Lane) (code : Nat) : (m.laneEv l code).inp = m.inp := raiseT_inp ..
@[simp] theorem laneEv_safe (m : Mod) (l : Lane) (code : Nat) : (m.laneEv l code).safe = m.safe := raiseT_safe ..
@[simp] theorem laneEv_gnss (m : Mod) (l : Lane) (code : Nat) : (m.laneEv l code).gnss = m.gnss := raiseT_gnss ..
@[simp] theorem laneEv_fuse (m : Mod) (l : Lane) (code : Nat) : (m.laneEv l code).fuse = m.fuse := raiseT_fuse ..
@[simp] theorem laneEv_clnk (m : Mod) (l : Lane) (code : Nat) : (m.laneEv l code).clnk = m.clnk := raiseT_clnk ..
@[simp] theorem laneEv_pipes (m : Mod) (l : Lane) (code : Nat) : (m.laneEv l code).pipes = m.pipes := raiseT_pipes ..
@[simp] theorem laneEv_vis (m : Mod) (l : Lane) (code : Nat) : (m.laneEv l code).vis = m.vis := raiseT_vis ..
@[simp] theorem laneEv_can (m : Mod) (l : Lane) (code : Nat) : (m.laneEv l code).can = m.can := raiseT_can ..
@[simp] theorem laneEv_eth (m : Mod) (l : Lane) (code : Nat) : (m.laneEv l code).eth = m.eth := raiseT_eth ..
@[simp] theorem laneEv_seg (m : Mod) (l : Lane) (code : Nat) : (m.laneEv l code).seg = m.seg := raiseT_seg ..
@[simp] theorem laneEv_log (m : Mod) (l : Lane) (code : Nat) : (m.laneEv l code).log = m.log := raiseT_log ..
@[simp] theorem laneEv_nvs (m : Mod) (l : Lane) (code : Nat) : (m.laneEv l code).nvs = m.nvs := raiseT_nvs ..
@[simp] theorem laneEv_upd (m : Mod) (l : Lane) (code : Nat) : (m.laneEv l code).upd = m.upd := raiseT_upd ..
@[simp] theorem laneEv_pubs (m : Mod) (l : Lane) (code : Nat) : (m.laneEv l code).pubs = m.pubs := raiseT_pubs ..
@[simp] theorem laneEv_poison (m : Mod) (l : Lane) (code : Nat) : (m.laneEv l code).poison = m.poison := raiseT_poison ..
@[simp] theorem laneEv_bus (m : Mod) (l : Lane) (code : Nat) : (m.laneEv l code).bus = m.bus := raiseT_bus ..

@[simp] theorem updEv_fresh (m : Mod) (src slot code : Nat) : (m.updEv src slot code).fresh = m.fresh := raiseT_fresh ..
@[simp] theorem updEv_pwr (m : Mod) (src slot code : Nat) : (m.updEv src slot code).pwr = m.pwr := raiseT_pwr ..
@[simp] theorem updEv_time (m : Mod) (src slot code : Nat) : (m.updEv src slot code).time = m.time := raiseT_time ..
@[simp] theorem updEv_lanes (m : Mod) (src slot code : Nat) : (m.updEv src slot code).lanes = m.lanes := raiseT_lanes ..
@[simp] theorem updEv_stats (m : Mod) (src slot code : Nat) : (m.updEv src slot code).stats = m.stats := raiseT_stats ..
@[simp] theorem updEv_port (m : Mod) (src slot code : Nat) : (m.updEv src slot code).port = m.port := raiseT_port ..
@[simp] theorem updEv_cfg (m : Mod) (src slot code : Nat) : (m.updEv src slot code).cfg = m.cfg := raiseT_cfg ..
@[simp] theorem updEv_sched (m : Mod) (src slot code : Nat) : (m.updEv src slot code).sched = m.sched := raiseT_sched ..
@[simp] theorem updEv_coeff (m : Mod) (src slot code : Nat) : (m.updEv src slot code).coeff = m.coeff := raiseT_coeff ..
@[simp] theorem updEv_loop (m : Mod) (src slot code : Nat) : (m.updEv src slot code).loop = m.loop := raiseT_loop ..
@[simp] theorem updEv_drv (m : Mod) (src slot code : Nat) : (m.updEv src slot code).drv = m.drv := raiseT_drv ..
@[simp] theorem updEv_inp (m : Mod) (src slot code : Nat) : (m.updEv src slot code).inp = m.inp := raiseT_inp ..
@[simp] theorem updEv_safe (m : Mod) (src slot code : Nat) : (m.updEv src slot code).safe = m.safe := raiseT_safe ..
@[simp] theorem updEv_gnss (m : Mod) (src slot code : Nat) : (m.updEv src slot code).gnss = m.gnss := raiseT_gnss ..
@[simp] theorem updEv_fuse (m : Mod) (src slot code : Nat) : (m.updEv src slot code).fuse = m.fuse := raiseT_fuse ..
@[simp] theorem updEv_clnk (m : Mod) (src slot code : Nat) : (m.updEv src slot code).clnk = m.clnk := raiseT_clnk ..
@[simp] theorem updEv_pipes (m : Mod) (src slot code : Nat) : (m.updEv src slot code).pipes = m.pipes := raiseT_pipes ..
@[simp] theorem updEv_vis (m : Mod) (src slot code : Nat) : (m.updEv src slot code).vis = m.vis := raiseT_vis ..
@[simp] theorem updEv_can (m : Mod) (src slot code : Nat) : (m.updEv src slot code).can = m.can := raiseT_can ..
@[simp] theorem updEv_eth (m : Mod) (src slot code : Nat) : (m.updEv src slot code).eth = m.eth := raiseT_eth ..
@[simp] theorem updEv_seg (m : Mod) (src slot code : Nat) : (m.updEv src slot code).seg = m.seg := raiseT_seg ..
@[simp] theorem updEv_log (m : Mod) (src slot code : Nat) : (m.updEv src slot code).log = m.log := raiseT_log ..
@[simp] theorem updEv_nvs (m : Mod) (src slot code : Nat) : (m.updEv src slot code).nvs = m.nvs := raiseT_nvs ..
@[simp] theorem updEv_upd (m : Mod) (src slot code : Nat) : (m.updEv src slot code).upd = m.upd := raiseT_upd ..
@[simp] theorem updEv_pubs (m : Mod) (src slot code : Nat) : (m.updEv src slot code).pubs = m.pubs := raiseT_pubs ..
@[simp] theorem updEv_poison (m : Mod) (src slot code : Nat) : (m.updEv src slot code).poison = m.poison := raiseT_poison ..
@[simp] theorem updEv_bus (m : Mod) (src slot code : Nat) : (m.updEv src slot code).bus = m.bus := raiseT_bus ..

@[simp] theorem linkEv_fresh (m : Mod) (k code : Nat) (on : Bool) : (m.linkEv k code on).fresh = m.fresh := raiseT_fresh ..
@[simp] theorem linkEv_pwr (m : Mod) (k code : Nat) (on : Bool) : (m.linkEv k code on).pwr = m.pwr := raiseT_pwr ..
@[simp] theorem linkEv_time (m : Mod) (k code : Nat) (on : Bool) : (m.linkEv k code on).time = m.time := raiseT_time ..
@[simp] theorem linkEv_lanes (m : Mod) (k code : Nat) (on : Bool) : (m.linkEv k code on).lanes = m.lanes := raiseT_lanes ..
@[simp] theorem linkEv_stats (m : Mod) (k code : Nat) (on : Bool) : (m.linkEv k code on).stats = m.stats := raiseT_stats ..
@[simp] theorem linkEv_port (m : Mod) (k code : Nat) (on : Bool) : (m.linkEv k code on).port = m.port := raiseT_port ..
@[simp] theorem linkEv_cfg (m : Mod) (k code : Nat) (on : Bool) : (m.linkEv k code on).cfg = m.cfg := raiseT_cfg ..
@[simp] theorem linkEv_sched (m : Mod) (k code : Nat) (on : Bool) : (m.linkEv k code on).sched = m.sched := raiseT_sched ..
@[simp] theorem linkEv_coeff (m : Mod) (k code : Nat) (on : Bool) : (m.linkEv k code on).coeff = m.coeff := raiseT_coeff ..
@[simp] theorem linkEv_loop (m : Mod) (k code : Nat) (on : Bool) : (m.linkEv k code on).loop = m.loop := raiseT_loop ..
@[simp] theorem linkEv_drv (m : Mod) (k code : Nat) (on : Bool) : (m.linkEv k code on).drv = m.drv := raiseT_drv ..
@[simp] theorem linkEv_inp (m : Mod) (k code : Nat) (on : Bool) : (m.linkEv k code on).inp = m.inp := raiseT_inp ..
@[simp] theorem linkEv_safe (m : Mod) (k code : Nat) (on : Bool) : (m.linkEv k code on).safe = m.safe := raiseT_safe ..
@[simp] theorem linkEv_gnss (m : Mod) (k code : Nat) (on : Bool) : (m.linkEv k code on).gnss = m.gnss := raiseT_gnss ..
@[simp] theorem linkEv_fuse (m : Mod) (k code : Nat) (on : Bool) : (m.linkEv k code on).fuse = m.fuse := raiseT_fuse ..
@[simp] theorem linkEv_clnk (m : Mod) (k code : Nat) (on : Bool) : (m.linkEv k code on).clnk = m.clnk := raiseT_clnk ..
@[simp] theorem linkEv_pipes (m : Mod) (k code : Nat) (on : Bool) : (m.linkEv k code on).pipes = m.pipes := raiseT_pipes ..
@[simp] theorem linkEv_vis (m : Mod) (k code : Nat) (on : Bool) : (m.linkEv k code on).vis = m.vis := raiseT_vis ..
@[simp] theorem linkEv_can (m : Mod) (k code : Nat) (on : Bool) : (m.linkEv k code on).can = m.can := raiseT_can ..
@[simp] theorem linkEv_eth (m : Mod) (k code : Nat) (on : Bool) : (m.linkEv k code on).eth = m.eth := raiseT_eth ..
@[simp] theorem linkEv_seg (m : Mod) (k code : Nat) (on : Bool) : (m.linkEv k code on).seg = m.seg := raiseT_seg ..
@[simp] theorem linkEv_log (m : Mod) (k code : Nat) (on : Bool) : (m.linkEv k code on).log = m.log := raiseT_log ..
@[simp] theorem linkEv_nvs (m : Mod) (k code : Nat) (on : Bool) : (m.linkEv k code on).nvs = m.nvs := raiseT_nvs ..
@[simp] theorem linkEv_upd (m : Mod) (k code : Nat) (on : Bool) : (m.linkEv k code on).upd = m.upd := raiseT_upd ..
@[simp] theorem linkEv_pubs (m : Mod) (k code : Nat) (on : Bool) : (m.linkEv k code on).pubs = m.pubs := raiseT_pubs ..
@[simp] theorem linkEv_poison (m : Mod) (k code : Nat) (on : Bool) : (m.linkEv k code on).poison = m.poison := raiseT_poison ..
@[simp] theorem linkEv_bus (m : Mod) (k code : Nat) (on : Bool) : (m.linkEv k code on).bus = m.bus := raiseT_bus ..

@[simp] theorem drvEv_fresh (m : Mod) (i code : Nat) (value : Bool) : (m.drvEv i code value).fresh = m.fresh := raiseT_fresh ..
@[simp] theorem drvEv_pwr (m : Mod) (i code : Nat) (value : Bool) : (m.drvEv i code value).pwr = m.pwr := raiseT_pwr ..
@[simp] theorem drvEv_time (m : Mod) (i code : Nat) (value : Bool) : (m.drvEv i code value).time = m.time := raiseT_time ..
@[simp] theorem drvEv_lanes (m : Mod) (i code : Nat) (value : Bool) : (m.drvEv i code value).lanes = m.lanes := raiseT_lanes ..
@[simp] theorem drvEv_stats (m : Mod) (i code : Nat) (value : Bool) : (m.drvEv i code value).stats = m.stats := raiseT_stats ..
@[simp] theorem drvEv_port (m : Mod) (i code : Nat) (value : Bool) : (m.drvEv i code value).port = m.port := raiseT_port ..
@[simp] theorem drvEv_cfg (m : Mod) (i code : Nat) (value : Bool) : (m.drvEv i code value).cfg = m.cfg := raiseT_cfg ..
@[simp] theorem drvEv_sched (m : Mod) (i code : Nat) (value : Bool) : (m.drvEv i code value).sched = m.sched := raiseT_sched ..
@[simp] theorem drvEv_coeff (m : Mod) (i code : Nat) (value : Bool) : (m.drvEv i code value).coeff = m.coeff := raiseT_coeff ..
@[simp] theorem drvEv_loop (m : Mod) (i code : Nat) (value : Bool) : (m.drvEv i code value).loop = m.loop := raiseT_loop ..
@[simp] theorem drvEv_drv (m : Mod) (i code : Nat) (value : Bool) : (m.drvEv i code value).drv = m.drv := raiseT_drv ..
@[simp] theorem drvEv_inp (m : Mod) (i code : Nat) (value : Bool) : (m.drvEv i code value).inp = m.inp := raiseT_inp ..
@[simp] theorem drvEv_safe (m : Mod) (i code : Nat) (value : Bool) : (m.drvEv i code value).safe = m.safe := raiseT_safe ..
@[simp] theorem drvEv_gnss (m : Mod) (i code : Nat) (value : Bool) : (m.drvEv i code value).gnss = m.gnss := raiseT_gnss ..
@[simp] theorem drvEv_fuse (m : Mod) (i code : Nat) (value : Bool) : (m.drvEv i code value).fuse = m.fuse := raiseT_fuse ..
@[simp] theorem drvEv_clnk (m : Mod) (i code : Nat) (value : Bool) : (m.drvEv i code value).clnk = m.clnk := raiseT_clnk ..
@[simp] theorem drvEv_pipes (m : Mod) (i code : Nat) (value : Bool) : (m.drvEv i code value).pipes = m.pipes := raiseT_pipes ..
@[simp] theorem drvEv_vis (m : Mod) (i code : Nat) (value : Bool) : (m.drvEv i code value).vis = m.vis := raiseT_vis ..
@[simp] theorem drvEv_can (m : Mod) (i code : Nat) (value : Bool) : (m.drvEv i code value).can = m.can := raiseT_can ..
@[simp] theorem drvEv_eth (m : Mod) (i code : Nat) (value : Bool) : (m.drvEv i code value).eth = m.eth := raiseT_eth ..
@[simp] theorem drvEv_seg (m : Mod) (i code : Nat) (value : Bool) : (m.drvEv i code value).seg = m.seg := raiseT_seg ..
@[simp] theorem drvEv_log (m : Mod) (i code : Nat) (value : Bool) : (m.drvEv i code value).log = m.log := raiseT_log ..
@[simp] theorem drvEv_nvs (m : Mod) (i code : Nat) (value : Bool) : (m.drvEv i code value).nvs = m.nvs := raiseT_nvs ..
@[simp] theorem drvEv_upd (m : Mod) (i code : Nat) (value : Bool) : (m.drvEv i code value).upd = m.upd := raiseT_upd ..
@[simp] theorem drvEv_pubs (m : Mod) (i code : Nat) (value : Bool) : (m.drvEv i code value).pubs = m.pubs := raiseT_pubs ..
@[simp] theorem drvEv_poison (m : Mod) (i code : Nat) (value : Bool) : (m.drvEv i code value).poison = m.poison := raiseT_poison ..
@[simp] theorem drvEv_bus (m : Mod) (i code : Nat) (value : Bool) : (m.drvEv i code value).bus = m.bus := raiseT_bus ..

@[simp] theorem clampEv_fresh (m : Mod) (i code : Nat) (value : Bool) : (m.clampEv i code value).fresh = m.fresh := raiseT_fresh ..
@[simp] theorem clampEv_pwr (m : Mod) (i code : Nat) (value : Bool) : (m.clampEv i code value).pwr = m.pwr := raiseT_pwr ..
@[simp] theorem clampEv_time (m : Mod) (i code : Nat) (value : Bool) : (m.clampEv i code value).time = m.time := raiseT_time ..
@[simp] theorem clampEv_lanes (m : Mod) (i code : Nat) (value : Bool) : (m.clampEv i code value).lanes = m.lanes := raiseT_lanes ..
@[simp] theorem clampEv_stats (m : Mod) (i code : Nat) (value : Bool) : (m.clampEv i code value).stats = m.stats := raiseT_stats ..
@[simp] theorem clampEv_port (m : Mod) (i code : Nat) (value : Bool) : (m.clampEv i code value).port = m.port := raiseT_port ..
@[simp] theorem clampEv_cfg (m : Mod) (i code : Nat) (value : Bool) : (m.clampEv i code value).cfg = m.cfg := raiseT_cfg ..
@[simp] theorem clampEv_sched (m : Mod) (i code : Nat) (value : Bool) : (m.clampEv i code value).sched = m.sched := raiseT_sched ..
@[simp] theorem clampEv_coeff (m : Mod) (i code : Nat) (value : Bool) : (m.clampEv i code value).coeff = m.coeff := raiseT_coeff ..
@[simp] theorem clampEv_loop (m : Mod) (i code : Nat) (value : Bool) : (m.clampEv i code value).loop = m.loop := raiseT_loop ..
@[simp] theorem clampEv_drv (m : Mod) (i code : Nat) (value : Bool) : (m.clampEv i code value).drv = m.drv := raiseT_drv ..
@[simp] theorem clampEv_inp (m : Mod) (i code : Nat) (value : Bool) : (m.clampEv i code value).inp = m.inp := raiseT_inp ..
@[simp] theorem clampEv_safe (m : Mod) (i code : Nat) (value : Bool) : (m.clampEv i code value).safe = m.safe := raiseT_safe ..
@[simp] theorem clampEv_gnss (m : Mod) (i code : Nat) (value : Bool) : (m.clampEv i code value).gnss = m.gnss := raiseT_gnss ..
@[simp] theorem clampEv_fuse (m : Mod) (i code : Nat) (value : Bool) : (m.clampEv i code value).fuse = m.fuse := raiseT_fuse ..
@[simp] theorem clampEv_clnk (m : Mod) (i code : Nat) (value : Bool) : (m.clampEv i code value).clnk = m.clnk := raiseT_clnk ..
@[simp] theorem clampEv_pipes (m : Mod) (i code : Nat) (value : Bool) : (m.clampEv i code value).pipes = m.pipes := raiseT_pipes ..
@[simp] theorem clampEv_vis (m : Mod) (i code : Nat) (value : Bool) : (m.clampEv i code value).vis = m.vis := raiseT_vis ..
@[simp] theorem clampEv_can (m : Mod) (i code : Nat) (value : Bool) : (m.clampEv i code value).can = m.can := raiseT_can ..
@[simp] theorem clampEv_eth (m : Mod) (i code : Nat) (value : Bool) : (m.clampEv i code value).eth = m.eth := raiseT_eth ..
@[simp] theorem clampEv_seg (m : Mod) (i code : Nat) (value : Bool) : (m.clampEv i code value).seg = m.seg := raiseT_seg ..
@[simp] theorem clampEv_log (m : Mod) (i code : Nat) (value : Bool) : (m.clampEv i code value).log = m.log := raiseT_log ..
@[simp] theorem clampEv_nvs (m : Mod) (i code : Nat) (value : Bool) : (m.clampEv i code value).nvs = m.nvs := raiseT_nvs ..
@[simp] theorem clampEv_upd (m : Mod) (i code : Nat) (value : Bool) : (m.clampEv i code value).upd = m.upd := raiseT_upd ..
@[simp] theorem clampEv_pubs (m : Mod) (i code : Nat) (value : Bool) : (m.clampEv i code value).pubs = m.pubs := raiseT_pubs ..
@[simp] theorem clampEv_poison (m : Mod) (i code : Nat) (value : Bool) : (m.clampEv i code value).poison = m.poison := raiseT_poison ..
@[simp] theorem clampEv_bus (m : Mod) (i code : Nat) (value : Bool) : (m.clampEv i code value).bus = m.bus := raiseT_bus ..

@[simp] theorem antEv_fresh (m : Mod) (k code : Nat) (on : Bool) : (m.antEv k code on).fresh = m.fresh := raiseT_fresh ..
@[simp] theorem antEv_pwr (m : Mod) (k code : Nat) (on : Bool) : (m.antEv k code on).pwr = m.pwr := raiseT_pwr ..
@[simp] theorem antEv_time (m : Mod) (k code : Nat) (on : Bool) : (m.antEv k code on).time = m.time := raiseT_time ..
@[simp] theorem antEv_lanes (m : Mod) (k code : Nat) (on : Bool) : (m.antEv k code on).lanes = m.lanes := raiseT_lanes ..
@[simp] theorem antEv_stats (m : Mod) (k code : Nat) (on : Bool) : (m.antEv k code on).stats = m.stats := raiseT_stats ..
@[simp] theorem antEv_port (m : Mod) (k code : Nat) (on : Bool) : (m.antEv k code on).port = m.port := raiseT_port ..
@[simp] theorem antEv_cfg (m : Mod) (k code : Nat) (on : Bool) : (m.antEv k code on).cfg = m.cfg := raiseT_cfg ..
@[simp] theorem antEv_sched (m : Mod) (k code : Nat) (on : Bool) : (m.antEv k code on).sched = m.sched := raiseT_sched ..
@[simp] theorem antEv_coeff (m : Mod) (k code : Nat) (on : Bool) : (m.antEv k code on).coeff = m.coeff := raiseT_coeff ..
@[simp] theorem antEv_loop (m : Mod) (k code : Nat) (on : Bool) : (m.antEv k code on).loop = m.loop := raiseT_loop ..
@[simp] theorem antEv_drv (m : Mod) (k code : Nat) (on : Bool) : (m.antEv k code on).drv = m.drv := raiseT_drv ..
@[simp] theorem antEv_inp (m : Mod) (k code : Nat) (on : Bool) : (m.antEv k code on).inp = m.inp := raiseT_inp ..
@[simp] theorem antEv_safe (m : Mod) (k code : Nat) (on : Bool) : (m.antEv k code on).safe = m.safe := raiseT_safe ..
@[simp] theorem antEv_gnss (m : Mod) (k code : Nat) (on : Bool) : (m.antEv k code on).gnss = m.gnss := raiseT_gnss ..
@[simp] theorem antEv_fuse (m : Mod) (k code : Nat) (on : Bool) : (m.antEv k code on).fuse = m.fuse := raiseT_fuse ..
@[simp] theorem antEv_clnk (m : Mod) (k code : Nat) (on : Bool) : (m.antEv k code on).clnk = m.clnk := raiseT_clnk ..
@[simp] theorem antEv_pipes (m : Mod) (k code : Nat) (on : Bool) : (m.antEv k code on).pipes = m.pipes := raiseT_pipes ..
@[simp] theorem antEv_vis (m : Mod) (k code : Nat) (on : Bool) : (m.antEv k code on).vis = m.vis := raiseT_vis ..
@[simp] theorem antEv_can (m : Mod) (k code : Nat) (on : Bool) : (m.antEv k code on).can = m.can := raiseT_can ..
@[simp] theorem antEv_eth (m : Mod) (k code : Nat) (on : Bool) : (m.antEv k code on).eth = m.eth := raiseT_eth ..
@[simp] theorem antEv_seg (m : Mod) (k code : Nat) (on : Bool) : (m.antEv k code on).seg = m.seg := raiseT_seg ..
@[simp] theorem antEv_log (m : Mod) (k code : Nat) (on : Bool) : (m.antEv k code on).log = m.log := raiseT_log ..
@[simp] theorem antEv_nvs (m : Mod) (k code : Nat) (on : Bool) : (m.antEv k code on).nvs = m.nvs := raiseT_nvs ..
@[simp] theorem antEv_upd (m : Mod) (k code : Nat) (on : Bool) : (m.antEv k code on).upd = m.upd := raiseT_upd ..
@[simp] theorem antEv_pubs (m : Mod) (k code : Nat) (on : Bool) : (m.antEv k code on).pubs = m.pubs := raiseT_pubs ..
@[simp] theorem antEv_poison (m : Mod) (k code : Nat) (on : Bool) : (m.antEv k code on).poison = m.poison := raiseT_poison ..
@[simp] theorem antEv_bus (m : Mod) (k code : Nat) (on : Bool) : (m.antEv k code on).bus = m.bus := raiseT_bus ..

@[simp] theorem corrEv_fresh (m : Mod) (code : Nat) (on : Bool) : (m.corrEv code on).fresh = m.fresh := raiseT_fresh ..
@[simp] theorem corrEv_pwr (m : Mod) (code : Nat) (on : Bool) : (m.corrEv code on).pwr = m.pwr := raiseT_pwr ..
@[simp] theorem corrEv_time (m : Mod) (code : Nat) (on : Bool) : (m.corrEv code on).time = m.time := raiseT_time ..
@[simp] theorem corrEv_lanes (m : Mod) (code : Nat) (on : Bool) : (m.corrEv code on).lanes = m.lanes := raiseT_lanes ..
@[simp] theorem corrEv_stats (m : Mod) (code : Nat) (on : Bool) : (m.corrEv code on).stats = m.stats := raiseT_stats ..
@[simp] theorem corrEv_port (m : Mod) (code : Nat) (on : Bool) : (m.corrEv code on).port = m.port := raiseT_port ..
@[simp] theorem corrEv_cfg (m : Mod) (code : Nat) (on : Bool) : (m.corrEv code on).cfg = m.cfg := raiseT_cfg ..
@[simp] theorem corrEv_sched (m : Mod) (code : Nat) (on : Bool) : (m.corrEv code on).sched = m.sched := raiseT_sched ..
@[simp] theorem corrEv_coeff (m : Mod) (code : Nat) (on : Bool) : (m.corrEv code on).coeff = m.coeff := raiseT_coeff ..
@[simp] theorem corrEv_loop (m : Mod) (code : Nat) (on : Bool) : (m.corrEv code on).loop = m.loop := raiseT_loop ..
@[simp] theorem corrEv_drv (m : Mod) (code : Nat) (on : Bool) : (m.corrEv code on).drv = m.drv := raiseT_drv ..
@[simp] theorem corrEv_inp (m : Mod) (code : Nat) (on : Bool) : (m.corrEv code on).inp = m.inp := raiseT_inp ..
@[simp] theorem corrEv_safe (m : Mod) (code : Nat) (on : Bool) : (m.corrEv code on).safe = m.safe := raiseT_safe ..
@[simp] theorem corrEv_gnss (m : Mod) (code : Nat) (on : Bool) : (m.corrEv code on).gnss = m.gnss := raiseT_gnss ..
@[simp] theorem corrEv_fuse (m : Mod) (code : Nat) (on : Bool) : (m.corrEv code on).fuse = m.fuse := raiseT_fuse ..
@[simp] theorem corrEv_clnk (m : Mod) (code : Nat) (on : Bool) : (m.corrEv code on).clnk = m.clnk := raiseT_clnk ..
@[simp] theorem corrEv_pipes (m : Mod) (code : Nat) (on : Bool) : (m.corrEv code on).pipes = m.pipes := raiseT_pipes ..
@[simp] theorem corrEv_vis (m : Mod) (code : Nat) (on : Bool) : (m.corrEv code on).vis = m.vis := raiseT_vis ..
@[simp] theorem corrEv_can (m : Mod) (code : Nat) (on : Bool) : (m.corrEv code on).can = m.can := raiseT_can ..
@[simp] theorem corrEv_eth (m : Mod) (code : Nat) (on : Bool) : (m.corrEv code on).eth = m.eth := raiseT_eth ..
@[simp] theorem corrEv_seg (m : Mod) (code : Nat) (on : Bool) : (m.corrEv code on).seg = m.seg := raiseT_seg ..
@[simp] theorem corrEv_log (m : Mod) (code : Nat) (on : Bool) : (m.corrEv code on).log = m.log := raiseT_log ..
@[simp] theorem corrEv_nvs (m : Mod) (code : Nat) (on : Bool) : (m.corrEv code on).nvs = m.nvs := raiseT_nvs ..
@[simp] theorem corrEv_upd (m : Mod) (code : Nat) (on : Bool) : (m.corrEv code on).upd = m.upd := raiseT_upd ..
@[simp] theorem corrEv_pubs (m : Mod) (code : Nat) (on : Bool) : (m.corrEv code on).pubs = m.pubs := raiseT_pubs ..
@[simp] theorem corrEv_poison (m : Mod) (code : Nat) (on : Bool) : (m.corrEv code on).poison = m.poison := raiseT_poison ..
@[simp] theorem corrEv_bus (m : Mod) (code : Nat) (on : Bool) : (m.corrEv code on).bus = m.bus := raiseT_bus ..

@[simp] theorem canRxEv_fresh (m : Mod) (ch code : Nat) : (m.canRxEv ch code).fresh = m.fresh := raiseT_fresh ..
@[simp] theorem canRxEv_pwr (m : Mod) (ch code : Nat) : (m.canRxEv ch code).pwr = m.pwr := raiseT_pwr ..
@[simp] theorem canRxEv_time (m : Mod) (ch code : Nat) : (m.canRxEv ch code).time = m.time := raiseT_time ..
@[simp] theorem canRxEv_lanes (m : Mod) (ch code : Nat) : (m.canRxEv ch code).lanes = m.lanes := raiseT_lanes ..
@[simp] theorem canRxEv_stats (m : Mod) (ch code : Nat) : (m.canRxEv ch code).stats = m.stats := raiseT_stats ..
@[simp] theorem canRxEv_port (m : Mod) (ch code : Nat) : (m.canRxEv ch code).port = m.port := raiseT_port ..
@[simp] theorem canRxEv_cfg (m : Mod) (ch code : Nat) : (m.canRxEv ch code).cfg = m.cfg := raiseT_cfg ..
@[simp] theorem canRxEv_sched (m : Mod) (ch code : Nat) : (m.canRxEv ch code).sched = m.sched := raiseT_sched ..
@[simp] theorem canRxEv_coeff (m : Mod) (ch code : Nat) : (m.canRxEv ch code).coeff = m.coeff := raiseT_coeff ..
@[simp] theorem canRxEv_loop (m : Mod) (ch code : Nat) : (m.canRxEv ch code).loop = m.loop := raiseT_loop ..
@[simp] theorem canRxEv_drv (m : Mod) (ch code : Nat) : (m.canRxEv ch code).drv = m.drv := raiseT_drv ..
@[simp] theorem canRxEv_inp (m : Mod) (ch code : Nat) : (m.canRxEv ch code).inp = m.inp := raiseT_inp ..
@[simp] theorem canRxEv_safe (m : Mod) (ch code : Nat) : (m.canRxEv ch code).safe = m.safe := raiseT_safe ..
@[simp] theorem canRxEv_gnss (m : Mod) (ch code : Nat) : (m.canRxEv ch code).gnss = m.gnss := raiseT_gnss ..
@[simp] theorem canRxEv_fuse (m : Mod) (ch code : Nat) : (m.canRxEv ch code).fuse = m.fuse := raiseT_fuse ..
@[simp] theorem canRxEv_clnk (m : Mod) (ch code : Nat) : (m.canRxEv ch code).clnk = m.clnk := raiseT_clnk ..
@[simp] theorem canRxEv_pipes (m : Mod) (ch code : Nat) : (m.canRxEv ch code).pipes = m.pipes := raiseT_pipes ..
@[simp] theorem canRxEv_vis (m : Mod) (ch code : Nat) : (m.canRxEv ch code).vis = m.vis := raiseT_vis ..
@[simp] theorem canRxEv_can (m : Mod) (ch code : Nat) : (m.canRxEv ch code).can = m.can := raiseT_can ..
@[simp] theorem canRxEv_eth (m : Mod) (ch code : Nat) : (m.canRxEv ch code).eth = m.eth := raiseT_eth ..
@[simp] theorem canRxEv_seg (m : Mod) (ch code : Nat) : (m.canRxEv ch code).seg = m.seg := raiseT_seg ..
@[simp] theorem canRxEv_log (m : Mod) (ch code : Nat) : (m.canRxEv ch code).log = m.log := raiseT_log ..
@[simp] theorem canRxEv_nvs (m : Mod) (ch code : Nat) : (m.canRxEv ch code).nvs = m.nvs := raiseT_nvs ..
@[simp] theorem canRxEv_upd (m : Mod) (ch code : Nat) : (m.canRxEv ch code).upd = m.upd := raiseT_upd ..
@[simp] theorem canRxEv_pubs (m : Mod) (ch code : Nat) : (m.canRxEv ch code).pubs = m.pubs := raiseT_pubs ..
@[simp] theorem canRxEv_poison (m : Mod) (ch code : Nat) : (m.canRxEv ch code).poison = m.poison := raiseT_poison ..
@[simp] theorem canRxEv_bus (m : Mod) (ch code : Nat) : (m.canRxEv ch code).bus = m.bus := raiseT_bus ..

@[simp] theorem canStEv_fresh (m : Mod) (ch code : Nat) (value : Bool) : (m.canStEv ch code value).fresh = m.fresh := raiseT_fresh ..
@[simp] theorem canStEv_pwr (m : Mod) (ch code : Nat) (value : Bool) : (m.canStEv ch code value).pwr = m.pwr := raiseT_pwr ..
@[simp] theorem canStEv_time (m : Mod) (ch code : Nat) (value : Bool) : (m.canStEv ch code value).time = m.time := raiseT_time ..
@[simp] theorem canStEv_lanes (m : Mod) (ch code : Nat) (value : Bool) : (m.canStEv ch code value).lanes = m.lanes := raiseT_lanes ..
@[simp] theorem canStEv_stats (m : Mod) (ch code : Nat) (value : Bool) : (m.canStEv ch code value).stats = m.stats := raiseT_stats ..
@[simp] theorem canStEv_port (m : Mod) (ch code : Nat) (value : Bool) : (m.canStEv ch code value).port = m.port := raiseT_port ..
@[simp] theorem canStEv_cfg (m : Mod) (ch code : Nat) (value : Bool) : (m.canStEv ch code value).cfg = m.cfg := raiseT_cfg ..
@[simp] theorem canStEv_sched (m : Mod) (ch code : Nat) (value : Bool) : (m.canStEv ch code value).sched = m.sched := raiseT_sched ..
@[simp] theorem canStEv_coeff (m : Mod) (ch code : Nat) (value : Bool) : (m.canStEv ch code value).coeff = m.coeff := raiseT_coeff ..
@[simp] theorem canStEv_loop (m : Mod) (ch code : Nat) (value : Bool) : (m.canStEv ch code value).loop = m.loop := raiseT_loop ..
@[simp] theorem canStEv_drv (m : Mod) (ch code : Nat) (value : Bool) : (m.canStEv ch code value).drv = m.drv := raiseT_drv ..
@[simp] theorem canStEv_inp (m : Mod) (ch code : Nat) (value : Bool) : (m.canStEv ch code value).inp = m.inp := raiseT_inp ..
@[simp] theorem canStEv_safe (m : Mod) (ch code : Nat) (value : Bool) : (m.canStEv ch code value).safe = m.safe := raiseT_safe ..
@[simp] theorem canStEv_gnss (m : Mod) (ch code : Nat) (value : Bool) : (m.canStEv ch code value).gnss = m.gnss := raiseT_gnss ..
@[simp] theorem canStEv_fuse (m : Mod) (ch code : Nat) (value : Bool) : (m.canStEv ch code value).fuse = m.fuse := raiseT_fuse ..
@[simp] theorem canStEv_clnk (m : Mod) (ch code : Nat) (value : Bool) : (m.canStEv ch code value).clnk = m.clnk := raiseT_clnk ..
@[simp] theorem canStEv_pipes (m : Mod) (ch code : Nat) (value : Bool) : (m.canStEv ch code value).pipes = m.pipes := raiseT_pipes ..
@[simp] theorem canStEv_vis (m : Mod) (ch code : Nat) (value : Bool) : (m.canStEv ch code value).vis = m.vis := raiseT_vis ..
@[simp] theorem canStEv_can (m : Mod) (ch code : Nat) (value : Bool) : (m.canStEv ch code value).can = m.can := raiseT_can ..
@[simp] theorem canStEv_eth (m : Mod) (ch code : Nat) (value : Bool) : (m.canStEv ch code value).eth = m.eth := raiseT_eth ..
@[simp] theorem canStEv_seg (m : Mod) (ch code : Nat) (value : Bool) : (m.canStEv ch code value).seg = m.seg := raiseT_seg ..
@[simp] theorem canStEv_log (m : Mod) (ch code : Nat) (value : Bool) : (m.canStEv ch code value).log = m.log := raiseT_log ..
@[simp] theorem canStEv_nvs (m : Mod) (ch code : Nat) (value : Bool) : (m.canStEv ch code value).nvs = m.nvs := raiseT_nvs ..
@[simp] theorem canStEv_upd (m : Mod) (ch code : Nat) (value : Bool) : (m.canStEv ch code value).upd = m.upd := raiseT_upd ..
@[simp] theorem canStEv_pubs (m : Mod) (ch code : Nat) (value : Bool) : (m.canStEv ch code value).pubs = m.pubs := raiseT_pubs ..
@[simp] theorem canStEv_poison (m : Mod) (ch code : Nat) (value : Bool) : (m.canStEv ch code value).poison = m.poison := raiseT_poison ..
@[simp] theorem canStEv_bus (m : Mod) (ch code : Nat) (value : Bool) : (m.canStEv ch code value).bus = m.bus := raiseT_bus ..

@[simp] theorem gptpEv_fresh (m : Mod) (code : Nat) (on : Bool) : (m.gptpEv code on).fresh = m.fresh := raiseT_fresh ..
@[simp] theorem gptpEv_pwr (m : Mod) (code : Nat) (on : Bool) : (m.gptpEv code on).pwr = m.pwr := raiseT_pwr ..
@[simp] theorem gptpEv_time (m : Mod) (code : Nat) (on : Bool) : (m.gptpEv code on).time = m.time := raiseT_time ..
@[simp] theorem gptpEv_lanes (m : Mod) (code : Nat) (on : Bool) : (m.gptpEv code on).lanes = m.lanes := raiseT_lanes ..
@[simp] theorem gptpEv_stats (m : Mod) (code : Nat) (on : Bool) : (m.gptpEv code on).stats = m.stats := raiseT_stats ..
@[simp] theorem gptpEv_port (m : Mod) (code : Nat) (on : Bool) : (m.gptpEv code on).port = m.port := raiseT_port ..
@[simp] theorem gptpEv_cfg (m : Mod) (code : Nat) (on : Bool) : (m.gptpEv code on).cfg = m.cfg := raiseT_cfg ..
@[simp] theorem gptpEv_sched (m : Mod) (code : Nat) (on : Bool) : (m.gptpEv code on).sched = m.sched := raiseT_sched ..
@[simp] theorem gptpEv_coeff (m : Mod) (code : Nat) (on : Bool) : (m.gptpEv code on).coeff = m.coeff := raiseT_coeff ..
@[simp] theorem gptpEv_loop (m : Mod) (code : Nat) (on : Bool) : (m.gptpEv code on).loop = m.loop := raiseT_loop ..
@[simp] theorem gptpEv_drv (m : Mod) (code : Nat) (on : Bool) : (m.gptpEv code on).drv = m.drv := raiseT_drv ..
@[simp] theorem gptpEv_inp (m : Mod) (code : Nat) (on : Bool) : (m.gptpEv code on).inp = m.inp := raiseT_inp ..
@[simp] theorem gptpEv_safe (m : Mod) (code : Nat) (on : Bool) : (m.gptpEv code on).safe = m.safe := raiseT_safe ..
@[simp] theorem gptpEv_gnss (m : Mod) (code : Nat) (on : Bool) : (m.gptpEv code on).gnss = m.gnss := raiseT_gnss ..
@[simp] theorem gptpEv_fuse (m : Mod) (code : Nat) (on : Bool) : (m.gptpEv code on).fuse = m.fuse := raiseT_fuse ..
@[simp] theorem gptpEv_clnk (m : Mod) (code : Nat) (on : Bool) : (m.gptpEv code on).clnk = m.clnk := raiseT_clnk ..
@[simp] theorem gptpEv_pipes (m : Mod) (code : Nat) (on : Bool) : (m.gptpEv code on).pipes = m.pipes := raiseT_pipes ..
@[simp] theorem gptpEv_vis (m : Mod) (code : Nat) (on : Bool) : (m.gptpEv code on).vis = m.vis := raiseT_vis ..
@[simp] theorem gptpEv_can (m : Mod) (code : Nat) (on : Bool) : (m.gptpEv code on).can = m.can := raiseT_can ..
@[simp] theorem gptpEv_eth (m : Mod) (code : Nat) (on : Bool) : (m.gptpEv code on).eth = m.eth := raiseT_eth ..
@[simp] theorem gptpEv_seg (m : Mod) (code : Nat) (on : Bool) : (m.gptpEv code on).seg = m.seg := raiseT_seg ..
@[simp] theorem gptpEv_log (m : Mod) (code : Nat) (on : Bool) : (m.gptpEv code on).log = m.log := raiseT_log ..
@[simp] theorem gptpEv_nvs (m : Mod) (code : Nat) (on : Bool) : (m.gptpEv code on).nvs = m.nvs := raiseT_nvs ..
@[simp] theorem gptpEv_upd (m : Mod) (code : Nat) (on : Bool) : (m.gptpEv code on).upd = m.upd := raiseT_upd ..
@[simp] theorem gptpEv_pubs (m : Mod) (code : Nat) (on : Bool) : (m.gptpEv code on).pubs = m.pubs := raiseT_pubs ..
@[simp] theorem gptpEv_poison (m : Mod) (code : Nat) (on : Bool) : (m.gptpEv code on).poison = m.poison := raiseT_poison ..
@[simp] theorem gptpEv_bus (m : Mod) (code : Nat) (on : Bool) : (m.gptpEv code on).bus = m.bus := raiseT_bus ..

@[simp] theorem logStateEv_fresh (m : Mod) (on : Bool) : (m.logStateEv on).fresh = m.fresh := raiseT_fresh ..
@[simp] theorem logStateEv_pwr (m : Mod) (on : Bool) : (m.logStateEv on).pwr = m.pwr := raiseT_pwr ..
@[simp] theorem logStateEv_time (m : Mod) (on : Bool) : (m.logStateEv on).time = m.time := raiseT_time ..
@[simp] theorem logStateEv_lanes (m : Mod) (on : Bool) : (m.logStateEv on).lanes = m.lanes := raiseT_lanes ..
@[simp] theorem logStateEv_stats (m : Mod) (on : Bool) : (m.logStateEv on).stats = m.stats := raiseT_stats ..
@[simp] theorem logStateEv_port (m : Mod) (on : Bool) : (m.logStateEv on).port = m.port := raiseT_port ..
@[simp] theorem logStateEv_cfg (m : Mod) (on : Bool) : (m.logStateEv on).cfg = m.cfg := raiseT_cfg ..
@[simp] theorem logStateEv_sched (m : Mod) (on : Bool) : (m.logStateEv on).sched = m.sched := raiseT_sched ..
@[simp] theorem logStateEv_coeff (m : Mod) (on : Bool) : (m.logStateEv on).coeff = m.coeff := raiseT_coeff ..
@[simp] theorem logStateEv_loop (m : Mod) (on : Bool) : (m.logStateEv on).loop = m.loop := raiseT_loop ..
@[simp] theorem logStateEv_drv (m : Mod) (on : Bool) : (m.logStateEv on).drv = m.drv := raiseT_drv ..
@[simp] theorem logStateEv_inp (m : Mod) (on : Bool) : (m.logStateEv on).inp = m.inp := raiseT_inp ..
@[simp] theorem logStateEv_safe (m : Mod) (on : Bool) : (m.logStateEv on).safe = m.safe := raiseT_safe ..
@[simp] theorem logStateEv_gnss (m : Mod) (on : Bool) : (m.logStateEv on).gnss = m.gnss := raiseT_gnss ..
@[simp] theorem logStateEv_fuse (m : Mod) (on : Bool) : (m.logStateEv on).fuse = m.fuse := raiseT_fuse ..
@[simp] theorem logStateEv_clnk (m : Mod) (on : Bool) : (m.logStateEv on).clnk = m.clnk := raiseT_clnk ..
@[simp] theorem logStateEv_pipes (m : Mod) (on : Bool) : (m.logStateEv on).pipes = m.pipes := raiseT_pipes ..
@[simp] theorem logStateEv_vis (m : Mod) (on : Bool) : (m.logStateEv on).vis = m.vis := raiseT_vis ..
@[simp] theorem logStateEv_can (m : Mod) (on : Bool) : (m.logStateEv on).can = m.can := raiseT_can ..
@[simp] theorem logStateEv_eth (m : Mod) (on : Bool) : (m.logStateEv on).eth = m.eth := raiseT_eth ..
@[simp] theorem logStateEv_seg (m : Mod) (on : Bool) : (m.logStateEv on).seg = m.seg := raiseT_seg ..
@[simp] theorem logStateEv_log (m : Mod) (on : Bool) : (m.logStateEv on).log = m.log := raiseT_log ..
@[simp] theorem logStateEv_nvs (m : Mod) (on : Bool) : (m.logStateEv on).nvs = m.nvs := raiseT_nvs ..
@[simp] theorem logStateEv_upd (m : Mod) (on : Bool) : (m.logStateEv on).upd = m.upd := raiseT_upd ..
@[simp] theorem logStateEv_pubs (m : Mod) (on : Bool) : (m.logStateEv on).pubs = m.pubs := raiseT_pubs ..
@[simp] theorem logStateEv_poison (m : Mod) (on : Bool) : (m.logStateEv on).poison = m.poison := raiseT_poison ..
@[simp] theorem logStateEv_bus (m : Mod) (on : Bool) : (m.logStateEv on).bus = m.bus := raiseT_bus ..

end Sys2Proof.Machine
end

