-- ==== Sys2Proof/Laws/Port.lean ====
section
/-! SUPPORT. What completing a command, ending one in flight and settling the fences can change: the Command Port and,
where the packet asks for an event, the event fabric (R91, R95, R100); a line written over is poisoned no more (R27). -/

namespace Sys2Proof.Machine

open Sys2Proof

/-- `n` is `m` but for the Command Port, the event fabric and the poisoned lines. -/
def PortOnly (m n : Mod) : Prop := ∃ p e q, n = { m with port := p, evt := e, poison := q }

theorem PortOnly.refl (m : Mod) : PortOnly m m := ⟨m.port, m.evt, m.poison, rfl⟩

theorem PortOnly.trans {a b c : Mod} (h : PortOnly a b) (k : PortOnly b c) : PortOnly a c := by
  obtain ⟨p, e, q, rfl⟩ := h
  obtain ⟨p', e', q', rfl⟩ := k
  exact ⟨p', e', q', rfl⟩


/-- A part of the module that none of the three is keeps its value. -/
theorem PortOnly.keeps {α : Type} {m n : Mod} (h : PortOnly m n) (part : Mod → α)
    (free : ∀ p e q, part { m with port := p, evt := e, poison := q } = part m) : part n = part m := by
  obtain ⟨p, e, q, rfl⟩ := h
  exact free p e q

theorem portOnly_setRing (m : Mod) (r : Nat) (x : Ring) : PortOnly m (m.setRing r x) := ⟨_, m.evt, m.poison, rfl⟩

/-- Lines written over lose their poison and nothing else changes. -/
theorem portOnly_cleanse (m : Mod) (a n : Nat) : PortOnly m (m.cleanse a n) := ⟨m.port, m.evt, _, rfl⟩

theorem portOnly_putCq (m : Mod) (r : Nat) (bytes : Bytes) : PortOnly m (m.putCq r bytes) := by
  unfold Mod.putCq
  dsimp only
  split
  · exact (portOnly_setRing ..).trans (portOnly_cleanse ..)
  · exact portOnly_setRing ..

theorem portOnly_raise (m : Mod) (src param : Nat) : PortOnly m (m.raise src param) := by
  obtain ⟨e, h⟩ := raiseT_spec m src (BitVec.ofNat 32 param) false
  exact ⟨m.port, e, m.poison, h⟩

theorem portOnly_sendDatagram (m : Mod) (r sender : Nat) (body : Bytes) : PortOnly m (m.sendDatagram r sender body) :=
  ⟨_, m.evt, m.poison, rfl⟩

theorem portOnly_answerService (m : Mod) (r tag : Nat) (bytes : Bytes) (final : Bool) :
    PortOnly m (m.answerService r tag bytes final) := by
  unfold Mod.answerService
  dsimp only
  split
  · exact PortOnly.refl m
  · exact (portOnly_setRing ..).trans (portOnly_sendDatagram ..)

theorem portOnly_notify (m : Mod) (c : Cmd) : PortOnly m (m.notify c) := by
  unfold Mod.notify
  split
  · exact portOnly_raise ..
  · exact PortOnly.refl m

theorem portOnly_complete (m : Mod) (opcode : Nat) (c : Cmd) (status : Nat) (reply : Bytes) (frame : Nat) :
    PortOnly m (m.complete opcode c status reply frame) := by
  unfold Mod.complete
  dsimp only
  refine PortOnly.trans ?_ (portOnly_notify ..)
  split
  · exact (portOnly_putCq ..).trans (portOnly_answerService ..)
  · exact portOnly_putCq ..

theorem portOnly_ended (m : Mod) (opcode : Nat) (c : Cmd) (status : Nat) (reply : Bytes) (frame : Nat) :
    PortOnly m (m.ended opcode c status reply frame) := by
  unfold Mod.ended
  split
  · exact PortOnly.refl m
  · dsimp only
    split
    · exact ⟨_, m.evt, m.poison, rfl⟩
    · exact PortOnly.trans ⟨_, m.evt, m.poison, rfl⟩ (portOnly_complete ..)

theorem portOnly_settleN (n : Nat) (m : Mod) : PortOnly m (Mod.settleN n m) := by
  induction n generalizing m with
  | zero => exact PortOnly.refl m
  | succ k ih =>
    unfold Mod.settleN
    split
    · exact PortOnly.refl m
    · exact (portOnly_ended ..).trans (ih _)

theorem portOnly_settle (m : Mod) : PortOnly m m.settle := by
  unfold Mod.settle
  split
  · exact portOnly_settleN _ m
  · exact PortOnly.refl m

theorem portOnly_finish (m : Mod) (opcode : Nat) (c : Cmd) (status : Nat) (reply : Bytes) (frame : Nat) :
    PortOnly m (m.finish opcode c status reply frame) :=
  (portOnly_ended ..).trans (portOnly_settle _)

theorem portOnly_endRejoin (m : Mod) (st frame : Nat) : PortOnly m (m.endRejoin st frame) := by
  unfold Mod.endRejoin
  generalize m.port.flight.filter (fun f => f.opcode == 0x0311) = l
  induction l generalizing m with
  | nil => exact PortOnly.refl m
  | cons f t ih => exact (portOnly_finish ..).trans (ih _)

@[simp] theorem complete_fresh (m : Mod) (opcode : Nat) (c : Cmd) (status : Nat) (reply : Bytes) (frame : Nat) : (m.complete opcode c status reply frame).fresh = m.fresh := (portOnly_complete ..).keeps Mod.fresh fun _ _ _ => rfl
@[simp] theorem complete_pwr (m : Mod) (opcode : Nat) (c : Cmd) (status : Nat) (reply : Bytes) (frame : Nat) : (m.complete opcode c status reply frame).pwr = m.pwr := (portOnly_complete ..).keeps Mod.pwr fun _ _ _ => rfl
@[simp] theorem complete_time (m : Mod) (opcode : Nat) (c : Cmd) (status : Nat) (reply : Bytes) (frame : Nat) : (m.complete opcode c status reply frame).time = m.time := (portOnly_complete ..).keeps Mod.time fun _ _ _ => rfl
@[simp] theorem complete_lanes (m : Mod) (opcode : Nat) (c : Cmd) (status : Nat) (reply : Bytes) (frame : Nat) : (m.complete opcode c status reply frame).lanes = m.lanes := (portOnly_complete ..).keeps Mod.lanes fun _ _ _ => rfl
@[simp] theorem complete_stats (m : Mod) (opcode : Nat) (c : Cmd) (status : Nat) (reply : Bytes) (frame : Nat) : (m.complete opcode c status reply frame).stats = m.stats := (portOnly_complete ..).keeps Mod.stats fun _ _ _ => rfl
@[simp] theorem complete_cfg (m : Mod) (opcode : Nat) (c : Cmd) (status : Nat) (reply : Bytes) (frame : Nat) : (m.complete opcode c status reply frame).cfg = m.cfg := (portOnly_complete ..).keeps Mod.cfg fun _ _ _ => rfl
@[simp] theorem complete_sched (m : Mod) (opcode : Nat) (c : Cmd) (status : Nat) (reply : Bytes) (frame : Nat) : (m.complete opcode c status reply frame).sched = m.sched := (portOnly_complete ..).keeps Mod.sched fun _ _ _ => rfl
@[simp] theorem complete_coeff (m : Mod) (opcode : Nat) (c : Cmd) (status : Nat) (reply : Bytes) (frame : Nat) : (m.complete opcode c status reply frame).coeff = m.coeff := (portOnly_complete ..).keeps Mod.coeff fun _ _ _ => rfl
@[simp] theorem complete_loop (m : Mod) (opcode : Nat) (c : Cmd) (status : Nat) (reply : Bytes) (frame : Nat) : (m.complete opcode c status reply frame).loop = m.loop := (portOnly_complete ..).keeps Mod.loop fun _ _ _ => rfl
@[simp] theorem complete_drv (m : Mod) (opcode : Nat) (c : Cmd) (status : Nat) (reply : Bytes) (frame : Nat) : (m.complete opcode c status reply frame).drv = m.drv := (portOnly_complete ..).keeps Mod.drv fun _ _ _ => rfl
@[simp] theorem complete_inp (m : Mod) (opcode : Nat) (c : Cmd) (status : Nat) (reply : Bytes) (frame : Nat) : (m.complete opcode c status reply frame).inp = m.inp := (portOnly_complete ..).keeps Mod.inp fun _ _ _ => rfl
@[simp] theorem complete_safe (m : Mod) (opcode : Nat) (c : Cmd) (status : Nat) (reply : Bytes) (frame : Nat) : (m.complete opcode c status reply frame).safe = m.safe := (portOnly_complete ..).keeps Mod.safe fun _ _ _ => rfl
@[simp] theorem complete_gnss (m : Mod) (opcode : Nat) (c : Cmd) (status : Nat) (reply : Bytes) (frame : Nat) : (m.complete opcode c status reply frame).gnss = m.gnss := (portOnly_complete ..).keeps Mod.gnss fun _ _ _ => rfl
@[simp] theorem complete_fuse (m : Mod) (opcode : Nat) (c : Cmd) (status : Nat) (reply : Bytes) (frame : Nat) : (m.complete opcode c status reply frame).fuse = m.fuse := (portOnly_complete ..).keeps Mod.fuse fun _ _ _ => rfl
@[simp] theorem complete_clnk (m : Mod) (opcode : Nat) (c : Cmd) (status : Nat) (reply : Bytes) (frame : Nat) : (m.complete opcode c status reply frame).clnk = m.clnk := (portOnly_complete ..).keeps Mod.clnk fun _ _ _ => rfl
@[simp] theorem complete_pipes (m : Mod) (opcode : Nat) (c : Cmd) (status : Nat) (reply : Bytes) (frame : Nat) : (m.complete opcode c status reply frame).pipes = m.pipes := (portOnly_complete ..).keeps Mod.pipes fun _ _ _ => rfl
@[simp] theorem complete_vis (m : Mod) (opcode : Nat) (c : Cmd) (status : Nat) (reply : Bytes) (frame : Nat) : (m.complete opcode c status reply frame).vis = m.vis := (portOnly_complete ..).keeps Mod.vis fun _ _ _ => rfl
@[simp] theorem complete_can (m : Mod) (opcode : Nat) (c : Cmd) (status : Nat) (reply : Bytes) (frame : Nat) : (m.complete opcode c status reply frame).can = m.can := (portOnly_complete ..).keeps Mod.can fun _ _ _ => rfl
@[simp] theorem complete_eth (m : Mod) (opcode : Nat) (c : Cmd) (status : Nat) (reply : Bytes) (frame : Nat) : (m.complete opcode c status reply frame).eth = m.eth := (portOnly_complete ..).keeps Mod.eth fun _ _ _ => rfl
@[simp] theorem complete_seg (m : Mod) (opcode : Nat) (c : Cmd) (status : Nat) (reply : Bytes) (frame : Nat) : (m.complete opcode c status reply frame).seg = m.seg := (portOnly_complete ..).keeps Mod.seg fun _ _ _ => rfl
@[simp] theorem complete_log (m : Mod) (opcode : Nat) (c : Cmd) (status : Nat) (reply : Bytes) (frame : Nat) : (m.complete opcode c status reply frame).log = m.log := (portOnly_complete ..).keeps Mod.log fun _ _ _ => rfl
@[simp] theorem complete_nvs (m : Mod) (opcode : Nat) (c : Cmd) (status : Nat) (reply : Bytes) (frame : Nat) : (m.complete opcode c status reply frame).nvs = m.nvs := (portOnly_complete ..).keeps Mod.nvs fun _ _ _ => rfl
@[simp] theorem complete_upd (m : Mod) (opcode : Nat) (c : Cmd) (status : Nat) (reply : Bytes) (frame : Nat) : (m.complete opcode c status reply frame).upd = m.upd := (portOnly_complete ..).keeps Mod.upd fun _ _ _ => rfl
@[simp] theorem complete_pubs (m : Mod) (opcode : Nat) (c : Cmd) (status : Nat) (reply : Bytes) (frame : Nat) : (m.complete opcode c status reply frame).pubs = m.pubs := (portOnly_complete ..).keeps Mod.pubs fun _ _ _ => rfl
@[simp] theorem complete_bus (m : Mod) (opcode : Nat) (c : Cmd) (status : Nat) (reply : Bytes) (frame : Nat) : (m.complete opcode c status reply frame).bus = m.bus := (portOnly_complete ..).keeps Mod.bus fun _ _ _ => rfl

@[simp] theorem finish_fresh (m : Mod) (opcode : Nat) (c : Cmd) (status : Nat) (reply : Bytes) (frame : Nat) : (m.finish opcode c status reply frame).fresh = m.fresh := (portOnly_finish ..).keeps Mod.fresh fun _ _ _ => rfl
@[simp] theorem finish_pwr (m : Mod) (opcode : Nat) (c : Cmd) (status : Nat) (reply : Bytes) (frame : Nat) : (m.finish opcode c status reply frame).pwr = m.pwr := (portOnly_finish ..).keeps Mod.pwr fun _ _ _ => rfl
@[simp] theorem finish_time (m : Mod) (opcode : Nat) (c : Cmd) (status : Nat) (reply : Bytes) (frame : Nat) : (m.finish opcode c status reply frame).time = m.time := (portOnly_finish ..).keeps Mod.time fun _ _ _ => rfl
@[simp] theorem finish_lanes (m : Mod) (opcode : Nat) (c : Cmd) (status : Nat) (reply : Bytes) (frame : Nat) : (m.finish opcode c status reply frame).lanes = m.lanes := (portOnly_finish ..).keeps Mod.lanes fun _ _ _ => rfl
@[simp] theorem finish_stats (m : Mod) (opcode : Nat) (c : Cmd) (status : Nat) (reply : Bytes) (frame : Nat) : (m.finish opcode c status reply frame).stats = m.stats := (portOnly_finish ..).keeps Mod.stats fun _ _ _ => rfl
@[simp] theorem finish_cfg (m : Mod) (opcode : Nat) (c : Cmd) (status : Nat) (reply : Bytes) (frame : Nat) : (m.finish opcode c status reply frame).cfg = m.cfg := (portOnly_finish ..).keeps Mod.cfg fun _ _ _ => rfl
@[simp] theorem finish_sched (m : Mod) (opcode : Nat) (c : Cmd) (status : Nat) (reply : Bytes) (frame : Nat) : (m.finish opcode c status reply frame).sched = m.sched := (portOnly_finish ..).keeps Mod.sched fun _ _ _ => rfl
@[simp] theorem finish_coeff (m : Mod) (opcode : Nat) (c : Cmd) (status : Nat) (reply : Bytes) (frame : Nat) : (m.finish opcode c status reply frame).coeff = m.coeff := (portOnly_finish ..).keeps Mod.coeff fun _ _ _ => rfl
@[simp] theorem finish_loop (m : Mod) (opcode : Nat) (c : Cmd) (status : Nat) (reply : Bytes) (frame : Nat) : (m.finish opcode c status reply frame).loop = m.loop := (portOnly_finish ..).keeps Mod.loop fun _ _ _ => rfl
@[simp] theorem finish_drv (m : Mod) (opcode : Nat) (c : Cmd) (status : Nat) (reply : Bytes) (frame : Nat) : (m.finish opcode c status reply frame).drv = m.drv := (portOnly_finish ..).keeps Mod.drv fun _ _ _ => rfl
@[simp] theorem finish_inp (m : Mod) (opcode : Nat) (c : Cmd) (status : Nat) (reply : Bytes) (frame : Nat) : (m.finish opcode c status reply frame).inp = m.inp := (portOnly_finish ..).keeps Mod.inp fun _ _ _ => rfl
@[simp] theorem finish_safe (m : Mod) (opcode : Nat) (c : Cmd) (status : Nat) (reply : Bytes) (frame : Nat) : (m.finish opcode c status reply frame).safe = m.safe := (portOnly_finish ..).keeps Mod.safe fun _ _ _ => rfl
@[simp] theorem finish_gnss (m : Mod) (opcode : Nat) (c : Cmd) (status : Nat) (reply : Bytes) (frame : Nat) : (m.finish opcode c status reply frame).gnss = m.gnss := (portOnly_finish ..).keeps Mod.gnss fun _ _ _ => rfl
@[simp] theorem finish_fuse (m : Mod) (opcode : Nat) (c : Cmd) (status : Nat) (reply : Bytes) (frame : Nat) : (m.finish opcode c status reply frame).fuse = m.fuse := (portOnly_finish ..).keeps Mod.fuse fun _ _ _ => rfl
@[simp] theorem finish_clnk (m : Mod) (opcode : Nat) (c : Cmd) (status : Nat) (reply : Bytes) (frame : Nat) : (m.finish opcode c status reply frame).clnk = m.clnk := (portOnly_finish ..).keeps Mod.clnk fun _ _ _ => rfl
@[simp] theorem finish_pipes (m : Mod) (opcode : Nat) (c : Cmd) (status : Nat) (reply : Bytes) (frame : Nat) : (m.finish opcode c status reply frame).pipes = m.pipes := (portOnly_finish ..).keeps Mod.pipes fun _ _ _ => rfl
@[simp] theorem finish_vis (m : Mod) (opcode : Nat) (c : Cmd) (status : Nat) (reply : Bytes) (frame : Nat) : (m.finish opcode c status reply frame).vis = m.vis := (portOnly_finish ..).keeps Mod.vis fun _ _ _ => rfl
@[simp] theorem finish_can (m : Mod) (opcode : Nat) (c : Cmd) (status : Nat) (reply : Bytes) (frame : Nat) : (m.finish opcode c status reply frame).can = m.can := (portOnly_finish ..).keeps Mod.can fun _ _ _ => rfl
@[simp] theorem finish_eth (m : Mod) (opcode : Nat) (c : Cmd) (status : Nat) (reply : Bytes) (frame : Nat) : (m.finish opcode c status reply frame).eth = m.eth := (portOnly_finish ..).keeps Mod.eth fun _ _ _ => rfl
@[simp] theorem finish_seg (m : Mod) (opcode : Nat) (c : Cmd) (status : Nat) (reply : Bytes) (frame : Nat) : (m.finish opcode c status reply frame).seg = m.seg := (portOnly_finish ..).keeps Mod.seg fun _ _ _ => rfl
@[simp] theorem finish_log (m : Mod) (opcode : Nat) (c : Cmd) (status : Nat) (reply : Bytes) (frame : Nat) : (m.finish opcode c status reply frame).log = m.log := (portOnly_finish ..).keeps Mod.log fun _ _ _ => rfl
@[simp] theorem finish_nvs (m : Mod) (opcode : Nat) (c : Cmd) (status : Nat) (reply : Bytes) (frame : Nat) : (m.finish opcode c status reply frame).nvs = m.nvs := (portOnly_finish ..).keeps Mod.nvs fun _ _ _ => rfl
@[simp] theorem finish_upd (m : Mod) (opcode : Nat) (c : Cmd) (status : Nat) (reply : Bytes) (frame : Nat) : (m.finish opcode c status reply frame).upd = m.upd := (portOnly_finish ..).keeps Mod.upd fun _ _ _ => rfl
@[simp] theorem finish_pubs (m : Mod) (opcode : Nat) (c : Cmd) (status : Nat) (reply : Bytes) (frame : Nat) : (m.finish opcode c status reply frame).pubs = m.pubs := (portOnly_finish ..).keeps Mod.pubs fun _ _ _ => rfl
@[simp] theorem finish_bus (m : Mod) (opcode : Nat) (c : Cmd) (status : Nat) (reply : Bytes) (frame : Nat) : (m.finish opcode c status reply frame).bus = m.bus := (portOnly_finish ..).keeps Mod.bus fun _ _ _ => rfl

@[simp] theorem settle_fresh (m : Mod) : (m.settle).fresh = m.fresh := (portOnly_settle ..).keeps Mod.fresh fun _ _ _ => rfl
@[simp] theorem settle_pwr (m : Mod) : (m.settle).pwr = m.pwr := (portOnly_settle ..).keeps Mod.pwr fun _ _ _ => rfl
@[simp] theorem settle_time (m : Mod) : (m.settle).time = m.time := (portOnly_settle ..).keeps Mod.time fun _ _ _ => rfl
@[simp] theorem settle_lanes (m : Mod) : (m.settle).lanes = m.lanes := (portOnly_settle ..).keeps Mod.lanes fun _ _ _ => rfl
@[simp] theorem settle_stats (m : Mod) : (m.settle).stats = m.stats := (portOnly_settle ..).keeps Mod.stats fun _ _ _ => rfl
@[simp] theorem settle_cfg (m : Mod) : (m.settle).cfg = m.cfg := (portOnly_settle ..).keeps Mod.cfg fun _ _ _ => rfl
@[simp] theorem settle_sched (m : Mod) : (m.settle).sched = m.sched := (portOnly_settle ..).keeps Mod.sched fun _ _ _ => rfl
@[simp] theorem settle_coeff (m : Mod) : (m.settle).coeff = m.coeff := (portOnly_settle ..).keeps Mod.coeff fun _ _ _ => rfl
@[simp] theorem settle_loop (m : Mod) : (m.settle).loop = m.loop := (portOnly_settle ..).keeps Mod.loop fun _ _ _ => rfl
@[simp] theorem settle_drv (m : Mod) : (m.settle).drv = m.drv := (portOnly_settle ..).keeps Mod.drv fun _ _ _ => rfl
@[simp] theorem settle_inp (m : Mod) : (m.settle).inp = m.inp := (portOnly_settle ..).keeps Mod.inp fun _ _ _ => rfl
@[simp] theorem settle_safe (m : Mod) : (m.settle).safe = m.safe := (portOnly_settle ..).keeps Mod.safe fun _ _ _ => rfl
@[simp] theorem settle_gnss (m : Mod) : (m.settle).gnss = m.gnss := (portOnly_settle ..).keeps Mod.gnss fun _ _ _ => rfl
@[simp] theorem settle_fuse (m : Mod) : (m.settle).fuse = m.fuse := (portOnly_settle ..).keeps Mod.fuse fun _ _ _ => rfl
@[simp] theorem settle_clnk (m : Mod) : (m.settle).clnk = m.clnk := (portOnly_settle ..).keeps Mod.clnk fun _ _ _ => rfl
@[simp] theorem settle_pipes (m : Mod) : (m.settle).pipes = m.pipes := (portOnly_settle ..).keeps Mod.pipes fun _ _ _ => rfl
@[simp] theorem settle_vis (m : Mod) : (m.settle).vis = m.vis := (portOnly_settle ..).keeps Mod.vis fun _ _ _ => rfl
@[simp] theorem settle_can (m : Mod) : (m.settle).can = m.can := (portOnly_settle ..).keeps Mod.can fun _ _ _ => rfl
@[simp] theorem settle_eth (m : Mod) : (m.settle).eth = m.eth := (portOnly_settle ..).keeps Mod.eth fun _ _ _ => rfl
@[simp] theorem settle_seg (m : Mod) : (m.settle).seg = m.seg := (portOnly_settle ..).keeps Mod.seg fun _ _ _ => rfl
@[simp] theorem settle_log (m : Mod) : (m.settle).log = m.log := (portOnly_settle ..).keeps Mod.log fun _ _ _ => rfl
@[simp] theorem settle_nvs (m : Mod) : (m.settle).nvs = m.nvs := (portOnly_settle ..).keeps Mod.nvs fun _ _ _ => rfl
@[simp] theorem settle_upd (m : Mod) : (m.settle).upd = m.upd := (portOnly_settle ..).keeps Mod.upd fun _ _ _ => rfl
@[simp] theorem settle_pubs (m : Mod) : (m.settle).pubs = m.pubs := (portOnly_settle ..).keeps Mod.pubs fun _ _ _ => rfl
@[simp] theorem settle_bus (m : Mod) : (m.settle).bus = m.bus := (portOnly_settle ..).keeps Mod.bus fun _ _ _ => rfl

@[simp] theorem endRejoin_fresh (m : Mod) (st frame : Nat) : (m.endRejoin st frame).fresh = m.fresh := (portOnly_endRejoin ..).keeps Mod.fresh fun _ _ _ => rfl
@[simp] theorem endRejoin_pwr (m : Mod) (st frame : Nat) : (m.endRejoin st frame).pwr = m.pwr := (portOnly_endRejoin ..).keeps Mod.pwr fun _ _ _ => rfl
@[simp] theorem endRejoin_time (m : Mod) (st frame : Nat) : (m.endRejoin st frame).time = m.time := (portOnly_endRejoin ..).keeps Mod.time fun _ _ _ => rfl
@[simp] theorem endRejoin_lanes (m : Mod) (st frame : Nat) : (m.endRejoin st frame).lanes = m.lanes := (portOnly_endRejoin ..).keeps Mod.lanes fun _ _ _ => rfl
@[simp] theorem endRejoin_stats (m : Mod) (st frame : Nat) : (m.endRejoin st frame).stats = m.stats := (portOnly_endRejoin ..).keeps Mod.stats fun _ _ _ => rfl
@[simp] theorem endRejoin_cfg (m : Mod) (st frame : Nat) : (m.endRejoin st frame).cfg = m.cfg := (portOnly_endRejoin ..).keeps Mod.cfg fun _ _ _ => rfl
@[simp] theorem endRejoin_sched (m : Mod) (st frame : Nat) : (m.endRejoin st frame).sched = m.sched := (portOnly_endRejoin ..).keeps Mod.sched fun _ _ _ => rfl
@[simp] theorem endRejoin_coeff (m : Mod) (st frame : Nat) : (m.endRejoin st frame).coeff = m.coeff := (portOnly_endRejoin ..).keeps Mod.coeff fun _ _ _ => rfl
@[simp] theorem endRejoin_loop (m : Mod) (st frame : Nat) : (m.endRejoin st frame).loop = m.loop := (portOnly_endRejoin ..).keeps Mod.loop fun _ _ _ => rfl
@[simp] theorem endRejoin_drv (m : Mod) (st frame : Nat) : (m.endRejoin st frame).drv = m.drv := (portOnly_endRejoin ..).keeps Mod.drv fun _ _ _ => rfl
@[simp] theorem endRejoin_inp (m : Mod) (st frame : Nat) : (m.endRejoin st frame).inp = m.inp := (portOnly_endRejoin ..).keeps Mod.inp fun _ _ _ => rfl
@[simp] theorem endRejoin_safe (m : Mod) (st frame : Nat) : (m.endRejoin st frame).safe = m.safe := (portOnly_endRejoin ..).keeps Mod.safe fun _ _ _ => rfl
@[simp] theorem endRejoin_gnss (m : Mod) (st frame : Nat) : (m.endRejoin st frame).gnss = m.gnss := (portOnly_endRejoin ..).keeps Mod.gnss fun _ _ _ => rfl
@[simp] theorem endRejoin_fuse (m : Mod) (st frame : Nat) : (m.endRejoin st frame).fuse = m.fuse := (portOnly_endRejoin ..).keeps Mod.fuse fun _ _ _ => rfl
@[simp] theorem endRejoin_clnk (m : Mod) (st frame : Nat) : (m.endRejoin st frame).clnk = m.clnk := (portOnly_endRejoin ..).keeps Mod.clnk fun _ _ _ => rfl
@[simp] theorem endRejoin_pipes (m : Mod) (st frame : Nat) : (m.endRejoin st frame).pipes = m.pipes := (portOnly_endRejoin ..).keeps Mod.pipes fun _ _ _ => rfl
@[simp] theorem endRejoin_vis (m : Mod) (st frame : Nat) : (m.endRejoin st frame).vis = m.vis := (portOnly_endRejoin ..).keeps Mod.vis fun _ _ _ => rfl
@[simp] theorem endRejoin_can (m : Mod) (st frame : Nat) : (m.endRejoin st frame).can = m.can := (portOnly_endRejoin ..).keeps Mod.can fun _ _ _ => rfl
@[simp] theorem endRejoin_eth (m : Mod) (st frame : Nat) : (m.endRejoin st frame).eth = m.eth := (portOnly_endRejoin ..).keeps Mod.eth fun _ _ _ => rfl
@[simp] theorem endRejoin_seg (m : Mod) (st frame : Nat) : (m.endRejoin st frame).seg = m.seg := (portOnly_endRejoin ..).keeps Mod.seg fun _ _ _ => rfl
@[simp] theorem endRejoin_log (m : Mod) (st frame : Nat) : (m.endRejoin st frame).log = m.log := (portOnly_endRejoin ..).keeps Mod.log fun _ _ _ => rfl
@[simp] theorem endRejoin_nvs (m : Mod) (st frame : Nat) : (m.endRejoin st frame).nvs = m.nvs := (portOnly_endRejoin ..).keeps Mod.nvs fun _ _ _ => rfl
@[simp] theorem endRejoin_upd (m : Mod) (st frame : Nat) : (m.endRejoin st frame).upd = m.upd := (portOnly_endRejoin ..).keeps Mod.upd fun _ _ _ => rfl
@[simp] theorem endRejoin_pubs (m : Mod) (st frame : Nat) : (m.endRejoin st frame).pubs = m.pubs := (portOnly_endRejoin ..).keeps Mod.pubs fun _ _ _ => rfl
@[simp] theorem endRejoin_bus (m : Mod) (st frame : Nat) : (m.endRejoin st frame).bus = m.bus := (portOnly_endRejoin ..).keeps Mod.bus fun _ _ _ => rfl

/-! ### Fences: one that waits for nothing completes at once (R100) -/

@[simp] theorem setRing_flight (m : Mod) (r : Nat) (x : Ring) : (m.setRing r x).port.flight = m.port.flight := rfl
@[simp] theorem sendDatagram_flight (m : Mod) (r sender : Nat) (body : Bytes) :
    (m.sendDatagram r sender body).port.flight = m.port.flight := rfl

@[simp] theorem putCq_flight (m : Mod) (r : Nat) (bytes : Bytes) : (m.putCq r bytes).port.flight = m.port.flight := by
  unfold Mod.putCq
  dsimp only
  split <;> rfl

@[simp] theorem answerService_flight (m : Mod) (r tag : Nat) (bytes : Bytes) (final : Bool) :
    (m.answerService r tag bytes final).port.flight = m.port.flight := by
  unfold Mod.answerService
  dsimp only
  split <;> rfl

@[simp] theorem notify_flight (m : Mod) (c : Cmd) : (m.notify c).port.flight = m.port.flight := by
  unfold Mod.notify
  split
  · rw [raise_port]
  · rfl

/-- A completion leaves what is in flight as it is. -/
@[simp] theorem complete_flight (m : Mod) (opcode : Nat) (c : Cmd) (status : Nat) (reply : Bytes) (frame : Nat) :
    (m.complete opcode c status reply frame).port.flight = m.port.flight := by
  unfold Mod.complete
  dsimp only
  rw [notify_flight]
  split
  · rw [answerService_flight, putCq_flight]
  · exact putCq_flight ..

/-- With no fence in flight nothing settles. -/
theorem settleN_none (n : Nat) (m : Mod) (h : (m.port.flight.all fun f => !f.isFence) = true) : Mod.settleN n m = m := by
  cases n with
  | zero => rfl
  | succ k =>
    unfold Mod.settleN
    have hz : (m.port.flight.zipIdx.find? fun p => p.1.isFence && m.fenceDone p.2 p.1) = none := by
      rw [List.find?_eq_none]
      intro p hp
      have hm := List.all_eq_true.mp h p.1 (List.fst_mem_of_mem_zipIdx hp)
      simp only [Bool.not_eq_true'] at hm
      simp [hm]
    rw [hz]

/-- A fence put in flight behind none, with what it waits for done, completes at once and changes nothing else. -/
theorem settle_fence (m : Mod) (f : Flight) (hf : f.isFence = true) (hd : f.discard = false)
    (hn : (m.port.flight.all fun g => !g.isFence) = true)
    (hw : (m.fly f).fenceDone m.port.flight.length f = true) :
    (m.fly f).settle = m.complete f.opcode f.cmd St.ok [] 0 := by
  have hz : ((m.fly f).port.flight.zipIdx.find? fun p => p.1.isFence && (m.fly f).fenceDone p.2 p.1)
      = some (f, m.port.flight.length) := by
    show ((m.port.flight ++ [f]).zipIdx.find? _) = _
    rw [List.zipIdx_append, List.find?_append]
    have h1 : (m.port.flight.zipIdx.find? fun p => p.1.isFence && (m.fly f).fenceDone p.2 p.1) = none := by
      rw [List.find?_eq_none]
      intro p hp
      have hm := List.all_eq_true.mp hn p.1 (List.fst_mem_of_mem_zipIdx hp)
      simp only [Bool.not_eq_true'] at hm
      simp [hm]
    rw [h1]
    simp [hf, hw]
  have hnot : ∀ g ∈ m.port.flight, g.isFence = false := by
    intro g hg
    simpa using List.all_eq_true.mp hn g hg
  have hop : ∀ g ∈ m.port.flight, (g.opcode == f.opcode && g.cmd == f.cmd) = false := by
    intro g hg
    have := hnot g hg
    simp only [Flight.isFence, Bool.or_eq_false_iff, beq_eq_false_iff_ne] at this
    simp only [Flight.isFence, Bool.or_eq_true, beq_iff_eq] at hf
    have : (g.opcode == f.opcode) = false := by
      rw [beq_eq_false_iff_ne]
      rcases hf with h | h <;> rw [h]
      · exact this.1
      · exact this.2
    simp [this]
  have he : (m.fly f).ended f.opcode f.cmd St.ok [] 0 = m.complete f.opcode f.cmd St.ok [] 0 := by
    unfold Mod.ended
    have h2 : ((m.fly f).port.flight.find? fun g => g.opcode == f.opcode && g.cmd == f.cmd) = some f := by
      show ((m.port.flight ++ [f]).find? _) = _
      rw [List.find?_append, List.find?_eq_none.mpr (fun g hg => by simp [hop g hg])]
      simp
    have h3 : (m.port.flight ++ [f]).erase f = m.port.flight := by
      rw [List.erase_append_right _ (fun hm => by simp [hnot f hm] at hf)]
      simp
    rw [h2]
    simp only [hd]
    show Mod.complete { m with port := { m.port with flight := (m.port.flight ++ [f]).erase f } } _ _ _ _ _ = _
    rw [h3]
  unfold Mod.settle
  have ha : (m.fly f).port.flight.any Flight.isFence = true := by
    show (m.port.flight ++ [f]).any _ = true
    simp [hf]
  rw [if_pos ha]
  have hl : (m.fly f).port.flight.length = m.port.flight.length + 1 := by
    show (m.port.flight ++ [f]).length = _
    simp
  rw [hl]
  unfold Mod.settleN
  rw [hz]
  show Mod.settleN _ ((m.fly f).ended f.opcode f.cmd St.ok [] 0) = _
  rw [he]
  exact settleN_none _ _ (by rw [complete_flight]; exact hn)

end Sys2Proof.Machine
end

