-- ==== Sys2Proof/Laws/Lanes.lean ====
section
/-! SUPPORT. What a change of a lane's state, of the redundancy and of the receive FIFOs can change (R72, R87, R332). -/

namespace Sys2Proof.Machine

open Sys2Proof

theorem toState_spec (m : Mod) (l : Lane) (st : LaneState) : ∃ x c, m.toState l st = { m with lanes := x, can := c } := by
  unfold Mod.toState
  dsimp only
  split
  · exact ⟨m.lanes, m.can, rfl⟩
  · split
    · exact ⟨_, m.can, rfl⟩
    · exact ⟨_, _, rfl⟩

theorem setRed_spec (m : Mod) (v : Nat) : ∃ x e, m.setRed v = { m with lanes := x, evt := e } := by
  unfold Mod.setRed
  split
  · exact ⟨m.lanes, m.evt, rfl⟩
  · obtain ⟨e, h⟩ := raiseT_spec { m with lanes := { m.lanes with redundancy := v } } 0 (BitVec.ofNat 32 v) false
    exact ⟨_, e, h⟩

@[simp] theorem toState_fresh (m : Mod) (l : Lane) (st : LaneState) : (m.toState l st).fresh = m.fresh := by
  obtain ⟨x, c, h⟩ := toState_spec m l st; rw [h]
@[simp] theorem toState_pwr (m : Mod) (l : Lane) (st : LaneState) : (m.toState l st).pwr = m.pwr := by
  obtain ⟨x, c, h⟩ := toState_spec m l st; rw [h]
@[simp] theorem toState_time (m : Mod) (l : Lane) (st : LaneState) : (m.toState l st).time = m.time := by
  obtain ⟨x, c, h⟩ := toState_spec m l st; rw [h]
@[simp] theorem toState_stats (m : Mod) (l : Lane) (st : LaneState) : (m.toState l st).stats = m.stats := by
  obtain ⟨x, c, h⟩ := toState_spec m l st; rw [h]
@[simp] theorem toState_port (m : Mod) (l : Lane) (st : LaneState) : (m.toState l st).port = m.port := by
  obtain ⟨x, c, h⟩ := toState_spec m l st; rw [h]
@[simp] theorem toState_cfg (m : Mod) (l : Lane) (st : LaneState) : (m.toState l st).cfg = m.cfg := by
  obtain ⟨x, c, h⟩ := toState_spec m l st; rw [h]
@[simp] theorem toState_sched (m : Mod) (l : Lane) (st : LaneState) : (m.toState l st).sched = m.sched := by
  obtain ⟨x, c, h⟩ := toState_spec m l st; rw [h]
@[simp] theorem toState_coeff (m : Mod) (l : Lane) (st : LaneState) : (m.toState l st).coeff = m.coeff := by
  obtain ⟨x, c, h⟩ := toState_spec m l st; rw [h]
@[simp] theorem toState_loop (m : Mod) (l : Lane) (st : LaneState) : (m.toState l st).loop = m.loop := by
  obtain ⟨x, c, h⟩ := toState_spec m l st; rw [h]
@[simp] theorem toState_drv (m : Mod) (l : Lane) (st : LaneState) : (m.toState l st).drv = m.drv := by
  obtain ⟨x, c, h⟩ := toState_spec m l st; rw [h]
@[simp] theorem toState_inp (m : Mod) (l : Lane) (st : LaneState) : (m.toState l st).inp = m.inp := by
  obtain ⟨x, c, h⟩ := toState_spec m l st; rw [h]
@[simp] theorem toState_safe (m : Mod) (l : Lane) (st : LaneState) : (m.toState l st).safe = m.safe := by
  obtain ⟨x, c, h⟩ := toState_spec m l st; rw [h]
@[simp] theorem toState_gnss (m : Mod) (l : Lane) (st : LaneState) : (m.toState l st).gnss = m.gnss := by
  obtain ⟨x, c, h⟩ := toState_spec m l st; rw [h]
@[simp] theorem toState_fuse (m : Mod) (l : Lane) (st : LaneState) : (m.toState l st).fuse = m.fuse := by
  obtain ⟨x, c, h⟩ := toState_spec m l st; rw [h]
@[simp] theorem toState_clnk (m : Mod) (l : Lane) (st : LaneState) : (m.toState l st).clnk = m.clnk := by
  obtain ⟨x, c, h⟩ := toState_spec m l st; rw [h]
@[simp] theorem toState_pipes (m : Mod) (l : Lane) (st : LaneState) : (m.toState l st).pipes = m.pipes := by
  obtain ⟨x, c, h⟩ := toState_spec m l st; rw [h]
@[simp] theorem toState_vis (m : Mod) (l : Lane) (st : LaneState) : (m.toState l st).vis = m.vis := by
  obtain ⟨x, c, h⟩ := toState_spec m l st; rw [h]
@[simp] theorem toState_eth (m : Mod) (l : Lane) (st : LaneState) : (m.toState l st).eth = m.eth := by
  obtain ⟨x, c, h⟩ := toState_spec m l st; rw [h]
@[simp] theorem toState_seg (m : Mod) (l : Lane) (st : LaneState) : (m.toState l st).seg = m.seg := by
  obtain ⟨x, c, h⟩ := toState_spec m l st; rw [h]
@[simp] theorem toState_evt (m : Mod) (l : Lane) (st : LaneState) : (m.toState l st).evt = m.evt := by
  obtain ⟨x, c, h⟩ := toState_spec m l st; rw [h]
@[simp] theorem toState_log (m : Mod) (l : Lane) (st : LaneState) : (m.toState l st).log = m.log := by
  obtain ⟨x, c, h⟩ := toState_spec m l st; rw [h]
@[simp] theorem toState_nvs (m : Mod) (l : Lane) (st : LaneState) : (m.toState l st).nvs = m.nvs := by
  obtain ⟨x, c, h⟩ := toState_spec m l st; rw [h]
@[simp] theorem toState_upd (m : Mod) (l : Lane) (st : LaneState) : (m.toState l st).upd = m.upd := by
  obtain ⟨x, c, h⟩ := toState_spec m l st; rw [h]
@[simp] theorem toState_pubs (m : Mod) (l : Lane) (st : LaneState) : (m.toState l st).pubs = m.pubs := by
  obtain ⟨x, c, h⟩ := toState_spec m l st; rw [h]
@[simp] theorem toState_poison (m : Mod) (l : Lane) (st : LaneState) : (m.toState l st).poison = m.poison := by
  obtain ⟨x, c, h⟩ := toState_spec m l st; rw [h]
@[simp] theorem toState_bus (m : Mod) (l : Lane) (st : LaneState) : (m.toState l st).bus = m.bus := by
  obtain ⟨x, c, h⟩ := toState_spec m l st; rw [h]
@[simp] theorem setRed_fresh (m : Mod) (v : Nat) : (m.setRed v).fresh = m.fresh := by obtain ⟨x, e, h⟩ := setRed_spec m v; rw [h]
@[simp] theorem setRed_pwr (m : Mod) (v : Nat) : (m.setRed v).pwr = m.pwr := by obtain ⟨x, e, h⟩ := setRed_spec m v; rw [h]
@[simp] theorem setRed_time (m : Mod) (v : Nat) : (m.setRed v).time = m.time := by obtain ⟨x, e, h⟩ := setRed_spec m v; rw [h]
@[simp] theorem setRed_stats (m : Mod) (v : Nat) : (m.setRed v).stats = m.stats := by obtain ⟨x, e, h⟩ := setRed_spec m v; rw [h]
@[simp] theorem setRed_port (m : Mod) (v : Nat) : (m.setRed v).port = m.port := by obtain ⟨x, e, h⟩ := setRed_spec m v; rw [h]
@[simp] theorem setRed_cfg (m : Mod) (v : Nat) : (m.setRed v).cfg = m.cfg := by obtain ⟨x, e, h⟩ := setRed_spec m v; rw [h]
@[simp] theorem setRed_sched (m : Mod) (v : Nat) : (m.setRed v).sched = m.sched := by obtain ⟨x, e, h⟩ := setRed_spec m v; rw [h]
@[simp] theorem setRed_coeff (m : Mod) (v : Nat) : (m.setRed v).coeff = m.coeff := by obtain ⟨x, e, h⟩ := setRed_spec m v; rw [h]
@[simp] theorem setRed_loop (m : Mod) (v : Nat) : (m.setRed v).loop = m.loop := by obtain ⟨x, e, h⟩ := setRed_spec m v; rw [h]
@[simp] theorem setRed_drv (m : Mod) (v : Nat) : (m.setRed v).drv = m.drv := by obtain ⟨x, e, h⟩ := setRed_spec m v; rw [h]
@[simp] theorem setRed_inp (m : Mod) (v : Nat) : (m.setRed v).inp = m.inp := by obtain ⟨x, e, h⟩ := setRed_spec m v; rw [h]
@[simp] theorem setRed_safe (m : Mod) (v : Nat) : (m.setRed v).safe = m.safe := by obtain ⟨x, e, h⟩ := setRed_spec m v; rw [h]
@[simp] theorem setRed_gnss (m : Mod) (v : Nat) : (m.setRed v).gnss = m.gnss := by obtain ⟨x, e, h⟩ := setRed_spec m v; rw [h]
@[simp] theorem setRed_fuse (m : Mod) (v : Nat) : (m.setRed v).fuse = m.fuse := by obtain ⟨x, e, h⟩ := setRed_spec m v; rw [h]
@[simp] theorem setRed_clnk (m : Mod) (v : Nat) : (m.setRed v).clnk = m.clnk := by obtain ⟨x, e, h⟩ := setRed_spec m v; rw [h]
@[simp] theorem setRed_pipes (m : Mod) (v : Nat) : (m.setRed v).pipes = m.pipes := by obtain ⟨x, e, h⟩ := setRed_spec m v; rw [h]
@[simp] theorem setRed_vis (m : Mod) (v : Nat) : (m.setRed v).vis = m.vis := by obtain ⟨x, e, h⟩ := setRed_spec m v; rw [h]
@[simp] theorem setRed_can (m : Mod) (v : Nat) : (m.setRed v).can = m.can := by obtain ⟨x, e, h⟩ := setRed_spec m v; rw [h]
@[simp] theorem setRed_eth (m : Mod) (v : Nat) : (m.setRed v).eth = m.eth := by obtain ⟨x, e, h⟩ := setRed_spec m v; rw [h]
@[simp] theorem setRed_seg (m : Mod) (v : Nat) : (m.setRed v).seg = m.seg := by obtain ⟨x, e, h⟩ := setRed_spec m v; rw [h]
@[simp] theorem setRed_log (m : Mod) (v : Nat) : (m.setRed v).log = m.log := by obtain ⟨x, e, h⟩ := setRed_spec m v; rw [h]
@[simp] theorem setRed_nvs (m : Mod) (v : Nat) : (m.setRed v).nvs = m.nvs := by obtain ⟨x, e, h⟩ := setRed_spec m v; rw [h]
@[simp] theorem setRed_upd (m : Mod) (v : Nat) : (m.setRed v).upd = m.upd := by obtain ⟨x, e, h⟩ := setRed_spec m v; rw [h]
@[simp] theorem setRed_pubs (m : Mod) (v : Nat) : (m.setRed v).pubs = m.pubs := by obtain ⟨x, e, h⟩ := setRed_spec m v; rw [h]
@[simp] theorem setRed_poison (m : Mod) (v : Nat) : (m.setRed v).poison = m.poison := by obtain ⟨x, e, h⟩ := setRed_spec m v; rw [h]
@[simp] theorem setRed_bus (m : Mod) (v : Nat) : (m.setRed v).bus = m.bus := by obtain ⟨x, e, h⟩ := setRed_spec m v; rw [h]
@[simp] theorem redund_fresh (m : Mod) : m.redund.fresh = m.fresh := setRed_fresh ..
@[simp] theorem redund_pwr (m : Mod) : m.redund.pwr = m.pwr := setRed_pwr ..
@[simp] theorem redund_time (m : Mod) : m.redund.time = m.time := setRed_time ..
@[simp] theorem redund_stats (m : Mod) : m.redund.stats = m.stats := setRed_stats ..
@[simp] theorem redund_port (m : Mod) : m.redund.port = m.port := setRed_port ..
@[simp] theorem redund_cfg (m : Mod) : m.redund.cfg = m.cfg := setRed_cfg ..
@[simp] theorem redund_sched (m : Mod) : m.redund.sched = m.sched := setRed_sched ..
@[simp] theorem redund_coeff (m : Mod) : m.redund.coeff = m.coeff := setRed_coeff ..
@[simp] theorem redund_loop (m : Mod) : m.redund.loop = m.loop := setRed_loop ..
@[simp] theorem redund_drv (m : Mod) : m.redund.drv = m.drv := setRed_drv ..
@[simp] theorem redund_inp (m : Mod) : m.redund.inp = m.inp := setRed_inp ..
@[simp] theorem redund_safe (m : Mod) : m.redund.safe = m.safe := setRed_safe ..
@[simp] theorem redund_gnss (m : Mod) : m.redund.gnss = m.gnss := setRed_gnss ..
@[simp] theorem redund_fuse (m : Mod) : m.redund.fuse = m.fuse := setRed_fuse ..
@[simp] theorem redund_clnk (m : Mod) : m.redund.clnk = m.clnk := setRed_clnk ..
@[simp] theorem redund_pipes (m : Mod) : m.redund.pipes = m.pipes := setRed_pipes ..
@[simp] theorem redund_vis (m : Mod) : m.redund.vis = m.vis := setRed_vis ..
@[simp] theorem redund_can (m : Mod) : m.redund.can = m.can := setRed_can ..
@[simp] theorem redund_eth (m : Mod) : m.redund.eth = m.eth := setRed_eth ..
@[simp] theorem redund_seg (m : Mod) : m.redund.seg = m.seg := setRed_seg ..
@[simp] theorem redund_log (m : Mod) : m.redund.log = m.log := setRed_log ..
@[simp] theorem redund_nvs (m : Mod) : m.redund.nvs = m.nvs := setRed_nvs ..
@[simp] theorem redund_upd (m : Mod) : m.redund.upd = m.upd := setRed_upd ..
@[simp] theorem redund_pubs (m : Mod) : m.redund.pubs = m.pubs := setRed_pubs ..
@[simp] theorem redund_poison (m : Mod) : m.redund.poison = m.poison := setRed_poison ..
@[simp] theorem redund_bus (m : Mod) : m.redund.bus = m.bus := setRed_bus ..
@[simp] theorem copyFifos_fresh (m : Mod) (src dst : Lane) : (m.copyFifos src dst).fresh = m.fresh := rfl
@[simp] theorem copyFifos_pwr (m : Mod) (src dst : Lane) : (m.copyFifos src dst).pwr = m.pwr := rfl
@[simp] theorem copyFifos_time (m : Mod) (src dst : Lane) : (m.copyFifos src dst).time = m.time := rfl
@[simp] theorem copyFifos_lanes (m : Mod) (src dst : Lane) : (m.copyFifos src dst).lanes = m.lanes := rfl
@[simp] theorem copyFifos_stats (m : Mod) (src dst : Lane) : (m.copyFifos src dst).stats = m.stats := rfl
@[simp] theorem copyFifos_port (m : Mod) (src dst : Lane) : (m.copyFifos src dst).port = m.port := rfl
@[simp] theorem copyFifos_cfg (m : Mod) (src dst : Lane) : (m.copyFifos src dst).cfg = m.cfg := rfl
@[simp] theorem copyFifos_sched (m : Mod) (src dst : Lane) : (m.copyFifos src dst).sched = m.sched := rfl
@[simp] theorem copyFifos_coeff (m : Mod) (src dst : Lane) : (m.copyFifos src dst).coeff = m.coeff := rfl
@[simp] theorem copyFifos_loop (m : Mod) (src dst : Lane) : (m.copyFifos src dst).loop = m.loop := rfl
@[simp] theorem copyFifos_drv (m : Mod) (src dst : Lane) : (m.copyFifos src dst).drv = m.drv := rfl
@[simp] theorem copyFifos_inp (m : Mod) (src dst : Lane) : (m.copyFifos src dst).inp = m.inp := rfl
@[simp] theorem copyFifos_safe (m : Mod) (src dst : Lane) : (m.copyFifos src dst).safe = m.safe := rfl
@[simp] theorem copyFifos_gnss (m : Mod) (src dst : Lane) : (m.copyFifos src dst).gnss = m.gnss := rfl
@[simp] theorem copyFifos_fuse (m : Mod) (src dst : Lane) : (m.copyFifos src dst).fuse = m.fuse := rfl
@[simp] theorem copyFifos_clnk (m : Mod) (src dst : Lane) : (m.copyFifos src dst).clnk = m.clnk := rfl
@[simp] theorem copyFifos_pipes (m : Mod) (src dst : Lane) : (m.copyFifos src dst).pipes = m.pipes := rfl
@[simp] theorem copyFifos_vis (m : Mod) (src dst : Lane) : (m.copyFifos src dst).vis = m.vis := rfl
@[simp] theorem copyFifos_eth (m : Mod) (src dst : Lane) : (m.copyFifos src dst).eth = m.eth := rfl
@[simp] theorem copyFifos_seg (m : Mod) (src dst : Lane) : (m.copyFifos src dst).seg = m.seg := rfl
@[simp] theorem copyFifos_evt (m : Mod) (src dst : Lane) : (m.copyFifos src dst).evt = m.evt := rfl
@[simp] theorem copyFifos_log (m : Mod) (src dst : Lane) : (m.copyFifos src dst).log = m.log := rfl
@[simp] theorem copyFifos_nvs (m : Mod) (src dst : Lane) : (m.copyFifos src dst).nvs = m.nvs := rfl
@[simp] theorem copyFifos_upd (m : Mod) (src dst : Lane) : (m.copyFifos src dst).upd = m.upd := rfl
@[simp] theorem copyFifos_pubs (m : Mod) (src dst : Lane) : (m.copyFifos src dst).pubs = m.pubs := rfl
@[simp] theorem copyFifos_poison (m : Mod) (src dst : Lane) : (m.copyFifos src dst).poison = m.poison := rfl
@[simp] theorem copyFifos_bus (m : Mod) (src dst : Lane) : (m.copyFifos src dst).bus = m.bus := rfl

end Sys2Proof.Machine
end

