-- ==== Sys2Proof/Laws/Serve.lean ====
section
/-! SUPPORT. What the Command Port does with a served command, said once: the outcome follows from what the operation's
body answers. A proof about a row needs only the body. -/

namespace Sys2Proof.Machine

open Sys2Proof

/-- A power effect always answers a next state. -/
theorem power_powers (s : State) (f : Mod → Mod) : Powers (s.power f) s (f s.m) := by
  unfold Powers State.power
  cases h : (f s.m).pd 5 <;> simp [h]

theorem powers_of {o : Host.Outcome State Fault Refusal} {s : State} {f : Mod → Mod} {m : Mod} (h : o = s.power f)
    (hm : f s.m = m) : Powers o s m := by
  subst h hm
  exact power_powers s f

theorem becomes_of {o : Host.Outcome State Fault Refusal} {s : State} {f : Mod → Mod} {m : Mod} (h : o = s.act f)
    (hm : f s.m = m) : Becomes o s m := by
  subst h hm
  rfl

theorem serve_of_served {s : State} {opcode : Nat} {o : Op} {c : Cmd} (h : Served s opcode o c) :
    s.m.serve opcode o c = (s.m.answer opcode o c (o.body c s.m)).settle := by
  obtain ⟨ht, hp, hl⟩ := h
  unfold Mod.serve
  rw [if_neg (by simp [ht]), hp]
  cases hs : o.stamped c with
  | false => rfl
  | true => simp [hl hs]

theorem answer_accepted (s : State) (opcode : Nat) (o : Op) (c : Cmd) (m : Mod) (reply : Bytes) :
    s.m.answer opcode o c (Res.accepted m reply)
      = (m.fly (flightOf s opcode c [])).complete opcode c St.accepted reply (if o.stamped c then m.lanes.frame else 0) := rfl

theorem answer_final {s : State} {opcode : Nat} {o : Op} {c : Cmd} {st : Nat} (m : Mod) (reply : Bytes)
    (hs : o.stamped c = false) (ht : st ≠ St.accepted) :
    s.m.answer opcode o c { st := some st, reply := reply, m := m } = m.complete opcode c st reply 0 := by
  simp [Mod.answer, hs, ht]

theorem serve_checked {s : State} {opcode : Nat} {o : Op} {c : Cmd} {P : Prop} [Decidable P] {Q : Bool} {m : Mod} (h : Served s opcode o c)
    (hs : o.stamped c = false) (hb : o.body c s.m = if P then Res.err s.m St.denied else if Q then Res.err s.m St.notReady else Res.accepted m) :
    if P then Becomes (s.act fun n => n.serve opcode o c) s (s.m.complete opcode c St.denied [] 0).settle
    else if Q then Becomes (s.act fun n => n.serve opcode o c) s (s.m.complete opcode c St.notReady [] 0).settle
    else Becomes (s.act fun n => n.serve opcode o c) s ((m.fly (flightOf s opcode c [])).complete opcode c St.accepted [] 0).settle := by
  simp only [Becomes, State.act]
  rw [serve_of_served h, hb]
  split
  · rw [Res.err, answer_final _ _ hs (by decide)]
  · split
    · rw [Res.err, answer_final _ _ hs (by decide)]
    · rw [answer_accepted, hs]
      rfl

theorem ends_of_body {s : State} {opcode : Nat} {o : Op} {c : Cmd} {out : Host.Outcome State Fault Refusal} {cond : Prop}
    {st : Nat} {m : Mod} {reply : Bytes} (hx : out = s.act fun n => n.serve opcode o c) (hst : st ≠ St.accepted)
    (hb : cond → o.body c s.m = { st := some st, reply := reply, m := m }) :
    Ends s opcode o c out cond st m reply := by
  intro h hc
  have hf : cframeOf o c st m = if o.stamped c && (decide (st = St.ok) || decide (st = St.fault)) then m.lanes.frame else 0 := by
    unfold cframeOf
    simp only [beq_eq_decide]
  rw [Becomes, hx, State.act, serve_of_served h, hb hc, hf]
  simp [Mod.answer, hst]

theorem does_of_body {s : State} {opcode : Nat} {o : Op} {c : Cmd} {out : Host.Outcome State Fault Refusal} {cond : Prop}
    {m : Mod} {reply : Bytes} (hx : out = s.act fun n => n.serve opcode o c)
    (hb : cond → o.body c s.m = Res.ok m reply) : Does s opcode o c out cond m reply :=
  ends_of_body hx (by decide) hb

theorem starts_of_body {s : State} {opcode : Nat} {o : Op} {c : Cmd} {out : Host.Outcome State Fault Refusal} {cond : Prop}
    {m : Mod} {reply : Bytes} (hx : out = s.act fun n => n.serve opcode o c)
    (hb : cond → o.body c s.m = Res.accepted m reply) : Starts s opcode o c out cond m reply := by
  intro h hc
  rw [Becomes, hx, State.act, serve_of_served h, hb hc]
  rfl

theorem waits_of_body {s : State} {opcode : Nat} {o : Op} {c : Cmd} {out : Host.Outcome State Fault Refusal} {cond : Prop}
    {m : Mod} {waits : List (Nat × BitVec 32)} (hx : out = s.act fun n => n.serve opcode o c)
    (hb : cond → o.body c s.m = { st := none, waits := waits, m := m }) : Waits s opcode o c out cond m waits := by
  intro h hc
  rw [Becomes, hx, State.act, serve_of_served h, hb hc]
  rfl

end Sys2Proof.Machine
end

