-- ==== Sys2Proof/Laws/Tables.lean ====
section
/-! SUPPORT. Sparse tables and SDRAM: a read after a write, and the canonical form that every write keeps; folds over the
indices; what publishing and a write of an inbound slot leave alone. -/

namespace Sys2Proof.Tab

open Sys2Proof

variable {α : Type} [DecidableEq α]

theorem wfAbove_get_low (d : α) (t : Tab α) (j k : Nat) (h : wfAbove d (some j) t = true) (hk : k ≤ j) : get d t k = d := by
  induction t generalizing j with
  | nil => rfl
  | cons e t ih =>
    obtain ⟨i, v⟩ := e
    simp only [wfAbove, Bool.and_eq_true, decide_eq_true_eq] at h
    have hi : i ≠ k := by omega
    simp only [get, if_neg hi]
    exact ih i h.2 (by omega)

theorem wfAbove_mono (d : α) (t : Tab α) (i j : Nat) (h : wfAbove d (some j) t = true) (hij : i ≤ j) :
    wfAbove d (some i) t = true := by
  cases t with
  | nil => rfl
  | cons e t =>
    obtain ⟨k, v⟩ := e
    simp only [wfAbove, Bool.and_eq_true, decide_eq_true_eq] at h ⊢
    exact ⟨⟨by omega, h.1.2⟩, h.2⟩

/-- A read of another index is not changed by a write. -/
theorem get_put_ne (d : α) (t : Tab α) (k i : Nat) (v : α) (h : i ≠ k) : get d (put d t k v) i = get d t i := by
  induction t with
  | nil =>
    simp only [put]
    split
    · rfl
    · simp [get, h.symm]
  | cons e t ih =>
    obtain ⟨j, w⟩ := e
    simp only [put]
    split
    · split
      · rfl
      · simp [get, h.symm]
    · split
      · rename_i hk
        subst hk
        split
        · simp [get, h.symm]
        · simp [get, h.symm]
      · simp only [get, ih]

/-- A read of the index written gives the value, in a table in canonical form. -/
theorem get_put_same (d : α) (t : Tab α) (k : Nat) (v : α) (h : wf d t = true) : get d (put d t k v) k = v := by
  have key : ∀ (lo : Option Nat) (t : Tab α), wfAbove d lo t = true → get d (put d t k v) k = v := by
    intro lo t
    induction t generalizing lo with
    | nil =>
      intro _
      simp only [put]
      split
      · rename_i hv
        simp [get, hv]
      · simp [get]
    | cons e t ih =>
      obtain ⟨j, w⟩ := e
      intro h
      have ht : wfAbove d (some j) t = true := by
        cases lo with
        | none => simp only [wfAbove, Bool.and_eq_true] at h; exact h.2
        | some l => simp only [wfAbove, Bool.and_eq_true] at h; exact h.2
      simp only [put]
      split
      · rename_i hk
        split
        · rename_i hv
          have : j ≠ k := by omega
          simp only [get, if_neg this]
          rw [wfAbove_get_low d t j k ht (by omega), hv]
        · simp [get]
      · split
        · rename_i hk
          subst hk
          split
          · rename_i hv
            rw [wfAbove_get_low d t k k ht (by omega), hv]
          · simp [get]
        · rename_i h1 h2
          have : j ≠ k := by omega
          simp only [get, if_neg this]
          exact ih _ ht
  exact key none t h

/-- A value that is not the default is read back from any table. -/
theorem get_put_other (d : α) (t : Tab α) (k : Nat) (v : α) (h : v ≠ d) : get d (put d t k v) k = v := by
  induction t with
  | nil => simp [put, get, h]
  | cons e t ih =>
    obtain ⟨i, w⟩ := e
    simp only [put, if_neg h]
    split
    · simp [get]
    · split
      · simp [get]
      · rename_i h2
        simp [get, ih, Ne.symm h2]

/-- A write keeps the canonical form. -/
theorem put_wf (d : α) (t : Tab α) (k : Nat) (v : α) (h : wf d t = true) : wf d (put d t k v) = true := by
  have key : ∀ (lo : Option Nat) (t : Tab α), wfAbove d lo t = true → (∀ l, lo = some l → l < k) →
      wfAbove d lo (put d t k v) = true := by
    intro lo t
    induction t generalizing lo with
    | nil =>
      intro _ hl
      simp only [put]
      split
      · rfl
      · rename_i hv
        cases lo with
        | none => simp [wfAbove, hv]
        | some l => simp [wfAbove, hv, hl l rfl]
    | cons e t ih =>
      obtain ⟨j, w⟩ := e
      intro h hl
      have ht : wfAbove d (some j) t = true := by
        cases lo with
        | none => simp only [wfAbove, Bool.and_eq_true] at h; exact h.2
        | some l => simp only [wfAbove, Bool.and_eq_true] at h; exact h.2
      have hw : w ≠ d := by
        cases lo with
        | none => simp only [wfAbove, Bool.and_eq_true, decide_eq_true_eq] at h; exact h.1
        | some l => simp only [wfAbove, Bool.and_eq_true, decide_eq_true_eq] at h; exact h.1.2
      simp only [put]
      split
      · rename_i hk
        split
        · exact h
        · rename_i hv
          cases lo with
          | none => simp [wfAbove, hv, hw, hk, ht]
          | some l => simp [wfAbove, hv, hw, hk, ht, hl l rfl]
      · split
        · rename_i hk
          subst hk
          split
          · cases lo with
            | none =>
              cases t with
              | nil => rfl
              | cons e t =>
                obtain ⟨i, x⟩ := e
                simp only [wfAbove, Bool.and_eq_true, decide_eq_true_eq] at ht ⊢
                exact ⟨ht.1.2, ht.2⟩
            | some l => exact wfAbove_mono d t l k ht (Nat.le_of_lt (hl l rfl))
          · rename_i hv
            cases lo with
            | none => simp [wfAbove, hv, ht]
            | some l => simp [wfAbove, hv, ht, hl l rfl]
        · rename_i h1 h2
          have hjk : j < k := by omega
          have := ih (some j) ht (by intro l hl'; cases hl'; exact hjk)
          cases lo with
          | none => simp [wfAbove, hw, this]
          | some l =>
            simp only [wfAbove, Bool.and_eq_true, decide_eq_true_eq] at h
            simp [wfAbove, hw, this, h.1.1]
  exact key none t h (by simp)

end Sys2Proof.Tab

namespace Sys2Proof.Machine

open Sys2Proof

/-! ### SDRAM -/

/-- A byte written changes SDRAM and the poison of its line (R27). -/
theorem writeByte_spec (s : State) (a : Nat) (b : Byte) :
    ∃ mem q, s.writeByte a b = { s with mem := mem, m := { s.m with poison := q } } := by
  unfold State.writeByte
  split
  · exact ⟨_, _, rfl⟩
  · exact ⟨s.mem, s.m.poison, rfl⟩

@[simp] theorem writeByte_pending (s : State) (a : Nat) (b : Byte) : (s.writeByte a b).pending = s.pending := by
  unfold State.writeByte
  split <;> rfl

/-- An entry of a written table is an old one or the one written. -/
theorem mem_put {α : Type} [DecidableEq α] (d : α) (t : Tab α) (k : Nat) (v : α) (e : Nat × α) (h : e ∈ Tab.put d t k v) :
    e ∈ t ∨ e.1 = k := by
  induction t with
  | nil =>
    simp only [Tab.put] at h
    split at h
    · exact absurd h (by simp)
    · simp only [List.mem_singleton] at h
      exact .inr (by rw [h])
  | cons x t ih =>
    obtain ⟨j, w⟩ := x
    simp only [Tab.put] at h
    split at h
    · split at h
      · exact .inl h
      · rcases List.mem_cons.mp h with h | h
        · exact .inr (by rw [h])
        · exact .inl h
    · split at h
      · split at h
        · exact .inl (List.mem_cons_of_mem _ h)
        · rcases List.mem_cons.mp h with h | h
          · exact .inr (by rw [h])
          · exact .inl (List.mem_cons_of_mem _ h)
      · rcases List.mem_cons.mp h with h | h
        · exact .inl (by rw [h]; exact List.mem_cons_self)
        · rcases ih h with h | h
          · exact .inl (List.mem_cons_of_mem _ h)
          · exact .inr h

theorem writeByte_wf (s : State) (a : Nat) (b : Byte) (h : Memory.wf s.mem = true) : Memory.wf (s.writeByte a b).mem = true := by
  unfold State.writeByte
  split
  · rename_i ha
    unfold Memory.wf at h ⊢
    rw [Bool.and_eq_true] at h ⊢
    refine ⟨Tab.put_wf 0 s.mem a b h.1, List.all_eq_true.mpr fun e he => ?_⟩
    rcases mem_put 0 s.mem a b e he with h2 | h2
    · exact List.all_eq_true.mp h.2 e h2
    · rw [h2]
      exact ha
  · exact h

/-- A byte written in SDRAM reads back, whatever line it lies in (R27). -/
theorem writeByte_same (s : State) (a : Nat) (b : Byte) (h : Memory.wf s.mem = true) (ha : isSdram a = true) :
    (s.writeByte a b).readByte a = b := by
  unfold Memory.wf at h
  rw [Bool.and_eq_true] at h
  simp only [State.writeByte, State.readByte, ha, Bool.true_and, if_true]
  have hp : (s.m.cleanse a 1).poison.contains (a / 64) = false := by
    simp [Mod.cleanse]
  rw [hp]
  simpa using Tab.get_put_same 0 s.mem a b h.1

/-- A line that is not poisoned is not poisoned by a write (R27). -/
theorem cleanse_clean (m : Mod) (a n l : Nat) (hp : m.poison.contains l = false) : (m.cleanse a n).poison.contains l = false := by
  simp only [List.contains_eq_mem, decide_eq_false_iff_not] at hp ⊢
  exact fun hm => hp (List.mem_filter.mp hm).1

/-- A byte of another line keeps its value; one of the same line does too, unless the line was poisoned. -/
theorem writeByte_other (s : State) (a i : Nat) (b : Byte) (h : i ≠ a) (hp : s.m.poison.contains (i / 64) = false) :
    (s.writeByte a b).readByte i = s.readByte i := by
  unfold State.writeByte
  split
  · simp only [State.readByte]
    rw [hp, cleanse_clean s.m a 1 _ hp, Tab.get_put_ne 0 s.mem a i b h]
  · rfl

theorem writeByte_poison (s : State) (a : Nat) (b : Byte) (l : Nat) (hp : s.m.poison.contains l = false) :
    (s.writeByte a b).m.poison.contains l = false := by
  unfold State.writeByte
  split
  · exact cleanse_clean s.m a 1 l hp
  · exact hp

theorem writeMem_wf (s : State) (a : Nat) (bs : Bytes) (h : Memory.wf s.mem = true) : Memory.wf (s.writeMem a bs).mem = true := by
  induction bs generalizing s a with
  | nil => exact h
  | cons b t ih => exact ih (s.writeByte a b) (a + 1) (writeByte_wf s a b h)

/-- Bytes written change SDRAM and the poison of their lines (R27). -/
theorem writeMem_spec (s : State) (a : Nat) (bs : Bytes) :
    ∃ mem q, s.writeMem a bs = { s with mem := mem, m := { s.m with poison := q } } := by
  induction bs generalizing s a with
  | nil => exact ⟨s.mem, s.m.poison, rfl⟩
  | cons b t ih =>
    obtain ⟨mem, q, h⟩ := ih (s.writeByte a b) (a + 1)
    obtain ⟨mem', q', h'⟩ := writeByte_spec s a b
    exact ⟨mem, q, by rw [State.writeMem, h, h']⟩

theorem writeMem_pending (s : State) (a : Nat) (bs : Bytes) : (s.writeMem a bs).pending = s.pending := by
  induction bs generalizing s a with
  | nil => rfl
  | cons b t ih => exact (ih (s.writeByte a b) (a + 1)).trans (writeByte_pending s a b)

/-- Bytes outside the ones written keep their value, where their line was not poisoned. -/
theorem writeMem_other (s : State) (a i : Nat) (bs : Bytes) (h : i < a ∨ a + bs.length ≤ i)
    (hp : s.m.poison.contains (i / 64) = false) : (s.writeMem a bs).readByte i = s.readByte i := by
  induction bs generalizing s a with
  | nil => rfl
  | cons b t ih =>
    simp only [List.length_cons] at h
    have hn : i ≠ a := by omega
    exact (ih (s.writeByte a b) (a + 1) (by omega) (writeByte_poison s a b _ hp)).trans (writeByte_other s a i b hn hp)

/-- A power or reset command keeps the canonical form. -/
theorem power_wf (s t : State) (f : Mod → Mod) (h : Memory.wf s.mem = true) (ht : s.power f = .next t) :
    Memory.wf t.mem = true := by
  unfold State.power at ht
  dsimp only at ht
  split at ht
  · cases ht
    exact h
  · cases ht
    rfl

/-! ### Folds -/

/-- What every step of a fold keeps, the fold keeps. -/
theorem foldN_keeps {β γ : Type} (p : β → γ) (n : Nat) (f : β → Nat → β) (b : β) (h : ∀ x k, p (f x k) = p x) :
    p (foldN n f b) = p b := by
  unfold foldN
  generalize List.range n = l
  induction l generalizing b with
  | nil => rfl
  | cons k l ih => exact (ih (f b k)).trans (h b k)

/-! ### Publishing, and inbound slots -/

/-- A publication writes the publication ring alone; the lines it fills are poisoned no more (R27, R112). -/
theorem publishAt_spec (m : Mod) (cls inst typ ns : Nat) (body : Bytes) :
    ∃ p q, m.publishAt cls inst typ ns body = { m with pubs := p, poison := q } := by
  unfold Mod.publishAt
  split
  · exact ⟨_, _, rfl⟩
  · exact ⟨m.pubs, m.poison, rfl⟩

/-- A write of an inbound slot changes the slots and, where it is dropped, the event fabric (R181). -/
theorem fxPut_spec (m : Mod) (writer slot : Nat) (v : BitVec 32) (valid : Bool) :
    ∃ i e, m.fxPut writer slot v valid = { m with inp := i, evt := e } := by
  unfold Mod.fxPut
  split
  · exact ⟨m.inp, m.evt, rfl⟩
  · split
    · exact ⟨_, m.evt, rfl⟩
    · unfold Mod.fxDrop Mod.raise
      obtain ⟨e, h⟩ := raiseT_spec { m with inp := { m.inp with
        fxIn := Tab.upd {} m.inp.fxIn slot (fun x => { x with drops := inc32 x.drops })
        drops := if writer = 1 then inc32 m.inp.drops else m.inp.drops } } 63 (BitVec.ofNat 32 (slot + writer * 65536 + 2 ^ 24)) false
      exact ⟨_, e, h⟩

end Sys2Proof.Machine
end

