-- ==== Sys2Proof/Tests/Slice0.lean ====
section
/-! SUPPORT. Tests: each statement with hypotheses has states and operands that meet them, clause by clause; ill-formed commands
are refused by WellFormed; and a few values taken from the spec. -/

set_option Elab.async false
namespace Sys2Proof.Tests
open Sys2Proof Sys2Proof.Machine

/-- A parameter block of `n` bytes: zeros but for fields (offset, size, value). -/
def tP (n : Nat) (l : List (Nat × Nat × Nat)) : Bytes :=
  l.foldl (fun b p => b.take p.1 ++ le p.2.1 p.2.2 ++ b.drop (p.1 + p.2.1)) (zeros n)

/-- A command of an instance with its parameters. -/
def tC (inst : Nat) (p : Bytes) (ring : Nat := 0) : Cmd :=
  { ring := ring, inst := BitVec.ofNat 16 inst, plen := BitVec.ofNat 16 p.length, params := p }

/-- Every domain on, dispatch running, Lane A and Lane B in duplex. -/
def tS : State :=
  { m := { State.reset.m with
      pwr := { State.reset.m.pwr with domains := 0x7FF, mode := .run }
      lanes := { State.reset.m.lanes with run := true, redundancy := 0 }
      port := { State.reset.m.port with running := true } } }

/-- That state with its module changed. -/
def tW (f : Mod → Mod) : State := { tS with m := f tS.m }

/-- A captured image of one byte. -/
def tSnap : Snapshot := { frame := 0, raw := 0, image := [0], sections := 0, doneRaw := 0 }

/-- An activation in its first step. -/
def tAct : Activation := { step := 1, cmd := {}, slot := 0, lane := .b, diffs := 0, splitFrame := 0, switchFrame := 0 }

/-- A model package. -/
def tKmp : KmpIn := { target := true, version := 1, layerNs := 0, layers := 1, wcetUs := 1, weights := 1, acts := 1, inBytes := 1, outBytes := 1 }

/-- A vision job of handle 0. -/
def tJob : VisJob := { cmd := {}, picture := 0, timeRaw := 0, buf := 0, inArray := false }

/-- A satellite. -/
def tSat : SatRow := { system := 0, svid := 1, elevation := 0, use := 0, azimuth := 0, cn1 := 0, cn2 := 0 }

/-- A bundle with an empty SET_HOURS. -/
def tBundle : Bytes :=
  le 4 0x444E424B ++ le 2 1 ++ zeros 26 ++ le 1 32 ++ zeros 31 ++ (le 4 5 ++ le 4 32 ++ generation 5 0 []) ++ zeros 96

theorem test_generation_reads_back : sectionEntries 5 (generation 5 0 []) = some [] := by
  have hm := Config.genMagic.isLt
  have h1 : rd (generation 5 0 []) 0 4 = Config.genMagic.toNat := by
    have : generation 5 0 [] = le 4 Config.genMagic.toNat ++ (generation 5 0 []).drop 4 := by rfl
    rw [this, rd_le]
    omega
  have hs : slice (generation 5 0 []) 0 16 ++ zeros 16 ++ (generation 5 0 []).drop 32
      = le 4 Config.genMagic.toNat ++ le 1 5 ++ [1] ++ zeros 2 ++ le 4 0 ++ le 4 0 ++ le 4 0 ++ zeros 12 ++ [] := by rfl
  have h2 : rd (generation 5 0 []) 16 4 = crc32c (slice (generation 5 0 []) 0 16 ++ zeros 16 ++ (generation 5 0 []).drop 32) := by
    have e : generation 5 0 [] = (le 4 Config.genMagic.toNat ++ le 1 5 ++ [1] ++ zeros 2 ++ le 4 0 ++ le 4 0)
        ++ (le 4 (crc32c (le 4 Config.genMagic.toNat ++ le 1 5 ++ [1] ++ zeros 2 ++ le 4 0 ++ le 4 0 ++ le 4 0 ++ zeros 12 ++ [])) ++ zeros 12) := by
      simp [generation]
    rw [hs]
    rw [e, rd_le_at _ _ _ _ _ (by simp)]
    have := crc32c_lt (le 4 Config.genMagic.toNat ++ le 1 5 ++ [1] ++ zeros 2 ++ le 4 0 ++ le 4 0 ++ le 4 0 ++ zeros 12 ++ [])
    omega
  unfold sectionEntries
  extract_lets body crc
  have hl : (generation 5 0 []).length = 32 := by simp [generation]
  have hb : body = [] := by rfl
  have h3 : rd (generation 5 0 []) 4 1 = 5 := by rfl
  have h4 : rd (generation 5 0 []) 5 1 = 1 := by rfl
  have h5 : rd (generation 5 0 []) 12 4 = 0 := by rfl
  rw [if_neg (by simp [hl, h1, h2, h3, h4, h5, hb, crc, body])]
  rw [hb]
  rfl

set_option maxRecDepth 20000 in
theorem test_bundle : bundleSets tBundle = some [(5, [])] := by
  have hx : bundleSections 7 ((tBundle.take (tBundle.length - 96)).drop bundleHead) = some [(5, generation 5 0 [])] := by rfl
  unfold bundleSets
  extract_lets body
  rw [if_neg (by decide +kernel)]
  rw [show body.drop bundleHead = (tBundle.take (tBundle.length - 96)).drop bundleHead from rfl, hx]
  simp only [List.map_cons, List.map_nil, test_generation_reads_back]
  rfl

/-- An event in a queue. -/
def tRaise : Raise := { src := 0, param := 0, raw := 0, test := false, lost := false, sev := 0 }

/-- A transfer to Lane B. -/
def tPunty : Punty := { recv := .b, start := 0 }

/-- A safety cycle with the tick. -/
def tSafeIn : SafeIn := { tick := true }

/-- A back-channel request. -/
def tBc : BcMsg := { typ := 0x20, seq := 0, slot := 0xFF, payload := [] }

/-- A job that is ready, and its picture. -/
def tPJob : PipeJob := { slot := 0, picture := 0, stripe := 1, lo := 0, hi := 0, readyRaw := 0 }
def tPic : Pic := { num := 0, rcd := [], ctx := none, pipe := some 1, timeRaw := 0 }

/-- A record of the log. -/
def tRec : LogRec :=
  { seq := 0, code := 1, sev := 0, test := false, lost := false, vol := false, src := 0, supp := 0, opTime := 0, cycles := 0,
    raw := 0, params := [] }

/-- An adoption with nothing left to write. -/
def tAdo : Adoption := { cmd := {}, todo := [], serial := 0, machine := 0, safety := none }

/-- A gate list with one entry of 1 ms. -/
def tGcl : Gcl := { entries := [(0xFF, 1000000)], cycle := 1000000, start := 0 }

/-- An Ethernet frame with a launch time. -/
def tEth : EthFrame := { bytes := zeros 60, launch := some 10, desc := none, late := false }

/-- A CAN frame. -/
def tFrame : CanFrame := { idw := 0, dlc := 0 }

/-- A solution of an antenna without satellites. -/
def tSol : AntSol := { used := [], sbas := 0, ambig := 0, clkBias := 0, clkDrift := 0 }

/-- A position, velocity and time solution without a fix. -/
def tPvt : PvtIn :=
  { ant1 := tSol, ant2 := tSol, vector := none, lat := 0, lon := 0, height := 0, velN := 0, velE := 0, velU := 0, sog := 0,
    sdH := 0, sdV := 0, sdVel := 0, azimuth := 0, pitch := 0, baseline := 0, sdHeading := 0, pdop := 0 }

/-- A sample for the Fusion Engine. -/
def tFuseIn : FuseIn := { time := 0, v0 := 0, v1 := 0, v2 := 0, sd := 0 }

/-- A link block of type 1 with a CRC that matches. -/
def tBlock : Bytes := tP 252 [(0, 1, 1), (4, 2, 1)] ++ le 4 (crc32 (tP 252 [(0, 1, 1), (4, 2, 1)]))

/-- An echo with a CRC that matches. -/
def tMsg : Bytes := tP 28 [(0, 1, 0x22)] ++ le 4 (crc32 (tP 28 [(0, 1, 0x22)]))

/-- A safety PDU with a CRC that matches. -/
def tPdu : Bytes := tP 12 [(11, 1, 1)] ++ le 4 (pduCrc 6 0 (tP 12 [(11, 1, 1)]))

/-- A transmit descriptor that the host gave to the switch. -/
def tDesc : State :=
  { tS with
    m := { tS.m with eth := { tS.m.eth with switchOn := true, rings := some (tP 24 [(0, 8, 0x80000000)]) } }
    mem := [(0x8000000C, 1)] }

/-- A frame of the Reheat station. -/
def tSeg : CanFrame := { idw := BitVec.ofNat 32 (0x1CEF0AF1 + 2 ^ 29), dlc := 8, data := zeros 8 }

/-- An RTCM frame with nothing after the message number. -/
def tRtcm (msg : Nat) : Bytes :=
  let h : Bytes := [0xD3, 0, 2, BitVec.ofNat 8 (msg / 16), BitVec.ofNat 8 (msg % 16 * 16)]
  let c := crc24q h
  h ++ [BitVec.ofNat 8 (c / 65536), BitVec.ofNat 8 (c / 256), BitVec.ofNat 8 c]

/-- States and operands that meet the hypotheses of StepRunsFrontCommand, clause by clause. -/
theorem test_meets_step_runs_front_command :
    ∃ (i : Instr) (l : List Instr) (s : State), s.pending = i :: l :=
  ⟨.powerOn, [], { tS with pending := [.powerOn] }, rfl⟩

/-- States and operands that meet the hypotheses of IdleStepTicks, clause by clause. -/
theorem test_meets_idle_step_ticks :
    (∃ s : State, s.pending = [] ∧ s.m.alive = true) ∧
    (∃ s : State, s.pending = [] ∧ s.m.alive = false) :=
  ⟨⟨tS, by decide +kernel⟩,
    ⟨tW fun m => { m with pwr := { m.pwr with domains := 0 } }, by decide +kernel⟩⟩

/-- States and operands that meet the hypotheses of StepKeepsMemoryForm, clause by clause. -/
theorem test_meets_step_keeps_memory_form :
    ∃ s t : State, Memory.wf s.mem = true ∧ s.mem ≠ [] ∧ step s = .next t :=
  ⟨{ tS with mem := [(0x80000000, 5)], pending := [.keyLow] }, _, by decide +kernel, by decide +kernel, rfl⟩

/-- States and operands that meet the hypotheses of OthersKeepSdram, clause by clause. -/
theorem test_meets_others_keep_sdram :
    ∃ (i : Instr) (s t : State), mayStore i = false ∧ exec i s = .next t :=
  ⟨.keyLow, tS, _, by decide +kernel, rfl⟩

/-- States and operands that meet the hypotheses of ResetsKeepOrDropSdram, clause by clause. -/
theorem test_meets_resets_keep_or_drop_sdram :
    (∃ (i : Instr) (s t : State), resetsOrPowers i = true ∧ exec i s = .next t ∧ t.m.pd 5 = false) ∧
    (∃ (i : Instr) (s t : State), resetsOrPowers i = true ∧ exec i s = .next t ∧ t.m.pd 5 = true ∧ ∀ k, i ≠ .clockFail k) :=
  ⟨⟨.powerOn, State.reset, _, by decide +kernel, rfl, by decide +kernel⟩,
    ⟨.wakeInput, tS, _, by decide +kernel, rfl, by decide +kernel, by simp⟩⟩

/-- States and operands that meet the hypotheses of DispatchRoundRobin, clause by clause. -/
theorem test_meets_dispatch_round_robin :
    ∃ (s : State) (r : Nat), s.m.alive = true ∧ s.m.port.running = true ∧ s.m.port.turn < 16 ∧ r < 16
      ∧ s.m.markWaits.ringReady r = true ∧ s.m.markWaits.ringSpace r = true
      ∧ ∀ k : Nat, k < (r + 16 - s.m.port.turn) % 16 →
        s.m.markWaits.ringReady ((s.m.port.turn + k) % 16) = false ∨ s.m.markWaits.ringSpace ((s.m.port.turn + k) % 16) = false :=
  ⟨tW fun m => m.setRing 3 { m.ring 3 with enable := true, sqTail := 1 }, 3, by decide +kernel⟩

/-- States and operands that meet the hypotheses of CompletionSpace, clause by clause. -/
theorem test_meets_completion_space :
    (∃ (m : Mod) (r : Nat), 12 ≤ r ∧ r < 16 ∧ m.ringReady r = true ∧ m.ringSpace r = true) ∧
    (∃ (m : Mod) (r : Nat), r < 12 ∧ (m.ring r).enable = true ∧ m.ringReady r = true ∧ m.ringSpace r = false) ∧
    (∃ s : State, s.m.alive = true ∧ s.m.port.running = true
      ∧ ∀ r, r < 16 → s.m.markWaits.ringReady r = true → s.m.markWaits.ringSpace r = false) ∧
    (∃ c : Cmd, c.ring < 12) :=
  ⟨⟨tS.m.setRing 12 { tS.m.ring 12 with sqTail := 1 }, 12, by decide +kernel⟩,
    ⟨tS.m.setRing 11 { tS.m.ring 11 with enable := true, sqTail := 1, cqTail := 256 }, 11, by decide +kernel⟩,
    ⟨tW fun m => m.setRing 11 { m.ring 11 with enable := true, sqTail := 1, cqTail := 256 }, by decide +kernel⟩,
    ⟨tC 0 [] 11, by decide⟩⟩

/-- States and operands that meet the hypotheses of CompletionLayout, clause by clause. -/
theorem test_meets_completion_layout :
    ∃ (opcode tag st frame : Nat) (reply : Bytes), opcode < 2 ^ 16 ∧ tag < 2 ^ 16 ∧ st < 2 ^ 16 ∧ frame < 2 ^ 64 ∧ reply.length ≤ 240 :=
  ⟨0xFFFF, 0xFFFF, 0xFFFF, 2 ^ 64 - 1, zeros 240, by decide +kernel⟩

/-- States and operands that meet the hypotheses of CheckOrder, clause by clause. -/
theorem test_meets_check_order :
    (∃ (s : State) (c : Cmd), s.m.takes c.ring = true ∧ 240 < c.plen.toNat) ∧
    (∃ (c : Cmd), c.plen.toNat ≤ 240 ∧ (opOf 0x0199).isNone = true) ∧
    (∃ (c : Cmd) (o : Op), opOf 0x0101 = some o ∧ c.plen.toNat ≤ 240 ∧ o.len c = false) ∧
    (∃ (c : Cmd) (o : Op), opOf 0x0101 = some o ∧ c.plen.toNat ≤ 240 ∧ o.len c = true ∧ o.insts ≤ c.inst.toNat) ∧
    (∃ (c : Cmd) (o : Op), opOf 0x0101 = some o ∧ o.len c = true ∧ c.inst.toNat < o.insts ∧ (∀ k, o.only = some k → c.inst.toNat = k) ∧ c.rsvd ≠ 0) ∧
    (∃ (s : State) (c : Cmd) (o : Op), opOf 0x0103 = some o ∧ o.len c = true ∧ c.inst.toNat < o.insts ∧ (∀ k, o.only = some k → c.inst.toNat = k)
      ∧ c.rsvd = 0 ∧ c.flags.toNat < 16 ∧ (o.stamped c = true ∨ (c.flags.toNat.testBit 3 = false ∧ c.cframe = 0)) ∧ s.m.allowed 0x0103 c = false) ∧
    (∃ (s : State) (c : Cmd) (o : Op), opOf 0x0711 = some o ∧ o.len c = true ∧ c.inst.toNat < o.insts ∧ (∀ k, o.only = some k → c.inst.toNat = k)
      ∧ c.rsvd = 0 ∧ c.flags.toNat < 16 ∧ (o.stamped c = true ∨ (c.flags.toNat.testBit 3 = false ∧ c.cframe = 0))
      ∧ o.never = false ∧ s.m.allowed 0x0711 c = true ∧ lockedOp 0x0711 c.inst.toNat = true ∧ s.m.safe.unlocked = false) :=
  ⟨⟨tS, { plen := 241 }, by decide +kernel⟩,
    ⟨{ plen := 240 }, by decide +kernel⟩,
    ⟨{ plen := 1 }, _, rfl, by decide +kernel⟩,
    ⟨{ inst := 1 }, _, rfl, by decide +kernel⟩,
    ⟨{ rsvd := 1 }, _, rfl, by decide +kernel, by decide +kernel, by simp [opSysGetInfo, opInfo], by decide +kernel⟩,
    ⟨tS, tC 0 (zeros 0) 12, _, rfl, by decide +kernel, by decide +kernel, by simp [opSysSetConfig], by decide +kernel⟩,
    ⟨tS, tC 0 (zeros 8) 14, _, rfl, by decide +kernel, by decide +kernel, by simp [opConfirmParams], by decide +kernel⟩⟩

/-- States and operands that meet the hypotheses of CorrectedErrorReported, clause by clause. -/
theorem test_meets_corrected_error_reported :
    (∃ (s : State) (l : Lane), (s.m.lane l).st ≠ .off) ∧
    (∃ (s : State) (l : Lane), (s.m.lane l).st = .off) :=
  ⟨⟨tW fun m => m.setLane .b { m.lane .b with st := .active }, .b, by decide +kernel⟩,
    ⟨State.reset, .a, by decide +kernel⟩⟩

/-- States and operands that meet the hypotheses of BadBlockDiscarded, clause by clause. -/
theorem test_meets_bad_block_discarded :
    ∃ (s : State) (k : Nat) (block : Bytes), k ≤ 2 ∧ s.m.pd 7 = true ∧ (s.m.link k).locked = true
      ∧ block.length = 256 ∧ crc32 (block.take 252) ≠ rd block 252 4 :=
  ⟨tW fun m => m.setLink 2 { m.link 2 with locked := true }, 2, zeros 256, by decide +kernel⟩

/-- States and operands that meet the hypotheses of FullFifoDrops, clause by clause. -/
theorem test_meets_full_fifo_drops :
    (∃ x : RxFifo, 512 ≤ x.q.length) ∧
    (∃ x : RxFifo, x.q.length < 512) :=
  ⟨⟨{ q := List.replicate 512 { words := [], seq := 0 } }, by decide +kernel⟩,
    ⟨{ q := List.replicate 511 { words := [], seq := 0 } }, by decide +kernel⟩⟩

/-- States and operands that meet the hypotheses of FixedRoutes, clause by clause. -/
theorem test_meets_fixed_routes :
    (∃ (c : Cmd) (s : State), Served s 0x1003 opEvtSetConfig c
      ∧ (c.inst.toNat < 16 ∨ (64 ≤ c.inst.toNat ∧ c.inst.toNat ≤ 71) ∨ (118 ≤ c.inst.toNat ∧ c.inst.toNat ≤ 127))
      ∧ ((rd c.params 0 2).testBit 10 = false ∨ (rd c.params 0 2).testBit 11 = false) ∧ c.inst = 15) ∧
    (∃ (c : Cmd) (s : State), Served s 0x1003 opEvtSetConfig c
      ∧ (c.inst.toNat < 16 ∨ (64 ≤ c.inst.toNat ∧ c.inst.toNat ≤ 71) ∨ (118 ≤ c.inst.toNat ∧ c.inst.toNat ≤ 127))
      ∧ ((rd c.params 0 2).testBit 10 = false ∨ (rd c.params 0 2).testBit 11 = false) ∧ c.inst = 64) ∧
    (∃ (c : Cmd) (s : State), Served s 0x1003 opEvtSetConfig c
      ∧ (c.inst.toNat < 16 ∨ (64 ≤ c.inst.toNat ∧ c.inst.toNat ≤ 71) ∨ (118 ≤ c.inst.toNat ∧ c.inst.toNat ≤ 127))
      ∧ ((rd c.params 0 2).testBit 10 = false ∨ (rd c.params 0 2).testBit 11 = false) ∧ c.inst = 127) :=
  ⟨⟨tC 15 (tP 4 [(0, 2, 1024)]), tS, ⟨by decide +kernel, by decide +kernel⟩, by decide +kernel⟩,
    ⟨tC 64 (tP 4 [(0, 2, 2048)]), tS, ⟨by decide +kernel, by decide +kernel⟩, by decide +kernel⟩,
    ⟨tC 127 (tP 4 [(0, 2, 0)]), tS, ⟨by decide +kernel, by decide +kernel⟩, by decide +kernel⟩⟩

/-- States and operands that meet the hypotheses of ConfirmMakesConfirmed, clause by clause. -/
theorem test_meets_confirm_makes_confirmed :
    (∃ (c : Cmd) (s : State) (j k : Nat), Served s 0x1314 opUpdConfirm c ∧ s.m.upd.act = none
      ∧ ((List.range 2).find? fun n => decide ((s.m.slot n).st = .trial) && !(s.m.slot n).armed) = some k ∧ s.m.confirmedSlot = some j
      ∧ (s.m.slot k).arb ≤ s.m.upd.otp) ∧
    (∃ (c : Cmd) (s : State) (j k : Nat), Served s 0x1314 opUpdConfirm c ∧ s.m.upd.act = none
      ∧ ((List.range 2).find? fun n => decide ((s.m.slot n).st = .trial) && !(s.m.slot n).armed) = some k ∧ s.m.confirmedSlot = some j
      ∧ s.m.upd.otp < (s.m.slot k).arb) :=
  ⟨⟨tC 0 [] 14, tW fun m => m.setSlot 1 { m.slot 1 with st := .trial, manifest := tP 80 [(33, 1, 0)] }, 0, 1, ⟨by decide +kernel, by decide +kernel⟩, by decide +kernel⟩,
    ⟨tC 0 [] 14, tW fun m => m.setSlot 1 { m.slot 1 with st := .trial, manifest := tP 80 [(33, 1, 1)] }, 0, 1, ⟨by decide +kernel, by decide +kernel⟩, by decide +kernel⟩⟩

/-- States and operands that meet the hypotheses of TensorStore, clause by clause. -/
theorem test_meets_tensor_store :
    ∃ (s : State) (p q : Nat) (j : VisJob) (d : Model), p ≤ 1 ∧ s.m.pd 6 = true ∧ s.m.visStuck p = false
      ∧ s.m.visNow p = some (q, j, d) ∧ j.aborted = false ∧ rd j.cmd.params 16 8 ≠ 0 ∧ Memory.wf s.mem = true :=
  ⟨tW fun m => m.setPart 1 { m.part 1 with running := some 0, queue := [(0, [{ tJob with cmd := tC 1 (tP 24 [(16, 8, 0x80000100)]) }])], models := [{ handle := 0, kmp := tKmp }] }, 1, 0, { tJob with cmd := tC 1 (tP 24 [(16, 8, 0x80000100)]) }, { handle := 0, kmp := tKmp }, by decide +kernel⟩

/-- States and operands that meet the hypotheses of HostReceiveStore, clause by clause. -/
theorem test_meets_host_receive_store :
    (∃ (s : State) (r : Bytes), s.m.eth.rings = some r
      ∧ rd (s.readMem (rd r 8 8 + 64 * s.m.eth.rxNext + 11) 1) 0 1 % 2 = 1) ∧
    (∃ (s : State) (r : Bytes), s.m.eth.rings = some r
      ∧ rd (s.readMem (rd r 8 8 + 64 * s.m.eth.rxNext + 11) 1) 0 1 % 2 = 0) :=
  ⟨⟨{ tW fun m => { m with eth := { m.eth with rings := some (tP 24 [(8, 8, 0x80000000)]) } } with mem := [(0x8000000B, 1)] }, tP 24 [(8, 8, 0x80000000)], by decide +kernel⟩,
    ⟨tW fun m => { m with eth := { m.eth with rings := some (tP 24 [(8, 8, 0x80000000)]) } }, tP 24 [(8, 8, 0x80000000)], by decide +kernel⟩⟩

/-- States and operands that meet the hypotheses of StoreReadsBack, clause by clause. -/
theorem test_meets_store_reads_back :
    ∃ (s : State) (addr : Nat), s.m.appOn = true ∧ inApp addr 8 = true ∧ Memory.wf s.mem = true :=
  ⟨{ tS with mem := [(0x80000000, 5)] }, 0x3FFFFFFF8, by decide +kernel⟩

/-- States and operands that meet the hypotheses of InfoCommandsAnswer, clause by clause. -/
theorem test_meets_info_commands_answer :
    (∃ (c : Cmd) (s : State), Served s 0x0101 opSysGetInfo c ∧ (True)) ∧
    (∃ (c : Cmd) (s : State), Served s 0x0201 opTimeGetInfo c ∧ (True)) ∧
    (∃ (c : Cmd) (s : State), Served s 0x0301 opLaneGetInfo c ∧ (True)) ∧
    (∃ (c : Cmd) (s : State), Served s 0x0401 opLoopGetInfo c ∧ (True)) ∧
    (∃ (c : Cmd) (s : State), Served s 0x0501 opDrvGetInfo c ∧ (True)) ∧
    (∃ (c : Cmd) (s : State), Served s 0x0601 opInpGetInfo c ∧ (True)) ∧
    (∃ (c : Cmd) (s : State), Served s 0x0701 opSafeGetInfo c ∧ (True)) ∧
    (∃ (c : Cmd) (s : State), Served s 0x0801 opCanGetInfo c ∧ (True)) ∧
    (∃ (c : Cmd) (s : State), Served s 0x0901 opEthGetInfo c ∧ (True)) ∧
    (∃ (c : Cmd) (s : State), Served s 0x0A01 opGnssGetInfo c ∧ (True)) ∧
    (∃ (c : Cmd) (s : State), Served s 0x0B01 opFuseGetInfo c ∧ (True)) ∧
    (∃ (c : Cmd) (s : State), Served s 0x0C01 opClnkGetInfo c ∧ (True)) ∧
    (∃ (c : Cmd) (s : State), Served s 0x0D01 opPipeGetInfo c ∧ (True)) ∧
    (∃ (c : Cmd) (s : State), Served s 0x0E01 opVisGetInfo c ∧ (True)) ∧
    (∃ (c : Cmd) (s : State), Served s 0x0F01 opSegGetInfo c ∧ (True)) ∧
    (∃ (c : Cmd) (s : State), Served s 0x1001 opEvtGetInfo c ∧ (True)) ∧
    (∃ (c : Cmd) (s : State), Served s 0x1101 opLogGetInfo c ∧ (True)) ∧
    (∃ (c : Cmd) (s : State), Served s 0x1201 opNvsGetInfo c ∧ (True)) ∧
    (∃ (c : Cmd) (s : State), Served s 0x1301 opUpdGetInfo c ∧ (True)) ∧
    (∃ (c : Cmd) (s : State), Served s 0x1401 opPwrGetInfo c ∧ (True)) :=
  ⟨⟨tC 0 (tP 0 []), tS, ⟨by decide +kernel, by decide +kernel⟩, by decide +kernel⟩,
    ⟨tC 0 (tP 0 []), tS, ⟨by decide +kernel, by decide +kernel⟩, by decide +kernel⟩,
    ⟨tC 0 (tP 0 []), tS, ⟨by decide +kernel, by decide +kernel⟩, by decide +kernel⟩,
    ⟨tC 0 (tP 0 []), tS, ⟨by decide +kernel, by decide +kernel⟩, by decide +kernel⟩,
    ⟨tC 0 (tP 0 []), tS, ⟨by decide +kernel, by decide +kernel⟩, by decide +kernel⟩,
    ⟨tC 0 (tP 0 []), tS, ⟨by decide +kernel, by decide +kernel⟩, by decide +kernel⟩,
    ⟨tC 0 (tP 0 []), tS, ⟨by decide +kernel, by decide +kernel⟩, by decide +kernel⟩,
    ⟨tC 0 (tP 0 []), tS, ⟨by decide +kernel, by decide +kernel⟩, by decide +kernel⟩,
    ⟨tC 0 (tP 0 []), tS, ⟨by decide +kernel, by decide +kernel⟩, by decide +kernel⟩,
    ⟨tC 0 (tP 0 []), tS, ⟨by decide +kernel, by decide +kernel⟩, by decide +kernel⟩,
    ⟨tC 0 (tP 0 []), tS, ⟨by decide +kernel, by decide +kernel⟩, by decide +kernel⟩,
    ⟨tC 0 (tP 0 []), tS, ⟨by decide +kernel, by decide +kernel⟩, by decide +kernel⟩,
    ⟨tC 0 (tP 0 []), tS, ⟨by decide +kernel, by decide +kernel⟩, by decide +kernel⟩,
    ⟨tC 0 (tP 0 []), tS, ⟨by decide +kernel, by decide +kernel⟩, by decide +kernel⟩,
    ⟨tC 0 (tP 0 []), tS, ⟨by decide +kernel, by decide +kernel⟩, by decide +kernel⟩,
    ⟨tC 0 (tP 0 []), tS, ⟨by decide +kernel, by decide +kernel⟩, by decide +kernel⟩,
    ⟨tC 0 (tP 0 []), tS, ⟨by decide +kernel, by decide +kernel⟩, by decide +kernel⟩,
    ⟨tC 0 (tP 0 []), tS, ⟨by decide +kernel, by decide +kernel⟩, by decide +kernel⟩,
    ⟨tC 0 (tP 0 []), tS, ⟨by decide +kernel, by decide +kernel⟩, by decide +kernel⟩,
    ⟨tC 0 (tP 0 []), tS, ⟨by decide +kernel, by decide +kernel⟩, by decide +kernel⟩⟩

/-- States and operands that meet the hypotheses of ConfigurationReads, clause by clause. -/
theorem test_meets_configuration_reads :
    (∃ (c : Cmd) (s : State), Served s 0x0104 opSysGetConfig c ∧ (True)) ∧
    (∃ (c : Cmd) (s : State), Served s 0x0204 opTimeGetConfig c ∧ (True)) ∧
    (∃ (c : Cmd) (s : State), Served s 0x0304 opLaneGetConfig c ∧ (True)) ∧
    (∃ (c : Cmd) (s : State), Served s 0x0404 opLoopGetConfig c ∧ (True)) ∧
    (∃ (c : Cmd) (s : State), Served s 0x0504 opDrvGetConfig c ∧ (True)) ∧
    (∃ (c : Cmd) (s : State), Served s 0x0604 opInpGetConfig c ∧ (True)) ∧
    (∃ (c : Cmd) (s : State) (r : Bytes), Served s 0x0704 opSafeGetConfig c ∧ (rd c.params 0 1 ≤ 1 ∧ isZero c.params 1 3 = true ∧ (if rd c.params 0 1 = 0 then s.m.safe.rcd else s.m.safe.staged) = some r)) ∧
    (∃ (c : Cmd) (s : State), Served s 0x0804 opCanGetConfig c ∧ (True)) ∧
    (∃ (c : Cmd) (s : State), Served s 0x0904 opEthGetConfig c ∧ (True)) ∧
    (∃ (c : Cmd) (s : State), Served s 0x0A04 opGnssGetConfig c ∧ (True)) ∧
    (∃ (c : Cmd) (s : State), Served s 0x0B04 opFuseGetConfig c ∧ (True)) ∧
    (∃ (c : Cmd) (s : State), Served s 0x0C04 opClnkGetConfig c ∧ (True)) ∧
    (∃ (c : Cmd) (s : State), Served s 0x0D04 opPipeGetConfig c ∧ (True)) ∧
    (∃ (c : Cmd) (s : State), Served s 0x0E04 opVisGetConfig c ∧ (True)) ∧
    (∃ (c : Cmd) (s : State), Served s 0x0F04 opSegGetConfig c ∧ (True)) ∧
    (∃ (c : Cmd) (s : State), Served s 0x1004 opEvtGetConfig c ∧ (True)) ∧
    (∃ (c : Cmd) (s : State), Served s 0x1104 opLogGetConfig c ∧ (True)) ∧
    (∃ (c : Cmd) (s : State), Served s 0x1204 opNvsGetConfig c ∧ (True)) ∧
    (∃ (c : Cmd) (s : State), Served s 0x1304 opUpdGetConfig c ∧ (True)) ∧
    (∃ (c : Cmd) (s : State), Served s 0x1404 opPwrGetConfig c ∧ (True)) ∧
    (∃ (c : Cmd) (s : State), Served s 0x0103 opSysSetConfig c ∧ (True)) ∧
    (∃ (c : Cmd) (s : State), Served s 0x0203 opTimeSetConfig c ∧ (True)) ∧
    (∃ (c : Cmd) (s : State), Served s 0x1203 opNvsSetConfig c ∧ (True)) ∧
    (∃ (c : Cmd) (s : State), Served s 0x1303 opUpdSetConfig c ∧ (True)) :=
  ⟨⟨tC 0 (tP 0 []), tS, ⟨by decide +kernel, by decide +kernel⟩, by decide +kernel⟩,
    ⟨tC 0 (tP 0 []), tS, ⟨by decide +kernel, by decide +kernel⟩, by decide +kernel⟩,
    ⟨tC 0 (tP 0 []), tS, ⟨by decide +kernel, by decide +kernel⟩, by decide +kernel⟩,
    ⟨tC 0 (tP 0 []), tS, ⟨by decide +kernel, by decide +kernel⟩, by decide +kernel⟩,
    ⟨tC 0 (tP 0 []), tS, ⟨by decide +kernel, by decide +kernel⟩, by decide +kernel⟩,
    ⟨tC 0 (tP 0 []), tS, ⟨by decide +kernel, by decide +kernel⟩, by decide +kernel⟩,
    ⟨tC 0 (tP 4 []), (tW fun m => { m with safe := { m.safe with rcd := some [] } }), [], ⟨by decide +kernel, by decide +kernel⟩, by decide +kernel⟩,
    ⟨tC 0 (tP 0 []), tS, ⟨by decide +kernel, by decide +kernel⟩, by decide +kernel⟩,
    ⟨tC 0 (tP 0 []), tS, ⟨by decide +kernel, by decide +kernel⟩, by decide +kernel⟩,
    ⟨tC 0 (tP 0 []), tS, ⟨by decide +kernel, by decide +kernel⟩, by decide +kernel⟩,
    ⟨tC 0 (tP 0 []), tS, ⟨by decide +kernel, by decide +kernel⟩, by decide +kernel⟩,
    ⟨tC 0 (tP 0 []), tS, ⟨by decide +kernel, by decide +kernel⟩, by decide +kernel⟩,
    ⟨tC 0 (tP 0 []), tS, ⟨by decide +kernel, by decide +kernel⟩, by decide +kernel⟩,
    ⟨tC 0 (tP 0 []), tS, ⟨by decide +kernel, by decide +kernel⟩, by decide +kernel⟩,
    ⟨tC 0 (tP 0 []), tS, ⟨by decide +kernel, by decide +kernel⟩, by decide +kernel⟩,
    ⟨tC 0 (tP 0 []), tS, ⟨by decide +kernel, by decide +kernel⟩, by decide +kernel⟩,
    ⟨tC 0 (tP 0 []), tS, ⟨by decide +kernel, by decide +kernel⟩, by decide +kernel⟩,
    ⟨tC 0 (tP 0 []), tS, ⟨by decide +kernel, by decide +kernel⟩, by decide +kernel⟩,
    ⟨tC 0 (tP 0 []), tS, ⟨by decide +kernel, by decide +kernel⟩, by decide +kernel⟩,
    ⟨tC 0 (tP 0 []), tS, ⟨by decide +kernel, by decide +kernel⟩, by decide +kernel⟩,
    ⟨tC 0 (tP 0 []), tS, ⟨by decide +kernel, by decide +kernel⟩, by decide +kernel⟩,
    ⟨tC 0 (tP 0 []), tS, ⟨by decide +kernel, by decide +kernel⟩, by decide +kernel⟩,
    ⟨tC 0 (tP 0 []), tS, ⟨by decide +kernel, by decide +kernel⟩, by decide +kernel⟩,
    ⟨tC 0 (tP 0 []), tS, ⟨by decide +kernel, by decide +kernel⟩, by decide +kernel⟩⟩

/-- States and operands that meet the hypotheses of ConfigurationWrites, clause by clause. -/
theorem test_meets_configuration_writes :
    (∃ (c : Cmd) (s : State), Served s 0x0303 opLaneSetConfig c ∧ (c.inst = 0 ∧ rd (slice c.params 0 4) 0 1 ≤ 1 ∧ inRange (rd (slice c.params 0 4) 1 1) 1 10 = true ∧ isZero (slice c.params 0 4) 2 2 = true)) ∧
    (∃ (c : Cmd) (s : State), Served s 0x0403 opLoopSetConfig c ∧ (loopRecordOk (slice c.params 0 120) = true ∧ (s.m.loopCh c.inst.toNat).mode = .off
      ∧ (∀ k, destKey (slice c.params 0 120) = some k → ∀ j < 64, j ≠ c.inst.toNat → destKey (s.m.loopRec j) ≠ some k))) ∧
    (∃ (c : Cmd) (s : State), Served s 0x0503 opDrvSetConfig c ∧ (drvRecordOk c.inst.toNat (slice c.params 0 (drvRecLen c.inst.toNat)) = true ∧ c.inst.toNat < 76 ∧ (s.m.drvCh c.inst.toNat).en = false ∧ (s.m.drvCh c.inst.toNat).mode = 0)) ∧
    (∃ (c : Cmd) (s : State), Served s 0x0703 opSafeSetConfig c ∧ (safeRecordOk c.params = true)) ∧
    (∃ (c : Cmd) (s : State), Served s 0x0803 opCanSetConfig c ∧ (canRecordOk c.inst.toNat (slice c.params 0 24) = true ∧ (s.m.canCh c.inst.toNat).st = 0)) ∧
    (∃ (c : Cmd) (s : State), Served s 0x0903 opEthSetConfig c ∧ (ethRecordOk c.inst.toNat (slice c.params 0 c.plen.toNat) = true ∧ (s.m.eport c.inst.toNat).link = false)) ∧
    (∃ (c : Cmd) (s : State), Served s 0x0A03 opGnssSetConfig c ∧ (gnssRecordOk (slice c.params 0 40) = true)) ∧
    (∃ (c : Cmd) (s : State), Served s 0x0B03 opFuseSetConfig c ∧ ((if c.inst.toNat = 32 then engRecordOk (slice c.params 0 (fuseRecLen c.inst.toNat))
      else if c.inst.toNat = 33 then s.m.accRecordOk (slice c.params 0 (fuseRecLen c.inst.toNat)) else srcRecordOk (slice c.params 0 (fuseRecLen c.inst.toNat))) = true)) ∧
    (∃ (c : Cmd) (s : State), Served s 0x0C03 opClnkSetConfig c ∧ (rd (slice c.params 0 4) 0 1 ≤ 1 ∧ rd (slice c.params 0 4) 1 1 ≤ 1 ∧ isZero (slice c.params 0 4) 2 2 = true
      ∧ (s.m.link c.inst.toNat).st = .off)) ∧
    (∃ (c : Cmd) (s : State), Served s 0x0D03 opPipeSetConfig c ∧ (flagsRecordOk (slice c.params 0 4) = true)) ∧
    (∃ (c : Cmd) (s : State), Served s 0x0E03 opVisSetConfig c ∧ (flagsRecordOk (slice c.params 0 4) = true)) ∧
    (∃ (c : Cmd) (s : State), Served s 0x0F03 opSegSetConfig c ∧ (segRecordOk (slice c.params 0 16) = true)) ∧
    (∃ (c : Cmd) (s : State), Served s 0x1003 opEvtSetConfig c ∧ (rd (slice c.params 0 4) 0 2 < 4096 ∧ rd (slice c.params 0 4) 2 1 ≤ 7 ∧ isZero (slice c.params 0 4) 3 1 = true
      ∧ fixedRoute c.inst.toNat = false)) ∧
    (∃ (c : Cmd) (s : State), Served s 0x1103 opLogSetConfig c ∧ (isZero (slice c.params 0 4) 1 1 = true ∧ inRange (rd (slice c.params 0 4) 2 2) 1 3600 = true
      ∧ rd s.m.logRec 0 1 = rd (slice c.params 0 4) 0 1 ∧ inRange (rd s.m.logRec 0 1) 1 64 = true)) ∧
    (∃ (c : Cmd) (s : State), Served s 0x1403 opPwrSetConfig c ∧ (inRange (rd (slice c.params 0 8) 0 2) 50 2000 = true ∧ rd (slice c.params 0 8) 2 2 ≤ 300 ∧ rd (slice c.params 0 8) 4 2 ≤ 1440
      ∧ isZero (slice c.params 0 8) 6 2 = true)) ∧
    (∃ (c : Cmd) (s : State), Served s 0x0603 opInpSetConfig c ∧ (inpRecordOk c.inst.toNat (slice c.params 0 (inpKind c.inst.toNat).len) = true ∧ s.m.quadB c.inst.toNat = false)) ∧
    (∃ (c : Cmd) (s : State), Served s 0x0603 opInpSetConfig c ∧ (inpRecordOk c.inst.toNat (slice c.params 0 (inpKind c.inst.toNat).len) = true ∧ s.m.quadB c.inst.toNat = true)) :=
  ⟨⟨tC 0 (tP 4 [(1, 1, 1)]), tS, ⟨by decide +kernel, by decide +kernel⟩, by decide +kernel⟩,
    ⟨tC 0 (tP 120 [(0, 1, 1), (3, 1, 1), (16, 1, 2), (74, 1, 1), (75, 1, 1), (92, 4, 1065353216), (108, 4, 1065353216)]), tS, ⟨by decide +kernel, by decide +kernel⟩, by decide +kernel⟩,
    ⟨tC 48 (tP 8 [(0, 1, 1), (2, 2, 100)]), tS, ⟨by decide +kernel, by decide +kernel⟩, by decide +kernel⟩,
    ⟨tC 0 (((List.range 12).flatMap fun _ => (le 2 0 ++ le 1 10 ++ [0] ++ le 2 10)) ++ zeros 16 ++ le 2 50 ++ le 2 10 ++ le 2 1000 ++ le 2 0 ++ le 2 1 ++ le 2 1 ++ zeros 12) 14, (tW fun m => { m with safe := { m.safe with spRuns := true, stillCnt := 2001, service := true } }), ⟨by decide +kernel, by decide +kernel⟩, by decide +kernel⟩,
    ⟨tC 0 (tP 24 [(4, 1, 1), (5, 1, 1), (6, 2, 158), (8, 1, 1), (9, 1, 1), (10, 1, 13), (11, 1, 6), (12, 1, 1), (20, 2, 1)]), tS, ⟨by decide +kernel, by decide +kernel⟩, by decide +kernel⟩,
    ⟨tC 0 (tP 12 [(2, 2, 1)]), tS, ⟨by decide +kernel, by decide +kernel⟩, by decide +kernel⟩,
    ⟨tC 0 (tP 40 [(3, 1, 20), (12, 2, 10), (14, 2, 500), (20, 2, 10)]), tS, ⟨by decide +kernel, by decide +kernel⟩, by decide +kernel⟩,
    ⟨tC 0 (tP 48 [(8, 4, 250)]), tS, ⟨by decide +kernel, by decide +kernel⟩, by decide +kernel⟩,
    ⟨tC 0 (tP 4 []), tS, ⟨by decide +kernel, by decide +kernel⟩, by decide +kernel⟩,
    ⟨tC 0 (tP 4 []), tS, ⟨by decide +kernel, by decide +kernel⟩, by decide +kernel⟩,
    ⟨tC 0 (tP 4 []), tS, ⟨by decide +kernel, by decide +kernel⟩, by decide +kernel⟩,
    ⟨tC 0 (tP 16 [(2, 2, 64), (4, 2, 64)]), tS, ⟨by decide +kernel, by decide +kernel⟩, by decide +kernel⟩,
    ⟨tC 20 (tP 4 []), tS, ⟨by decide +kernel, by decide +kernel⟩, by decide +kernel⟩,
    ⟨tC 0 (tP 4 [(0, 1, 8), (2, 2, 1)]), tS, ⟨by decide +kernel, by decide +kernel⟩, by decide +kernel⟩,
    ⟨tC 0 (tP 8 [(0, 2, 50)]), tS, ⟨by decide +kernel, by decide +kernel⟩, by decide +kernel⟩,
    ⟨tC 96 (tP 8 [(2, 2, 500), (4, 2, 200)]), tS, ⟨by decide +kernel, by decide +kernel⟩, by decide +kernel⟩,
    ⟨tC 65 (tP 12 [(4, 2, 1), (6, 2, 20)]), (tW fun m => (m.setCfg 0x0603 64 (tP 12 [(0, 1, 3), (4, 2, 1), (6, 2, 20)])).setInp 64 { m.inpCh 64 with enabled := true }), ⟨by decide +kernel, by decide +kernel⟩, by decide +kernel⟩⟩

/-- States and operands that meet the hypotheses of SystemCommands, clause by clause. -/
theorem test_meets_system_commands :
    (∃ (c : Cmd) (s : State), Served s 0x0110 opFence c ∧ (True)) ∧
    (∃ (c : Cmd) (s : State), Served s 0x0111 opBarrier c ∧ (isZero c.params 2 2 = true)) ∧
    (∃ (c : Cmd) (s : State), Served s 0x0112 opSnapshot c ∧ (snapParamsOk c = true ∧ rd c.params 1 1 = 0 ∧ s.m.port.snap = none ∧ s.m.port.snapWait = none)) ∧
    (∃ (c : Cmd) (s : State) (x : Snapshot), Served s 0x0114 opSnapshotRead c ∧ (s.m.port.snapHeld c.ring = false ∧ s.m.port.snap = some x ∧ 1 ≤ rd c.params 4 2 ∧ rd c.params 4 2 ≤ 232 ∧ isZero c.params 6 2 = true
      ∧ rd c.params 0 4 + rd c.params 4 2 ≤ x.image.length ∧ s.m.port.snapReads < 64)) ∧
    (∃ (c : Cmd) (s : State), Served s 0x0115 opSnapshotRelease c ∧ (s.m.port.snapHeld c.ring = false ∧ s.m.port.snap ≠ none)) ∧
    (∃ (c : Cmd) (s : State), Served s 0x0118 opSessionProve c ∧ ((s.m.ring c.ring).session.opened = false)) ∧
    (∃ (c : Cmd) (s : State), Served s 0x0117 opSessionOpen c ∧ isZero c.params 113 3 = true) ∧
    (∃ (c : Cmd) (s : State), Served s 0x0118 opSessionProve c ∧ (s.m.ring c.ring).session.opened = true) ∧
    (∃ (c : Cmd) (s : State), Served s 0x0110 opFence c ∧ (s.m.port.flight.all fun f => !f.isFence && f.cmd.ring != c.ring) = true ∧ (s.m.port.laneQ.all fun q => q.cmd.ring != c.ring) = true) ∧
    (∃ (c : Cmd) (s : State), Served s 0x0111 opBarrier c ∧ isZero c.params 2 2 = true ∧ (s.m.port.flight.all fun f => !f.isFence && !(Nat.lor (rd c.params 0 2) (2 ^ c.ring)).testBit f.cmd.ring) = true ∧ (s.m.port.laneQ.all fun q => !(Nat.lor (rd c.params 0 2) (2 ^ c.ring)).testBit q.cmd.ring) = true ∧ (∀ r < 16, r ≠ c.ring → (Nat.lor (rd c.params 0 2) (2 ^ c.ring)).testBit r = true → (s.m.ring r).sqHead = (s.m.ring r).sqTail)) :=
  ⟨⟨tC 0 (tP 0 []), tS, ⟨by decide +kernel, by decide +kernel⟩, by decide +kernel⟩,
    ⟨tC 0 (tP 4 []), tS, ⟨by decide +kernel, by decide +kernel⟩, by decide +kernel⟩,
    ⟨tC 0 (tP 16 []), tS, ⟨by decide +kernel, by decide +kernel⟩, by decide +kernel⟩,
    ⟨tC 0 (tP 8 [(4, 2, 1)]), (tW fun m => { m with port := { m.port with snap := some tSnap } }), tSnap, ⟨by decide +kernel, by decide +kernel⟩, by decide +kernel⟩,
    ⟨tC 0 (tP 0 []), (tW fun m => { m with port := { m.port with snap := some tSnap } }), ⟨by decide +kernel, by decide +kernel⟩, by decide +kernel⟩,
    ⟨tC 0 (tP 104 []) 12, tS, ⟨by decide +kernel, by decide +kernel⟩, by decide +kernel⟩,
    ⟨tC 0 (tP 116 []) 12, tS, ⟨by decide +kernel, by decide +kernel⟩, by decide +kernel⟩,
    ⟨tC 0 (tP 104 []) 12, (tW fun m => m.setRing 12 { m.ring 12 with session := { (m.ring 12).session with opened := true } }), ⟨by decide +kernel, by decide +kernel⟩, by decide +kernel⟩,
    ⟨tC 0 (tP 0 []), tS, ⟨by decide +kernel, by decide +kernel⟩, by decide +kernel⟩,
    ⟨tC 0 (tP 4 []), tS, ⟨by decide +kernel, by decide +kernel⟩, by decide +kernel⟩⟩

/-- States and operands that meet the hypotheses of TimeCommands, clause by clause. -/
theorem test_meets_time_commands :
    (∃ (c : Cmd) (s : State), Served s 0x0213 opReadTime c ∧ (True)) ∧
    (∃ (c : Cmd) (s : State), Served s 0x0210 opSetSource c ∧ (1 ≤ rd (slice c.params 0 16) 0 1 ∧ rd (slice c.params 0 16) 0 1 ≤ 3 ∧ ((List.range 3).all fun k =>
        let v := rd (slice c.params 0 16) (1 + k) 1
        if k < rd (slice c.params 0 16) 0 1 then decide (v ≤ 3) && (v != 0 || rd (slice c.params 0 16) 0 1 == 1) else v == 0) = true)) ∧
    (∃ (c : Cmd) (s : State), Served s 0x0212 opSetPps c ∧ (rd (slice c.params 0 16) 0 1 ≤ 1 ∧ rd (slice c.params 0 16) 1 1 ≤ 2 ∧ 1 ≤ rd (slice c.params 0 16) 2 2 ∧ rd (slice c.params 0 16) 2 2 ≤ 500
      ∧ rd (slice c.params 0 16) 4 1 ≤ 1 ∧ rd (slice c.params 0 16) 5 1 ≤ 1 ∧ rdI (slice c.params 0 16) 6 1 = 0
      ∧ isZero (slice c.params 0 16) 7 1 = true)) ∧
    (∃ (c : Cmd) (s : State), Served s 0x0211 opScheduleCorrection c ∧ (rd c.params 8 1 = 2 ∧ isZero c.params 9 7 = true ∧ s.m.freeRun = true ∧ s.m.time.pending = none ∧ s.m.now + 1250 ≤ rd c.params 0 8
      ∧ (s.m.time.recs.filter fun r => s.m.now < r.c0 + secs 3600).length < 8192)) ∧
    (∃ (c : Cmd) (s : State) (v : Int), Served s 0x0116 opFrameAtTime c ∧ (parse96 c.params 0 = some v ∧ s.m.lanes.started = true ∧ s.m.earliest ≤ s.m.frameAt v)) :=
  ⟨⟨tC 0 (tP 0 []), tS, ⟨by decide +kernel, by decide +kernel⟩, by decide +kernel⟩,
    ⟨tC 0 (tP 16 [(0, 1, 1), (1, 1, 1)]), tS, ⟨by decide +kernel, by decide +kernel⟩, by decide +kernel⟩,
    ⟨tC 0 (tP 16 [(2, 2, 1)]), tS, ⟨by decide +kernel, by decide +kernel⟩, by decide +kernel⟩,
    ⟨tC 0 (tP 32 [(0, 8, 5000), (8, 1, 2)]), (tW fun m => m.setCfg 0x0210 0 (tP 16 [(0, 1, 1)])), ⟨by decide +kernel, by decide +kernel⟩, by decide +kernel⟩,
    ⟨tC 0 (tP 12 [(6, 4, 1)]), (tW fun m => { m with lanes := { m.lanes with started := true } }), 1000000000 * 65536, ⟨by decide +kernel, by decide +kernel⟩, by decide +kernel⟩⟩

/-- States and operands that meet the hypotheses of LaneCommands, clause by clause. -/
theorem test_meets_lane_commands :
    (∃ (c : Cmd) (s : State), Served s 0x0310 opForceTakeover c ∧ (rd c.params 0 1 = 0 ∧ rd c.params 1 1 ≤ 249 ∧ isZero c.params 2 2 = true ∧ s.m.upd.act = none
      ∧ (s.m.lane (laneOf c.inst.toNat)).st = .standby ∧ s.m.lanes.takeover = none)) ∧
    (∃ (c : Cmd) (s : State), Served s 0x0310 opForceTakeover c ∧ (rd c.params 0 1 = 1 ∧ rd c.params 1 1 ≤ 249 ∧ isZero c.params 2 2 = true ∧ s.m.upd.act = none
      ∧ (s.m.lane (laneOf c.inst.toNat)).st = .standby ∧ s.m.lanes.takeover = none)) ∧
    (∃ (c : Cmd) (s : State), Served s 0x0310 opForceTakeover c ∧ (rd c.params 0 1 ≤ 1 ∧ rd c.params 1 1 ≤ 249 ∧ isZero c.params 2 2 = true ∧ (s.m.lane (laneOf c.inst.toNat)).st ≠ .standby)) ∧
    (∃ (c : Cmd) (s : State), Served s 0x0311 opSetRedundancy c ∧ (rd c.params 0 1 = 1 ∧ isZero c.params 1 3 = true ∧ s.m.upd.act = none ∧ (s.m.lane (laneOf c.inst.toNat)).st = .active)) ∧
    (∃ (c : Cmd) (s : State), Served s 0x0312 opGetLaneStats c ∧ (True)) ∧
    (∃ (c : Cmd) (s : State), Served s 0x0313 opClearLaneStats c ∧ (True)) ∧
    (∃ (c : Cmd) (s : State) (n : Nat), s.m.takes c.ring = true ∧ s.m.portCheck 0x0113 opHoldFrames c = none ∧ s.m.stampFrame 0x0113 c = .inl n ∧ s.m.holdCheck c n = none ∧ s.m.port.laneQ.length < 512) :=
  ⟨⟨tC 1 (tP 4 []), (tW fun m => { m with lanes := { m.lanes with a := { m.lanes.a with st := .active }, b := { m.lanes.b with st := .standby } } }), ⟨by decide +kernel, by decide +kernel⟩, by decide +kernel⟩,
    ⟨tC 1 (tP 4 [(0, 1, 1)]), (tW fun m => { m with lanes := { m.lanes with a := { m.lanes.a with st := .active }, b := { m.lanes.b with st := .standby } } }), ⟨by decide +kernel, by decide +kernel⟩, by decide +kernel⟩,
    ⟨tC 1 (tP 4 []), tS, ⟨by decide +kernel, by decide +kernel⟩, by decide +kernel⟩,
    ⟨tC 0 (tP 4 [(0, 1, 1)]), (tW fun m => { m with lanes := { m.lanes with a := { m.lanes.a with st := .active }, b := { m.lanes.b with st := .standby } } }), ⟨by decide +kernel, by decide +kernel⟩, by decide +kernel⟩,
    ⟨tC 0 (tP 0 []), tS, ⟨by decide +kernel, by decide +kernel⟩, by decide +kernel⟩,
    ⟨tC 0 (tP 0 []), tS, ⟨by decide +kernel, by decide +kernel⟩, by decide +kernel⟩,
    ⟨tC 0 (tP 4 [(0, 1, 1)]), tS, 1, by decide +kernel⟩⟩

/-- States and operands that meet the hypotheses of LoopCommands, clause by clause. -/
theorem test_meets_loop_commands :
    (∃ (c : Cmd) (s : State), Served s 0x0405 opLoopEnable c ∧ (rd (s.m.loopRec c.inst.toNat) 0 1 ≠ 0 ∧ (s.m.loopCh c.inst.toNat).mode = .off)) ∧
    (∃ (c : Cmd) (s : State), Served s 0x0406 opLoopDisable c ∧ (True)) ∧
    (∃ (c : Cmd) (s : State), Served s 0x0407 opLoopResetInstance c ∧ (True)) ∧
    (∃ (c : Cmd) (s : State), Served s 0x0410 opSetMode c ∧ (1 ≤ rd c.params 0 1 ∧ rd c.params 0 1 ≤ 3 ∧ isZero c.params 1 3 = true ∧ S.isFin (rdF c.params 4) = true
      ∧ (s.m.loopCh c.inst.toNat).mode ≠ .off)) ∧
    (∃ (c : Cmd) (s : State), Served s 0x0411 opSetSetpoint c ∧ (rd c.params 0 1 = 1 ∧ isZero c.params 1 3 = true ∧ S.isFin (rdF c.params 4) = true ∧ S.isFin (rdF c.params 8) = true
      ∧ rd (s.m.loopRec c.inst.toNat) 4 1 = 1)) ∧
    (∃ (c : Cmd) (s : State), Served s 0x0412 opSetBreakpoints c ∧ (rd c.params 0 1 = 0 ∧ rd c.params 1 1 = 0 ∧ rd c.params 2 1 = 0 ∧ rd c.params 3 1 ≤ 56 ∧ isZero c.params 5 3 = true
      ∧ (((List.range (rd c.params 3 1)).map fun k => rdF c.params (8 + 4 * k)).all S.isFin) = true)) ∧
    (∃ (c : Cmd) (s : State), Served s 0x0413 opWriteSchedule c ∧ (1 ≤ rd c.params 2 2 ∧ rd c.params 2 2 ≤ 112 ∧ rd c.params 0 2 + rd c.params 2 2 ≤ 16384
      ∧ ((List.range (rd c.params 2 2)).any fun k => rd c.params (4 + 2 * k) 2 / 1024 % 4 == 3) = false)) ∧
    (∃ (c : Cmd) (s : State), Served s 0x0414 opWriteCoeff c ∧ (rd c.params 0 2 ≤ 1023 ∧ isZero c.params 2 2 = true ∧ (((List.range 22).map fun k => rdF c.params (4 + 4 * k)).all S.isFin) = true
      ∧ s.m.blendSide (rd c.params 0 2) = false ∧ s.m.setInUse (rd c.params 0 2) = false ∧ (∀ i < 64, (s.m.loopCh i).mode ≠ .auto)
      ∧ (((List.range 22).map fun k => rdF c.params (4 + 4 * k)).all (· == 0)) = false)) ∧
    (∃ (c : Cmd) (s : State), Served s 0x0415 opReadTable c ∧ (rd c.params 0 1 = 0 ∧ rd c.params 1 1 = 0 ∧ 1 ≤ rd c.params 4 2 ∧ rd c.params 4 2 ≤ 112
      ∧ rd c.params 2 2 + rd c.params 4 2 ≤ 16384 ∧ isZero c.params 6 2 = true)) ∧
    (∃ (c : Cmd) (s : State), Served s 0x0415 opReadTable c ∧ (rd c.params 0 1 = 1 ∧ rd c.params 1 1 = 0 ∧ rd c.params 4 2 = 0 ∧ rd c.params 2 2 ≤ 1023 ∧ isZero c.params 6 2 = true)) :=
  ⟨⟨tC 0 (tP 0 []), (tW fun m => m.setCfg 0x0403 0 (tP 120 [(0, 1, 1), (3, 1, 1), (4, 1, 1)])), ⟨by decide +kernel, by decide +kernel⟩, by decide +kernel⟩,
    ⟨tC 0 (tP 0 []), tS, ⟨by decide +kernel, by decide +kernel⟩, by decide +kernel⟩,
    ⟨tC 0 (tP 0 []), tS, ⟨by decide +kernel, by decide +kernel⟩, by decide +kernel⟩,
    ⟨tC 0 (tP 8 [(0, 1, 1)]), (tW fun m => m.setLoop 0 { m.loopCh 0 with mode := .manual }), ⟨by decide +kernel, by decide +kernel⟩, by decide +kernel⟩,
    ⟨tC 0 (tP 12 [(0, 1, 1)]), (tW fun m => m.setCfg 0x0403 0 (tP 120 [(0, 1, 1), (3, 1, 1), (4, 1, 1)])), ⟨by decide +kernel, by decide +kernel⟩, by decide +kernel⟩,
    ⟨tC 0 (tP 8 []), tS, ⟨by decide +kernel, by decide +kernel⟩, by decide +kernel⟩,
    ⟨tC 0 (tP 6 [(2, 2, 1)]), tS, ⟨by decide +kernel, by decide +kernel⟩, by decide +kernel⟩,
    ⟨tC 0 (tP 92 [(4, 4, 1065353216)]), tS, ⟨by decide +kernel, by decide +kernel⟩, by decide +kernel⟩,
    ⟨tC 0 (tP 8 [(4, 2, 1)]), tS, ⟨by decide +kernel, by decide +kernel⟩, by decide +kernel⟩,
    ⟨tC 0 (tP 8 [(0, 1, 1)]), tS, ⟨by decide +kernel, by decide +kernel⟩, by decide +kernel⟩⟩

/-- States and operands that meet the hypotheses of DriverCommands, clause by clause. -/
theorem test_meets_driver_commands :
    (∃ (c : Cmd) (s : State), Served s 0x0505 opDrvEnable c ∧ (64 ≤ c.inst.toNat ∧ c.inst.toNat < 76 ∧ (s.m.bank c.inst.toNat).latched = false)) ∧
    (∃ (c : Cmd) (s : State), Served s 0x0505 opDrvEnable c ∧ (c.inst.toNat < 64 ∧ (s.m.drvCh c.inst.toNat).latched = false ∧ (s.m.drvCh c.inst.toNat).en = false ∧ rd (s.m.drvRec c.inst.toNat) 0 1 ≠ 0)) ∧
    (∃ (c : Cmd) (s : State), Served s 0x0505 opDrvEnable c ∧ (c.inst.toNat < 64 ∧ (s.m.drvCh c.inst.toNat).latched = true)) ∧
    (∃ (c : Cmd) (s : State), Served s 0x0506 opDrvDisable c ∧ (True)) ∧
    (∃ (c : Cmd) (s : State), Served s 0x0507 opDrvResetInstance c ∧ (c.inst.toNat < 64)) ∧
    (∃ (c : Cmd) (s : State), Served s 0x0510 opSetOutput c ∧ (isZero c.params 2 2 = true ∧ 48 ≤ c.inst.toNat ∧ s.m.drvOwner c.inst.toNat = none ∧ (s.m.drvCh c.inst.toNat).latched = false ∧ (s.m.drvCh c.inst.toNat).en = true)) ∧
    (∃ (c : Cmd) (s : State), Served s 0x0510 opSetOutput c ∧ (isZero c.params 2 2 = true ∧ 48 ≤ c.inst.toNat ∧ s.m.drvOwner c.inst.toNat ≠ none)) ∧
    (∃ (c : Cmd) (s : State), Served s 0x0513 opClearFault c ∧ (True)) ∧
    (∃ (c : Cmd) (s : State), Served s 0x0511 opPhFire c ∧ (rd c.params 0 1 ≤ 249 ∧ isZero c.params 1 3 = true ∧ rd (s.m.drvRec c.inst.toNat) 0 1 = 3 ∧ s.m.drvOwner c.inst.toNat = none
      ∧ (s.m.drvCh c.inst.toNat).latched = false ∧ (s.m.drvCh c.inst.toNat).en = true)) ∧
    (∃ (c : Cmd) (s : State), Served s 0x0512 opPhStop c ∧ (rd c.params 0 1 ≤ 249 ∧ isZero c.params 1 3 = true ∧ rd (s.m.drvRec c.inst.toNat) 0 1 = 3 ∧ s.m.drvOwner c.inst.toNat = none
      ∧ (s.m.drvCh c.inst.toNat).latched = false ∧ (s.m.drvCh c.inst.toNat).en = true)) :=
  ⟨⟨tC 64 (tP 0 []), tS, ⟨by decide +kernel, by decide +kernel⟩, by decide +kernel⟩,
    ⟨tC 48 (tP 0 []), (tW fun m => m.setCfg 0x0503 48 (tP 8 [(0, 1, 1)])), ⟨by decide +kernel, by decide +kernel⟩, by decide +kernel⟩,
    ⟨tC 0 (tP 0 []), (tW fun m => m.setDrv 0 { m.drvCh 0 with latched := true }), ⟨by decide +kernel, by decide +kernel⟩, by decide +kernel⟩,
    ⟨tC 0 (tP 0 []), tS, ⟨by decide +kernel, by decide +kernel⟩, by decide +kernel⟩,
    ⟨tC 0 (tP 0 []), tS, ⟨by decide +kernel, by decide +kernel⟩, by decide +kernel⟩,
    ⟨tC 48 (tP 4 []), (tW fun m => m.setDrv 48 { m.drvCh 48 with en := true }), ⟨by decide +kernel, by decide +kernel⟩, by decide +kernel⟩,
    ⟨tC 48 (tP 4 []), (tW fun m => m.setCfg 0x0403 0 (tP 120 [(76, 1, 3)])), ⟨by decide +kernel, by decide +kernel⟩, by decide +kernel⟩,
    ⟨tC 0 (tP 0 []), tS, ⟨by decide +kernel, by decide +kernel⟩, by decide +kernel⟩,
    ⟨tC 0 (tP 4 []), (tW fun m => (m.setCfg 0x0503 0 (tP 40 [(0, 1, 3)])).setDrv 0 { m.drvCh 0 with en := true }), ⟨by decide +kernel, by decide +kernel⟩, by decide +kernel⟩,
    ⟨tC 0 (tP 4 []), (tW fun m => (m.setCfg 0x0503 0 (tP 40 [(0, 1, 3)])).setDrv 0 { m.drvCh 0 with en := true }), ⟨by decide +kernel, by decide +kernel⟩, by decide +kernel⟩⟩

/-- States and operands that meet the hypotheses of InputCommands, clause by clause. -/
theorem test_meets_input_commands :
    (∃ (c : Cmd) (s : State), Served s 0x0605 opInpEnable c ∧ (True)) ∧
    (∃ (c : Cmd) (s : State), Served s 0x0606 opInpDisable c ∧ (True)) ∧
    (∃ (c : Cmd) (s : State), Served s 0x0610 opBindSlot c ∧ (bindOk (slice c.params 0 16) = true)) ∧
    (∃ (c : Cmd) (s : State), Served s 0x0611 opReadSlot c ∧ (rd c.params 0 1 = 0 ∧ isZero c.params 2 2 = true)) ∧
    (∃ (c : Cmd) (s : State), Served s 0x0612 opReadVector c ∧ (1 ≤ rd c.params 2 2 ∧ rd c.params 2 2 ≤ 55 ∧ rd c.params 0 2 + rd c.params 2 2 ≤ 512)) ∧
    (∃ (c : Cmd) (s : State), Served s 0x0607 opInpResetInstance c ∧ (True)) :=
  ⟨⟨tC 0 (tP 0 []), tS, ⟨by decide +kernel, by decide +kernel⟩, by decide +kernel⟩,
    ⟨tC 0 (tP 0 []), tS, ⟨by decide +kernel, by decide +kernel⟩, by decide +kernel⟩,
    ⟨tC 0 (tP 16 []), tS, ⟨by decide +kernel, by decide +kernel⟩, by decide +kernel⟩,
    ⟨tC 0 (tP 4 []), tS, ⟨by decide +kernel, by decide +kernel⟩, by decide +kernel⟩,
    ⟨tC 0 (tP 4 [(2, 2, 1)]), tS, ⟨by decide +kernel, by decide +kernel⟩, by decide +kernel⟩,
    ⟨tC 0 (tP 0 []), tS, ⟨by decide +kernel, by decide +kernel⟩, by decide +kernel⟩⟩

/-- States and operands that meet the hypotheses of SafetyCommands, clause by clause. -/
theorem test_meets_safety_commands :
    (∃ (c : Cmd) (s : State), Served s 0x0710 opServiceMode c ∧ (rd c.params 0 1 = 1 ∧ isZero c.params 1 3 = true ∧ s.m.safe.pairOf 6 = none ∧ s.m.safe.standstill = true)) ∧
    (∃ (c : Cmd) (s : State), Served s 0x0710 opServiceMode c ∧ (rd c.params 0 1 = 1 ∧ isZero c.params 1 3 = true ∧ s.m.safe.pairOf 6 = none ∧ s.m.safe.standstill = false)) ∧
    (∃ (c : Cmd) (s : State) (r : Bytes), Served s 0x0711 opConfirmParams c ∧ (s.m.safe.staged = some r ∧ rd c.params 0 4 = crcSp r ∧ rd c.params 4 4 = crcJack r)) ∧
    (∃ (c : Cmd) (s : State), Served s 0x0711 opConfirmParams c ∧ (s.m.safe.staged = none)) :=
  ⟨⟨tC 0 (tP 4 [(0, 1, 1)]) 14, (tW fun m => { m with safe := { m.safe with spRuns := true, stillCnt := 2001 } }), ⟨by decide +kernel, by decide +kernel⟩, by decide +kernel⟩,
    ⟨tC 0 (tP 4 [(0, 1, 1)]) 14, tS, ⟨by decide +kernel, by decide +kernel⟩, by decide +kernel⟩,
    ⟨tC 0 (le 4 (crcSp []) ++ le 4 (crcJack [])) 14, (tW fun m => { m with safe := { m.safe with spRuns := true, stillCnt := 2001, service := true, staged := some [] } }), [], ⟨by decide +kernel, by decide +kernel⟩, by decide +kernel⟩,
    ⟨tC 0 (tP 8 []) 14, (tW fun m => { m with safe := { m.safe with spRuns := true, stillCnt := 2001, service := true } }), ⟨by decide +kernel, by decide +kernel⟩, by decide +kernel⟩⟩

/-- States and operands that meet the hypotheses of CanCommands, clause by clause. -/
theorem test_meets_can_commands :
    (∃ (c : Cmd) (s : State), Served s 0x0805 opCanEnable c ∧ (True)) ∧
    (∃ (c : Cmd) (s : State), Served s 0x0806 opCanDisable c ∧ (True)) ∧
    (∃ (c : Cmd) (s : State), Served s 0x0810 opRxRead c ∧ (1 ≤ rd c.params 0 1 ∧ rd c.params 0 1 ≤ 8 ∧ isZero c.params 1 3 = true)) ∧
    (∃ (c : Cmd) (s : State) (y : CanCh), Served s 0x0811 opTransmit c ∧ (rd c.params 0 4 < 2 ^ 31 ∧ rd c.params 4 1 = 0 ∧ isZero c.params 6 2 = true ∧ canLenOk (rd c.params 5 1) false = true
      ∧ (s.m.canCh c.inst.toNat).st ≠ 0 ∧ rd (s.m.canRec c.inst.toNat) 0 1 ≠ 1
      ∧ (s.m.canCh c.inst.toNat).enqueue { frame := canFrameOf (rd c.params 0 4) 0 (slice c.params 8 (rd c.params 5 1)), app := true, confirm := none, attempts := 0 } = some y)) ∧
    (∃ (c : Cmd) (s : State), Served s 0x0812 opCanAbort c ∧ (rd c.params 0 1 ≤ 2 ∧ isZero c.params 1 3 = true ∧ (s.m.canCh c.inst.toNat).st = 0)) ∧
    (∃ (c : Cmd) (s : State), Served s 0x0812 opCanAbort c ∧ (rd c.params 0 1 = 2 ∧ isZero c.params 1 3 = true ∧ (s.m.canCh c.inst.toNat).st ≠ 0 ∧ (s.m.canCh c.inst.toNat).tx = [])) ∧
    (∃ (c : Cmd) (s : State), Served s 0x0813 opRecover c ∧ ((s.m.canCh c.inst.toNat).st = 3)) ∧
    (∃ (c : Cmd) (s : State), Served s 0x0813 opRecover c ∧ ((s.m.canCh c.inst.toNat).st ≠ 3)) ∧
    (∃ (c : Cmd) (s : State), Served s 0x0814 opResume c ∧ ((s.m.canCh c.inst.toNat).st = 1 ∧ (s.m.canCh c.inst.toNat).alone = false)) ∧
    (∃ (c : Cmd) (s : State), Served s 0x0815 opSetLanePdu c ∧ (rd (slice c.params 0 16) 0 1 ≤ 31 ∧ rd (slice c.params 0 16) 1 1 ≤ 7 ∧ rd (slice c.params 0 16) 2 1 = 0
      ∧ canLenOk (rd (slice c.params 0 16) 3 1) false = true ∧ rd (slice c.params 0 16) 4 4 < 2 ^ 31
      ∧ inRange (rd (slice c.params 0 16) 8 2) 1 4000 = true ∧ rd (slice c.params 0 16) 10 2 < rd (slice c.params 0 16) 8 2
      ∧ isZero (slice c.params 0 16) 13 3 = true)) ∧
    (∃ (c : Cmd) (s : State), Served s 0x0816 opSetSignal c ∧ (rd (slice c.params 0 20) 1 1 ≤ 31 ∧ rd (slice c.params 0 20) 2 2 ≤ 511 ∧ inRange (rd (slice c.params 0 20) 4 1) 1 32 = true
      ∧ rd (slice c.params 0 20) 5 1 ≤ 1 ∧ rd (slice c.params 0 20) 6 1 ≤ 1 ∧ isZero (slice c.params 0 20) 7 1 = true
      ∧ S.isFin (rdF (slice c.params 0 20) 8) = true ∧ S.isFin (rdF (slice c.params 0 20) 12) = true
      ∧ S.scaled (rdF (slice c.params 0 20) 8) ≠ 0 ∧ s.m.sigFits (slice c.params 0 20) = true)) ∧
    (∃ (c : Cmd) (s : State), Served s 0x0807 opCanResetInstance c ∧ (True)) :=
  ⟨⟨tC 0 (tP 0 []), tS, ⟨by decide +kernel, by decide +kernel⟩, by decide +kernel⟩,
    ⟨tC 0 (tP 0 []), tS, ⟨by decide +kernel, by decide +kernel⟩, by decide +kernel⟩,
    ⟨tC 0 (tP 4 [(0, 1, 1)]), tS, ⟨by decide +kernel, by decide +kernel⟩, by decide +kernel⟩,
    ⟨tC 0 (tP 8 []), (tW fun m => m.setCan 0 { m.canCh 0 with st := 1 }), (((tW fun m => m.setCan 0 { m.canCh 0 with st := 1 }).m.canCh 0).enqueue { frame := canFrameOf (rd (tP 8 []) 0 4) 0 (slice (tP 8 []) 8 (rd (tP 8 []) 5 1)), app := true, confirm := none, attempts := 0 }).get (by decide +kernel), ⟨by decide +kernel, by decide +kernel⟩, by and_intros <;> first | decide +kernel | rfl | exact (Option.some_get _).symm⟩,
    ⟨tC 0 (tP 4 []), tS, ⟨by decide +kernel, by decide +kernel⟩, by decide +kernel⟩,
    ⟨tC 0 (tP 4 [(0, 1, 2)]), (tW fun m => m.setCan 0 { m.canCh 0 with st := 1 }), ⟨by decide +kernel, by decide +kernel⟩, by decide +kernel⟩,
    ⟨tC 0 (tP 0 []), (tW fun m => m.setCan 0 { m.canCh 0 with st := 3 }), ⟨by decide +kernel, by decide +kernel⟩, by decide +kernel⟩,
    ⟨tC 0 (tP 0 []), tS, ⟨by decide +kernel, by decide +kernel⟩, by decide +kernel⟩,
    ⟨tC 0 (tP 0 []), (tW fun m => m.setCan 0 { m.canCh 0 with st := 1 }), ⟨by decide +kernel, by decide +kernel⟩, by decide +kernel⟩,
    ⟨tC 0 (tP 16 [(8, 2, 1)]), tS, ⟨by decide +kernel, by decide +kernel⟩, by decide +kernel⟩,
    ⟨tC 0 (tP 20 [(4, 1, 8), (8, 4, 1065353216)]), (tW fun m => m.setCfg 0x0815 0 (tP 16 [(3, 1, 8), (8, 2, 1)])), ⟨by decide +kernel, by decide +kernel⟩, by decide +kernel⟩,
    ⟨tC 0 (tP 0 []), tS, ⟨by decide +kernel, by decide +kernel⟩, by decide +kernel⟩⟩

/-- States and operands that meet the hypotheses of EthernetCommands, clause by clause. -/
theorem test_meets_ethernet_commands :
    (∃ (c : Cmd) (s : State), Served s 0x0905 opEthEnable c ∧ (True)) ∧
    (∃ (c : Cmd) (s : State), Served s 0x0911 opSetVlan c ∧ (1 ≤ rd (slice c.params 0 8) 0 2 ∧ rd (slice c.params 0 8) 0 2 ≤ 4094 ∧ 1 ≤ rd (slice c.params 0 8) 2 1
      ∧ rd (slice c.params 0 8) 2 1 ≤ 0x7F ∧ rd (slice c.params 0 8) 3 1 ≤ 0x7F ∧ isZero (slice c.params 0 8) 4 4 = true ∧ s.m.vlans < 256)) ∧
    (∃ (c : Cmd) (s : State), Served s 0x0912 opHostRings c ∧ (rd (slice c.params 0 24) 0 8 % 64 = 0 ∧ ringCount (rd (slice c.params 0 24) 16 2) = true
      ∧ inApp (rd (slice c.params 0 24) 0 8) (64 * rd (slice c.params 0 24) 16 2) = true
      ∧ rd (slice c.params 0 24) 8 8 % 64 = 0 ∧ ringCount (rd (slice c.params 0 24) 18 2) = true
      ∧ inApp (rd (slice c.params 0 24) 8 8) (64 * rd (slice c.params 0 24) 18 2) = true
      ∧ isZero (slice c.params 0 24) 20 4 = true ∧ s.m.eth.switchOn = false)) ∧
    (∃ (c : Cmd) (s : State), Served s 0x0910 opSetGcl c ∧ (rd c.params 0 1 = 0 ∧ rd c.params 2 1 ≤ 27 ∧ rd c.params 1 1 + rd c.params 2 1 ≤ 256 ∧ isZero c.params 3 1 = true
      ∧ isZero c.params 6 2 = true ∧ ((List.range (rd c.params 2 1)).all fun i =>
        inRange (rd c.params (24 + 8 * i + 4) 4) 64 1000000000 && rd c.params (24 + 8 * i + 4) 4 % 8 == 0
          && isZero c.params (24 + 8 * i + 1) 3) = true
      ∧ (parse96 c.params 12).isSome = true)) ∧
    (∃ (c : Cmd) (s : State), Served s 0x0906 opEthDisable c) ∧
    (∃ (c : Cmd) (s : State), Served s 0x0907 opEthResetInstance c ∧ c.inst = 7) :=
  ⟨⟨tC 0 (tP 0 []), tS, ⟨by decide +kernel, by decide +kernel⟩, by decide +kernel⟩,
    ⟨tC 6 (tP 8 [(0, 2, 1), (2, 1, 1)]), tS, ⟨by decide +kernel, by decide +kernel⟩, by decide +kernel⟩,
    ⟨tC 6 (tP 24 [(0, 8, 2147483648), (8, 8, 2147487744), (16, 2, 16), (18, 2, 16)]), (tW fun m => { m with eth := { m.eth with switchOn := false } }), ⟨by decide +kernel, by decide +kernel⟩, by decide +kernel⟩,
    ⟨tC 0 (tP 24 []), tS, ⟨by decide +kernel, by decide +kernel⟩, by decide +kernel⟩,
    ⟨tC 0 (tP 0 []), tS, ⟨by decide +kernel, by decide +kernel⟩⟩,
    ⟨tC 7 (tP 0 []), tS, ⟨by decide +kernel, by decide +kernel⟩, by decide +kernel⟩⟩

/-- States and operands that meet the hypotheses of GnssCommands, clause by clause. -/
theorem test_meets_gnss_commands :
    (∃ (c : Cmd) (s : State), Served s 0x0A05 opGnssEnable c ∧ (True)) ∧
    (∃ (c : Cmd) (s : State), Served s 0x0A06 opGnssDisable c ∧ (True)) ∧
    (∃ (c : Cmd) (s : State), Served s 0x0A07 opGnssResetInstance c ∧ ((s.m.ant c.inst.toNat).latched = false)) ∧
    (∃ (c : Cmd) (s : State), Served s 0x0A10 opSendRtcm c ∧ (inRange (rd c.params 0 2) 1 236 = true ∧ isZero c.params 2 2 = true ∧ s.m.corrFrom false = true
      ∧ s.m.gnss.bufCcp.length + rd c.params 0 2 ≤ 8192)) ∧
    (∃ (c : Cmd) (s : State), Served s 0x0A10 opSendRtcm c ∧ (inRange (rd c.params 0 2) 1 236 = true ∧ isZero c.params 2 2 = true ∧ s.m.corrFrom false = false)) ∧
    (∃ (c : Cmd) (s : State), Served s 0x0A11 opGetSats c ∧ (isZero c.params 1 3 = true ∧ rd c.params 0 1 < (s.m.ant c.inst.toNat).sats.length)) ∧
    (∃ (c : Cmd) (s : State), Served s 0x0A12 opGnssRestart c ∧ (rd c.params 0 1 ≤ 2 ∧ isZero c.params 1 3 = true)) :=
  ⟨⟨tC 0 (tP 0 []), tS, ⟨by decide +kernel, by decide +kernel⟩, by decide +kernel⟩,
    ⟨tC 0 (tP 0 []), tS, ⟨by decide +kernel, by decide +kernel⟩, by decide +kernel⟩,
    ⟨tC 0 (tP 0 []), tS, ⟨by decide +kernel, by decide +kernel⟩, by decide +kernel⟩,
    ⟨tC 0 (tP 5 [(0, 2, 1)]), (tW fun m => m.setCfg 0x0A03 0 (tP 40 [(6, 1, 1)])), ⟨by decide +kernel, by decide +kernel⟩, by decide +kernel⟩,
    ⟨tC 0 (tP 5 [(0, 2, 1)]), (tW fun m => m.setCfg 0x0A03 0 (tP 40 [(3, 1, 20)])), ⟨by decide +kernel, by decide +kernel⟩, by decide +kernel⟩,
    ⟨tC 0 (tP 4 []), (tW fun m => m.setAnt 0 { m.ant 0 with sats := [tSat] }), ⟨by decide +kernel, by decide +kernel⟩, by decide +kernel⟩,
    ⟨tC 0 (tP 4 []), tS, ⟨by decide +kernel, by decide +kernel⟩, by decide +kernel⟩⟩

/-- States and operands that meet the hypotheses of FusionCommands, clause by clause. -/
theorem test_meets_fusion_commands :
    (∃ (c : Cmd) (s : State), Served s 0x0B05 opFuseEnable c ∧ (True)) ∧
    (∃ (c : Cmd) (s : State), Served s 0x0B06 opFuseDisable c ∧ (True)) ∧
    (∃ (c : Cmd) (s : State), Served s 0x0B07 opFuseResetInstance c ∧ (c.inst.toNat < 32)) ∧
    (∃ (c : Cmd) (s : State), Served s 0x0B10 opWriteTransform c ∧ (rd (slice c.params 0 36) 0 1 ≤ 63 ∧ isZero (slice c.params 0 36) 1 3 = true
      ∧ ((List.range 3).all fun j => S.isFin (rdF (slice c.params 0 36) (4 + 4 * j))) = true ∧ normOk (slice c.params 0 36) 16 = true
      ∧ rd (slice c.params 0 36) 32 1 ≤ 1 ∧ isZero (slice c.params 0 36) 33 3 = true)) ∧
    (∃ (c : Cmd) (s : State), Served s 0x0B11 opClearCullet c ∧ (True)) ∧
    (∃ (c : Cmd) (s : State), Served s 0x0B12 opPushSample c ∧ (rd c.params 0 1 = 1 ∧ isZero c.params 1 7 = true ∧ rd (s.m.srcOf c.inst.toNat) 0 1 = 4 ∧ (D.isFin (pushed c.params 0).v0
      && D.isFin (pushed c.params 0).v1 && S.isFin (pushed c.params 0).v2 && S.isFin (pushed c.params 0).sd) = true
      ∧ (s.m.fsrc c.inst.toNat).enabled = false)) ∧
    (∃ (c : Cmd) (s : State), Served s 0x0B12 opPushSample c ∧ (rd c.params 0 1 = 1 ∧ isZero c.params 1 7 = true ∧ rd (s.m.srcOf c.inst.toNat) 0 1 = 4 ∧ (D.isFin (pushed c.params 0).v0
      && D.isFin (pushed c.params 0).v1 && S.isFin (pushed c.params 0).v2 && S.isFin (pushed c.params 0).sd) = true
      ∧ (s.m.fsrc c.inst.toNat).enabled = true ∧ (s.m.fuseDue.takeSample c.inst.toNat (pushed c.params 0)).2 = .accepted)) ∧
    (∃ (c : Cmd) (s : State), Served s 0x0B13 opPathLoad c ∧ (1 ≤ rd c.params 2 2 ∧ rd c.params 2 2 ≤ 29 ∧ rd c.params 0 2 ≤ 4095 ∧ rd c.params 0 2 + rd c.params 2 2 ≤ 4096
      ∧ isZero c.params 4 4 = true
      ∧ ((List.range (rd c.params 2 2)).all fun k => vertexOk (rdF c.params (8 + 8 * k)) && vertexOk (rdF c.params (12 + 8 * k))) = true)) ∧
    (∃ (c : Cmd) (s : State), Served s 0x0B15 opReadTransform c ∧ (rd c.params 0 1 ≤ 63 ∧ isZero c.params 1 3 = true)) ∧
    (∃ (c : Cmd) (s : State), Served s 0x0B14 opPathActivate c ∧ (1 ≤ rd c.params 0 2 ∧ inRange (rd c.params 2 2) 2 4096 = true ∧ isZero c.params 4 4 = true ∧ (D.isFin (rdD c.params 8) && D.isFin (rdD c.params 16)
        && D.isFin (rdD c.params 24)) = true ∧ ((List.range (rd c.params 2 2)).all fun k => Tab.get false s.m.fuse.staged k) = true
      ∧ ((List.range (rd c.params 2 2 - 1)).any fun k =>
        let vs := (List.range (rd c.params 2 2)).map fun k => Tab.get (0, 0) s.m.fuse.staging k
        let a := vs.getD k (0, 0)
        let b := vs.getD (k + 1) (0, 0)
        S.le a.1 b.1 && S.le b.1 a.1 && S.le a.2 b.2 && S.le b.2 a.2) = false)) :=
  ⟨⟨tC 0 (tP 0 []), tS, ⟨by decide +kernel, by decide +kernel⟩, by decide +kernel⟩,
    ⟨tC 0 (tP 0 []), tS, ⟨by decide +kernel, by decide +kernel⟩, by decide +kernel⟩,
    ⟨tC 0 (tP 0 []), tS, ⟨by decide +kernel, by decide +kernel⟩, by decide +kernel⟩,
    ⟨tC 32 (tP 36 [(16, 4, 1065353216)]), tS, ⟨by decide +kernel, by decide +kernel⟩, by decide +kernel⟩,
    ⟨tC 0 (tP 0 []), tS, ⟨by decide +kernel, by decide +kernel⟩, by decide +kernel⟩,
    ⟨tC 0 (tP 40 [(0, 1, 1)]), (tW fun m => m.setCfg 0x0B03 0 (tP 48 [(0, 1, 4), (1, 1, 1), (8, 4, 250)])), ⟨by decide +kernel, by decide +kernel⟩, by decide +kernel⟩,
    ⟨tC 0 (tP 40 [(0, 1, 1)]), (tW fun m => (m.setCfg 0x0B03 0 (tP 48 [(0, 1, 4), (1, 1, 1), (8, 4, 250)])).setFsrc 0 { m.fsrc 0 with enabled := true }), ⟨by decide +kernel, by decide +kernel⟩, by decide +kernel⟩,
    ⟨tC 32 (tP 16 [(2, 2, 1)]), tS, ⟨by decide +kernel, by decide +kernel⟩, by decide +kernel⟩,
    ⟨tC 32 (tP 4 []), tS, ⟨by decide +kernel, by decide +kernel⟩, by decide +kernel⟩,
    ⟨tC 32 (tP 32 [(0, 2, 1), (2, 2, 2)]), (tW fun m => { m with fuse := { m.fuse with staged := [(0, true), (1, true)], staging := [(1, (0x3F800000, 0))] } }), ⟨by decide +kernel, by decide +kernel⟩, by decide +kernel⟩⟩

/-- States and operands that meet the hypotheses of CameraLinkCommands, clause by clause. -/
theorem test_meets_camera_link_commands :
    (∃ (c : Cmd) (s : State), Served s 0x0C05 opClnkEnable c ∧ (True)) ∧
    (∃ (c : Cmd) (s : State), Served s 0x0C06 opClnkDisable c ∧ (True)) ∧
    (∃ (c : Cmd) (s : State), Served s 0x0C12 opI2cXfer c ∧ (rd c.params 0 1 = 0xFF ∧ rd c.params 1 1 ≤ 127 ∧ 1 ≤ rd c.params 2 1 ∧ rd c.params 2 1 ≤ 16 ∧ rd c.params 3 1 ≤ 16 ∧ (s.m.link c.inst.toNat).st = .up)) ∧
    (∃ (c : Cmd) (s : State), Served s 0x0C12 opI2cXfer c ∧ (rd c.params 0 1 = 0xFF ∧ rd c.params 1 1 ≤ 127 ∧ 1 ≤ rd c.params 2 1 ∧ rd c.params 2 1 ≤ 16 ∧ rd c.params 3 1 ≤ 16 ∧ (s.m.link c.inst.toNat).st ≠ .up)) ∧
    (∃ (c : Cmd) (s : State), Served s 0x0C13 opClnkGetSlotStatus c ∧ (rd c.params 0 1 ≤ 11 ∧ rd c.params 0 1 / 4 = c.inst.toNat ∧ isZero c.params 1 3 = true)) ∧
    (∃ (c : Cmd) (s : State), Served s 0x0C07 opClnkResetInstance c ∧ (s.m.link c.inst.toNat).st ≠ .latched) ∧
    (∃ (c : Cmd) (s : State), Served s 0x0C10 opSetSlot c ∧ (slotRecOk (slice c.params 0 32) = true ∧ rd (slice c.params 0 32) 0 1 / 4 = c.inst.toNat
      ∧ ((s.m.setCfg 0x0C10 (rd (slice c.params 0 32) 0 1) (slice c.params 0 32)).markSet 0).slotsFit = true
      ∧ ((s.m.setCfg 0x0C10 (rd (slice c.params 0 32) 0 1) (slice c.params 0 32)).markSet 0).admitted = true
      ∧ ((s.m.setCfg 0x0C10 (rd (slice c.params 0 32) 0 1) (slice c.params 0 32)).markSet 0).isoFits = true
      ∧ (slice (s.m.slotRec (rd (slice c.params 0 32) 0 1)) 2 1 ++ [BitVec.ofNat 8 (b2n (slotSpill (s.m.slotRec (rd (slice c.params 0 32) 0 1))))] ++ slice (s.m.slotRec (rd (slice c.params 0 32) 0 1)) 4 6) = (slice (slice c.params 0 32) 2 1 ++ [BitVec.ofNat 8 (b2n (slotSpill (slice c.params 0 32)))] ++ slice (slice c.params 0 32) 4 6))) ∧
    (∃ (c : Cmd) (s : State) (w : Mod), Served s 0x0C10 opSetSlot c ∧ (slotRecOk (slice c.params 0 32) = true ∧ rd (slice c.params 0 32) 0 1 / 4 = c.inst.toNat
      ∧ ((s.m.setCfg 0x0C10 (rd (slice c.params 0 32) 0 1) (slice c.params 0 32)).markSet 0).slotsFit = true
      ∧ ((s.m.setCfg 0x0C10 (rd (slice c.params 0 32) 0 1) (slice c.params 0 32)).markSet 0).admitted = true
      ∧ ((s.m.setCfg 0x0C10 (rd (slice c.params 0 32) 0 1) (slice c.params 0 32)).markSet 0).isoFits = true
      ∧ (slice (s.m.slotRec (rd (slice c.params 0 32) 0 1)) 2 1 ++ [BitVec.ofNat 8 (b2n (slotSpill (s.m.slotRec (rd (slice c.params 0 32) 0 1))))] ++ slice (s.m.slotRec (rd (slice c.params 0 32) 0 1)) 4 6) ≠ (slice (slice c.params 0 32) 2 1 ++ [BitVec.ofNat 8 (b2n (slotSpill (slice c.params 0 32)))] ++ slice (slice c.params 0 32) 4 6)
      ∧ slotOn (s.m.slotRec (rd (slice c.params 0 32) 0 1)) = false ∧ ((s.m.setCfg 0x0C10 (rd (slice c.params 0 32) 0 1) (slice c.params 0 32)).markSet 0).placeSlot (rd (slice c.params 0 32) 0 1) = some w)) ∧
    (∃ (c : Cmd) (s : State) (v : Int), Served s 0x0C11 opFsyncAt c ∧ (parse96 c.params 4 = some v ∧ rd c.params 0 1 ≤ 11 ∧ rd c.params 0 1 / 4 = c.inst.toNat ∧ isZero c.params 1 3 = true
      ∧ rd (s.m.rx (rd c.params 0 1)).rcd 12 1 = 2 ∧ (s.m.link c.inst.toNat).st = .up ∧ s.m.now + us 250 ≤ (s.m.time.nearest v)
      ∧ ((s.m.rx (rd c.params 0 1)).edges.any fun o => decide ((s.m.time.nearest v) ≤ o + us (rd (s.m.rx (rd c.params 0 1)).rcd 22 2)) && decide (o ≤ (s.m.time.nearest v) + us (rd (s.m.rx (rd c.params 0 1)).rcd 22 2))) = false
      ∧ ((s.m.rx (rd c.params 0 1)).lastEdge.any fun q => decide ((s.m.time.nearest v) ≤ q.1 + us (rd (s.m.rx (rd c.params 0 1)).rcd 22 2)) && decide (q.1 ≤ (s.m.time.nearest v) + us (rd (s.m.rx (rd c.params 0 1)).rcd 22 2))) = false)) :=
  ⟨⟨tC 0 (tP 0 []), tS, ⟨by decide +kernel, by decide +kernel⟩, by decide +kernel⟩,
    ⟨tC 0 (tP 0 []), tS, ⟨by decide +kernel, by decide +kernel⟩, by decide +kernel⟩,
    ⟨tC 0 (tP 5 [(0, 1, 255), (2, 1, 1)]), (tW fun m => m.setLink 0 { m.link 0 with st := .up }), ⟨by decide +kernel, by decide +kernel⟩, by decide +kernel⟩,
    ⟨tC 0 (tP 5 [(0, 1, 255), (2, 1, 1)]), tS, ⟨by decide +kernel, by decide +kernel⟩, by decide +kernel⟩,
    ⟨tC 0 (tP 4 []), tS, ⟨by decide +kernel, by decide +kernel⟩, by decide +kernel⟩,
    ⟨tC 0 (tP 0 []), tS, ⟨by decide +kernel, by decide +kernel⟩, by decide +kernel⟩,
    ⟨tC 0 (tP 32 [(2, 1, 42), (4, 2, 64), (6, 2, 64), (8, 2, 64), (10, 2, 1), (14, 2, 16), (20, 2, 1)]), (tW fun m => m.setCfg 0x0C10 0 (tP 32 [(2, 1, 42), (4, 2, 64), (6, 2, 64), (8, 2, 64), (10, 2, 1), (14, 2, 16), (20, 2, 1)])), ⟨by decide +kernel, by decide +kernel⟩, by decide +kernel⟩,
    ⟨tC 0 (tP 32 [(2, 1, 42), (4, 2, 64), (6, 2, 64), (8, 2, 64), (10, 2, 1), (14, 2, 16), (20, 2, 1)]), tS, (((tS.m.setCfg 0x0C10 (rd (slice (tP 32 [(2, 1, 42), (4, 2, 64), (6, 2, 64), (8, 2, 64), (10, 2, 1), (14, 2, 16), (20, 2, 1)]) 0 32) 0 1) (slice (tP 32 [(2, 1, 42), (4, 2, 64), (6, 2, 64), (8, 2, 64), (10, 2, 1), (14, 2, 16), (20, 2, 1)]) 0 32)).markSet 0).placeSlot (rd (slice (tP 32 [(2, 1, 42), (4, 2, 64), (6, 2, 64), (8, 2, 64), (10, 2, 1), (14, 2, 16), (20, 2, 1)]) 0 32) 0 1)).get (by decide +kernel), ⟨by decide +kernel, by decide +kernel⟩, by and_intros <;> first | decide +kernel | exact (Option.some_get _).symm⟩,
    ⟨tC 0 (tP 16 [(6, 4, 10000000)]), (tW fun m => (m.setRx 0 { m.rx 0 with rcd := tP 32 [(12, 1, 2)] }).setLink 0 { m.link 0 with st := .up }), 10000000 * 65536, ⟨by decide +kernel, by decide +kernel⟩, by decide +kernel⟩⟩

/-- States and operands that meet the hypotheses of PipeCommands, clause by clause. -/
theorem test_meets_pipe_commands :
    (∃ (c : Cmd) (s : State), Served s 0x0D05 opPipeEnable c ∧ (True)) ∧
    (∃ (c : Cmd) (s : State), Served s 0x0D06 opPipeDisable c ∧ ((s.m.pipe c.inst.toNat).st ≠ 1)) ∧
    (∃ (c : Cmd) (s : State), Served s 0x0D06 opPipeDisable c ∧ ((s.m.pipe c.inst.toNat).st = 1 ∧ (s.m.pipe c.inst.toNat).job = none)) ∧
    (∃ (c : Cmd) (s : State), Served s 0x0D07 opPipeResetInstance c ∧ ((s.m.pipe c.inst.toNat).st ≠ 1 ∧ (s.m.pipe c.inst.toNat).testing = none)) ∧
    (∃ (c : Cmd) (s : State) (w : Mod), Served s 0x0D10 opSetContext c ∧ (rd (slice c.params 0 84) 0 1 ≤ 15 ∧ isZero (slice c.params 0 84) 1 3 = true
      ∧ ctxRecOk ((slice c.params 0 84).drop 4) (s.m.slotRec (rd ((slice c.params 0 84).drop 4) 0 1)) = true
      ∧ (Mod.activate ((s.m.setCfg 0x0D10 (rd (slice c.params 0 84) 0 1) (slice c.params 0 84)).markSet 0)).admitted = true
      ∧ (Mod.activate ((s.m.setCfg 0x0D10 (rd (slice c.params 0 84) 0 1) (slice c.params 0 84)).markSet 0)).placeCtx
          (rd (slice c.params 0 84) 0 1) = some w)) ∧
    (∃ (c : Cmd) (s : State), Served s 0x0D11 opSelectContext c ∧ (rd c.params 0 1 ≤ 11 ∧ rd c.params 1 1 ≤ 15 ∧ isZero c.params 2 2 = true ∧ (s.m.bound (rd c.params 0 1)).contains (rd c.params 1 1) = true
      ∧ (s.m.setPs (rd c.params 0 1) { s.m.ps (rd c.params 0 1) with nextCtx := some (rd c.params 1 1) }).admitted = true
      ∧ (s.m.setPs (rd c.params 0 1) { s.m.ps (rd c.params 0 1) with nextCtx := some (rd c.params 1 1) }).isoFits = true)) ∧
    (∃ (c : Cmd) (s : State), Served s 0x0D12 opWriteCtxTable c ∧ (rd c.params 0 1 ≤ 15 ∧ rd c.params 1 1 ≤ 1 ∧ 1 ≤ rd c.params 4 2 ∧ rd c.params 4 2 ≤ 112
      ∧ rd c.params 2 2 + rd c.params 4 2 ≤ tabSize (rd c.params 1 1) ∧ isZero c.params 6 2 = true)) ∧
    (∃ (c : Cmd) (s : State), Served s 0x0D13 opGetContext c ∧ (rd c.params 0 1 ≤ 15 ∧ isZero c.params 1 3 = true
      ∧ ((List.range 12).find? fun n => (s.m.ps n).ctx == some (rd c.params 0 1)) = none)) ∧
    (∃ (c : Cmd) (s : State), Served s 0x0D14 opPipeGetSlotStatus c ∧ (rd c.params 0 1 ≤ 11 ∧ isZero c.params 1 3 = true ∧ slotOn (s.m.slotRec (rd c.params 0 1)) = false)) :=
  ⟨⟨tC 0 (tP 0 []), tS, ⟨by decide +kernel, by decide +kernel⟩, by decide +kernel⟩,
    ⟨tC 0 (tP 0 []), tS, ⟨by decide +kernel, by decide +kernel⟩, by decide +kernel⟩,
    ⟨tC 0 (tP 0 []), (tW fun m => m.setPipe 0 { m.pipe 0 with st := 1 }), ⟨by decide +kernel, by decide +kernel⟩, by decide +kernel⟩,
    ⟨tC 0 (tP 0 []), tS, ⟨by decide +kernel, by decide +kernel⟩, by decide +kernel⟩,
    ⟨tC 0 (tP 84 [(4, 1, 255), (33, 1, 1), (36, 2, 0), (38, 2, 1), (80, 1, 2), (81, 1, 2), (82, 1, 2)]), tS, ((Mod.activate ((tS.m.setCfg 0x0D10 (rd (slice (tP 84 [(4, 1, 255), (33, 1, 1), (36, 2, 0), (38, 2, 1), (80, 1, 2), (81, 1, 2), (82, 1, 2)]) 0 84) 0 1) (slice (tP 84 [(4, 1, 255), (33, 1, 1), (36, 2, 0), (38, 2, 1), (80, 1, 2), (81, 1, 2), (82, 1, 2)]) 0 84)).markSet 0)).placeCtx (rd (slice (tP 84 [(4, 1, 255), (33, 1, 1), (36, 2, 0), (38, 2, 1), (80, 1, 2), (81, 1, 2), (82, 1, 2)]) 0 84) 0 1)).get (by decide +kernel), ⟨by decide +kernel, by decide +kernel⟩, by and_intros <;> first | decide +kernel | rfl | exact (Option.some_get _).symm⟩,
    ⟨tC 0 (tP 4 [(0, 1, 0), (1, 1, 0)]), (tW fun m => m.setCfg 0x0D10 0 (tP 84 [(4, 1, 0)])), ⟨by decide +kernel, by decide +kernel⟩, by decide +kernel⟩,
    ⟨tC 0 (tP 10 [(4, 2, 1)]), tS, ⟨by decide +kernel, by decide +kernel⟩, by decide +kernel⟩,
    ⟨tC 0 (tP 4 []), tS, ⟨by decide +kernel, by decide +kernel⟩, by decide +kernel⟩,
    ⟨tC 0 (tP 4 []), tS, ⟨by decide +kernel, by decide +kernel⟩, by decide +kernel⟩⟩

/-- States and operands that meet the hypotheses of EncoderCommands, clause by clause. -/
theorem test_meets_encoder_commands :
    (∃ (c : Cmd) (s : State), Served s 0x0D20 opEncStart c ∧ (encParamsOk (slice c.params 0 24) = true ∧ (s.m.recNext (rd (slice c.params 0 24) 1 1)).isEmpty = false
      ∧ outOn (s.m.recNext (rd (slice c.params 0 24) 1 1)) 1 = true
      ∧ rd (s.m.recNext (rd (slice c.params 0 24) 1 1)) 74 1 = rd (slice c.params 0 24) 2 1
      ∧ inRange (slotW (s.m.slotRec (rd (slice c.params 0 24) 1 1))) 64 8440 = true
      ∧ inRange (slotH (s.m.slotRec (rd (slice c.params 0 24) 1 1))) 64 8440 = true
      ∧ slotW (s.m.slotRec (rd (slice c.params 0 24) 1 1)) % 8 = 0 ∧ slotH (s.m.slotRec (rd (slice c.params 0 24) 1 1)) % 8 = 0
      ∧ slotW (s.m.slotRec (rd (slice c.params 0 24) 1 1)) * slotH (s.m.slotRec (rd (slice c.params 0 24) 1 1)) ≤ 8912896
      ∧ (s.m.enc (rd (slice c.params 0 24) 0 1)).running = true)) ∧
    (∃ (c : Cmd) (s : State) (w : Mod) (level : Nat), Served s 0x0D20 opEncStart c ∧ (encParamsOk (slice c.params 0 24) = true ∧ (s.m.recNext (rd (slice c.params 0 24) 1 1)).isEmpty = false
      ∧ outOn (s.m.recNext (rd (slice c.params 0 24) 1 1)) 1 = true
      ∧ rd (s.m.recNext (rd (slice c.params 0 24) 1 1)) 74 1 = rd (slice c.params 0 24) 2 1
      ∧ inRange (slotW (s.m.slotRec (rd (slice c.params 0 24) 1 1))) 64 8440 = true
      ∧ inRange (slotH (s.m.slotRec (rd (slice c.params 0 24) 1 1))) 64 8440 = true
      ∧ slotW (s.m.slotRec (rd (slice c.params 0 24) 1 1)) % 8 = 0 ∧ slotH (s.m.slotRec (rd (slice c.params 0 24) 1 1)) % 8 = 0
      ∧ slotW (s.m.slotRec (rd (slice c.params 0 24) 1 1)) * slotH (s.m.slotRec (rd (slice c.params 0 24) 1 1)) ≤ 8912896
      ∧ (s.m.enc (rd (slice c.params 0 24) 0 1)).running = false
      ∧ encLevel (rd (slice c.params 0 24) 5 1) (slotW (s.m.slotRec (rd (slice c.params 0 24) 1 1))) (slotH (s.m.slotRec (rd (slice c.params 0 24) 1 1)))
        (slotRate (s.m.slotRec (rd (slice c.params 0 24) 1 1))) (rd (slice c.params 0 24) 4 1) = some level
      ∧ s.m.draw.2.setEnc (rd (slice c.params 0 24) 0 1) {
          running := true, params := slice c.params 0 24, ring := s.m.draw.2.fresh, level := level
          fmt := (rd (s.m.recNext (rd (slice c.params 0 24) 1 1)) 74 1, slotW (s.m.slotRec (rd (slice c.params 0 24) 1 1)),
                  slotH (s.m.slotRec (rd (slice c.params 0 24) 1 1))) } = w
      ∧ w.encTotal ≤ 25000000000 * 720720 ∧ w.isoFits = true)) ∧
    (∃ (c : Cmd) (s : State), Served s 0x0D21 opEncStop c ∧ (rd c.params 0 1 ≤ 3 ∧ isZero c.params 1 3 = true ∧ (s.m.enc (rd c.params 0 1)).running = true
      ∧ (s.m.enc (rd c.params 0 1)).held = [])) ∧
    (∃ (c : Cmd) (s : State), Served s 0x0D21 opEncStop c ∧ (rd c.params 0 1 ≤ 3 ∧ isZero c.params 1 3 = true ∧ (s.m.enc (rd c.params 0 1)).running = false)) ∧
    (∃ (c : Cmd) (s : State), Served s 0x0D22 opEncForceIdr c ∧ (rd c.params 0 1 ≤ 3 ∧ isZero c.params 1 3 = true ∧ (s.m.enc (rd c.params 0 1)).running = true)) ∧
    (∃ (c : Cmd) (s : State), Served s 0x0D24 opEncSetRate c ∧ (rd c.params 0 1 ≤ 3 ∧ isZero c.params 1 3 = true ∧ inRange (rd c.params 4 4) 100 100000 = true ∧ (s.m.enc (rd c.params 0 1)).running = true
      ∧ rd c.params 4 4 ≤ rd c.params 8 4)) ∧
    (∃ (c : Cmd) (s : State), Served s 0x0D23 opEncGetStatus c ∧ (True)) :=
  ⟨⟨tC 2 (tP 24 [(4, 1, 1), (6, 2, 1), (8, 4, 100), (20, 2, 4)]), (tW fun m => (m.setCfg 0x0D10 0 (tP 84 [(4, 1, 0), (10, 1, 2), (78, 1, 0)])).setPs 0 { m.ps 0 with ctx := some 0 } |>.setCfg 0x0C10 0 (tP 32 [(2, 1, 42), (4, 2, 64), (6, 2, 64), (8, 2, 64), (10, 2, 1), (14, 2, 16), (20, 2, 1)]) |>.setEnc 0 { m.enc 0 with running := true }), ⟨by decide +kernel, by decide +kernel⟩, by decide +kernel⟩,
    ⟨tC 2 (tP 24 [(4, 1, 1), (6, 2, 1), (8, 4, 100), (20, 2, 4)]), (tW fun m => (m.setCfg 0x0D10 0 (tP 84 [(4, 1, 0), (10, 1, 2), (78, 1, 0)])).setPs 0 { m.ps 0 with ctx := some 0 } |>.setCfg 0x0C10 0 (tP 32 [(2, 1, 42), (4, 2, 64), (6, 2, 64), (8, 2, 64), (10, 2, 1), (14, 2, 16), (20, 2, 1)])), _, 90, ⟨by decide +kernel, by decide +kernel⟩, by and_intros <;> first | decide +kernel | rfl | exact (Option.some_get _).symm⟩,
    ⟨tC 2 (tP 4 []), (tW fun m => m.setEnc 0 { m.enc 0 with running := true }), ⟨by decide +kernel, by decide +kernel⟩, by decide +kernel⟩,
    ⟨tC 2 (tP 4 []), tS, ⟨by decide +kernel, by decide +kernel⟩, by decide +kernel⟩,
    ⟨tC 2 (tP 4 []), (tW fun m => m.setEnc 0 { m.enc 0 with running := true }), ⟨by decide +kernel, by decide +kernel⟩, by decide +kernel⟩,
    ⟨tC 2 (tP 12 [(4, 4, 100), (8, 4, 100)]), (tW fun m => m.setEnc 0 { m.enc 0 with running := true }), ⟨by decide +kernel, by decide +kernel⟩, by decide +kernel⟩,
    ⟨tC 2 (tP 0 []), tS, ⟨by decide +kernel, by decide +kernel⟩, by decide +kernel⟩⟩

/-- States and operands that meet the hypotheses of VisionCommands, clause by clause. -/
theorem test_meets_vision_commands :
    (∃ (c : Cmd) (s : State), Served s 0x0E05 opVisEnable c ∧ (True)) ∧
    (∃ (c : Cmd) (s : State), Served s 0x0E06 opVisDisable c ∧ ((s.m.part c.inst.toNat).st ≠ 2)) ∧
    (∃ (c : Cmd) (s : State), Served s 0x0E07 opVisResetInstance c ∧ ((s.m.part c.inst.toNat).faultCode = 0)) ∧
    (∃ (c : Cmd) (s : State), Served s 0x0E10 opModelLoad c ∧ (1 ≤ rd c.params 8 4 ∧ rd c.params 8 4 ≤ 33554432 ∧ inApp (rd c.params 0 8) (rd c.params 8 4) = true ∧ isZero c.params 12 4 = true
      ∧ (s.m.part c.inst.toNat).st = 1 ∧ (s.m.part c.inst.toNat).models.length + (s.m.part c.inst.toNat).loading.length < 16)) ∧
    (∃ (c : Cmd) (s : State), Served s 0x0E11 opModelUnload c ∧ (isZero c.params 2 2 = true ∧ (s.m.part c.inst.toNat).st = 1 ∧ ((s.m.part c.inst.toNat).model (rd c.params 0 2)).isSome = true
      ∧ (s.m.part c.inst.toNat).queue = [])) ∧
    (∃ (c : Cmd) (s : State), Served s 0x0E12 opSubmit c ∧ (rd c.params 2 1 ≤ 3 ∧ rd c.params 3 1 ≤ 11 ∧ visMapOk c.params = true ∧ rd c.params 16 8 = 0 ∧ (s.m.part c.inst.toNat).st ≠ 1)) ∧
    (∃ (c : Cmd) (s : State), Served s 0x0E13 opCancel c ∧ ((s.m.part c.inst.toNat).st ≠ 1)) ∧
    (∃ (c : Cmd) (s : State) (d : Model) (ctx : Nat) (i : Nat × Nat × Nat), Served s 0x0E12 opSubmit c ∧ (rd c.params 2 1 ≤ 3 ∧ rd c.params 3 1 ≤ 11 ∧ visMapOk c.params = true ∧ rd c.params 16 8 = 0 ∧ (s.m.part c.inst.toNat).st = 1
      ∧ (s.m.part c.inst.toNat).model (rd c.params 0 2) = some d ∧ d.leaving = false ∧ (s.m.ps (rd c.params 3 1)).ctx = some ctx
      ∧ outOn (s.m.ps (rd c.params 3 1)).rcd 2 = true ∧ (Tab.get [] (s.m.part c.inst.toNat).queue (rd c.params 2 1) : List VisJob).length < 32
      ∧ s.m.visInput (rd c.params 3 1) (rd c.params 4 4) = some i ∧ (s.m.part c.inst.toNat).running ≠ none
      ∧ (s.m.setPart c.inst.toNat { s.m.part c.inst.toNat with queue := Tab.put [] (s.m.part c.inst.toNat).queue (rd c.params 2 1) ((Tab.get [] (s.m.part c.inst.toNat).queue (rd c.params 2 1) : List VisJob) ++ [{ cmd := c, picture := i.2.1, timeRaw := i.2.2, buf := i.1, inArray := s.m.bufInArray (i.1 / 32) 2 }]) }).partUsed c.inst.toNat ≤ partBytes)) ∧
    (∃ (c : Cmd) (s : State) (q : Nat) (js : List VisJob) (j : VisJob), Served s 0x0E13 opCancel c ∧ ((s.m.part c.inst.toNat).st = 1
      ∧ ((List.range 4).find? fun q => (Tab.get [] (s.m.part c.inst.toNat).queue q : List VisJob).any fun j =>
          rd j.cmd.params 8 4 == rd c.params 0 4 && !j.aborted) = some q
      ∧ Tab.get [] (s.m.part c.inst.toNat).queue q = js
      ∧ (js.find? fun j => rd j.cmd.params 8 4 == rd c.params 0 4 && !j.aborted) = some j ∧ (s.m.part c.inst.toNat).running ≠ some q)) :=
  ⟨⟨tC 0 (tP 0 []), tS, ⟨by decide +kernel, by decide +kernel⟩, by decide +kernel⟩,
    ⟨tC 0 (tP 0 []), tS, ⟨by decide +kernel, by decide +kernel⟩, by decide +kernel⟩,
    ⟨tC 0 (tP 0 []), tS, ⟨by decide +kernel, by decide +kernel⟩, by decide +kernel⟩,
    ⟨tC 0 (tP 16 [(0, 8, 2147483648), (8, 4, 1)]), (tW fun m => m.setPart 0 { m.part 0 with st := 1 }), ⟨by decide +kernel, by decide +kernel⟩, by decide +kernel⟩,
    ⟨tC 0 (tP 4 []), (tW fun m => m.setPart 0 { m.part 0 with st := 1, models := [{ handle := 0, kmp := tKmp }] }), ⟨by decide +kernel, by decide +kernel⟩, by decide +kernel⟩,
    ⟨tC 0 (tP 24 [] ++ List.replicate 8 255), tS, ⟨by decide +kernel, by decide +kernel⟩, by decide +kernel⟩,
    ⟨tC 0 (tP 4 []), tS, ⟨by decide +kernel, by decide +kernel⟩, by decide +kernel⟩,
    ⟨tC 0 (tP 24 [] ++ List.replicate 8 255), (tW fun m => (m.setPart 0 { m.part 0 with st := 1, models := [{ handle := 0, kmp := tKmp }], running := some 0 }).setPs 0 { m.ps 0 with ctx := some 0, rcd := tP 80 [(6, 1, 4)], bufPic := [(bufKey 0 2 0, some (0, 0))] }), { handle := 0, kmp := tKmp }, 0, (bufKey 0 2 0, 0, 0), ⟨by decide +kernel, by decide +kernel⟩, by and_intros <;> first | decide +kernel | rfl | exact (Option.some_get _).symm⟩,
    ⟨tC 0 (tP 4 []), (tW fun m => m.setPart 0 { m.part 0 with st := 1, queue := [(0, [tJob])] }), 0, [tJob], tJob, ⟨by decide +kernel, by decide +kernel⟩, by decide +kernel⟩⟩

/-- States and operands that meet the hypotheses of DisplayCommands, clause by clause. -/
theorem test_meets_display_commands :
    (∃ (c : Cmd) (s : State), Served s 0x0F05 opSegEnable c ∧ (True)) ∧
    (∃ (c : Cmd) (s : State), Served s 0x0F06 opSegDisable c ∧ (True)) ∧
    (∃ (c : Cmd) (s : State), Served s 0x0F07 opSegResetInstance c ∧ (True)) ∧
    (∃ (c : Cmd) (s : State), Served s 0x0F10 opWriteRows c ∧ (1 ≤ rd c.params 0 1 ∧ rd c.params 0 1 ≤ 8 ∧ isZero c.params 1 3 = true ∧ ((List.range (rd c.params 0 1)).any fun j =>
      7 < rd c.params (4 + 16 * j) 1 || !isZero c.params (5 + 16 * j) 1 || !isZero c.params (18 + 16 * j) 2) = false)) ∧
    (∃ (c : Cmd) (s : State), Served s 0x0F11 opSetStartImage c ∧ (rd c.params 0 1 ≤ 1 ∧ isZero c.params 1 3 = true)) ∧
    (∃ (c : Cmd) (s : State), Served s 0x0F12 opReadCounters c ∧ (1 ≤ rd c.params 2 2 ∧ rd c.params 2 2 ≤ 59 ∧ rd c.params 0 2 ≤ 383 ∧ rd c.params 0 2 + rd c.params 2 2 ≤ 384)) ∧
    (∃ (c : Cmd) (s : State), Served s 0x0F13 opClearCounters c ∧ (True)) ∧
    (∃ (c : Cmd) (s : State), Served s 0x0F14 opReadImage c ∧ (rd c.params 0 1 ≤ 1 ∧ isZero c.params 1 3 = true)) :=
  ⟨⟨tC 0 (tP 0 []), tS, ⟨by decide +kernel, by decide +kernel⟩, by decide +kernel⟩,
    ⟨tC 0 (tP 0 []), tS, ⟨by decide +kernel, by decide +kernel⟩, by decide +kernel⟩,
    ⟨tC 0 (tP 0 []), tS, ⟨by decide +kernel, by decide +kernel⟩, by decide +kernel⟩,
    ⟨tC 0 (tP 20 [(0, 1, 1)]), tS, ⟨by decide +kernel, by decide +kernel⟩, by decide +kernel⟩,
    ⟨tC 0 (tP 52 []), tS, ⟨by decide +kernel, by decide +kernel⟩, by decide +kernel⟩,
    ⟨tC 0 (tP 4 [(2, 2, 1)]), tS, ⟨by decide +kernel, by decide +kernel⟩, by decide +kernel⟩,
    ⟨tC 0 (tP 0 []), tS, ⟨by decide +kernel, by decide +kernel⟩, by decide +kernel⟩,
    ⟨tC 0 (tP 4 []), tS, ⟨by decide +kernel, by decide +kernel⟩, by decide +kernel⟩⟩

/-- States and operands that meet the hypotheses of EventCommands, clause by clause. -/
theorem test_meets_event_commands :
    (∃ (c : Cmd) (s : State), Served s 0x1005 opEvtEnable c ∧ (True)) ∧
    (∃ (c : Cmd) (s : State), Served s 0x1006 opEvtDisable c ∧ (True)) ∧
    (∃ (c : Cmd) (s : State), Served s 0x1007 opEvtResetInstance c ∧ (True)) ∧
    (∃ (c : Cmd) (s : State), Served s 0x1010 opRaiseTest c ∧ (True)) ∧
    (∃ (c : Cmd) (s : State), Served s 0x1011 opGetRoutes c ∧ ((rd c.params 0 1 = 0 ∨ rd c.params 0 1 = 64) ∧ isZero c.params 1 3 = true)) :=
  ⟨⟨tC 0 (tP 0 []), tS, ⟨by decide +kernel, by decide +kernel⟩, by decide +kernel⟩,
    ⟨tC 0 (tP 0 []), tS, ⟨by decide +kernel, by decide +kernel⟩, by decide +kernel⟩,
    ⟨tC 0 (tP 0 []), tS, ⟨by decide +kernel, by decide +kernel⟩, by decide +kernel⟩,
    ⟨tC 0 (tP 4 []), tS, ⟨by decide +kernel, by decide +kernel⟩, by decide +kernel⟩,
    ⟨tC 0 (tP 4 []), tS, ⟨by decide +kernel, by decide +kernel⟩, by decide +kernel⟩⟩

/-- States and operands that meet the hypotheses of RecorderCommands, clause by clause. -/
theorem test_meets_recorder_commands :
    (∃ (c : Cmd) (s : State), Served s 0x1107 opLogResetInstance c ∧ (True)) ∧
    (∃ (c : Cmd) (s : State), Served s 0x1110 opLogRead c ∧ (rd c.params 0 1 = 1 ∧ rd c.params 1 1 = 0 ∧ rd c.params 2 1 ≤ 7 ∧ isZero c.params 3 1 = true ∧ isZero c.params 10 2 = true ∧ s.m.log.gasp = [])) ∧
    (∃ (c : Cmd) (s : State), Served s 0x1111 opLogClear c ∧ (rd c.params 6 1 ≤ 7 ∧ isZero c.params 7 1 = true ∧ s.m.log.vol = false)) :=
  ⟨⟨tC 0 (tP 0 []), tS, ⟨by decide +kernel, by decide +kernel⟩, by decide +kernel⟩,
    ⟨tC 0 (tP 12 [(0, 1, 1)]), tS, ⟨by decide +kernel, by decide +kernel⟩, by decide +kernel⟩,
    ⟨tC 0 (tP 8 []), tS, ⟨by decide +kernel, by decide +kernel⟩, by decide +kernel⟩⟩

set_option maxRecDepth 20000 in
/-- States and operands that meet the hypotheses of StoreCommands, clause by clause. -/
theorem test_meets_store_commands :
    (∃ (c : Cmd) (s : State), Served s 0x1210 opNvsStore c ∧ (c.inst.toNat ≠ 6 ∧ c.inst.toNat ≠ 2 ∧ (s.m.nvSet c.inst.toNat).waiting ≠ [])) ∧
    (∃ (c : Cmd) (s : State), Served s 0x1210 opNvsStore c ∧ (c.inst.toNat ≠ 6 ∧ c.inst.toNat ≠ 2 ∧ (s.m.nvSet c.inst.toNat).waiting = [])) ∧
    (∃ (c : Cmd) (s : State), Served s 0x1210 opNvsStore c ∧ (c.inst.toNat = 6)) ∧
    (∃ (c : Cmd) (s : State), Served s 0x1211 opReadSet c ∧ (1 ≤ rd c.params 4 2 ∧ rd c.params 4 2 ≤ 224 ∧ rd c.params 6 1 = 0 ∧ isZero c.params 7 1 = true ∧ c.inst.toNat = 6
      ∧ rd c.params 0 4 + rd c.params 4 2 ≤ s.m.nvs.identity.length)) ∧
    (∃ (c : Cmd) (s : State), Served s 0x1212 opWriteApp c ∧ (1 ≤ rd c.params 4 2 ∧ rd c.params 4 2 ≤ 232 ∧ rd c.params 0 4 ≤ 65535
      ∧ rd c.params 0 4 + rd c.params 4 2 ≤ 65536 ∧ isZero c.params 6 2 = true)) ∧
    (∃ (c : Cmd) (s : State), Served s 0x1213 opBundleLoad c ∧ (1 ≤ rd c.params 4 2 ∧ rd c.params 4 2 ≤ 224 ∧ isZero c.params 6 2 = true ∧ rd c.params 0 4 = 0)) ∧
    (∃ (c : Cmd) (s : State), Served s 0x1214 opAdopt c ∧ (isZero c.params 4 4 = true ∧ s.m.safe.standstill = false ∧ s.m.safe.st ≠ .noParams)) ∧
    (∃ (c : Cmd) (s : State) (sets : List (Nat × List NvEntry)), Served s 0x1214 opAdopt c ∧ (s.m.safe.standstill = true ∨ s.m.safe.st = .noParams) ∧ isZero c.params 4 4 = true ∧ rd c.params 0 4 ≤ s.m.nvs.bundle.length ∧ bundleSets (s.m.nvs.bundle.take (rd c.params 0 4)) = some sets) ∧
    (∃ (c : Cmd) (s : State), Served s 0x1214 opAdopt c ∧ ((s.m.safe.standstill = true ∨ s.m.safe.st = .noParams) ∧ isZero c.params 4 4 = true ∧ rd c.params 0 4 ≤ s.m.nvs.bundle.length ∧ bundleSets (s.m.nvs.bundle.take (rd c.params 0 4)) = none)) :=
  ⟨⟨tC 0 (tP 0 []), (tW fun m => m.setNv 0 { m.nvSet 0 with waiting := [{}] }), ⟨by decide +kernel, by decide +kernel⟩, by decide +kernel⟩,
    ⟨tC 0 (tP 0 []), tS, ⟨by decide +kernel, by decide +kernel⟩, by decide +kernel⟩,
    ⟨tC 6 (tP 0 []) 14, tS, ⟨by decide +kernel, by decide +kernel⟩, by decide +kernel⟩,
    ⟨tC 6 (tP 8 [(4, 2, 1)]), (tW fun m => { m with nvs := { m.nvs with identity := [0] } }), ⟨by decide +kernel, by decide +kernel⟩, by decide +kernel⟩,
    ⟨tC 4 (tP 9 [(4, 2, 1)]), tS, ⟨by decide +kernel, by decide +kernel⟩, by decide +kernel⟩,
    ⟨tC 0 (tP 9 [(4, 2, 1)]), tS, ⟨by decide +kernel, by decide +kernel⟩, by decide +kernel⟩,
    ⟨tC 0 (tP 8 []) 14, tS, ⟨by decide +kernel, by decide +kernel⟩, by decide +kernel⟩,
    ⟨tC 0 (tP 8 [(0, 4, 200)]) 14, (tW fun m => { m with safe := { m.safe with spRuns := true, stillCnt := 2001 }, nvs := { m.nvs with bundle := tBundle } }), [(5, [])], ⟨by decide +kernel, by decide +kernel⟩, .inl (by decide +kernel), by decide +kernel, by decide +kernel, test_bundle⟩,
    ⟨tC 0 (zeros 8) 14, (tW fun m => { m with safe := { m.safe with spRuns := true, stillCnt := 2001 } }), ⟨by decide +kernel, by decide +kernel⟩, by decide +kernel⟩⟩

/-- States and operands that meet the hypotheses of UpdateCommands, clause by clause. -/
theorem test_meets_update_commands :
    (∃ (c : Cmd) (s : State), Served s 0x1310 opStageBegin c ∧ (inRange (rd c.params 16 4) 65536 25165824 = true ∧ isZero c.params 20 4 = true ∧ s.m.openStaging = none ∧ s.m.upd.act = none
      ∧ (s.m.slot s.m.target).st ≠ .trial ∧ (s.m.slot s.m.target).st ≠ .suspended)) ∧
    (∃ (c : Cmd) (s : State), Served s 0x1312 opStageEnd c ∧ (s.m.openStaging = none)) ∧
    (∃ (c : Cmd) (s : State) (k : Nat), Served s 0x1313 opActivate c ∧ (rd c.params 0 1 = 1 ∧ rd c.params 1 1 ≤ 7 ∧ rd c.params 2 2 = 0 ∧ s.m.upd.act = none ∧ s.m.upd.reheat = false
      ∧ ((List.range 2).find? fun k => decide ((s.m.slot k).st = .staged)) = some k)) ∧
    (∃ (c : Cmd) (s : State), Served s 0x1314 opUpdConfirm c ∧ (s.m.upd.act = none ∧ ((List.range 2).find? fun k => decide ((s.m.slot k).st = .trial) && !(s.m.slot k).armed) = none)) ∧
    (∃ (c : Cmd) (s : State) (k : Nat), Served s 0x1314 opUpdConfirm c ∧ (s.m.upd.act = none ∧ ((List.range 2).find? fun k => decide ((s.m.slot k).st = .trial) && !(s.m.slot k).armed) = some k
      ∧ s.m.confirmedSlot = none ∧ (s.m.slot k).arb ≤ s.m.upd.otp)) ∧
    (∃ (c : Cmd) (s : State) (a : Activation), Served s 0x1315 opUpdAbort c ∧ (s.m.upd.act = some a ∧ a.step ≤ 3)) ∧
    (∃ (c : Cmd) (s : State) (a : Activation), Served s 0x1315 opUpdAbort c ∧ (s.m.upd.act = some a ∧ 3 < a.step)) ∧
    (∃ (c : Cmd) (s : State) (k : Nat), Served s 0x1311 opStageChunk c ∧ s.m.openStaging = some k ∧ rd c.params 2 1 = 0 ∧ isZero c.params 3 1 = true ∧
      isZero c.params 10 6 = true ∧ rd c.params 0 2 < chunksOf (s.m.slot k).size ∧ 1 ≤ rd c.params 8 2 ∧ rd c.params 8 2 ≤ 224 ∧
      rd c.params 4 4 = 0 ∧ rd c.params 8 2 < (s.m.slot k).chunkLen (rd c.params 0 2) ∧
      (rd c.params 0 2 = 0 ∨ (s.m.slot k).verified.contains 0 = true) ∧ (s.m.slot k).verified.contains (rd c.params 0 2) = false ∧
      (s.m.slot k).partials = []) ∧
    (∃ (c : Cmd) (s : State) (k : Nat), Served s 0x1312 opStageEnd c ∧ s.m.openStaging = some k ∧ chunksOf (s.m.slot k).size ≤ (s.m.slot k).verified.length) :=
  ⟨⟨tC 0 (tP 24 [(16, 4, 65536)]), tS, ⟨by decide +kernel, by decide +kernel⟩, by decide +kernel⟩,
    ⟨tC 0 (tP 0 []) 14, tS, ⟨by decide +kernel, by decide +kernel⟩, by decide +kernel⟩,
    ⟨tC 0 (tP 4 [(0, 1, 1)]) 14, (tW fun m => m.setSlot 1 { m.slot 1 with st := .staged }), 1, ⟨by decide +kernel, by decide +kernel⟩, by decide +kernel⟩,
    ⟨tC 0 (tP 0 []) 14, tS, ⟨by decide +kernel, by decide +kernel⟩, by decide +kernel⟩,
    ⟨tC 0 (tP 0 []) 14, (tW fun m => m.setSlot 0 { m.slot 0 with st := .trial }), 0, ⟨by decide +kernel, by decide +kernel⟩, by decide +kernel⟩,
    ⟨tC 0 (tP 0 []), (tW fun m => { m with upd := { m.upd with act := some tAct } }), tAct, ⟨by decide +kernel, by decide +kernel⟩, by decide +kernel⟩,
    ⟨tC 0 (tP 0 []), (tW fun m => { m with upd := { m.upd with act := some { tAct with step := 4 } } }), { tAct with step := 4 }, ⟨by decide +kernel, by decide +kernel⟩, by decide +kernel⟩,
    ⟨tC 0 (tP 17 [(8, 2, 1)]) 14, (tW fun m => m.setSlot 1 { m.slot 1 with st := .staging, size := 65536 }), 1, ⟨by decide +kernel, by decide +kernel⟩, by decide +kernel⟩,
    ⟨tC 0 (tP 0 []) 14, (tW fun m => m.setSlot 1 { m.slot 1 with st := .staging, size := 65536, verified := [0] }), 1, ⟨by decide +kernel, by decide +kernel⟩, by decide +kernel⟩⟩

/-- States and operands that meet the hypotheses of PowerCommands, clause by clause. -/
theorem test_meets_power_commands :
    (∃ (c : Cmd) (s : State), Served s 0x1407 opPwrResetInstance c ∧ (True)) ∧
    (∃ (c : Cmd) (s : State) (g : Nat × Nat), Served s 0x1412 opShutdownHold c ∧ (s.m.pwr.grace = some g ∧ inRange (rd c.params 0 2) 1 300 = true ∧ isZero c.params 2 2 = true)) ∧
    (∃ (c : Cmd) (s : State), Served s 0x1412 opShutdownHold c ∧ (inRange (rd c.params 0 2) 1 300 = true ∧ isZero c.params 2 2 = true ∧ s.m.pwr.grace = none)) ∧
    (∃ (c : Cmd) (s : State), Served s 0x1413 opDomain c ∧ (inRange (rd c.params 0 1) 6 8 = true ∧ rd c.params 1 1 = 1 ∧ isZero c.params 2 2 = true ∧ s.m.pwr.mode = .run
      ∧ s.m.pwr.shed.toNat.testBit (rd c.params 0 1) = false)) ∧
    (∃ (c : Cmd) (s : State), Served s 0x1413 opDomain c ∧ (inRange (rd c.params 0 1) 6 8 = true ∧ rd c.params 1 1 ≤ 1 ∧ isZero c.params 2 2 = true ∧ s.m.pwr.mode ≠ .run)) ∧
    (∃ (c : Cmd) (s : State), Served s 0x1410 opModuleReset c ∧ rd c.params 0 1 ≤ 1 ∧ isZero c.params 1 3 = true ∧ s.m.safe.standstill = true) ∧
    (∃ (c : Cmd) (s : State) (g : Nat × Nat), Served s 0x1411 opShutdownAck c ∧ s.m.pwr.grace = some g) :=
  ⟨⟨tC 0 (tP 0 []), tS, ⟨by decide +kernel, by decide +kernel⟩, by decide +kernel⟩,
    ⟨tC 0 (tP 4 [(0, 2, 1)]), (tW fun m => { m with pwr := { m.pwr with grace := some (0, 0) } }), (0, 0), ⟨by decide +kernel, by decide +kernel⟩, by decide +kernel⟩,
    ⟨tC 0 (tP 4 [(0, 2, 1)]), tS, ⟨by decide +kernel, by decide +kernel⟩, by decide +kernel⟩,
    ⟨tC 0 (tP 4 [(0, 1, 6), (1, 1, 1)]), tS, ⟨by decide +kernel, by decide +kernel⟩, by decide +kernel⟩,
    ⟨tC 0 (tP 4 [(0, 1, 6)]), (tW fun m => { m with pwr := { m.pwr with mode := .park } }), ⟨by decide +kernel, by decide +kernel⟩, by decide +kernel⟩,
    ⟨tC 0 (tP 4 []) 14, (tW fun m => { m with safe := { m.safe with spRuns := true, stillCnt := 2001 } }), ⟨by decide +kernel, by decide +kernel⟩, by decide +kernel⟩,
    ⟨tC 0 (tP 0 []), (tW fun m => { m with pwr := { m.pwr with grace := some (0, 0) } }), (0, 0), ⟨by decide +kernel, by decide +kernel⟩, by decide +kernel⟩⟩

/-- States and operands that meet the hypotheses of StatusReads, clause by clause. -/
theorem test_meets_status_reads :
    (∃ (c : Cmd) (s : State), Served s 0x0102 opSysGetStatus c ∧ (True)) ∧
    (∃ (c : Cmd) (s : State), Served s 0x0202 opTimeGetStatus c ∧ (True)) ∧
    (∃ (c : Cmd) (s : State), Served s 0x0402 opLoopGetStatus c ∧ (True)) ∧
    (∃ (c : Cmd) (s : State), Served s 0x0602 opInpGetStatus c ∧ (True)) ∧
    (∃ (c : Cmd) (s : State), Served s 0x0702 opSafeGetStatus c ∧ (True)) ∧
    (∃ (c : Cmd) (s : State), Served s 0x0802 opCanGetStatus c ∧ (True)) ∧
    (∃ (c : Cmd) (s : State), Served s 0x1002 opEvtGetStatus c ∧ (True)) ∧
    (∃ (c : Cmd) (s : State), Served s 0x1102 opLogGetStatus c ∧ (True)) ∧
    (∃ (c : Cmd) (s : State), Served s 0x1202 opNvsGetStatus c ∧ (True)) ∧
    (∃ (c : Cmd) (s : State), Served s 0x1302 opUpdGetStatus c ∧ (True)) ∧
    (∃ (c : Cmd) (s : State), Served s 0x0D02 opPipeGetStatus c ∧ (True)) ∧
    (∃ (c : Cmd) (s : State), Served s 0x0E02 opVisGetStatus c ∧ (True)) ∧
    (∃ (c : Cmd) (s : State), Served s 0x0302 opLaneGetStatus c ∧ (True)) ∧
    (∃ (c : Cmd) (s : State), Served s 0x0A02 opGnssGetStatus c ∧ (True)) ∧
    (∃ (c : Cmd) (s : State), Served s 0x0C02 opClnkGetStatus c ∧ (True)) ∧
    (∃ (c : Cmd) (s : State), Served s 0x0F02 opSegGetStatus c ∧ (True)) ∧
    (∃ (c : Cmd) (s : State), Served s 0x1402 opPwrGetStatus c ∧ (True)) ∧
    (∃ (c : Cmd) (s : State), Served s 0x0502 opDrvGetStatus c ∧ (c.inst.toNat < 64)) ∧
    (∃ (c : Cmd) (s : State), Served s 0x0502 opDrvGetStatus c ∧ (64 ≤ c.inst.toNat)) ∧
    (∃ (c : Cmd) (s : State), Served s 0x0902 opEthGetStatus c ∧ (c.inst = 6)) ∧
    (∃ (c : Cmd) (s : State), Served s 0x0902 opEthGetStatus c ∧ (c.inst = 7)) ∧
    (∃ (c : Cmd) (s : State), Served s 0x0B02 opFuseGetStatus c ∧ (c.inst = 33)) ∧
    (∃ (c : Cmd) (s : State), Served s 0x0B02 opFuseGetStatus c ∧ (c.inst = 32)) :=
  ⟨⟨tC 0 (tP 0 []), tS, ⟨by decide +kernel, by decide +kernel⟩, by decide +kernel⟩,
    ⟨tC 0 (tP 0 []), tS, ⟨by decide +kernel, by decide +kernel⟩, by decide +kernel⟩,
    ⟨tC 0 (tP 0 []), tS, ⟨by decide +kernel, by decide +kernel⟩, by decide +kernel⟩,
    ⟨tC 0 (tP 0 []), tS, ⟨by decide +kernel, by decide +kernel⟩, by decide +kernel⟩,
    ⟨tC 0 (tP 0 []), tS, ⟨by decide +kernel, by decide +kernel⟩, by decide +kernel⟩,
    ⟨tC 0 (tP 0 []), tS, ⟨by decide +kernel, by decide +kernel⟩, by decide +kernel⟩,
    ⟨tC 0 (tP 0 []), tS, ⟨by decide +kernel, by decide +kernel⟩, by decide +kernel⟩,
    ⟨tC 0 (tP 0 []), tS, ⟨by decide +kernel, by decide +kernel⟩, by decide +kernel⟩,
    ⟨tC 0 (tP 0 []), tS, ⟨by decide +kernel, by decide +kernel⟩, by decide +kernel⟩,
    ⟨tC 0 (tP 0 []), tS, ⟨by decide +kernel, by decide +kernel⟩, by decide +kernel⟩,
    ⟨tC 0 (tP 0 []), tS, ⟨by decide +kernel, by decide +kernel⟩, by decide +kernel⟩,
    ⟨tC 0 (tP 0 []), tS, ⟨by decide +kernel, by decide +kernel⟩, by decide +kernel⟩,
    ⟨tC 0 (tP 0 []), tS, ⟨by decide +kernel, by decide +kernel⟩, by decide +kernel⟩,
    ⟨tC 0 (tP 0 []), tS, ⟨by decide +kernel, by decide +kernel⟩, by decide +kernel⟩,
    ⟨tC 0 (tP 0 []), tS, ⟨by decide +kernel, by decide +kernel⟩, by decide +kernel⟩,
    ⟨tC 0 (tP 0 []), tS, ⟨by decide +kernel, by decide +kernel⟩, by decide +kernel⟩,
    ⟨tC 0 (tP 0 []), tS, ⟨by decide +kernel, by decide +kernel⟩, by decide +kernel⟩,
    ⟨tC 0 (tP 0 []), tS, ⟨by decide +kernel, by decide +kernel⟩, by decide +kernel⟩,
    ⟨tC 64 (tP 0 []), tS, ⟨by decide +kernel, by decide +kernel⟩, by decide +kernel⟩,
    ⟨tC 6 (tP 0 []), tS, ⟨by decide +kernel, by decide +kernel⟩, by decide +kernel⟩,
    ⟨tC 7 (tP 0 []), tS, ⟨by decide +kernel, by decide +kernel⟩, by decide +kernel⟩,
    ⟨tC 33 (tP 0 []), tS, ⟨by decide +kernel, by decide +kernel⟩, by decide +kernel⟩,
    ⟨tC 32 (tP 0 []), tS, ⟨by decide +kernel, by decide +kernel⟩, by decide +kernel⟩⟩

/-- States and operands that meet the hypotheses of DeniedOperations, clause by clause. -/
theorem test_meets_denied_operations :
    (∃ (c : Cmd) (s : State), s.m.takes c.ring = true ∧ c.plen = 0 ∧ c.inst.toNat + 1 = 2 ∧ plainHeader c) ∧
    (∃ (c : Cmd) (s : State), s.m.takes c.ring = true ∧ c.plen = 0 ∧ c.inst.toNat + 1 = 1 ∧ plainHeader c) ∧
    (∃ (c : Cmd) (s : State), s.m.takes c.ring = true ∧ c.plen = 0 ∧ c.inst.toNat + 1 = 7 ∧ plainHeader c) ∧
    (∃ (c : Cmd) (s : State), s.m.takes c.ring = true ∧ c.plen = 0 ∧ c.inst.toNat + 1 = 12 ∧ plainHeader c) :=
  ⟨⟨tC (2 - 1) [], tS, by decide +kernel, by decide +kernel, by decide +kernel, by unfold plainHeader; decide +kernel⟩,
    ⟨tC (1 - 1) [], tS, by decide +kernel, by decide +kernel, by decide +kernel, by unfold plainHeader; decide +kernel⟩,
    ⟨tC (7 - 1) [], tS, by decide +kernel, by decide +kernel, by decide +kernel, by unfold plainHeader; decide +kernel⟩,
    ⟨tC (12 - 1) [], tS, by decide +kernel, by decide +kernel, by decide +kernel, by unfold plainHeader; decide +kernel⟩⟩

/-- States and operands that meet the hypotheses of LaneChangedWithoutToken, clause by clause. -/
theorem test_meets_lane_changed_without_token :
    (∃ (c : Cmd) (s : State), NoToken s c.ring ∧ s.m.portCheck 0x0815 opSetLanePdu c = none ∧ s.m.namesNow 0x0815 c = true) ∧
    (∃ (c : Cmd) (s : State), s.m.takes c.ring = true ∧ s.m.portCheck 0x0815 opSetLanePdu c = none ∧ s.m.namesNow 0x0815 c = false) ∧
    (∃ (c : Cmd) (s : State), NoToken s c.ring ∧ s.m.portCheck 0x0816 opSetSignal c = none ∧ s.m.namesNow 0x0816 c = true) ∧
    (∃ (c : Cmd) (s : State), s.m.takes c.ring = true ∧ s.m.portCheck 0x0816 opSetSignal c = none ∧ s.m.namesNow 0x0816 c = false) ∧
    (∃ (c : Cmd) (s : State), NoToken s c.ring ∧ s.m.portCheck 0x0503 opDrvSetConfig c = none ∧ s.m.namesNow 0x0503 c = true) ∧
    (∃ (c : Cmd) (s : State), s.m.takes c.ring = true ∧ s.m.portCheck 0x0503 opDrvSetConfig c = none ∧ s.m.namesNow 0x0503 c = false) ∧
    (∃ (c : Cmd) (s : State), NoToken s c.ring ∧ s.m.portCheck 0x0505 opDrvEnable c = none ∧ s.m.namesNow 0x0505 c = true) ∧
    (∃ (c : Cmd) (s : State), s.m.takes c.ring = true ∧ s.m.portCheck 0x0505 opDrvEnable c = none ∧ s.m.namesNow 0x0505 c = false) ∧
    (∃ (c : Cmd) (s : State), NoToken s c.ring ∧ s.m.portCheck 0x0506 opDrvDisable c = none ∧ s.m.namesNow 0x0506 c = true) ∧
    (∃ (c : Cmd) (s : State), s.m.takes c.ring = true ∧ s.m.portCheck 0x0506 opDrvDisable c = none ∧ s.m.namesNow 0x0506 c = false) ∧
    (∃ (c : Cmd) (s : State), NoToken s c.ring ∧ s.m.portCheck 0x0507 opDrvResetInstance c = none ∧ s.m.namesNow 0x0507 c = true) ∧
    (∃ (c : Cmd) (s : State), s.m.takes c.ring = true ∧ s.m.portCheck 0x0507 opDrvResetInstance c = none ∧ s.m.namesNow 0x0507 c = false) ∧
    (∃ (c : Cmd) (s : State), NoToken s c.ring ∧ s.m.portCheck 0x0510 opSetOutput c = none ∧ s.m.namesNow 0x0510 c = true) ∧
    (∃ (c : Cmd) (s : State), s.m.takes c.ring = true ∧ s.m.portCheck 0x0510 opSetOutput c = none ∧ s.m.namesNow 0x0510 c = false) ∧
    (∃ (c : Cmd) (s : State), NoToken s c.ring ∧ s.m.portCheck 0x0511 opPhFire c = none ∧ s.m.namesNow 0x0511 c = true) ∧
    (∃ (c : Cmd) (s : State), s.m.takes c.ring = true ∧ s.m.portCheck 0x0511 opPhFire c = none ∧ s.m.namesNow 0x0511 c = false) ∧
    (∃ (c : Cmd) (s : State), NoToken s c.ring ∧ s.m.portCheck 0x0512 opPhStop c = none ∧ s.m.namesNow 0x0512 c = true) ∧
    (∃ (c : Cmd) (s : State), s.m.takes c.ring = true ∧ s.m.portCheck 0x0512 opPhStop c = none ∧ s.m.namesNow 0x0512 c = false) ∧
    (∃ (c : Cmd) (s : State), NoToken s c.ring ∧ s.m.portCheck 0x0513 opClearFault c = none ∧ s.m.namesNow 0x0513 c = true) ∧
    (∃ (c : Cmd) (s : State), s.m.takes c.ring = true ∧ s.m.portCheck 0x0513 opClearFault c = none ∧ s.m.namesNow 0x0513 c = false) ∧
    (∃ (c : Cmd) (s : State), NoToken s c.ring ∧ s.m.portCheck 0x1003 opEvtSetConfig c = none ∧ s.m.namesNow 0x1003 c = true) ∧
    (∃ (c : Cmd) (s : State), s.m.takes c.ring = true ∧ s.m.portCheck 0x1003 opEvtSetConfig c = none ∧ s.m.namesNow 0x1003 c = false) ∧
    (∃ (c : Cmd) (s : State), NoToken s c.ring ∧ s.m.portCheck 0x1005 opEvtEnable c = none ∧ s.m.namesNow 0x1005 c = true) ∧
    (∃ (c : Cmd) (s : State), s.m.takes c.ring = true ∧ s.m.portCheck 0x1005 opEvtEnable c = none ∧ s.m.namesNow 0x1005 c = false) ∧
    (∃ (c : Cmd) (s : State), NoToken s c.ring ∧ s.m.portCheck 0x1006 opEvtDisable c = none ∧ s.m.namesNow 0x1006 c = true) ∧
    (∃ (c : Cmd) (s : State), s.m.takes c.ring = true ∧ s.m.portCheck 0x1006 opEvtDisable c = none ∧ s.m.namesNow 0x1006 c = false) ∧
    (∃ (c : Cmd) (s : State), NoToken s c.ring ∧ s.m.portCheck 0x1007 opEvtResetInstance c = none ∧ s.m.namesNow 0x1007 c = true) ∧
    (∃ (c : Cmd) (s : State), s.m.takes c.ring = true ∧ s.m.portCheck 0x1007 opEvtResetInstance c = none ∧ s.m.namesNow 0x1007 c = false) ∧
    (∃ (c : Cmd) (s : State), NoToken s c.ring ∧ s.m.portCheck 0x0603 opInpSetConfig c = none ∧ s.m.namesNow 0x0603 c = true) ∧
    (∃ (c : Cmd) (s : State), s.m.takes c.ring = true ∧ s.m.portCheck 0x0603 opInpSetConfig c = none ∧ s.m.namesNow 0x0603 c = false) ∧
    (∃ (c : Cmd) (s : State), NoToken s c.ring ∧ s.m.portCheck 0x0605 opInpEnable c = none ∧ s.m.namesNow 0x0605 c = true) ∧
    (∃ (c : Cmd) (s : State), s.m.takes c.ring = true ∧ s.m.portCheck 0x0605 opInpEnable c = none ∧ s.m.namesNow 0x0605 c = false) ∧
    (∃ (c : Cmd) (s : State), NoToken s c.ring ∧ s.m.portCheck 0x0606 opInpDisable c = none ∧ s.m.namesNow 0x0606 c = true) ∧
    (∃ (c : Cmd) (s : State), s.m.takes c.ring = true ∧ s.m.portCheck 0x0606 opInpDisable c = none ∧ s.m.namesNow 0x0606 c = false) ∧
    (∃ (c : Cmd) (s : State), NoToken s c.ring ∧ s.m.portCheck 0x0607 opInpResetInstance c = none ∧ s.m.namesNow 0x0607 c = true) ∧
    (∃ (c : Cmd) (s : State), s.m.takes c.ring = true ∧ s.m.portCheck 0x0607 opInpResetInstance c = none ∧ s.m.namesNow 0x0607 c = false) ∧
    (∃ (c : Cmd) (s : State), NoToken s c.ring ∧ s.m.portCheck 0x0610 opBindSlot c = none ∧ s.m.namesNow 0x0610 c = true) ∧
    (∃ (c : Cmd) (s : State), s.m.takes c.ring = true ∧ s.m.portCheck 0x0610 opBindSlot c = none ∧ s.m.namesNow 0x0610 c = false) ∧
    (∃ (c : Cmd) (s : State), NoToken s c.ring ∧ s.m.portCheck 0x0303 opLaneSetConfig c = none ∧ s.m.namesNow 0x0303 c = true) ∧
    (∃ (c : Cmd) (s : State), s.m.takes c.ring = true ∧ s.m.portCheck 0x0303 opLaneSetConfig c = none ∧ s.m.namesNow 0x0303 c = false) ∧
    (∃ (c : Cmd) (s : State), NoToken s c.ring ∧ s.m.portCheck 0x0310 opForceTakeover c = none ∧ s.m.namesNow 0x0310 c = true) ∧
    (∃ (c : Cmd) (s : State), s.m.takes c.ring = true ∧ s.m.portCheck 0x0310 opForceTakeover c = none ∧ s.m.namesNow 0x0310 c = false) ∧
    (∃ (c : Cmd) (s : State), NoToken s c.ring ∧ s.m.portCheck 0x0311 opSetRedundancy c = none ∧ s.m.namesNow 0x0311 c = true) ∧
    (∃ (c : Cmd) (s : State), s.m.takes c.ring = true ∧ s.m.portCheck 0x0311 opSetRedundancy c = none ∧ s.m.namesNow 0x0311 c = false) ∧
    (∃ (c : Cmd) (s : State), NoToken s c.ring ∧ s.m.portCheck 0x0403 opLoopSetConfig c = none ∧ s.m.namesNow 0x0403 c = true) ∧
    (∃ (c : Cmd) (s : State), s.m.takes c.ring = true ∧ s.m.portCheck 0x0403 opLoopSetConfig c = none ∧ s.m.namesNow 0x0403 c = false) ∧
    (∃ (c : Cmd) (s : State), NoToken s c.ring ∧ s.m.portCheck 0x0405 opLoopEnable c = none ∧ s.m.namesNow 0x0405 c = true) ∧
    (∃ (c : Cmd) (s : State), s.m.takes c.ring = true ∧ s.m.portCheck 0x0405 opLoopEnable c = none ∧ s.m.namesNow 0x0405 c = false) ∧
    (∃ (c : Cmd) (s : State), NoToken s c.ring ∧ s.m.portCheck 0x0406 opLoopDisable c = none ∧ s.m.namesNow 0x0406 c = true) ∧
    (∃ (c : Cmd) (s : State), s.m.takes c.ring = true ∧ s.m.portCheck 0x0406 opLoopDisable c = none ∧ s.m.namesNow 0x0406 c = false) ∧
    (∃ (c : Cmd) (s : State), NoToken s c.ring ∧ s.m.portCheck 0x0407 opLoopResetInstance c = none ∧ s.m.namesNow 0x0407 c = true) ∧
    (∃ (c : Cmd) (s : State), s.m.takes c.ring = true ∧ s.m.portCheck 0x0407 opLoopResetInstance c = none ∧ s.m.namesNow 0x0407 c = false) ∧
    (∃ (c : Cmd) (s : State), NoToken s c.ring ∧ s.m.portCheck 0x0410 opSetMode c = none ∧ s.m.namesNow 0x0410 c = true) ∧
    (∃ (c : Cmd) (s : State), s.m.takes c.ring = true ∧ s.m.portCheck 0x0410 opSetMode c = none ∧ s.m.namesNow 0x0410 c = false) ∧
    (∃ (c : Cmd) (s : State), NoToken s c.ring ∧ s.m.portCheck 0x0411 opSetSetpoint c = none ∧ s.m.namesNow 0x0411 c = true) ∧
    (∃ (c : Cmd) (s : State), s.m.takes c.ring = true ∧ s.m.portCheck 0x0411 opSetSetpoint c = none ∧ s.m.namesNow 0x0411 c = false) ∧
    (∃ (c : Cmd) (s : State), NoToken s c.ring ∧ s.m.portCheck 0x0413 opWriteSchedule c = none ∧ s.m.namesNow 0x0413 c = true) ∧
    (∃ (c : Cmd) (s : State), s.m.takes c.ring = true ∧ s.m.portCheck 0x0413 opWriteSchedule c = none ∧ s.m.namesNow 0x0413 c = false) ∧
    (∃ (c : Cmd) (s : State), NoToken s c.ring ∧ s.m.portCheck 0x0414 opWriteCoeff c = none ∧ s.m.namesNow 0x0414 c = true) ∧
    (∃ (c : Cmd) (s : State), s.m.takes c.ring = true ∧ s.m.portCheck 0x0414 opWriteCoeff c = none ∧ s.m.namesNow 0x0414 c = false) :=
  ⟨⟨tC 0 (zeros 16), tW fun m => { m with lanes := { m.lanes with redundancy := 5 } }, by unfold NoToken; decide +kernel, by decide +kernel⟩,
    ⟨{ tC 0 (zeros 16) with cframe := 1 }, tS, by decide +kernel⟩,
    ⟨tC 0 (zeros 20), tW fun m => { m with lanes := { m.lanes with redundancy := 5 } }, by unfold NoToken; decide +kernel, by decide +kernel⟩,
    ⟨{ tC 0 (zeros 20) with cframe := 1 }, tS, by decide +kernel⟩,
    ⟨tC 0 (zeros (drvRecLen 0)), tW fun m => { m with lanes := { m.lanes with redundancy := 5 } }, by unfold NoToken; decide +kernel, by decide +kernel⟩,
    ⟨{ tC 0 (zeros (drvRecLen 0)) with cframe := 1 }, tS, by decide +kernel⟩,
    ⟨tC 0 (zeros 0), tW fun m => { m with lanes := { m.lanes with redundancy := 5 } }, by unfold NoToken; decide +kernel, by decide +kernel⟩,
    ⟨{ tC 0 (zeros 0) with cframe := 1 }, tS, by decide +kernel⟩,
    ⟨tC 0 (zeros 0), tW fun m => { m with lanes := { m.lanes with redundancy := 5 } }, by unfold NoToken; decide +kernel, by decide +kernel⟩,
    ⟨{ tC 0 (zeros 0) with cframe := 1 }, tS, by decide +kernel⟩,
    ⟨tC 0 (zeros 0), tW fun m => { m with lanes := { m.lanes with redundancy := 5 } }, by unfold NoToken; decide +kernel, by decide +kernel⟩,
    ⟨{ tC 0 (zeros 0) with cframe := 1 }, tS, by decide +kernel⟩,
    ⟨tC 0 (zeros 4), tW fun m => { m with lanes := { m.lanes with redundancy := 5 } }, by unfold NoToken; decide +kernel, by decide +kernel⟩,
    ⟨{ tC 0 (zeros 4) with cframe := 1 }, tS, by decide +kernel⟩,
    ⟨tC 0 (zeros 4), tW fun m => { m with lanes := { m.lanes with redundancy := 5 } }, by unfold NoToken; decide +kernel, by decide +kernel⟩,
    ⟨{ tC 0 (zeros 4) with cframe := 1 }, tS, by decide +kernel⟩,
    ⟨tC 0 (zeros 4), tW fun m => { m with lanes := { m.lanes with redundancy := 5 } }, by unfold NoToken; decide +kernel, by decide +kernel⟩,
    ⟨{ tC 0 (zeros 4) with cframe := 1 }, tS, by decide +kernel⟩,
    ⟨tC 0 (zeros 0), tW fun m => { m with lanes := { m.lanes with redundancy := 5 } }, by unfold NoToken; decide +kernel, by decide +kernel⟩,
    ⟨{ tC 0 (zeros 0) with cframe := 1 }, tS, by decide +kernel⟩,
    ⟨tC 0 (zeros 4), tW fun m => { m with lanes := { m.lanes with redundancy := 5 } }, by unfold NoToken; decide +kernel, by decide +kernel⟩,
    ⟨{ tC 0 (zeros 4) with cframe := 1 }, tS, by decide +kernel⟩,
    ⟨tC 0 (zeros 0), tW fun m => { m with lanes := { m.lanes with redundancy := 5 } }, by unfold NoToken; decide +kernel, by decide +kernel⟩,
    ⟨{ tC 0 (zeros 0) with cframe := 1 }, tS, by decide +kernel⟩,
    ⟨tC 0 (zeros 0), tW fun m => { m with lanes := { m.lanes with redundancy := 5 } }, by unfold NoToken; decide +kernel, by decide +kernel⟩,
    ⟨{ tC 0 (zeros 0) with cframe := 1 }, tS, by decide +kernel⟩,
    ⟨tC 0 (zeros 0), tW fun m => { m with lanes := { m.lanes with redundancy := 5 } }, by unfold NoToken; decide +kernel, by decide +kernel⟩,
    ⟨{ tC 0 (zeros 0) with cframe := 1 }, tS, by decide +kernel⟩,
    ⟨tC 0 (zeros (inpKind 0).len), tW fun m => { m with lanes := { m.lanes with redundancy := 5 } }, by unfold NoToken; decide +kernel, by decide +kernel⟩,
    ⟨{ tC 0 (zeros (inpKind 0).len) with cframe := 1 }, tS, by decide +kernel⟩,
    ⟨tC 0 (zeros 0), tW fun m => { m with lanes := { m.lanes with redundancy := 5 } }, by unfold NoToken; decide +kernel, by decide +kernel⟩,
    ⟨{ tC 0 (zeros 0) with cframe := 1 }, tS, by decide +kernel⟩,
    ⟨tC 0 (zeros 0), tW fun m => { m with lanes := { m.lanes with redundancy := 5 } }, by unfold NoToken; decide +kernel, by decide +kernel⟩,
    ⟨{ tC 0 (zeros 0) with cframe := 1 }, tS, by decide +kernel⟩,
    ⟨tC 0 (zeros 0), tW fun m => { m with lanes := { m.lanes with redundancy := 5 } }, by unfold NoToken; decide +kernel, by decide +kernel⟩,
    ⟨{ tC 0 (zeros 0) with cframe := 1 }, tS, by decide +kernel⟩,
    ⟨tC 0 (zeros 16), tW fun m => { m with lanes := { m.lanes with redundancy := 5 } }, by unfold NoToken; decide +kernel, by decide +kernel⟩,
    ⟨{ tC 0 (zeros 16) with cframe := 1 }, tS, by decide +kernel⟩,
    ⟨tC 0 (zeros 4), tW fun m => { m with lanes := { m.lanes with redundancy := 5 } }, by unfold NoToken; decide +kernel, by decide +kernel⟩,
    ⟨{ tC 0 (zeros 4) with cframe := 1 }, tS, by decide +kernel⟩,
    ⟨tC 0 (zeros 4), tW fun m => { m with lanes := { m.lanes with redundancy := 5 } }, by unfold NoToken; decide +kernel, by decide +kernel⟩,
    ⟨{ tC 0 (zeros 4) with cframe := 1 }, tS, by decide +kernel⟩,
    ⟨tC 0 (zeros 4), tW fun m => { m with lanes := { m.lanes with redundancy := 5 } }, by unfold NoToken; decide +kernel, by decide +kernel⟩,
    ⟨{ tC 0 (zeros 4) with cframe := 1 }, tS, by decide +kernel⟩,
    ⟨tC 0 (zeros 120), tW fun m => { m with lanes := { m.lanes with redundancy := 5 } }, by unfold NoToken; decide +kernel, by decide +kernel⟩,
    ⟨{ tC 0 (zeros 120) with cframe := 1 }, tS, by decide +kernel⟩,
    ⟨tC 0 (zeros 0), tW fun m => { m with lanes := { m.lanes with redundancy := 5 } }, by unfold NoToken; decide +kernel, by decide +kernel⟩,
    ⟨{ tC 0 (zeros 0) with cframe := 1 }, tS, by decide +kernel⟩,
    ⟨tC 0 (zeros 0), tW fun m => { m with lanes := { m.lanes with redundancy := 5 } }, by unfold NoToken; decide +kernel, by decide +kernel⟩,
    ⟨{ tC 0 (zeros 0) with cframe := 1 }, tS, by decide +kernel⟩,
    ⟨tC 0 (zeros 0), tW fun m => { m with lanes := { m.lanes with redundancy := 5 } }, by unfold NoToken; decide +kernel, by decide +kernel⟩,
    ⟨{ tC 0 (zeros 0) with cframe := 1 }, tS, by decide +kernel⟩,
    ⟨tC 0 (zeros 8), tW fun m => { m with lanes := { m.lanes with redundancy := 5 } }, by unfold NoToken; decide +kernel, by decide +kernel⟩,
    ⟨{ tC 0 (zeros 8) with cframe := 1 }, tS, by decide +kernel⟩,
    ⟨tC 0 (zeros 12), tW fun m => { m with lanes := { m.lanes with redundancy := 5 } }, by unfold NoToken; decide +kernel, by decide +kernel⟩,
    ⟨{ tC 0 (zeros 12) with cframe := 1 }, tS, by decide +kernel⟩,
    ⟨tC 0 (zeros 4), tW fun m => { m with lanes := { m.lanes with redundancy := 5 } }, by unfold NoToken; decide +kernel, by decide +kernel⟩,
    ⟨{ tC 0 (zeros 4) with cframe := 1 }, tS, by decide +kernel⟩,
    ⟨tC 0 (zeros 92), tW fun m => { m with lanes := { m.lanes with redundancy := 5 } }, by unfold NoToken; decide +kernel, by decide +kernel⟩,
    ⟨{ tC 0 (zeros 92) with cframe := 1 }, tS, by decide +kernel⟩⟩

/-- States and operands that meet the hypotheses of PortEventsAct, clause by clause. -/
theorem test_meets_port_events_act :
    (∃ (s : State) (x : Snapshot), (s.m.port.snap = some x)) ∧
    (∃ (s : State) (r : Nat), ((s.m.ring r).session.opened = true)) ∧
    (∃ (s : State) (r : Nat) (tail : BitVec 32) (written : List Bytes), (s.m.appOn = true) ∧ (r < 12)) ∧
    (∃ (s : State) (r : Nat) (tail : BitVec 32) (written : List Bytes), (s.m.appOn = true) ∧ (12 ≤ r)) ∧
    (∃ (s : State) (r : Nat) (head : BitVec 32), (s.m.appOn = true) ∧ (r < 12)) ∧
    (∃ (s : State) (r : Nat) (on : Bool), (s.m.appOn = true) ∧ (r < 12)) ∧
    (∃ (s : State) (r : Nat), (s.m.appOn = true) ∧ (r < 12)) ∧
    (∃ (s : State) (r : Nat), (s.m.alive = true) ∧ (r < 16)) ∧
    (∃ (s : State) (r : Nat), (s.m.alive = true) ∧ (s.m.port.running = true) ∧ (s.m.markWaits.nextRing = some r)) ∧
    (∃ (s : State) (dgram : Bytes) (sender : Nat), (s.m.pd 10 = true)) ∧
    (∃ (s : State) (data : Bytes), (s.m.upd.reheat = true) ∧ (data.length = 8) ∧ ((rd data 0 1).testBit 7 = false) ∧ (rd data 0 1 % 64 = 0)) ∧
    (∃ (s : State) (data : Bytes), (s.m.upd.reheat = true) ∧ (data.length = 8) ∧ ((rd data 0 1).testBit 7 = false) ∧ (rd data 0 1 % 64 ≠ 0) ∧ (rd data 0 1 % 64 = s.m.port.segNext)) ∧
    (∃ (s : State) (addr : Nat) (v : BitVec 64), (s.m.appOn = true) ∧ (isRegister addr = true) ∧ (addr < 0x40010000)) ∧
    (∃ (s : State) (addr : Nat) (v : BitVec 64), (s.m.appOn = true) ∧ (isRegister addr = false) ∧ (inApp addr 8 = false) ∧ (isSqSlot addr = false)) ∧
    (∃ (s : State) (addr : Nat) (v : BitVec 64), (s.m.appOn = true) ∧ (inApp addr 8 = true)) ∧
    (∃ (s : State) (q : Access) (wr : Bool), (q.lane = none) ∧ (s.m.appOn = true) ∧ (isReserved q.addr = true)) ∧
    (∃ (s : State) (q : Access), (q.lane = none) ∧ (s.m.appOn = true) ∧ (isReadOnly q.addr = true)) ∧
    (∃ (s : State) (q : Access), (q.lane = none) ∧ (s.m.appOn = true) ∧ (isReserved q.addr = false) ∧ (isRegister q.addr = true)) ∧
    (∃ (s : State) (q : Access), (q.lane = none) ∧ (s.m.appOn = true) ∧ (isReserved q.addr = false) ∧ (isRegister q.addr = false) ∧ (isSdram q.addr = true) ∧ ((List.range 8).any (fun k => s.m.poison.contains ((q.addr + k) / 64)) = false)) ∧
    (∃ (s : State) (q : Access), (q.lane = none) ∧ (s.m.appOn = true) ∧ (isReserved q.addr = false) ∧ (isRegister q.addr = false) ∧ (isSdram q.addr = true) ∧ ((List.range 8).any (fun k => s.m.poison.contains ((q.addr + k) / 64)) = true)) ∧
    (∃ (s : State) (q : Access) (l : Lane) (wr : Bool), (q.lane = some l) ∧ (s.m.alive = true) ∧ ((s.m.lane l).st.hears = true) ∧ (inRange q.addr 0x50000000 0x500007FF = false)) ∧
    (∃ (s : State) (q : Access) (l : Lane), (q.lane = some l) ∧ (s.m.alive = true) ∧ ((s.m.lane l).st.hears = true) ∧ (inRange q.addr 0x50000000 0x500007FF = true)) ∧
    (∃ (s : State) (q : Access) (l : Lane), (q.lane = some l) ∧ (s.m.alive = true) ∧ ((s.m.lane l).st.hears = true) ∧ (inRange q.addr 0x50000000 0x500007FF = true)) ∧
    (∃ (s : State) (slot : Nat) (w : BitVec 64), (s.m.alive = true) ∧ (s.m.writerOn 1 = true) ∧ (slot < 256) ∧ (s.m.fxOwner slot = 1)) ∧
    (∃ (s : State) (slot : Nat) (w : BitVec 64), (s.m.alive = true) ∧ (s.m.writerOn 1 = true) ∧ (slot < 256) ∧ (s.m.fxOwner slot ≠ 1)) ∧
    (∃ (s : State) (line word : Nat) (v : BitVec 32), (line < 8) ∧ (word < 4)) ∧
    (∃ (s : State) (line word : Nat) (v : BitVec 32), (line < 8) ∧ (word < 4)) ∧
    (∃ (s : State) (line : Nat) (r : Raise) (t : List Raise), (line < 8) ∧ ((s.m.intLine line).q = r :: t)) ∧
    (∃ (s : State) (line : Nat) (r : Raise) (t : List Raise), (line < 8) ∧ ((s.m.intLine line).q = r :: t) ∧ ((s.m.intLine line).locked = true)) ∧
    (∃ (s : State) (line word : Nat), (line < 8) ∧ (word < 4) ∧ ((s.m.intLine line).q = [])) ∧
    (∃ (s : State) (line : Nat), (line < 8)) ∧
    (∃ (s : State) (src : Nat) (param : BitVec 32) (line : Option Nat), (src < 128) ∧ (src ≠ 6)) ∧
    (∃ (s : State) (param : BitVec 32), (s.m.pd 5 = true)) ∧
    (∃ (s : State) (param : BitVec 32) (k : Nat), (s.m.pd 5 = true) ∧ (isSdram (64 * k) = true) ∧ (s.m.poison.contains k = false)) :=
  ⟨⟨(tW fun m => { m with port := { m.port with snap := some tSnap } }), tSnap, by decide +kernel⟩,
    ⟨(tW fun m => m.setRing 12 { m.ring 12 with session := { opened := true } }), 12, by decide +kernel⟩,
    ⟨tS, 11, 0, [], by decide +kernel⟩,
    ⟨tS, 12, 0, [], by decide +kernel⟩,
    ⟨tS, 11, 0, by decide +kernel⟩,
    ⟨tS, 0, true, by decide +kernel⟩,
    ⟨tS, 11, by decide +kernel⟩,
    ⟨tS, 15, by decide +kernel⟩,
    ⟨(tW fun m => m.setRing 3 { m.ring 3 with enable := true, sqTail := 1, sq := [(0, zeros 16)] }), 3, by decide +kernel⟩,
    ⟨tS, [], 0, by decide +kernel⟩,
    ⟨(tW fun m => { m with upd := { m.upd with reheat := true } }), (zeros 8), by decide +kernel⟩,
    ⟨(tW fun m => { m with upd := { m.upd with reheat := true }, port := { m.port with segNext := 1 } }), (1 :: zeros 7), by decide +kernel⟩,
    ⟨tS, 0x4000000C, 0, by decide +kernel⟩,
    ⟨tS, 0x40031000, 0, by decide +kernel⟩,
    ⟨tS, 0x80000000, 0, by decide +kernel⟩,
    ⟨tS, { addr := 0x3FFFFFFF }, true, by decide +kernel⟩,
    ⟨tS, { addr := 0x400000000 }, by decide +kernel⟩,
    ⟨tS, { addr := 0x40030000, core := 7 }, by decide +kernel⟩,
    ⟨tS, { addr := 0x80000000 }, by decide +kernel⟩,
    ⟨(tW fun m => { m with poison := [0x2000000] }), { addr := 0x80000000 }, by decide +kernel⟩,
    ⟨(tW fun m => m.setLane .a { m.lane .a with st := .active }), { addr := 0x4FFFFFFF, lane := some .a }, .a, true, by decide +kernel⟩,
    ⟨(tW fun m => m.setLane .a { m.lane .a with st := .active }), { addr := 0x500007FF, lane := some .a }, .a, by decide +kernel⟩,
    ⟨(tW fun m => m.setLane .a { m.lane .a with st := .active }), { addr := 0x50000050, lane := some .a }, .a, by decide +kernel⟩,
    ⟨(tW fun m => m.setCfg 0x0610 247 (tP 16 [(0, 1, 247), (1, 1, 1)])), 247, 0, by decide +kernel⟩,
    ⟨tS, 255, 0, by decide +kernel⟩,
    ⟨tS, 7, 3, 0, by decide +kernel⟩,
    ⟨tS, 7, 3, 0, by decide +kernel⟩,
    ⟨(tW fun m => m.setLine 7 { m.intLine 7 with q := [tRaise] }), 7, tRaise, [], by decide +kernel⟩,
    ⟨(tW fun m => m.setLine 7 { m.intLine 7 with q := [tRaise], locked := true }), 7, tRaise, [], by decide +kernel⟩,
    ⟨tS, 7, 3, by decide +kernel⟩,
    ⟨tS, 0, by decide +kernel⟩,
    ⟨tS, 127, 0, none, by decide +kernel⟩,
    ⟨tS, 0, by decide +kernel⟩,
    ⟨tS, 0, 0x2000000, by decide +kernel⟩⟩

/-- States and operands that meet the hypotheses of TimeEventsAct, clause by clause. -/
theorem test_meets_time_events_act :
    (∃ (s : State) (avail : List (Nat × Int)) (nav : Option NavLeap), (s.m.alive = true)) ∧
    (∃ (s : State), (s.m.alive = true)) ∧
    (∃ (s : State), (s.m.alive = true)) ∧
    (∃ (s : State) (ppm : Int), (s.m.alive = true) ∧ (s.m.time.ref = false) ∧ (s.m.time.ref1Failed = false) ∧ (s.m.estimateJudges = false) ∧ (250 < ppm ∨ ppm < -250)) ∧
    (∃ (s : State) (ppm : Int), (s.m.alive = true) ∧ (s.m.time.ref = false) ∧ (s.m.time.ref1Failed = false) ∧ (s.m.estimateJudges = false) ∧ (-250 ≤ ppm ∧ ppm ≤ 250)) ∧
    (∃ (s : State), (s.m.alive = true) ∧ (s.m.time.ref = false)) ∧
    (∃ (s : State) (src : Nat) (n : Mod), (s.m.alive = true) ∧ (n = s.m.until s.m.lossAt) ∧ (n.inUse = some src) ∧ (src ≠ 0) ∧ (n.time.lost = false) ∧ (n.srcLost src = true)) ∧
    (∃ (s : State), (s.m.seeSources.time.ppsInLast = none)) ∧
    (∃ (s : State) (c : Nat) (n : Mod), (n = s.m.seeSources) ∧ (n.time.ppsInLast = some c) ∧ (100000 * 65536 < (n.mt - (n.time.conv c).1 - unitsPerSec).natAbs)) ∧
    (∃ (s : State) (c : Nat) (n : Mod), (n = s.m.seeSources) ∧ (n.time.ppsInLast = some c) ∧ ((n.mt - (n.time.conv c).1 - unitsPerSec).natAbs ≤ 100000 * 65536)) :=
  ⟨⟨tS, [], some { tai := 37, step := -1, at' := 9 }, by decide +kernel⟩,
    ⟨tS, by decide +kernel⟩,
    ⟨tS, by decide +kernel⟩,
    ⟨tS, 251, by decide +kernel⟩,
    ⟨tS, 0, by decide +kernel⟩,
    ⟨tS, by decide +kernel⟩,
    ⟨(tW fun m => { m with time := { m.time with src := 1 } }), 1, _, by and_intros <;> first | decide +kernel | rfl | exact Or.inl (by decide +kernel) | exact Or.inr (by decide +kernel)⟩,
    ⟨tS, by decide +kernel⟩,
    ⟨(tW fun m => { m with time := { m.time with ppsInLast := some 0 } }), 0, _, by and_intros <;> first | decide +kernel | rfl | exact Or.inl (by decide +kernel) | exact Or.inr (by decide +kernel)⟩,
    ⟨(tW fun m => Mod.until { m with time := { m.time with ppsInLast := some 0 } } (secs 1)), 0, _, by and_intros <;> first | decide +kernel | rfl | exact Or.inl (by decide +kernel) | exact Or.inr (by decide +kernel)⟩⟩

/-- States and operands that meet the hypotheses of LaneEventsAct, clause by clause. -/
theorem test_meets_lane_events_act :
    (∃ (s : State) (inp : FrameIn), (s.m.alive = true) ∧ (s.m.lanes.run = true)) ∧
    (∃ (s : State), (s.m.alive = true) ∧ (s.m.lanes.run = true)) ∧
    (∃ (s : State) (lane : Lane) (check : Nat), (1 ≤ check) ∧ (check ≤ 6)) ∧
    (∃ (s : State) (lane : Lane), ((s.m.lane lane).st ≠ .off)) ∧
    (∃ (s : State) (lane : Lane), ((s.m.lane lane).st = .loading) ∧ (s.m.lanes.restart = false) ∧ (s.m.upd.act = none) ∧ (s.m.lanePowered lane = true)) ∧
    (∃ (s : State) (lane : Lane), ((s.m.lane lane).st = .loading) ∧ (s.m.lanes.restart = false) ∧ (s.m.upd.act = none) ∧ (s.m.lanePowered lane = true)) ∧
    (∃ (s : State) (lane : Lane) (ok : Bool), ((s.m.lane lane).st = .loading) ∧ (s.m.lanes.restart = true) ∧ (s.m.lanePowered lane = true)) ∧
    (∃ (s : State) (lane : Lane), (s.m.lanes.token ≠ none) ∧ (s.m.lanePowered lane = true) ∧ (s.m.actResets lane = false) ∧ (s.m.mayRejoin lane = true)) ∧
    (∃ (s : State) (p : Punty) (act : Lane), (s.m.lanes.punty = some p) ∧ (s.m.lanes.active = some act) ∧ (p.start < s.m.lanes.frame) ∧ (s.m.upd.act = none) ∧ (p.left ≤ 16384)) ∧
    (∃ (s : State) (p : Punty), (s.m.lanes.punty = some p) ∧ (p.start + 400 ≤ s.m.lanes.frame) ∧ ((s.m.lane p.recv).abandoned + 1 < 3)) ∧
    (∃ (s : State) (l : Lane) (t : Nat), (s.m.lanes.retry = some (l, t))) :=
  ⟨⟨tS, {}, by decide +kernel⟩,
    ⟨tS, by decide +kernel⟩,
    ⟨tS, .a, 6, by decide +kernel⟩,
    ⟨(tW fun m => { m with lanes := { m.lanes with a := { m.lanes.a with st := .standby } } }), .a, by decide +kernel⟩,
    ⟨(tW fun m => { m with lanes := { m.lanes with a := { m.lanes.a with st := .loading } } }), .a, by decide +kernel⟩,
    ⟨(tW fun m => { m with lanes := { m.lanes with a := { m.lanes.a with st := .loading } } }), .a, by decide +kernel⟩,
    ⟨(tW fun m => { m with lanes := { m.lanes with a := { m.lanes.a with st := .loading }, restart := true } }), .a, true, by decide +kernel⟩,
    ⟨(tW fun m => { m with lanes := { m.lanes with token := some .b, a := { m.lanes.a with st := .silent } } }), .a, by decide +kernel⟩,
    ⟨(tW fun m => { m with lanes := { m.lanes with punty := some tPunty, a := { m.lanes.a with st := .active }, frame := 1 } }), tPunty, .a, by decide +kernel⟩,
    ⟨(tW fun m => { m with lanes := { m.lanes with punty := some tPunty, frame := 400 } }), tPunty, by decide +kernel⟩,
    ⟨(tW fun m => { m with lanes := { m.lanes with retry := some (.b, 0) } }), .b, 0, by decide +kernel⟩⟩

/-- States and operands that meet the hypotheses of DriverEventsAct, clause by clause. -/
theorem test_meets_driver_events_act :
    (∃ (s : State) (i t : Nat), ((s.m.drvCh i).due = some t) ∧ (i < 48) ∧ ((s.m.drvCh i).dueStop = false) ∧ ((s.m.drvCh i).mode = 3)) ∧
    (∃ (s : State) (i t : Nat), ((s.m.drvCh i).due = some t) ∧ (i < 48) ∧ ((s.m.drvCh i).dueStop = true) ∧ ((s.m.drvCh i).mode = 3) ∧ ((s.m.drvCh i).phase = .hold)) ∧
    (∃ (s : State) (i k t : Nat), (((s.m.bank (bankOf i)).queue.find? fun p => p.1 == i) = some (k, t))) ∧
    (∃ (s : State) (i : Nat), ((s.m.drvCh i).phase = .boost)) ∧
    (∃ (s : State) (i : Nat), ((s.m.drvCh i).phase = .peak)) ∧
    (∃ (s : State) (i : Nat), ((s.m.drvCh i).phase = .hold) ∧ (rd (s.m.drvRec i) 20 4 ≠ 0)) ∧
    (∃ (s : State) (i : Nat), (i < 48) ∧ ((s.m.drvCh i).phase = .decay)) ∧
    (∃ (s : State) (i code : Nat), (s.m.pd 9 = true) ∧ (i < 64)) ∧
    (∃ (s : State) (i code : Nat), (s.m.pd 9 = true) ∧ (64 ≤ i) ∧ (i < 76)) ∧
    (∃ (s : State) (i code : Nat), (s.m.pd 9 = true) ∧ (76 ≤ i) ∧ (i < 79)) ∧
    (∃ (s : State) (i : Nat) (n : Mod), (i < 64) ∧ ((s.m.drvCh i).latched = false) ∧ ((s.m.drvCh i).held = [3]) ∧ (n = s.m.until ((s.m.drvCh i).retryRaw + ms 100))) ∧
    (∃ (s : State) (i : Nat), (i < 64) ∧ ((s.m.drvCh i).latched = false) ∧ ((s.m.drvCh i).held = [7])) ∧
    (∃ (s : State) (i : Nat), (64 ≤ i) ∧ (i < 76) ∧ ((s.m.bank i).latched = false) ∧ ((s.m.bank i).held = true)) ∧
    (∃ (s : State) (i : Nat), (76 ≤ i) ∧ (i < 79) ∧ ((s.m.conv i).latched = false) ∧ ((s.m.conv i).held = true)) ∧
    (∃ (s : State) (i : Nat), (i < 48) ∧ (s.m.pd 9 = true) ∧ ((rd (s.m.drvRec i) 1 1).testBit 3 = true) ∧ ((s.m.drvCh i).mode = 0) ∧ ((s.m.drvCh i).flags.contains 1 = false)) ∧
    (∃ (s : State) (i : Nat), (i < 48) ∧ (s.m.pd 9 = true) ∧ ((rd (s.m.drvRec i) 1 1).testBit 3 = true) ∧ ((s.m.drvCh i).mode = 0)) ∧
    (∃ (s : State) (i : Nat), (i < 48) ∧ ((s.m.drvCh i).clampHot = false)) ∧
    (∃ (s : State) (i : Nat), (i < 48) ∧ ((s.m.drvCh i).clampLost = false)) ∧
    (∃ (s : State) (i code : Nat), (i < 64) ∧ ((s.m.drvCh i).latched = false) ∧ (code = 2 ∨ code = 6 ∨ ((code = 3 ∨ code = 7) ∧ (s.m.drvCh i).held.contains code = false))) :=
  ⟨⟨(tW fun m => m.setDrv 47 { m.drvCh 47 with due := some 0, mode := 3 }), 47, 0, by decide +kernel⟩,
    ⟨(tW fun m => m.setDrv 47 { m.drvCh 47 with due := some 0, dueStop := true, mode := 3, phase := .hold }), 47, 0, by decide +kernel⟩,
    ⟨(tW fun m => m.setBank (bankOf 47) { m.bank (bankOf 47) with queue := [(47, 0)] }), 47, 47, 0, by decide +kernel⟩,
    ⟨(tW fun m => m.setDrv 47 { m.drvCh 47 with phase := .boost }), 47, by decide +kernel⟩,
    ⟨(tW fun m => m.setDrv 47 { m.drvCh 47 with phase := .peak }), 47, by decide +kernel⟩,
    ⟨(tW fun m => (m.setDrv 47 { m.drvCh 47 with phase := .hold }).setCfg 0x0503 47 (tP 40 [(20, 4, 1)])), 47, by decide +kernel⟩,
    ⟨(tW fun m => m.setDrv 47 { m.drvCh 47 with phase := .decay }), 47, by decide +kernel⟩,
    ⟨tS, 63, 0, by decide +kernel⟩,
    ⟨tS, 75, 0, by decide +kernel⟩,
    ⟨tS, 78, 0, by decide +kernel⟩,
    ⟨(tW fun m => m.setDrv 47 { m.drvCh 47 with held := [3] }), 47, _, by and_intros <;> first | decide +kernel | rfl | exact Or.inl (by decide +kernel) | exact Or.inr (by decide +kernel)⟩,
    ⟨(tW fun m => m.setDrv 47 { m.drvCh 47 with held := [7] }), 47, by decide +kernel⟩,
    ⟨(tW fun m => m.setBank 75 { m.bank 75 with held := true }), 75, by decide +kernel⟩,
    ⟨(tW fun m => m.setConv 78 { m.conv 78 with held := true }), 78, by decide +kernel⟩,
    ⟨(tW fun m => m.setCfg 0x0503 47 (tP 40 [(1, 1, 8)])), 47, by decide +kernel⟩,
    ⟨(tW fun m => m.setCfg 0x0503 47 (tP 40 [(1, 1, 8)])), 47, by decide +kernel⟩,
    ⟨tS, 47, by decide +kernel⟩,
    ⟨tS, 47, by decide +kernel⟩,
    ⟨tS, 63, 2, by decide +kernel⟩⟩

/-- States and operands that meet the hypotheses of InputEventsAct, clause by clause. -/
theorem test_meets_input_events_act :
    (∃ (s : State) (fin : Nat) (level : Bool), (fin < 32) ∧ (rd (s.m.inpRec (64 + fin / 2 * 2)) 0 1 ≠ 3) ∧ (rd (s.m.inpRec (64 + fin)) 0 1 ≠ 0) ∧ ((s.m.inpCh (64 + fin)).enabled = true) ∧ (edgeSel (rd (s.m.inpRec (64 + fin)) 1 1) level = true)) ∧
    (∃ (s : State) (lsn : Nat) (peak : BitVec 16), (lsn < 8) ∧ ((s.m.inpCh (96 + lsn)).enabled = true) ∧ (rd (s.m.inpRec (96 + lsn)) 2 2 < peak.toNat) ∧ ((s.m.inpCh (96 + lsn)).edge = none)) ∧
    (∃ (s : State) (i : Nat), (inpKind i = .lsn) ∧ (i ≥ 96) ∧ ((s.m.inpCh i).enabled = true) ∧ ((s.m.inpCh i).cond = false)) ∧
    (∃ (s : State) (sup : Nat) (out : Bool), (sup < 8) ∧ ((s.m.inpCh (107 + sup)).on = true) ∧ ((s.m.inpCh (107 + sup)).cond ≠ out)) ∧
    (∃ (s : State) (sup : Nat), (sup < 8) ∧ ((s.m.inpCh (107 + sup)).on = true) ∧ ((s.m.inpCh (107 + sup)).used s.m.now < rd (s.m.inpRec (107 + sup)) 2 1)) ∧
    (∃ (s : State) (sup : Nat), (sup < 8) ∧ ((s.m.inpCh (107 + sup)).on = false) ∧ ((s.m.inpCh (107 + sup)).latched = false) ∧ ((s.m.inpCh (107 + sup)).enabled = true) ∧ ((s.m.inpCh (107 + sup)).faultCode = 8)) :=
  ⟨⟨(tW fun m => (m.setCfg 0x0603 95 (tP 12 [(0, 1, 1)])).setInp 95 { m.inpCh 95 with enabled := true }), 31, true, by decide +kernel⟩,
    ⟨(tW fun m => m.setInp 103 { m.inpCh 103 with enabled := true }), 7, 0xFFFF, by decide +kernel⟩,
    ⟨(tW fun m => m.setInp 103 { m.inpCh 103 with enabled := true }), 103, by decide +kernel⟩,
    ⟨(tW fun m => m.setInp 114 { m.inpCh 114 with on := true }), 7, true, by decide +kernel⟩,
    ⟨(tW fun m => m.setInp 114 { m.inpCh 114 with on := true }), 7, by decide +kernel⟩,
    ⟨(tW fun m => m.setInp 114 { m.inpCh 114 with enabled := true, faultCode := 8 }), 7, by decide +kernel⟩⟩

/-- States and operands that meet the hypotheses of SafetyEventsAct, clause by clause. -/
theorem test_meets_safety_events_act :
    (∃ (s : State) (inp : SafeIn), (s.m.safeCycles = true) ∧ (inp.tick = true)) ∧
    (∃ (s : State) (inp : SafeIn), (s.m.safeCycles = true) ∧ ((s.m.until s.m.localTick).safe.tickLocal = true)) ∧
    (∃ (s : State) (inp : SafeIn), (s.m.safeCycles = true) ∧ ((s.m.until s.m.localTick).safe.tickLocal = false)) ∧
    (∃ (s : State), (s.m.pulses = true)) ∧
    (∃ (s : State), (s.m.pulses = true)) ∧
    (∃ (s : State) (supply : Nat) (levels before : BitVec 24) (n : Mod), (s.m.pulses = true) ∧ (n = (s.m.safe.pulse supply).elim s.m (fun r => s.m.until (r + us 250)))) ∧
    (∃ (s : State) (i : Nat) (level : Bool), (i < 24)) ∧
    (∃ (s : State) (i : Nat) (c : SinCh) (n : Mod), (i < 24) ∧ (c = (Tab.get {} s.m.safe.sin i : SinCh).afterBlank) ∧ (c.seen ≠ c.filt) ∧ (s.m.safeOn = true) ∧ (n = (s.m.until (filterDue (s.m.safe.pulse (i % 2)) c.since (s.m.safe.filterTime i))).darkPoll.jackPoll) ∧ (n.safe.role (i / 2) ≠ 5 ∧ n.safe.role (i / 2) ≠ 7) ∧ (n.safe.spRuns = true)) ∧
    (∃ (s : State) (r k : Nat), (s.m.safe.press = some r) ∧ (s.m.safe.pairOf 5 = some k) ∧ (s.m.safe.pairRun k = false) ∧ (s.m.safe.stuck = false) ∧ (r + ms 100 ≤ s.m.now) ∧ (s.m.now ≤ r + secs 5) ∧ ((Tab.get {} s.m.safe.pair k : SafePair).fault = 0) ∧ (s.m.safe.serviceWait = none)) ∧
    (∃ (s : State) (r : Nat), (s.m.safe.serviceWait = some r)) ∧
    (∃ (s : State) (r : Nat), (s.m.safe.tripLine = some r)) ∧
    (∃ (s : State) (r : Nat) (n : Mod), (s.m.safe.oldestDemand = some r) ∧ (n = (s.m.until (r + ms (s.m.safe.fld 92 2 + 1000))).jackPoll) ∧ (n.safe.oldestDemand = some r) ∧ (r + ms (n.safe.fld 92 2 + 1000) ≤ n.now)) ∧
    (∃ (s : State) (r : Nat) (n : Mod), (s.m.safe.oldestDemand = some r) ∧ (n = (s.m.until (r + ms (s.m.safe.fld 92 2 + 1000))).jackPoll) ∧ (n.safe.oldestDemand = none)) ∧
    (∃ (s : State) (r : Nat), (s.m.safeOn = true) ∧ (s.m.safe.jseatRaw = none) ∧ (s.m.safe.seatRaw = some r) ∧ (s.m.safe.func 3 = .delay) ∧ (s.m.safe.spRuns = true)) ∧
    (∃ (s : State) (r : Nat), (s.m.safeOn = true) ∧ (s.m.safe.jseatRaw = some r) ∧ (s.m.safe.jseatTrip = false) ∧ ((s.m.until (r + ms (100 * s.m.safe.fld 94 2))).jackPoll.safe.seatRaw = none)) ∧
    (∃ (s : State) (out t : Nat) (jack : Bool) (n : Mod), (s.m.darkPoll.safe.darkDue out jack s.m.darkPoll.now = some t) ∧ (out < 8) ∧ (s.m.darkPoll.safe.energised out = true) ∧ (s.m.darkPoll.safe.fld (80 + out) 1 ≠ 0) ∧ (s.m.darkPoll.safe.spRuns = true) ∧ (n = (s.m.darkPoll.until t).darkPoll)) ∧
    (∃ (s : State) (out t : Nat) (jack : Bool) (n : Mod), (s.m.darkPoll.safe.darkDue out jack s.m.darkPoll.now = some t) ∧ (out < 8) ∧ (s.m.darkPoll.safe.energised out = true) ∧ (s.m.darkPoll.safe.fld (80 + out) 1 ≠ 0) ∧ (s.m.darkPoll.safe.spRuns = true) ∧ (n = (s.m.darkPoll.until t).darkPoll)) ∧
    (∃ (s : State), (s.m.pd 4 = true)) ∧
    (∃ (s : State) (r : Nat), (s.m.pd 4 = true) ∧ (s.m.safe.cycleRaw = some r)) ∧
    (∃ (s : State), (s.m.pd 4 = true)) ∧
    (∃ (s : State) (n : Mod), (s.m.safePdus = true) ∧ (s.m.safe.pduWait = none) ∧ (n = s.m.until (s.m.safe.txRaw + ms 10))) ∧
    (∃ (s : State) (n : Mod) (due : Nat), (s.m.safePdus = true) ∧ (s.m.safe.pduWait = some due) ∧ (n = s.m.until due)) ∧
    (∃ (s : State) (ch : Nat) (id : BitVec 32) (data : Bytes) (n : Mod), (ch = 6 ∨ ch = 7) ∧ (s.m.canHears ch = true) ∧ (n = s.m.canTake ch (canFrameOf (id.toNat % 2 ^ 29 + 2 ^ 29) 1 data)) ∧ (n.safeCycles = true) ∧ (n.safe.rcd.isSome = true) ∧ (id.toNat % 2 ^ 29 = n.safe.fld 100 4) ∧ (rd data 12 4 = pduCrc ch (id.toNat % 2 ^ 29) data) ∧ (rd data 10 1 = n.safe.fld 108 1) ∧ (rd data 11 1 = 1) ∧ (data.length = 16)) ∧
    (∃ (s : State) (ch : Nat) (id : BitVec 32) (data : Bytes) (n : Mod), (ch = 6 ∨ ch = 7) ∧ (s.m.canHears ch = true) ∧ (n = s.m.canTake ch (canFrameOf (id.toNat % 2 ^ 29 + 2 ^ 29) 1 data)) ∧ (n.safeCycles = true) ∧ (rd data 12 4 ≠ pduCrc ch (id.toNat % 2 ^ 29) data)) ∧
    (∃ (s : State) (ch : Nat) (id : BitVec 32) (data : Bytes), (ch = 6 ∨ ch = 7) ∧ (s.m.canHears ch = false)) ∧
    (∃ (s : State), (s.m.safePdus = true)) ∧
    (∃ (s : State) (test : SafetyTest), (s.m.pd 4 = true) ∧ (s.m.nvs.safety = none ∨ test.spOk = false)) ∧
    (∃ (s : State) (r : Bytes) (test : SafetyTest), (s.m.pd 4 = true) ∧ (s.m.nvs.safety = some r) ∧ (test.spOk = true) ∧ (test.jackOk = true)) ∧
    (∃ (s : State) (r : Bytes) (test : SafetyTest), (s.m.pd 4 = true) ∧ (s.m.nvs.safety = some r) ∧ (test.spOk = true) ∧ (test.jackOk = false)) ∧
    (∃ (s : State), (s.m.pd 4 = true) ∧ (s.m.safe.foldA = true)) ∧
    (∃ (s : State), (s.m.pd 4 = true) ∧ (s.m.safe.foldB = true)) ∧
    (∃ (s : State) (out : Nat), (out < 8) ∧ (s.m.darkPoll.safe.energised out = true)) :=
  ⟨⟨(tW fun m => { m with safe := { m.safe with spRuns := true, st := .run } }), tSafeIn, by decide +kernel⟩,
    ⟨(tW fun m => { m with safe := { m.safe with spRuns := true, st := .run, tickLocal := true } }), tSafeIn, by decide +kernel⟩,
    ⟨(tW fun m => { m with safe := { m.safe with spRuns := true, st := .run } }), tSafeIn, by decide +kernel⟩,
    ⟨(tW fun m => { m with safe := { m.safe with spRuns := true, st := .run } }), by decide +kernel⟩,
    ⟨(tW fun m => { m with safe := { m.safe with spRuns := true, st := .run } }), by decide +kernel⟩,
    ⟨(tW fun m => { m with safe := { m.safe with spRuns := true, st := .run, pulseB := some 0 } }), 1, 0, 0, _, by and_intros <;> first | decide +kernel | rfl | exact Or.inl (by decide +kernel) | exact Or.inr (by decide +kernel)⟩,
    ⟨tS, 23, true, by decide +kernel⟩,
    ⟨(tW fun m => { m with safe := { m.safe with spRuns := true, sin := [(23, { level := true, seen := true })] } }), 23, _, _, by and_intros <;> first | decide +kernel | rfl | exact Or.inl (by decide +kernel) | exact Or.inr (by decide +kernel)⟩,
    ⟨(tW fun m => Mod.until { m with safe := { m.safe with press := some 0, rcd := some (tP 112 [(0, 1, 5)]) } } (ms 100)), 0, 0, by decide +kernel⟩,
    ⟨(tW fun m => { m with safe := { m.safe with serviceWait := some 0 } }), 0, by decide +kernel⟩,
    ⟨(tW fun m => { m with safe := { m.safe with tripLine := some 0 } }), 0, by decide +kernel⟩,
    ⟨(tW fun m => { m with safe := { m.safe with demandRaw := some 0 } }), 0, _, by and_intros <;> first | decide +kernel | rfl | exact Or.inl (by decide +kernel) | exact Or.inr (by decide +kernel)⟩,
    ⟨(tW fun m => { m with safe := { m.safe with estopRaw := some 0, rcd := some [] } }), 0, _, by and_intros <;> first | decide +kernel | rfl | exact Or.inl (by decide +kernel) | exact Or.inr (by decide +kernel)⟩,
    ⟨(tW fun m => { m with safe := { m.safe with spRuns := true, seatRaw := some 0, sf := [(3, .delay)] } }), 0, by decide +kernel⟩,
    ⟨(tW fun m => { m with safe := { m.safe with jseatRaw := some 0 } }), 0, by decide +kernel⟩,
    ⟨(tW fun m => { m with safe := { m.safe with spRuns := true, rcd := some (tP 112 [(87, 1, 1)]), sout := [(7, { p := true, j := true })] } }), 7, (ms 70), false, _, by and_intros <;> first | decide +kernel | rfl | exact Or.inl (by decide +kernel) | exact Or.inr (by decide +kernel)⟩,
    ⟨(tW fun m => { m with safe := { m.safe with spRuns := true, rcd := some (tP 112 [(87, 1, 1)]), sout := [(7, { p := true, j := true })] } }), 7, (ms 70), false, _, by and_intros <;> first | decide +kernel | rfl | exact Or.inl (by decide +kernel) | exact Or.inr (by decide +kernel)⟩,
    ⟨tS, by decide +kernel⟩,
    ⟨(tW fun m => { m with safe := { m.safe with cycleRaw := some 0 } }), 0, by decide +kernel⟩,
    ⟨tS, by decide +kernel⟩,
    ⟨(tW fun m => { m with safe := { m.safe with spRuns := true, st := .run, rcd := some [] } }), _, by and_intros <;> first | decide +kernel | rfl | exact Or.inl (by decide +kernel) | exact Or.inr (by decide +kernel)⟩,
    ⟨(tW fun m => { m with safe := { m.safe with spRuns := true, st := .run, rcd := some [], pduDue := some [], slotsDue := some (92500, []) } }), _, 92500, by and_intros <;> first | decide +kernel | rfl | exact Or.inl (by decide +kernel) | exact Or.inr (by decide +kernel)⟩,
    ⟨(tW fun m => { (m.setCan 6 { m.canCh 6 with st := 1 }) with safe := { m.safe with spRuns := true, st := .run, rcd := some [] } }), 6, 0, tPdu, _, by and_intros <;> first | decide +kernel | rfl | exact Or.inl (by decide +kernel) | exact Or.inr (by decide +kernel)⟩,
    ⟨(tW fun m => { (m.setCan 6 { m.canCh 6 with st := 1 }) with safe := { m.safe with spRuns := true, st := .run, rcd := some [] } }), 6, 0, [], _, by and_intros <;> first | decide +kernel | rfl | exact Or.inl (by decide +kernel) | exact Or.inr (by decide +kernel)⟩,
    ⟨tS, 7, 0, [], by decide +kernel⟩,
    ⟨(tW fun m => { m with safe := { m.safe with spRuns := true, st := .run, rcd := some [] } }), by decide +kernel⟩,
    ⟨(tW fun m => { m with nvs := { m.nvs with safety := none } }), {}, by decide +kernel⟩,
    ⟨(tW fun m => { m with nvs := { m.nvs with safety := some [] } }), [], {}, by decide +kernel⟩,
    ⟨(tW fun m => { m with nvs := { m.nvs with safety := some [] } }), [], { jackOk := false }, by decide +kernel⟩,
    ⟨(tW fun m => { m with safe := { m.safe with foldA := true } }), by decide +kernel⟩,
    ⟨(tW fun m => { m with safe := { m.safe with foldB := true } }), by decide +kernel⟩,
    ⟨(tW fun m => { m with safe := { m.safe with sout := [(7, { p := true, j := true })] } }), 7, by decide +kernel⟩⟩

/-- States and operands that meet the hypotheses of GnssEventsAct, clause by clause. -/
theorem test_meets_gnss_events_act :
    (∃ (s : State) (meas : List GnssMeas) (sats : List (Nat × SatRow)), (s.m.pd 8 = true) ∧ (s.m.lanes.started = true) ∧ (s.m.lanes.frame % epochFrames (s.m.rateAt s.m.lanes.frame) = 0) ∧ (s.m.gnss.epochRaw ≠ s.m.lanes.frameRaw ∨ s.m.gnss.epochRaw = 0)) ∧
    (∃ (s : State), (s.m.pd 8 = true) ∧ (s.m.gnss.epochOpen = true)) ∧
    (∃ (s : State) (q : PvtIn), (s.m.pd 8 = true) ∧ (s.m.gnss.pvtOpen = true)) ∧
    (∃ (s : State) (can : Bool) (frame : Bytes), (s.m.pd 8 = true) ∧ (s.m.corrFrom can = true) ∧ (rtcmSound frame = false)) ∧
    (∃ (s : State) (can : Bool) (frame p : Bytes), (s.m.pd 8 = true) ∧ (s.m.corrFrom can = true) ∧ (rtcmSound frame = true) ∧ (p = (frame.drop 3).take (rtcmLen frame)) ∧ (rtcmUsed (msgBits p 0 12) = false)) ∧
    (∃ (s : State) (can : Bool) (frame p : Bytes), (s.m.pd 8 = true) ∧ (s.m.corrFrom can = true) ∧ (rtcmSound frame = true) ∧ (p = (frame.drop 3).take (rtcmLen frame)) ∧ (msgBits p 0 12 = 1005 ∨ msgBits p 0 12 = 1006)) ∧
    (∃ (s : State) (can : Bool) (frame p : Bytes), (s.m.pd 8 = true) ∧ (s.m.corrFrom can = true) ∧ (rtcmSound frame = true) ∧ (p = (frame.drop 3).take (rtcmLen frame)) ∧ (msgBits p 0 12 = 1033)) ∧
    (∃ (s : State) (can : Bool) (frame p : Bytes), (s.m.pd 8 = true) ∧ (s.m.corrFrom can = true) ∧ (rtcmSound frame = true) ∧ (p = (frame.drop 3).take (rtcmLen frame)) ∧ (rtcmUsed (msgBits p 0 12) = true) ∧ (msgBits p 0 12 ≠ 1005 ∧ msgBits p 0 12 ≠ 1006 ∧ msgBits p 0 12 ≠ 1033)) ∧
    (∃ (s : State) (r : Nat), (s.m.gnss.refRaw = some r) ∧ (s.m.pd 8 = true) ∧ (s.m.gnss.aged = false)) ∧
    (∃ (s : State) (sq : Byte) (rest : Bytes), (s.m.pd 8 = true) ∧ (s.m.corrFrom true = true) ∧ (s.m.gnss.canSeq = none)) ∧
    (∃ (s : State) (sq q : Byte) (rest : Bytes), (s.m.pd 8 = true) ∧ (s.m.corrFrom true = true) ∧ (s.m.gnss.canSeq = some q) ∧ (sq ≠ q + 1)) ∧
    (∃ (s : State) (sq q : Byte) (rest : Bytes), (s.m.pd 8 = true) ∧ (s.m.corrFrom true = true) ∧ (s.m.gnss.canSeq = some q) ∧ (sq = q + 1)) ∧
    (∃ (s : State) (k : Nat), (k ≤ 1) ∧ (s.m.pd 8 = true) ∧ ((s.m.ant k).bias = true) ∧ ((s.m.ant k).opened = false)) ∧
    (∃ (s : State) (k : Nat), (k ≤ 1) ∧ (s.m.pd 8 = true) ∧ ((s.m.ant k).bias = true) ∧ ((s.m.ant k).opened = true)) ∧
    (∃ (s : State) (k : Nat) (shorts : List Nat) (n : Mod), (k ≤ 1) ∧ (s.m.pd 8 = true) ∧ ((s.m.ant k).bias = true) ∧ (shorts = s.m.now :: (s.m.ant k).shorts.filter (fun t => s.m.now < t + secs 60)) ∧ (n = (if (s.m.ant k).opened = true then s.m.antEv k 1 false else s.m))) ∧
    (∃ (s : State) (k : Nat), (k ≤ 1) ∧ (s.m.pd 8 = true) ∧ ((s.m.ant k).short = true) ∧ ((s.m.ant k).latched = false)) ∧
    (∃ (s : State) (k ch : Nat), (k ≤ 1) ∧ (s.m.pd 8 = true) ∧ ((Tab.get {} (s.m.ant k).chan ch : GnssCh).lock = true)) ∧
    (∃ (s : State) (k ch : Nat), (k ≤ 1) ∧ (s.m.pd 8 = true) ∧ ((Tab.get {} (s.m.ant k).chan ch : GnssCh).search = true)) ∧
    (∃ (s : State) (k : Nat) (n : Mod), (k ≤ 1) ∧ (s.m.pd 8 = true) ∧ ((s.m.ant k).enabled = true) ∧ ((s.m.ant k).noSignal = false) ∧ ((s.m.ant k).tracked = 0) ∧ (n = (if (s.m.ant k).chan.isEmpty = true then s.m else s.m.until ((s.m.ant k).chan.foldl (fun t p => max t p.2.lockRaw) 0 + secs 1)))) ∧
    (∃ (s : State) (r : Nat), (s.m.pd 8 = true) ∧ (s.m.gnss.onAnt2 = false) ∧ (s.m.gnss.ant1Out = some r)) ∧
    (∃ (s : State) (r : Nat), (s.m.pd 8 = true) ∧ (s.m.gnss.onAnt2 = true) ∧ (s.m.gnss.ant1Back = some r)) ∧
    (∃ (s : State) (k ch : Nat) (n : Mod), (k ≤ 1) ∧ (ch ≤ 95) ∧ (s.m.pd 8 = true) ∧ ((s.m.ant k).enabled = true) ∧ (((s.m.ant k).ch ch).search = true) ∧ (n = s.m.setAnt k { s.m.ant k with chan := Tab.put {} (s.m.ant k).chan ch { (s.m.ant k).ch ch with lock := true, search := false, lockRaw := s.m.now, slip := true }, noSignal := false })) :=
  ⟨⟨(tW fun m => { m with lanes := { m.lanes with started := true, frame := 400, frameRaw := 1 } }), [], [], by decide +kernel⟩,
    ⟨(tW fun m => { m with gnss := { m.gnss with epochOpen := true } }), by decide +kernel⟩,
    ⟨(tW fun m => { m with gnss := { m.gnss with pvtOpen := true } }), tPvt, by decide +kernel⟩,
    ⟨(tW fun m => m.setCfg 0x0A03 0 (tP 40 [(6, 1, 3)])), true, [], by decide +kernel⟩,
    ⟨(tW fun m => m.setCfg 0x0A03 0 (tP 40 [(6, 1, 3)])), true, (tRtcm 1029), (((tRtcm 1029).drop 3).take (rtcmLen (tRtcm 1029))), by decide +kernel⟩,
    ⟨(tW fun m => m.setCfg 0x0A03 0 (tP 40 [(6, 1, 3)])), true, (tRtcm 1006), (((tRtcm 1006).drop 3).take (rtcmLen (tRtcm 1006))), by decide +kernel⟩,
    ⟨(tW fun m => m.setCfg 0x0A03 0 (tP 40 [(6, 1, 3)])), true, (tRtcm 1033), (((tRtcm 1033).drop 3).take (rtcmLen (tRtcm 1033))), by decide +kernel⟩,
    ⟨(tW fun m => m.setCfg 0x0A03 0 (tP 40 [(6, 1, 3)])), true, (tRtcm 1127), (((tRtcm 1127).drop 3).take (rtcmLen (tRtcm 1127))), by decide +kernel⟩,
    ⟨(tW fun m => { m with gnss := { m.gnss with refRaw := some 0 } }), 0, by decide +kernel⟩,
    ⟨(tW fun m => m.setCfg 0x0A03 0 (tP 40 [(6, 1, 3)])), 0, [], by decide +kernel⟩,
    ⟨(tW fun m => { (m.setCfg 0x0A03 0 (tP 40 [(6, 1, 3)])) with gnss := { m.gnss with canSeq := some 0 } }), 5, 0, [], by decide +kernel⟩,
    ⟨(tW fun m => { (m.setCfg 0x0A03 0 (tP 40 [(6, 1, 3)])) with gnss := { m.gnss with canSeq := some 0 } }), 1, 0, [], by decide +kernel⟩,
    ⟨(tW fun m => m.setAnt 1 { m.ant 1 with bias := true }), 1, by decide +kernel⟩,
    ⟨(tW fun m => m.setAnt 1 { m.ant 1 with bias := true, opened := true }), 1, by decide +kernel⟩,
    ⟨(tW fun m => m.setAnt 1 { m.ant 1 with bias := true }), 1, _, _, by and_intros <;> first | decide +kernel | rfl | exact Or.inl (by decide +kernel) | exact Or.inr (by decide +kernel)⟩,
    ⟨(tW fun m => m.setAnt 1 { m.ant 1 with short := true }), 1, by decide +kernel⟩,
    ⟨(tW fun m => m.setAnt 1 { m.ant 1 with chan := [(95, { lock := true })] }), 1, 95, by decide +kernel⟩,
    ⟨(tW fun m => m.setAnt 1 { m.ant 1 with chan := [(95, { search := true })] }), 1, 95, by decide +kernel⟩,
    ⟨(tW fun m => m.setAnt 1 { m.ant 1 with enabled := true }), 1, _, by and_intros <;> first | decide +kernel | rfl | exact Or.inl (by decide +kernel) | exact Or.inr (by decide +kernel)⟩,
    ⟨(tW fun m => { m with gnss := { m.gnss with ant1Out := some 0 } }), 0, by decide +kernel⟩,
    ⟨(tW fun m => { m with gnss := { m.gnss with onAnt2 := true, ant1Back := some 0 } }), 0, by decide +kernel⟩,
    ⟨(tW fun m => m.setAnt 1 { m.ant 1 with enabled := true, chan := [(95, { search := true })] }), 1, 95, _, by and_intros <;> first | decide +kernel | rfl | exact Or.inl (by decide +kernel) | exact Or.inr (by decide +kernel)⟩⟩

/-- States and operands that meet the hypotheses of FusionEventsAct, clause by clause. -/
theorem test_meets_fusion_events_act :
    (∃ (s : State), (s.m.pd 5 = true) ∧ (s.m.lanes.started = true) ∧ (s.m.lanes.frame % 40 = 0) ∧ (s.m.fuse.started = false)) ∧
    (∃ (s : State) (k : Nat) (x : FuseIn) (n : Mod), (s.m.pd 5 = true) ∧ (n = s.m.fuseDue) ∧ (n.pd 5 = true) ∧ (k < 32) ∧ (n.srcOn k = true) ∧ (rd (n.srcOf k) 0 1 = 1) ∧ (n.gnss.pvtRaw ≠ 0)) ∧
    (∃ (s : State) (k : Nat) (x : FuseIn) (n : Mod), (s.m.pd 5 = true) ∧ (n = s.m.fuseDue) ∧ (n.pd 5 = true) ∧ (k < 32) ∧ (n.srcOn k = true) ∧ (rd (n.srcOf k) 0 1 = 2)) ∧
    (∃ (s : State) (k : Nat) (x y : FuseIn) (n : Mod), (s.m.pd 5 = true) ∧ (n = s.m.fuseDue) ∧ (n.pd 5 = true) ∧ (k < 32) ∧ (n.srcOn k = true) ∧ (rd (n.srcOf k) 0 1 = 3) ∧ (n.slotSample (rd (n.srcOf k) 2 1) x.sd = some y)) ∧
    (∃ (s : State) (k : Nat) (x : FuseIn) (n : Mod), (s.m.pd 5 = true) ∧ (n = s.m.fuseDue) ∧ (n.pd 5 = true) ∧ (k < 32) ∧ (n.srcOn k = true) ∧ (rd (n.srcOf k) 0 1 = 4)) ∧
    (∃ (s : State), (s.m.pd 5 = true)) ∧
    (∃ (s : State) (w : Mod), (s.m.pd 5 = true) ∧ (s.m.fuse.started = true) ∧ (s.m.fuse.next ≤ s.m.fuse.cycle) ∧ (w = s.m.fusePublish)) :=
  ⟨⟨(tW fun m => { m with lanes := { m.lanes with started := true } }), by decide +kernel⟩,
    ⟨(tW fun m => { ((m.setCfg 0x0B03 31 (tP 48 [(0, 1, 1), (1, 1, 1), (2, 1, 0)])).setFsrc 31 { m.fsrc 31 with enabled := true }) with gnss := { m.gnss with pvtRaw := 1 } }), 31, tFuseIn, _, by and_intros <;> first | decide +kernel | rfl | exact Or.inl (by decide +kernel) | exact Or.inr (by decide +kernel)⟩,
    ⟨(tW fun m => (m.setCfg 0x0B03 31 (tP 48 [(0, 1, 2), (1, 1, 1), (2, 1, 0)])).setFsrc 31 { m.fsrc 31 with enabled := true }), 31, tFuseIn, _, by and_intros <;> first | decide +kernel | rfl | exact Or.inl (by decide +kernel) | exact Or.inr (by decide +kernel)⟩,
    ⟨(tW fun m => { ((m.setCfg 0x0B03 31 (tP 48 [(0, 1, 3), (1, 1, 1), (2, 1, 0)])).setFsrc 31 { m.fsrc 31 with enabled := true }) with inp := { m.inp with mirror := { m.inp.mirror with outb := [(0, 0x8000000000000000)], begin' := 1 } } }), 31, tFuseIn, _, _, by and_intros <;> first | decide +kernel | rfl | exact Or.inl (by decide +kernel) | exact Or.inr (by decide +kernel)⟩,
    ⟨(tW fun m => (m.setCfg 0x0B03 31 (tP 48 [(0, 1, 4), (1, 1, 1), (2, 1, 0)])).setFsrc 31 { m.fsrc 31 with enabled := true }), 31, tFuseIn, _, by and_intros <;> first | decide +kernel | rfl | exact Or.inl (by decide +kernel) | exact Or.inr (by decide +kernel)⟩,
    ⟨tS, by decide +kernel⟩,
    ⟨(tW fun m => { m with fuse := { m.fuse with started := true, cycle := 1, toPublish := false } }), _, by and_intros <;> first | decide +kernel | rfl | exact Or.inl (by decide +kernel) | exact Or.inr (by decide +kernel)⟩⟩

/-- States and operands that meet the hypotheses of CameraLinkEventsAct, clause by clause. -/
theorem test_meets_camera_link_events_act :
    (∃ (s : State) (k : Nat), (k ≤ 2) ∧ (s.m.pd 7 = true) ∧ ((s.m.link k).poc = true) ∧ ((s.m.link k).trips = [])) ∧
    (∃ (s : State) (k : Nat), (k ≤ 2) ∧ (s.m.pd 7 = true) ∧ ((s.m.link k).st = .down) ∧ ((s.m.link k).short = false)) ∧
    (∃ (s : State) (k : Nat) (o : Bool), (k ≤ 2) ∧ (s.m.pd 7 = true) ∧ ((s.m.link k).poc = true) ∧ ((s.m.link k).pocOpen ≠ o)) ∧
    (∃ (s : State) (k : Nat), (k ≤ 2) ∧ (s.m.pd 7 = true) ∧ ((s.m.link k).st = .powering)) ∧
    (∃ (s : State) (k : Nat), (k ≤ 2) ∧ (s.m.pd 7 = true) ∧ ((s.m.link k).st = .powering) ∧ (s.m.now ≤ (s.m.link k).stRaw + ms 500)) ∧
    (∃ (s : State) (k : Nat), (k ≤ 2) ∧ (s.m.pd 7 = true) ∧ ((s.m.link k).st = .powering) ∧ ((s.m.link k).stRaw + ms 500 < s.m.now)) ∧
    (∃ (s : State) (k : Nat), (k ≤ 2) ∧ (s.m.pd 7 = true) ∧ ((s.m.link k).locked = false) ∧ ((s.m.link k).lockLost = false) ∧ ((s.m.link k).st = .training)) ∧
    (∃ (s : State) (k : Nat), (k ≤ 2) ∧ (s.m.pd 7 = true) ∧ ((s.m.link k).locked = true) ∧ ((s.m.link k).st = .up)) ∧
    (∃ (s : State) (k : Nat) (block : Bytes), (k ≤ 2) ∧ (s.m.pd 7 = true) ∧ ((s.m.link k).locked = true) ∧ (block.length ≠ 256)) ∧
    (∃ (s : State) (k : Nat) (block : Bytes), (k ≤ 2) ∧ (s.m.pd 7 = true) ∧ ((s.m.link k).locked = true) ∧ (block.length = 256) ∧ (crc32 (block.take 252) = rd block 252 4) ∧ (rd block 0 1 = 1) ∧ (1 ≤ rd block 4 2) ∧ (rd block 4 2 ≤ 240) ∧ ((s.m.link k).st = .up) ∧ (slotOn (s.m.slotRec (4 * k + rd block 1 1 % 4)) = true)) ∧
    (∃ (s : State) (k : Nat) (msg : Bytes), (k ≤ 2) ∧ (s.m.pd 7 = true) ∧ ((s.m.link k).st = .training ∨ (s.m.link k).st = .aligning ∨ (s.m.link k).st = .up) ∧ (msg.length = 32) ∧ (crc32 (msg.take 28) = rd msg 28 4) ∧ (rd msg 0 1 = 0x22)) ∧
    (∃ (s : State) (k : Nat) (msg : Bytes), (k ≤ 2) ∧ (s.m.pd 7 = true) ∧ ((s.m.link k).st = .training ∨ (s.m.link k).st = .aligning ∨ (s.m.link k).st = .up) ∧ (msg.length ≠ 32)) ∧
    (∃ (s : State) (k w : Nat) (n : Mod), (k ≤ 2) ∧ (s.m.pd 7 = true) ∧ ((s.m.link k).st = .training ∨ (s.m.link k).st = .aligning ∨ (s.m.link k).st = .up) ∧ (w = max (s.m.link k).windows ((s.m.now - (s.m.link k).trainRaw + us 64 - 1) / us 64)) ∧ (n = s.m.until ((s.m.link k).trainRaw + us 64 * w)) ∧ (w % 2 = 1)) ∧
    (∃ (s : State) (k w : Nat) (n : Mod), (k ≤ 2) ∧ (s.m.pd 7 = true) ∧ ((s.m.link k).st = .training ∨ (s.m.link k).st = .aligning ∨ (s.m.link k).st = .up) ∧ (w = max (s.m.link k).windows ((s.m.now - (s.m.link k).trainRaw + us 64 - 1) / us 64)) ∧ (n = s.m.until ((s.m.link k).trainRaw + us 64 * w)) ∧ (w % 2 = 0)) ∧
    (∃ (s : State) (k : Nat), (k ≤ 2) ∧ (s.m.pd 7 = true) ∧ ((s.m.link k).st = .training) ∧ ((s.m.link k).echo = none)) ∧
    (∃ (s : State) (k r : Nat), ((s.m.link k).status = some r) ∧ (k ≤ 2) ∧ (s.m.pd 7 = true) ∧ ((s.m.link k).st = .up)) ∧
    (∃ (s : State) (k : Nat) (q : BcMsg), ((s.m.link k).await = some q) ∧ (k ≤ 2) ∧ (s.m.pd 7 = true) ∧ (q.sends < 3)) ∧
    (∃ (s : State) (i ed : Nat) (es : List Nat), (i ≤ 11) ∧ (s.m.pd 7 = true) ∧ ((s.m.link (i / 4)).st = .up) ∧ ((s.m.rx i).edges = ed :: es)) ∧
    (∃ (s : State) (g : GatherIn) (x : Bytes × Bytes) (rest : List (Bytes × Bytes)) (arr : Nat) (n : Mod), ((s.m.rx g.slot).pending = x :: rest) ∧ (s.m.pd 7 = true) ∧ (arr = s.m.now - (s.m.now + 2 ^ 32 - rd x.1 12 4) % 2 ^ 32) ∧ (n = s.m.setRx g.slot { s.m.rx g.slot with pending := rest, linePer := if (s.m.rx g.slot).lineRaw = 0 then 0 else arr - (s.m.rx g.slot).lineRaw, lineRaw := arr }) ∧ (slotH (s.m.rx g.slot).rcd ≤ rd x.1 4 2)) ∧
    (∃ (s : State) (g : GatherIn) (x : Bytes × Bytes) (rest : List (Bytes × Bytes)) (arr : Nat) (n : Mod), ((s.m.rx g.slot).pending = x :: rest) ∧ (s.m.pd 7 = true) ∧ (arr = s.m.now - (s.m.now + 2 ^ 32 - rd x.1 12 4) % 2 ^ 32) ∧ (n = s.m.setRx g.slot { s.m.rx g.slot with pending := rest, linePer := if (s.m.rx g.slot).lineRaw = 0 then 0 else arr - (s.m.rx g.slot).lineRaw, lineRaw := arr }) ∧ (rd x.1 4 2 < slotH (s.m.rx g.slot).rcd) ∧ (slotRing (s.m.rx g.slot).rcd ≤ (s.m.rx g.slot).ring.length) ∧ (rd x.1 0 4 = (s.m.rx g.slot).cur)) ∧
    (∃ (s : State) (g : GatherIn) (x : Bytes × Bytes) (rest : List (Bytes × Bytes)) (arr : Nat) (n : Mod), ((s.m.rx g.slot).pending = x :: rest) ∧ (s.m.pd 7 = true) ∧ (arr = s.m.now - (s.m.now + 2 ^ 32 - rd x.1 12 4) % 2 ^ 32) ∧ (n = s.m.setRx g.slot { s.m.rx g.slot with pending := rest, linePer := if (s.m.rx g.slot).lineRaw = 0 then 0 else arr - (s.m.rx g.slot).lineRaw, lineRaw := arr }) ∧ (rd x.1 4 2 < slotH (s.m.rx g.slot).rcd) ∧ ((s.m.rx g.slot).ring.length < slotRing (s.m.rx g.slot).rcd) ∧ (g.fault = 0) ∧ (slotSpill (s.m.rx g.slot).rcd = false ∨ s.m.pd 5 = true)) ∧
    (∃ (s : State) (g : GatherIn) (x : Bytes × Bytes) (rest : List (Bytes × Bytes)) (arr : Nat) (n : Mod), ((s.m.rx g.slot).pending = x :: rest) ∧ (s.m.pd 7 = true) ∧ (arr = s.m.now - (s.m.now + 2 ^ 32 - rd x.1 12 4) % 2 ^ 32) ∧ (n = s.m.setRx g.slot { s.m.rx g.slot with pending := rest, linePer := if (s.m.rx g.slot).lineRaw = 0 then 0 else arr - (s.m.rx g.slot).lineRaw, lineRaw := arr }) ∧ (rd x.1 4 2 < slotH (s.m.rx g.slot).rcd) ∧ ((s.m.rx g.slot).ring.length < slotRing (s.m.rx g.slot).rcd) ∧ (g.fault = 2) ∧ (slotSpill (s.m.rx g.slot).rcd = false)) ∧
    (∃ (s : State) (g : GatherIn) (x : Bytes × Bytes) (rest : List (Bytes × Bytes)) (arr : Nat) (n : Mod), ((s.m.rx g.slot).pending = x :: rest) ∧ (s.m.pd 7 = true) ∧ (arr = s.m.now - (s.m.now + 2 ^ 32 - rd x.1 12 4) % 2 ^ 32) ∧ (n = s.m.setRx g.slot { s.m.rx g.slot with pending := rest, linePer := if (s.m.rx g.slot).lineRaw = 0 then 0 else arr - (s.m.rx g.slot).lineRaw, lineRaw := arr }) ∧ (rd x.1 4 2 < slotH (s.m.rx g.slot).rcd) ∧ ((s.m.rx g.slot).ring.length < slotRing (s.m.rx g.slot).rcd) ∧ (g.fault = 3) ∧ (slotSpill (s.m.rx g.slot).rcd = true) ∧ (s.m.pd 5 = true)) ∧
    (∃ (s : State) (g : GatherIn) (x : Bytes × Bytes) (rest : List (Bytes × Bytes)) (arr : Nat) (n : Mod), ((s.m.rx g.slot).pending = x :: rest) ∧ (s.m.pd 7 = true) ∧ (arr = s.m.now - (s.m.now + 2 ^ 32 - rd x.1 12 4) % 2 ^ 32) ∧ (n = s.m.setRx g.slot { s.m.rx g.slot with pending := rest, linePer := if (s.m.rx g.slot).lineRaw = 0 then 0 else arr - (s.m.rx g.slot).lineRaw, lineRaw := arr }) ∧ (rd x.1 4 2 < slotH (s.m.rx g.slot).rcd) ∧ ((s.m.rx g.slot).ring.length < slotRing (s.m.rx g.slot).rcd) ∧ (slotSpill (s.m.rx g.slot).rcd = true) ∧ (s.m.pd 5 = false)) :=
  ⟨⟨(tW fun m => m.setLink 2 { m.link 2 with poc := true }), 2, by decide +kernel⟩,
    ⟨(tW fun m => m.setLink 2 { m.link 2 with st := .down }), 2, by decide +kernel⟩,
    ⟨(tW fun m => m.setLink 2 { m.link 2 with poc := true }), 2, true, by decide +kernel⟩,
    ⟨(tW fun m => m.setLink 2 { m.link 2 with st := .powering }), 2, by decide +kernel⟩,
    ⟨(tW fun m => m.setLink 2 { m.link 2 with st := .powering }), 2, by decide +kernel⟩,
    ⟨(tW fun m => (m.setLink 2 { m.link 2 with st := .powering }).until (ms 501)), 2, by decide +kernel⟩,
    ⟨(tW fun m => m.setLink 2 { m.link 2 with st := .training }), 2, by decide +kernel⟩,
    ⟨(tW fun m => m.setLink 2 { m.link 2 with st := .up, locked := true }), 2, by decide +kernel⟩,
    ⟨(tW fun m => m.setLink 2 { m.link 2 with locked := true }), 2, [], by decide +kernel⟩,
    ⟨(tW fun m => (m.setLink 2 { m.link 2 with locked := true, st := .up }).setCfg 0x0C10 8 (tP 32 [(1, 1, 1)])), 2, tBlock, by decide +kernel⟩,
    ⟨(tW fun m => m.setLink 2 { m.link 2 with st := .up }), 2, tMsg, by decide +kernel⟩,
    ⟨(tW fun m => m.setLink 2 { m.link 2 with st := .up }), 2, [], by decide +kernel⟩,
    ⟨(tW fun m => m.setLink 2 { m.link 2 with st := .up, windows := 1 }), 2, 1, _, by and_intros <;> first | decide +kernel | rfl | exact Or.inl (by decide +kernel) | exact Or.inr (by decide +kernel)⟩,
    ⟨(tW fun m => m.setLink 2 { m.link 2 with st := .up }), 2, 0, _, by and_intros <;> first | decide +kernel | rfl | exact Or.inl (by decide +kernel) | exact Or.inr (by decide +kernel)⟩,
    ⟨(tW fun m => m.setLink 2 { m.link 2 with st := .training }), 2, by decide +kernel⟩,
    ⟨(tW fun m => m.setLink 2 { m.link 2 with st := .up, status := some 0 }), 2, 0, by decide +kernel⟩,
    ⟨(tW fun m => m.setLink 2 { m.link 2 with await := some tBc }), 2, tBc, by decide +kernel⟩,
    ⟨(tW fun m => (m.setLink 2 { m.link 2 with st := .up }).setRx 11 { m.rx 11 with edges := [0] }), 11, 0, [], by decide +kernel⟩,
    ⟨(tW fun m => (m.setRx 11 { m.rx 11 with pending := [([], [])], rcd := [] })), { slot := 11, fault := 0 }, ([], []), [], 0, _, by and_intros <;> first | decide +kernel | rfl | exact Or.inl (by decide +kernel) | exact Or.inr (by decide +kernel)⟩,
    ⟨(tW fun m => (m.setRx 11 { m.rx 11 with pending := [((tP 16 [(8, 2, 64)]), [])], next := 1, rcd := (tP 32 [(6, 2, 64)]) })), { slot := 11, fault := 0 }, ((tP 16 [(8, 2, 64)]), []), [], 0, _, by and_intros <;> first | decide +kernel | rfl | exact Or.inl (by decide +kernel) | exact Or.inr (by decide +kernel)⟩,
    ⟨(tW fun m => (m.setRx 11 { m.rx 11 with pending := [((tP 16 [(8, 2, 64)]), [])], rcd := (tP 32 [(2, 1, 42), (4, 2, 64), (6, 2, 64), (8, 2, 64), (10, 2, 1), (14, 2, 16), (20, 2, 1)]) })), { slot := 11, fault := 0 }, ((tP 16 [(8, 2, 64)]), []), [], 0, _, by and_intros <;> first | decide +kernel | rfl | exact Or.inl (by decide +kernel) | exact Or.inr (by decide +kernel)⟩,
    ⟨(tW fun m => (m.setRx 11 { m.rx 11 with pending := [((tP 16 [(8, 2, 64)]), [])], rcd := (tP 32 [(2, 1, 42), (4, 2, 64), (6, 2, 64), (8, 2, 64), (10, 2, 1), (14, 2, 16), (20, 2, 1)]) })), { slot := 11, fault := 2 }, ((tP 16 [(8, 2, 64)]), []), [], 0, _, by and_intros <;> first | decide +kernel | rfl | exact Or.inl (by decide +kernel) | exact Or.inr (by decide +kernel)⟩,
    ⟨(tW fun m => (m.setRx 11 { m.rx 11 with pending := [((tP 16 [(8, 2, 64)]), [])], rcd := (tP 32 [(2, 1, 42), (4, 2, 64), (6, 2, 64), (8, 2, 64), (10, 2, 1), (14, 2, 16), (20, 2, 1), (3, 1, 1)]) })), { slot := 11, fault := 3 }, ((tP 16 [(8, 2, 64)]), []), [], 0, _, by and_intros <;> first | decide +kernel | rfl | exact Or.inl (by decide +kernel) | exact Or.inr (by decide +kernel)⟩,
    ⟨(tW fun m => { (m.setRx 11 { m.rx 11 with pending := [((tP 16 [(8, 2, 64)]), [])], rcd := (tP 32 [(2, 1, 42), (4, 2, 64), (6, 2, 64), (8, 2, 64), (10, 2, 1), (14, 2, 16), (20, 2, 1), (3, 1, 1)]) }) with pwr := { m.pwr with domains := 0x7DF } }), { slot := 11 }, ((tP 16 [(8, 2, 64)]), []), [], 0, _, by and_intros <;> first | decide +kernel | rfl | exact Or.inl (by decide +kernel) | exact Or.inr (by decide +kernel)⟩⟩

/-- States and operands that meet the hypotheses of PictureEventsAct, clause by clause. -/
theorem test_meets_picture_events_act :
    (∃ (s : State) (k : Nat) (j : PipeJob) (p : Pic), (k ≤ 1) ∧ (s.m.pd 7 = true) ∧ ((s.m.pipe k).st = 1) ∧ ((s.m.pipe k).stopping = false) ∧ ((s.m.pipe k).job = none) ∧ (s.m.pickJob k = some j) ∧ (((s.m.ps j.slot).pics.find? fun p => p.num == j.picture) = some p) ∧ (j.stripe ≠ 0)) ∧
    (∃ (s : State) (k : Nat) (j : PipeJob) (p : Pic), (k ≤ 1) ∧ (s.m.pd 7 = true) ∧ ((s.m.pipe k).st = 1) ∧ ((s.m.pipe k).stopping = false) ∧ ((s.m.pipe k).job = none) ∧ (s.m.pickJob k = some j) ∧ (((s.m.ps j.slot).pics.find? fun p => p.num == j.picture) = some p) ∧ (j.stripe = 0)) ∧
    (∃ (s : State) (k : Nat) (j : PipeJob), ((s.m.pipe k).job = some j) ∧ (s.m.pd 7 = true) ∧ (k ≤ 1) ∧ (((s.m.ps j.slot).pics.find? fun p => p.num == j.picture) = none) ∧ (s.m.now ≤ j.readyRaw + ms 2) ∧ (j.start + (j.pixels + 7) / 8 ≤ j.readyRaw + ms 2)) ∧
    (∃ (s : State) (k : Nat), (k ≤ 1) ∧ (s.m.pd 7 = true) ∧ ((s.m.pipe k).st = 1)) ∧
    (∃ (s : State) (k : Nat) (cs : List Cmd) (r : Nat), ((s.m.pipe k).testing = some (cs, r)) ∧ (k ≤ 1) ∧ (s.m.pd 7 = true) ∧ ((s.m.pipe k).faultCode = 0)) ∧
    (∃ (s : State) (i : Nat), (i ≤ 11) ∧ (s.m.pd 7 = true)) ∧
    (∃ (s : State) (p q : Nat), ((s.m.part p).running = some q) ∧ (p ≤ 1) ∧ (s.m.pd 6 = true) ∧ (s.m.visStuck p = false)) ∧
    (∃ (s : State) (p q : Nat), ((s.m.part p).running = some q) ∧ (p ≤ 1) ∧ (s.m.pd 6 = true) ∧ (s.m.visStuck p = true)) ∧
    (∃ (s : State) (p q : Nat) (tensor : Bytes) (j : VisJob) (d : Model), (p ≤ 1) ∧ (s.m.pd 6 = true) ∧ (s.m.visStuck p = false) ∧ (s.m.visNow p = some (q, j, d)) ∧ (j.aborted = false) ∧ (1250 * j.ran ≤ j.bound d * us 1) ∧ (rd j.cmd.params 16 8 = 0)) ∧
    (∃ (s : State) (p q : Nat) (tensor : Bytes) (j : VisJob) (d : Model), (p ≤ 1) ∧ (s.m.pd 6 = true) ∧ (s.m.visStuck p = false) ∧ (s.m.visNow p = some (q, j, d)) ∧ (j.aborted = false) ∧ (j.bound d * us 1 < 1250 * j.ran) ∧ (rd j.cmd.params 16 8 = 0)) ∧
    (∃ (s : State) (p q : Nat) (tensor : Bytes) (j : VisJob) (d : Model), (p ≤ 1) ∧ (s.m.pd 6 = true) ∧ (s.m.visStuck p = false) ∧ (s.m.visNow p = some (q, j, d)) ∧ (j.aborted = true)) ∧
    (∃ (s : State) (p : Nat) (tensor : Bytes), (p ≤ 1) ∧ (s.m.pd 6 = true) ∧ (s.m.visStuck p = true)) ∧
    (∃ (s : State) (p : Nat), (p ≤ 1) ∧ (s.m.pd 6 = true) ∧ ((s.m.part p).st = 1)) ∧
    (∃ (s : State) (p : Nat) (c : Cmd) (cs : List Cmd) (kmp : KmpIn) (n : Mod), ((s.m.part p).loading = c :: cs) ∧ (p ≤ 1) ∧ (s.m.pd 6 = true) ∧ (n = s.m.setPart p { s.m.part p with loading := cs }) ∧ ((s.m.part p).models.length < 16) ∧ (kmp.weights ≤ n.partFree p)) ∧
    (∃ (s : State) (p : Nat) (c : Cmd) (cs : List Cmd) (kmp : KmpIn) (n : Mod), ((s.m.part p).loading = c :: cs) ∧ (p ≤ 1) ∧ (s.m.pd 6 = true) ∧ (n = s.m.setPart p { s.m.part p with loading := cs }) ∧ (kmp.target = false ∨ kmp.version ≠ 1 ∨ 180000 < kmp.layerNs)) ∧
    (∃ (s : State) (p : Nat) (c : Cmd) (cs : List Cmd) (kmp : KmpIn) (n : Mod), ((s.m.part p).loading = c :: cs) ∧ (p ≤ 1) ∧ (s.m.pd 6 = true) ∧ (n = s.m.setPart p { s.m.part p with loading := cs }) ∧ (16 ≤ (s.m.part p).models.length ∨ n.partFree p < kmp.weights)) ∧
    (∃ (s : State) (k : Nat) (au : AuIn) (h : Nat × Nat × Nat) (hs : List (Nat × Nat × Nat)), ((s.m.enc k).held = h :: hs) ∧ (k ≤ 3) ∧ (s.m.pd 7 = true) ∧ ((s.m.enc k).running = true) ∧ ((s.m.enc k).stopping = false) ∧ ((s.m.enc k).idr = true)) ∧
    (∃ (s : State) (k : Nat), (k ≤ 3) ∧ (s.m.pd 7 = true)) ∧
    (∃ (s : State) (k : Nat) (q : Nat × Nat), (k ≤ 3) ∧ (s.m.pd 7 = true) ∧ ((s.m.enc k).mismatch = some q)) :=
  ⟨⟨(tW fun m => (m.setPipe 1 { m.pipe 1 with st := 1 }).setPs 0 { m.ps 0 with ready := [tPJob], pics := [tPic] }), 1, { tPJob with start := 0 }, tPic, by decide +kernel⟩,
    ⟨(tW fun m => (m.setPipe 1 { m.pipe 1 with st := 1 }).setPs 0 { m.ps 0 with ready := [{ tPJob with stripe := 0 }], pics := [tPic] }), 1, { tPJob with stripe := 0 }, tPic, by decide +kernel⟩,
    ⟨(tW fun m => (m.setPipe 1 { m.pipe 1 with job := some tPJob })), 1, tPJob, by decide +kernel⟩,
    ⟨(tW fun m => (m.setPipe 1 { m.pipe 1 with st := 1 })), 1, by decide +kernel⟩,
    ⟨(tW fun m => (m.setPipe 1 { m.pipe 1 with testing := some ([], 0) })), 1, [], 0, by decide +kernel⟩,
    ⟨tS, 11, by decide +kernel⟩,
    ⟨(tW fun m => m.setPart 1 { m.part 1 with running := some 0 }), 1, 0, by decide +kernel⟩,
    ⟨(tW fun m => (m.setPart 1 { m.part 1 with running := some 0, queue := [(0, [tJob])], models := [{ handle := 0, kmp := tKmp }] }).until 20000), 1, 0, by decide +kernel⟩,
    ⟨(tW fun m => m.setPart 1 { m.part 1 with running := some 0, queue := [(0, [tJob])], models := [{ handle := 0, kmp := tKmp }] }), 1, 0, [], tJob, { handle := 0, kmp := tKmp }, by decide +kernel⟩,
    ⟨(tW fun m => (m.setPart 1 { m.part 1 with running := some 0, queue := [(0, [tJob])], models := [{ handle := 0, kmp := tKmp }] }).until 300), 1, 0, [], { tJob with ran := 300, runRaw := 300 }, { handle := 0, kmp := tKmp }, by decide +kernel⟩,
    ⟨(tW fun m => m.setPart 1 { m.part 1 with running := some 0, queue := [(0, [{ tJob with aborted := true }])], models := [{ handle := 0, kmp := tKmp }] }), 1, 0, [], { tJob with aborted := true }, { handle := 0, kmp := tKmp }, by decide +kernel⟩,
    ⟨(tW fun m => (m.setPart 1 { m.part 1 with running := some 0, queue := [(0, [tJob])], models := [{ handle := 0, kmp := tKmp }] }).until 20000), 1, [], by decide +kernel⟩,
    ⟨(tW fun m => m.setPart 1 { m.part 1 with st := 1 }), 1, by decide +kernel⟩,
    ⟨(tW fun m => m.setPart 1 { m.part 1 with loading := [{}] }), 1, {}, [], tKmp, _, by and_intros <;> first | decide +kernel | rfl | exact Or.inl (by decide +kernel) | exact Or.inr (by decide +kernel)⟩,
    ⟨(tW fun m => m.setPart 1 { m.part 1 with loading := [{}] }), 1, {}, [], { tKmp with target := false }, _, by and_intros <;> first | decide +kernel | rfl | exact Or.inl (by decide +kernel) | exact Or.inr (by decide +kernel)⟩,
    ⟨(tW fun m => m.setPart 1 { m.part 1 with loading := [{}] }), 1, {}, [], { tKmp with weights := 2 ^ 40 }, _, by and_intros <;> first | decide +kernel | rfl | exact Or.inl (by decide +kernel) | exact Or.inr (by decide +kernel)⟩,
    ⟨(tW fun m => m.setEnc 3 { m.enc 3 with held := [(0, 0, 0)], running := true, idr := true }), 3, { slice := [], qpAvg := 0, hrdOverflow := false }, (0, 0, 0), [], by decide +kernel⟩,
    ⟨tS, 3, by decide +kernel⟩,
    ⟨(tW fun m => m.setEnc 3 { m.enc 3 with mismatch := some (0, 0) }), 3, (0, 0), by decide +kernel⟩⟩

/-- States and operands that meet the hypotheses of CanEventsAct, clause by clause. -/
theorem test_meets_can_events_act :
    (∃ (s : State) (ch word : Nat) (lane : Lane), (ch < 8) ∧ (word < 20)) ∧
    (∃ (s : State) (ch : Nat) (lane : Lane), (ch < 8)) ∧
    (∃ (s : State) (ch : Nat), (ch < 8)) ∧
    (∃ (s : State) (ch : Nat) (f : CanFrame) (n : Mod), (n = s.m.canDue) ∧ (ch < 8) ∧ (n.pd 10 = true) ∧ ((n.canCh ch).st = 1) ∧ ((n.canCh ch).alone = false) ∧ ((n.canCh ch).rec' < 128) ∧ ((n.canCh ch).app.q.length < 512) ∧ ((n.canCh ch).app.q.length + 1 ≠ rd (n.canRec ch) 20 2) ∧ (s.m.isRtcmCan ch f = false) ∧ (s.m.isSafetyPdu ch f = false) ∧ (ch ≠ 0 ∨ isSegment f = false)) ∧
    (∃ (s : State) (ch : Nat) (f : CanFrame), (s.m.canHears ch = true) ∧ (s.m.isRtcmCan ch f = true) ∧ (s.m.isSafetyPdu ch f = false) ∧ (ch ≠ 0 ∨ isSegment f = false)) ∧
    (∃ (s : State) (ch : Nat) (f : CanFrame), (s.m.canHears ch = true) ∧ (s.m.isRtcmCan ch f = false) ∧ (s.m.isSafetyPdu ch f = true) ∧ (ch ≠ 0)) ∧
    (∃ (s : State) (f : CanFrame), (s.m.canHears 0 = true) ∧ (s.m.isRtcmCan 0 f = false) ∧ (isSegment f = true)) ∧
    (∃ (s : State) (ch : Nat) (f : CanFrame), (s.m.canHears ch = false)) ∧
    (∃ (s : State) (ch : Nat) (f : CanFrame) (n : Mod), (n = s.m.pduReady ch) ∧ (ch < 8) ∧ (n.pd 10 = true) ∧ ((n.canCh ch).st = 1 ∨ (n.canCh ch).st = 2) ∧ ((n.canCh ch).attempt = none) ∧ (rd (n.canRec ch) 0 1 = 0) ∧ (n.canOffer ch = some (.heartbeat, f))) ∧
    (∃ (s : State) (ch : Nat) (f : CanFrame) (n : Mod), (n = s.m.pduReady ch) ∧ (ch < 8) ∧ (n.pd 10 = true) ∧ ((n.canCh ch).st = 1 ∨ (n.canCh ch).st = 2) ∧ ((n.canCh ch).attempt = none) ∧ (rd (n.canRec ch) 0 1 = 0) ∧ (n.canOffer ch = some (.mailbox, f))) ∧
    (∃ (s : State) (ch : Nat) (f : CanFrame) (t : TxEntry) (l : List TxEntry) (n : Mod), (n = s.m.pduReady ch) ∧ (ch < 8) ∧ (n.pd 10 = true) ∧ ((n.canCh ch).st = 1 ∨ (n.canCh ch).st = 2) ∧ ((n.canCh ch).attempt = none) ∧ (rd (n.canRec ch) 0 1 = 0) ∧ (n.canOffer ch = some (.fifo, f)) ∧ ((n.canCh ch).tx = t :: l)) ∧
    (∃ (s : State) (ch : Nat) (pick : TxPick) (f : CanFrame) (r : Nat), ((s.m.canCh ch).attempt = some (pick, f, r)) ∧ (pick ≠ .fifo) ∧ ((s.m.canCh ch).alone = false)) ∧
    (∃ (s : State) (ch : Nat) (pick : TxPick) (f : CanFrame) (r : Nat), ((s.m.canCh ch).attempt = some (pick, f, r)) ∧ (pick ≠ .fifo) ∧ ((s.m.canCh ch).alone = true)) ∧
    (∃ (s : State) (ch : Nat) (pick : TxPick) (f : CanFrame) (r : Nat), ((s.m.canCh ch).attempt = some (pick, f, r)) ∧ (pick ≠ .fifo)) ∧
    (∃ (s : State) (ch : Nat), ((s.m.canCh ch).st = 4) ∧ ((s.m.canCh ch).warn = false)) ∧
    (∃ (s : State) (ch : Nat), (ch < 8) ∧ (s.m.pd 10 = true) ∧ (s.m.upd.reheat = false) ∧ ((s.m.canCh ch).st ≠ 0) ∧ (ms (rd (s.m.canRec ch) 14 2) ≠ 0) ∧ ((s.m.canCh ch).hbDue = false)) ∧
    (∃ (s : State) (ch : Nat), (ch < 8) ∧ ((s.m.canCh ch).st = 1)) :=
  ⟨⟨tS, 7, 19, .a, by decide +kernel⟩,
    ⟨tS, 7, .a, by decide +kernel⟩,
    ⟨tS, 7, by decide +kernel⟩,
    ⟨(tW fun m => (m.setCan 7 { m.canCh 7 with st := 1 }).setCfg 0x0803 7 (tP 24 [(20, 2, 512)])), 7, tFrame, _, by and_intros <;> first | decide +kernel | rfl | exact Or.inl (by decide +kernel) | exact Or.inr (by decide +kernel)⟩,
    ⟨(tW fun m => (m.setCan 7 { m.canCh 7 with st := 1 }).setCfg 0x0A03 0 (tP 40 [(7, 1, 7)])), 7, tFrame, by decide +kernel⟩,
    ⟨(tW fun m => { (m.setCan 7 { m.canCh 7 with st := 1 }) with safe := { m.safe with spRuns := true, st := .run, rcd := some [] } }), 7, { tFrame with idw := 0x20000000, fdf := true }, by decide +kernel⟩,
    ⟨(tW fun m => m.setCan 0 { m.canCh 0 with st := 1 }), tSeg, by decide +kernel⟩,
    ⟨tS, 7, tFrame, by decide +kernel⟩,
    ⟨(tW fun m => m.setCan 7 { m.canCh 7 with st := 1, hbDue := true }), 7, _, _, by and_intros <;> first | decide +kernel | rfl | exact Or.inl (by decide +kernel) | exact Or.inr (by decide +kernel)⟩,
    ⟨(tW fun m => m.setCan 7 { m.canCh 7 with st := 1, mailbox := some tFrame }), 7, _, _, by and_intros <;> first | decide +kernel | rfl | exact Or.inl (by decide +kernel) | exact Or.inr (by decide +kernel)⟩,
    ⟨(tW fun m => m.setCan 7 { m.canCh 7 with st := 2, tx := [{ frame := tFrame, app := true, confirm := none, attempts := 0 }] }), 7, _, _, [], _, by and_intros <;> first | decide +kernel | rfl | exact Or.inl (by decide +kernel) | exact Or.inr (by decide +kernel)⟩,
    ⟨(tW fun m => m.setCan 7 { m.canCh 7 with attempt := some (.heartbeat, tFrame, 0) }), 7, .heartbeat, tFrame, 0, by decide +kernel⟩,
    ⟨(tW fun m => m.setCan 7 { m.canCh 7 with alone := true, attempt := some (.mailbox, tFrame, 0) }), 7, .mailbox, tFrame, 0, by decide +kernel⟩,
    ⟨(tW fun m => m.setCan 7 { m.canCh 7 with attempt := some (.heartbeat, tFrame, 0) }), 7, .heartbeat, tFrame, 0, by decide +kernel⟩,
    ⟨(tW fun m => m.setCan 7 { m.canCh 7 with st := 4 }), 7, by decide +kernel⟩,
    ⟨(tW fun m => (m.setCan 7 { m.canCh 7 with st := 1 }).setCfg 0x0803 7 (tP 24 [(14, 2, 5)])), 7, by decide +kernel⟩,
    ⟨(tW fun m => m.setCan 7 { m.canCh 7 with st := 1 }), 7, by decide +kernel⟩⟩

/-- States and operands that meet the hypotheses of EthernetEventsAct, clause by clause. -/
theorem test_meets_ethernet_events_act :
    (∃ (s : State) (k : Nat) (f : Bytes), (k ≤ 5) ∧ (s.m.pd 10 = true) ∧ ((s.m.eport k).enabled = true) ∧ ((s.m.eport k).link = true) ∧ (f.length < 60)) ∧
    (∃ (s : State) (k : Nat) (f : Bytes) (v : Nat × Nat) (n : Mod), (k ≤ 5) ∧ (s.m.pd 10 = true) ∧ ((s.m.eport k).enabled = true) ∧ ((s.m.eport k).link = true) ∧ (60 ≤ f.length) ∧ (f.length ≤ 1518) ∧ ((slice (slice f 0 6) 0 5 ≠ [0x01, 0x80, 0xC2, 0x00, 0x00] ∨ 16 ≤ rd (slice f 0 6) 5 1)) ∧ (s.m.eth.switchOn = true) ∧ (n = s.m.setEport k { s.m.eport k with rx := inc32 (s.m.eport k).rx }) ∧ (v = vidPcp f (rd (n.ethRec k) 2 2)) ∧ (n.memberOf v.1 k = true) ∧ (n.forEndpoint k v.1 (slice f 0 6) = false)) ∧
    (∃ (s : State) (k : Nat) (f : Bytes) (v : Nat × Nat) (n : Mod), (k ≤ 5) ∧ (s.m.pd 10 = true) ∧ ((s.m.eport k).enabled = true) ∧ ((s.m.eport k).link = true) ∧ (60 ≤ f.length) ∧ (f.length ≤ 1518) ∧ ((slice (slice f 0 6) 0 5 ≠ [0x01, 0x80, 0xC2, 0x00, 0x00] ∨ 16 ≤ rd (slice f 0 6) 5 1)) ∧ (s.m.eth.switchOn = true) ∧ (n = s.m.setEport k { s.m.eport k with rx := inc32 (s.m.eport k).rx }) ∧ (v = vidPcp f (rd (n.ethRec k) 2 2)) ∧ (n.memberOf v.1 k = false) ∧ (n.forEndpoint k v.1 (slice f 0 6) = false)) ∧
    (∃ (s : State) (k l q : Nat) (f : EthFrame) (x : State), (k ≤ 5) ∧ (s.m.pd 10 = true) ∧ ((s.m.eport k).enabled = true) ∧ ((s.m.eport k).link = true) ∧ (x = s.dropAll k) ∧ ((x.m.eport k).nextLaunch = some (l, q, f)) ∧ ((x.m.eport k).busy ≤ l) ∧ (x.m.now ≤ l) ∧ ((x.m.until l).gateFits k q (wireNs k f.bytes) = true)) ∧
    (∃ (s : State) (k q : Nat) (f : EthFrame) (x : State), (k ≤ 5) ∧ (s.m.pd 10 = true) ∧ ((s.m.eport k).enabled = true) ∧ ((s.m.eport k).link = true) ∧ (State.dropAll { s with m := s.m.until (s.m.eport k).busy } k = x) ∧ (x.m.txPick k = some (q, f))) ∧
    (∃ (s : State) (k : Nat) (x : Gcl), ((s.m.eport k).next = some x) ∧ (k ≤ 5) ∧ (s.m.pd 10 = true)) ∧
    (∃ (s : State) (k : Nat) (x : Gcl) (en : BitVec 8 × Nat) (l : List (BitVec 8 × Nat)), (s.m.gates k = some x) ∧ (k ≤ 5) ∧ (s.m.pd 10 = true) ∧ (x.start ≤ s.m.now) ∧ (x.ahead s.m.now = en :: l)) ∧
    (∃ (s : State) (r : Bytes), (s.m.pd 10 = true) ∧ (s.m.eth.switchOn = true) ∧ (s.m.eth.rings = some r) ∧ (rd (s.readMem (rd r 0 8 + 64 * s.m.eth.txNext) 64) 12 1 % 2 = 1)) ∧
    (∃ (s : State) (k : Nat) (off : BitVec 32), (k ≤ 5) ∧ (s.m.pd 10 = true) ∧ (s.m.gptpPort k = true) ∧ ((s.m.eport k).gptp = 2)) ∧
    (∃ (s : State) (k : Nat) (gm : BitVec 64) (vec : Bytes), (k ≤ 5) ∧ (s.m.pd 10 = true) ∧ (s.m.gptpPort k = true)) ∧
    (∃ (s : State) (k : Nat) (gm : BitVec 64) (vec : Bytes), (k ≤ 5) ∧ (s.m.pd 10 = true) ∧ (s.m.gptpPort k = true)) ∧
    (∃ (s : State) (k : Nat), (k ≤ 5) ∧ (s.m.pd 10 = true) ∧ (s.m.gptpPort k = true) ∧ ((s.m.eport k).gptp = 2)) ∧
    (∃ (s : State) (k : Nat) (ns : BitVec 32) (capable : Bool), (k ≤ 5) ∧ (s.m.pd 10 = true) ∧ (s.m.gptpPort k = true) ∧ ((capable && decide (ns.toNat ≤ 800)) ≠ (s.m.eport k).capable)) ∧
    (∃ (s : State) (k : Nat) (n : Mod) (f : Bytes) (fs : List Bytes), (k ≤ 5) ∧ (s.m.pd 10 = true) ∧ (s.m.gptpPort k = true) ∧ (n = (s.m.until (s.m.ptpDue k).1).until (s.m.eport k).busy) ∧ ((n.eport k).ptpOut = f :: fs) ∧ (n.gateFits k 7 (wireNs k f) = true)) ∧
    (∃ (s : State) (k : Nat) (n : Mod) (f : Bytes), (k ≤ 5) ∧ (s.m.pd 10 = true) ∧ (s.m.gptpPort k = true) ∧ (n = (s.m.until (s.m.ptpDue k).1).until (s.m.eport k).busy) ∧ ((n.eport k).ptpOut = []) ∧ (f = n.ptpNew k (s.m.ptpDue k).2) ∧ (n.gateFits k 7 (wireNs k f) = true)) ∧
    (∃ (s : State) (k : Nat), (k ≤ 5) ∧ (s.m.pd 10 = true) ∧ ((s.m.eport k).enabled = true) ∧ ((s.m.eport k).link = false)) ∧
    (∃ (s : State) (k : Nat), (k ≤ 5) ∧ (s.m.pd 10 = true) ∧ ((s.m.eport k).enabled = true) ∧ ((s.m.eport k).link = true)) :=
  ⟨⟨(tW fun m => m.setEport 5 { m.eport 5 with enabled := true, link := true }), 5, [], by decide +kernel⟩,
    ⟨(tW fun m => { ((m.setEport 5 { m.eport 5 with enabled := true, link := true }).setCfg 0x0911 1 (tP 8 [(0, 2, 1), (2, 1, 0x7F)])) with eth := { (m.setEport 5 { m.eport 5 with enabled := true, link := true }).eth with switchOn := true } }), 5, (zeros 60), _, _, by and_intros <;> first | decide +kernel | rfl | exact Or.inl (by decide +kernel) | exact Or.inr (by decide +kernel)⟩,
    ⟨(tW fun m => { (m.setEport 5 { m.eport 5 with enabled := true, link := true }) with eth := { (m.setEport 5 { m.eport 5 with enabled := true, link := true }).eth with switchOn := true } }), 5, (zeros 1518), _, _, by and_intros <;> first | decide +kernel | rfl | exact Or.inl (by decide +kernel) | exact Or.inr (by decide +kernel)⟩,
    ⟨(tW fun m => m.setEport 5 { m.eport 5 with enabled := true, link := true, queue := [(0, [tEth])] }), 5, 10, 0, tEth, _, by and_intros <;> first | decide +kernel | rfl | exact Or.inl (by decide +kernel) | exact Or.inr (by decide +kernel)⟩,
    ⟨(tW fun m => m.setEport 5 { m.eport 5 with enabled := true, link := true, queue := [(0, [{ tEth with launch := none }])] }), 5, 0, { tEth with launch := none }, _, by and_intros <;> first | decide +kernel | rfl⟩,
    ⟨(tW fun m => m.setEport 5 { m.eport 5 with next := some tGcl }), 5, tGcl, by decide +kernel⟩,
    ⟨(tW fun m => (m.setEport 5 { m.eport 5 with gcl := some tGcl }).setCfg 0x0903 5 (tP 12 [(1, 1, 4)])), 5, tGcl, (0xFF, 1000000), [(0xFF, 1000000), (0xFF, 1000000)], by decide +kernel⟩,
    ⟨tDesc, (tP 24 [(0, 8, 0x80000000)]), by decide +kernel⟩,
    ⟨(tW fun m => { ((m.setEport 5 { m.eport 5 with gptp := 2, enabled := true, link := true }).setCfg 0x0903 5 (tP 12 [(1, 1, 2)])) with eth := { (m.setEport 5 { m.eport 5 with gptp := 2, enabled := true, link := true }).eth with gptpOn := true } }), 5, 0, by decide +kernel⟩,
    ⟨(tW fun m => { ((m.setEport 5 { m.eport 5 with gptp := 0, enabled := true, link := true }).setCfg 0x0903 5 (tP 12 [(1, 1, 2)])) with eth := { (m.setEport 5 { m.eport 5 with gptp := 0, enabled := true, link := true }).eth with gptpOn := true } }), 5, 0, [], by decide +kernel⟩,
    ⟨(tW fun m => { ((m.setEport 5 { m.eport 5 with gptp := 0, enabled := true, link := true }).setCfg 0x0903 5 (tP 12 [(1, 1, 2)])) with eth := { (m.setEport 5 { m.eport 5 with gptp := 0, enabled := true, link := true }).eth with gptpOn := true } }), 5, 0, [], by decide +kernel⟩,
    ⟨(tW fun m => { ((m.setEport 5 { m.eport 5 with gptp := 2, enabled := true, link := true }).setCfg 0x0903 5 (tP 12 [(1, 1, 2)])) with eth := { (m.setEport 5 { m.eport 5 with gptp := 2, enabled := true, link := true }).eth with gptpOn := true } }), 5, by decide +kernel⟩,
    ⟨(tW fun m => { ((m.setEport 5 { m.eport 5 with gptp := 2, enabled := true, link := true }).setCfg 0x0903 5 (tP 12 [(1, 1, 2)])) with eth := { (m.setEport 5 { m.eport 5 with gptp := 2, enabled := true, link := true }).eth with gptpOn := true } }), 5, 0, true, by decide +kernel⟩,
    ⟨(tW fun m => { ((m.setEport 5 { m.eport 5 with gptp := 0, ptpOut := [[]], enabled := true, link := true }).setCfg 0x0903 5 (tP 12 [(1, 1, 2)])) with eth := { (m.setEport 5 { m.eport 5 with gptp := 0, ptpOut := [[]], enabled := true, link := true }).eth with gptpOn := true } }), 5, _, [], [], by and_intros <;> first | decide +kernel | rfl | exact Or.inl (by decide +kernel) | exact Or.inr (by decide +kernel)⟩,
    ⟨(tW fun m => { ((m.setEport 5 { m.eport 5 with gptp := 0, enabled := true, link := true }).setCfg 0x0903 5 (tP 12 [(1, 1, 2)])) with eth := { (m.setEport 5 { m.eport 5 with gptp := 0, enabled := true, link := true }).eth with gptpOn := true } }), 5, _, _, by and_intros <;> first | decide +kernel | rfl | exact Or.inl (by decide +kernel) | exact Or.inr (by decide +kernel)⟩,
    ⟨(tW fun m => m.setEport 5 { m.eport 5 with enabled := true, link := false }), 5, by decide +kernel⟩,
    ⟨(tW fun m => m.setEport 5 { m.eport 5 with enabled := true, link := true }), 5, by decide +kernel⟩⟩

/-- States and operands that meet the hypotheses of StoreEventsAct, clause by clause. -/
theorem test_meets_store_events_act :
    (∃ (s : State), (s.m.alive = true) ∧ (s.m.seg.ask = some false)) ∧
    (∃ (s : State), (s.m.alive = true) ∧ (s.m.seg.ask = none) ∧ (s.m.seg.st = 1) ∧ (s.m.seg.dirty = 0) ∧ (s.m.seg.refresh = false) ∧ (s.m.seg.inForce = s.m.segRec) ∧ (s.m.segRec ≠ []) ∧ (s.m.pwr.mode ≠ .park)) ∧
    (∃ (s : State) (flips : List Nat), (s.m.alive = true) ∧ (s.m.seg.st ≠ 0) ∧ (segCrc (flipBits s.m.seg.counted.drive flips) = segCrc s.m.seg.counted.shadow)) ∧
    (∃ (s : State) (temp : Int), (s.m.alive = true)) ∧
    (∃ (s : State) (out : Bool), (s.m.alive = true) ∧ (s.m.seg.fault ≠ out)) ∧
    (∃ (s : State), (s.m.alive = true)) ∧
    (∃ (s : State), (s.m.alive = true)) ∧
    (∃ (s : State) (r : LogRec) (l : List LogRec) (decayed : List Nat), (s.m.log.wq = r :: l)) ∧
    (∃ (s : State) (r : LogRec) (l : List LogRec) (decayed : List Nat), (s.m.log.wq = r :: l)) ∧
    (∃ (s : State), (s.m.log.short ≠ 0)) ∧
    (∃ (s : State), (s.m.log.vol = false) ∧ (s.m.log.wq = [])) ∧
    (∃ (s : State) (k : Nat), (s.m.nvs.busySet = none) ∧ (s.m.nvs.adopting = none) ∧ (s.m.nvs.nextSet = some k)) ∧
    (∃ (s : State) (k : Nat) (ok : Bool), (s.m.nvs.adopting = none) ∧ (s.m.nvs.busySet = some k)) ∧
    (∃ (s : State) (a : Adoption) (ok : Bool), (s.m.nvs.adopting = some a)) ∧
    (∃ (s : State), (s.m.lanes.run = true)) ∧
    (∃ (s : State) (k : Nat), (((List.range 2).find? fun k => decide ((s.m.slot k).st = .staging)) = some k)) ∧
    (∃ (s : State) (a : Activation), (s.m.upd.act = some a) ∧ (a.step = 3) ∧ (a.splitFrame + splitFrames a.cmd ≤ s.m.lanes.frame) ∧ (s.m.lanes.computed ≠ s.m.lanes.frame)) ∧
    (∃ (s : State) (a : Activation), (s.m.upd.act = some a) ∧ (a.step = 3) ∧ (a.splitFrame + splitFrames a.cmd ≤ s.m.lanes.frame) ∧ (s.m.lanes.computed = s.m.lanes.frame)) ∧
    (∃ (s : State), (s.m.alive = true) ∧ (s.m.lanes.run = false) ∧ (s.m.upd.reheat = false)) ∧
    (∃ (s : State) (k : Nat) (loads : List Bool), (s.m.alive = true) ∧ (s.m.lanes.run = false) ∧ (s.m.upd.reheat = false) ∧ ((s.m.slot 0).st ≠ .trial) ∧ ((s.m.slot 1).st ≠ .trial) ∧ ((s.m.slot 0).armed = false) ∧ ((s.m.slot 1).armed = false) ∧ (s.m.confirmedSlot = some k)) :=
  ⟨⟨(tW fun m => { m with seg := { m.seg with ask := some false } }), by decide +kernel⟩,
    ⟨(tW fun m => { m with seg := { m.seg with st := 1, ask := none, refresh := false, dirty := 0, inForce := m.segRec } }), by decide +kernel⟩,
    ⟨(tW fun m => { m with seg := { m.seg with st := 1 } }), [], by decide +kernel⟩,
    ⟨tS, 0, by decide +kernel⟩,
    ⟨tS, true, by decide +kernel⟩,
    ⟨tS, by decide +kernel⟩,
    ⟨tS, by decide +kernel⟩,
    ⟨(tW fun m => { m with log := { m.log with wq := [tRec] } }), tRec, [], [7], by decide +kernel⟩,
    ⟨(tW fun m => { m with log := { m.log with wq := [tRec] } }), tRec, [], [7], by decide +kernel⟩,
    ⟨(tW fun m => { m with log := { m.log with short := 1 } }), by decide +kernel⟩,
    ⟨tS, by decide +kernel⟩,
    ⟨(tW fun m => m.setNv 5 { m.nvSet 5 with waiting := [{}], order := 1 }), 5, by decide +kernel⟩,
    ⟨(tW fun m => m.setNv 5 { m.nvSet 5 with writing := some ([], [], 0) }), 5, true, by decide +kernel⟩,
    ⟨(tW fun m => { m with nvs := { m.nvs with adopting := some tAdo } }), tAdo, true, by decide +kernel⟩,
    ⟨tS, by decide +kernel⟩,
    ⟨(tW fun m => m.setSlot 1 { m.slot 1 with st := .staging }), 1, by decide +kernel⟩,
    ⟨(tW fun m => { m with upd := { m.upd with act := some { tAct with step := 3 } }, lanes := { m.lanes with frame := 100000000, computed := 0 } }), { tAct with step := 3 }, by decide +kernel⟩,
    ⟨(tW fun m => { m with upd := { m.upd with act := some { tAct with step := 3 } }, lanes := { m.lanes with frame := 100000000, computed := 100000000 } }), { tAct with step := 3 }, by decide +kernel⟩,
    ⟨(tW fun m => { m with lanes := { m.lanes with run := false } }), by decide +kernel⟩,
    ⟨(tW fun m => { m with lanes := { m.lanes with run := false } }), 0, [], by decide +kernel⟩⟩

/-- States and operands that meet the hypotheses of PowerEventsAct, clause by clause. -/
theorem test_meets_power_events_act :
    (∃ (s : State), (s.m.pwr.inReset = true)) ∧
    (∃ (s : State), (s.m.alive = true)) ∧
    (∃ (s : State) (t0 : Nat), (s.m.pwr.restartAt = some t0) ∧ (s.m.alive = true)) ∧
    (∃ (s : State), (s.m.pwr.inReset = false) ∧ (s.m.alive = true) ∧ (s.m.pwr.key = false) ∧ (s.m.pwr.mode = .park) ∧ (s.m.pwr.starting = false) ∧ (s.m.upd.reheat = false) ∧ (s.m.pwr.thermal.contains 4 = false)) ∧
    (∃ (s : State), (s.m.pwr.inReset = false) ∧ (s.m.alive = false)) ∧
    (∃ (s : State), (s.m.alive = true) ∧ (s.m.pwr.key = true) ∧ (s.m.pwr.mode = .run)) ∧
    (∃ (s : State) (x : Nat × Nat), (s.m.pwr.grace = some x) ∧ (s.m.pwr.mode = .shutdown)) ∧
    (∃ (s : State), (s.m.alive = true) ∧ (s.m.pwr.mode = .park) ∧ (s.m.pwr.starting = false) ∧ (s.m.upd.reheat = false)) ∧
    (∃ (s : State), (s.m.alive = true) ∧ (s.m.pwr.starting = true) ∧ (s.m.upd.reheat = false) ∧ (s.m.pwr.milestone = 0)) ∧
    (∃ (s : State), (s.m.alive = true) ∧ (s.m.pwr.starting = true) ∧ (s.m.upd.reheat = false) ∧ (s.m.pwr.milestone = 1)) ∧
    (∃ (s : State), (s.m.alive = true) ∧ (s.m.pwr.starting = true) ∧ (s.m.upd.reheat = false) ∧ (s.m.pwr.milestone = 5)) ∧
    (∃ (s : State), (s.m.alive = true) ∧ (s.m.pwr.starting = true) ∧ (s.m.upd.reheat = false) ∧ (s.m.pwr.milestone = 2)) ∧
    (∃ (s : State) (pd : Nat), (2 ≤ pd) ∧ (pd ≤ 10) ∧ (s.m.pd pd = true) ∧ (s.m.alive = true) ∧ ((((s.m.blockDown pd).setPd pd false).ev 125 pd 2 true).pwr.retried.toNat.testBit pd = true)) ∧
    (∃ (s : State) (on : Bool), (s.m.alive = true)) ∧
    (∃ (s : State) (feed : Nat) (on : Bool), (s.m.alive = true) ∧ (feed < 2)) ∧
    (∃ (s : State) (feed : Nat) (on : Bool), (s.m.alive = true) ∧ (2 ≤ feed) ∧ (feed ≤ 4)) ∧
    (∃ (s : State) (feed : Nat) (on : Bool), (s.m.alive = true) ∧ (feed ≤ 4)) ∧
    (∃ (s : State), (s.m.alive = true)) ∧
    (∃ (s : State), (s.m.alive = true) ∧ (s.m.pwr.clocks = [])) ∧
    (∃ (s : State) (code : Nat), (s.m.alive = true) ∧ (1 ≤ code) ∧ (code ≤ 4) ∧ (s.m.pwr.thermal.contains code = false)) ∧
    (∃ (s : State) (code : Nat), (s.m.alive = true) ∧ (1 ≤ code) ∧ (code ≤ 4) ∧ (s.m.pwr.thermal.contains code = true)) :=
  ⟨⟨(tW fun m => { m with pwr := { m.pwr with inReset := true } }), by decide +kernel⟩,
    ⟨tS, by decide +kernel⟩,
    ⟨(tW fun m => { m with pwr := { m.pwr with restartAt := some 0 } }), 0, by decide +kernel⟩,
    ⟨(tW fun m => { m with pwr := { m.pwr with mode := .park } }), by decide +kernel⟩,
    ⟨(tW fun m => { m with pwr := { m.pwr with domains := 1 } }), by decide +kernel⟩,
    ⟨(tW fun m => { m with pwr := { m.pwr with key := true } }), by decide +kernel⟩,
    ⟨(tW fun m => { m with pwr := { m.pwr with grace := some (0, 0), mode := .shutdown } }), (0, 0), by decide +kernel⟩,
    ⟨(tW fun m => { m with pwr := { m.pwr with mode := .park } }), by decide +kernel⟩,
    ⟨(tW fun m => { m with pwr := { m.pwr with starting := true, milestone := 0 } }), by decide +kernel⟩,
    ⟨(tW fun m => { m with pwr := { m.pwr with starting := true, milestone := 1 } }), by decide +kernel⟩,
    ⟨(tW fun m => { m with pwr := { m.pwr with starting := true, milestone := 5 } }), by decide +kernel⟩,
    ⟨(tW fun m => { m with pwr := { m.pwr with starting := true, milestone := 2 } }), by decide +kernel⟩,
    ⟨(tW fun m => { m with pwr := { m.pwr with retried := 0x7FF } }), 10, by decide +kernel⟩,
    ⟨tS, true, by decide +kernel⟩,
    ⟨tS, 1, true, by decide +kernel⟩,
    ⟨tS, 4, true, by decide +kernel⟩,
    ⟨tS, 4, true, by decide +kernel⟩,
    ⟨tS, by decide +kernel⟩,
    ⟨tS, by decide +kernel⟩,
    ⟨tS, 4, by decide +kernel⟩,
    ⟨(tW fun m => { m with pwr := { m.pwr with thermal := [4] } }), 4, by decide +kernel⟩⟩

/-- Commands with one operand just out of range are refused. -/
theorem test_wellformed_refuses_1 :
    ([ .sysGetInfo { ring := 16 },
      .sysGetInfo { plen := 1 },
      .sysGetInfo { params := [0] },
      .sessionIdleTimeout 11,
      .sessionIdleTimeout 14,
      .cpDoorbell 12 0 [],
      .cpDoorbell 0 0 (List.replicate 257 (zeros 256)),
      .cpDoorbell 0 0 [zeros 255],
      .cpCqHead 12 0,
      .ringEnable 12 true,
      .ringReset 12,
      .ringResetDone 16,
      .serviceDatagram (zeros 7) 0,
      .serviceDatagram (zeros 281) 0,
      .reheatCanSegment (zeros 7),
      .reheatCanSegment (zeros 9),
      .tbMtLo 8,
      .tbConvIn 8 0,
      .fxIn 0 0 0 true,
      .fxIn 6 0 0 true,
      .fxIn 1 256 0 true,
      .canRxfHead .a 8 0,
      .canRxfHead .a 0 20,
      .canRxfDrops none 8,
      .evtPend 8 0 0,
      .evtPend 0 4 0,
      .evtMask 8 0 0,
      .evtMask 0 4 0,
      .evtQHead 8 0,
      .evtQHead 0 4,
      .evtQDrops 8,
      .registerWrite (2 ^ 35) 0,
      .reservedAccess { addr := 2 ^ 35 } true,
      .reservedAccess { addr := 0, core := 8 } false,
      .frameStart { ain := [{ idx := 64, a := 0, b := 0 }] },
      .frameStart { linkBadA := [512] },
      .frameStart { linkBadB := [512] },
      .frameStart { imu := [{ imu := 3, vals := List.replicate 6 0 }] },
      .frameStart { imu := [{ imu := 2, vals := [] }] },
      .frameStart { drv := [{ inst := 64, cur := 0 }] },
      .frameStart { sup := [(8, 0, 0)] },
      .frameStart { early := [(.a, 0)] },
      .frameStart { early := [(.a, 7)] },
      .frameStart { soft := [(128, 0)] },
      .laneSelfFault .a 0,
      .laneSelfFault .a 7 ] : List Instr).all (fun i => !i.wf) = true := by decide +kernel

/-- The same commands with operands at the ends of their ranges are accepted. -/
theorem test_wellformed_accepts_1 :
    ([ .sysGetInfo { ring := 15 },
      .sysGetInfo { plen := 1, params := [0] },
      .sessionIdleTimeout 12,
      .sessionIdleTimeout 13,
      .cpDoorbell 11 0 (List.replicate 256 (zeros 256)),
      .cpCqHead 11 0,
      .ringEnable 11 true,
      .ringReset 11,
      .ringResetDone 15,
      .serviceDatagram (zeros 8) 0,
      .serviceDatagram (zeros 280) 0,
      .reheatCanSegment (zeros 8),
      .tbMtLo 7,
      .tbConvIn 7 0,
      .fxIn 1 255 0 true,
      .fxIn 5 0 0 true,
      .canRxfHead .a 7 19,
      .canRxfDrops none 7,
      .evtPend 7 3 0,
      .evtMask 7 3 0,
      .evtQHead 7 3,
      .evtQDrops 7,
      .registerWrite (2 ^ 35 - 1) 0,
      .reservedAccess { addr := 2 ^ 35 - 1, core := 7 } true,
      .frameStart { ain := [{ idx := 63, a := 0, b := 0 }], linkBadA := [511], linkBadB := [511], imu := [{ imu := 2, vals := List.replicate 6 0 }], drv := [{ inst := 63, cur := 0 }], sup := [(7, 0, 0)], early := [(.a, 6), (.b, 1)], soft := [(127, 0)] },
      .laneSelfFault .a 6 ] : List Instr).all Instr.wf = true := by decide +kernel

/-- Commands with one operand just out of range are refused. -/
theorem test_wellformed_refuses_2 :
    ([ .ppsOutEdge [(4, 0)] none,
      .phFireInstant 48,
      .boostWaitExpiry 48,
      .peakEnd 48,
      .holdEnd 48,
      .decayEnd 48,
      .profileStop 48,
      .boostEnd 48 true,
      .drvFaultDetect 79 1,
      .drvFaultDetect 0 0,
      .drvFaultDetect 0 16,
      .drvRetry 79,
      .openLoadTest 64 true,
      .clampUnavailable 48 10 true,
      .clampUnavailable 0 9 true,
      .supOvercurrent 8,
      .supRetry 8,
      .testPulse 2,
      .pulseCheck 2 0 0,
      .safetyInputEdge 24 true,
      .safetyFilterExpiry 24,
      .darkTest 8 true true,
      .safetyPduRx 5 0 [],
      .safetyPduRx 8 0 [],
      .safetyPduRx 6 0 (zeros 65),
      .gnssEpoch [{ ant := 2, chan := 0, signal := 0, svid := 0, txTime := 0, phase := 0, doppler := 0, cn0 := 0, flags := 0 }] [],
      .gnssEpoch [{ ant := 0, chan := 96, signal := 0, svid := 0, txTime := 0, phase := 0, doppler := 0, cn0 := 0, flags := 0 }] [],
      .rtcmFrame true (zeros 1030) ] : List Instr).all (fun i => !i.wf) = true := by decide +kernel

/-- The same commands with operands at the ends of their ranges are accepted. -/
theorem test_wellformed_accepts_2 :
    ([ .ppsOutEdge [(3, 0)] none,
      .phFireInstant 47,
      .boostWaitExpiry 47,
      .peakEnd 47,
      .holdEnd 47,
      .decayEnd 47,
      .profileStop 47,
      .boostEnd 47 true,
      .drvFaultDetect 78 15,
      .drvFaultDetect 78 0x109,
      .drvRetry 78,
      .openLoadTest 63 true,
      .clampUnavailable 47 15 true,
      .supOvercurrent 7,
      .supRetry 7,
      .testPulse 1,
      .pulseCheck 1 0 0,
      .safetyInputEdge 23 true,
      .safetyFilterExpiry 23,
      .darkTest 7 true true,
      .safetyPduRx 7 0 (zeros 64),
      .gnssEpoch [{ ant := 1, chan := 95, signal := 0, svid := 0, txTime := 0, phase := 0, doppler := 0, cn0 := 0, flags := 0 }] [],
      .rtcmFrame true (zeros 1029) ] : List Instr).all Instr.wf = true := by decide +kernel

/-- Commands with one operand just out of range are refused. -/
theorem test_wellformed_refuses_3 :
    ([ .rtcmCanFrame (zeros 65),
      .antBiasFault 2 .opened,
      .antBiasRetry 2,
      .noSignal 2,
      .lockLost 2 0,
      .lockLost 0 96,
      .searchTimeout 2 0,
      .searchTimeout 0 96,
      .reacquisition 2 0,
      .reacquisition 0 96,
      .fuseSample 32 tFuseIn,
      .pocFault 3,
      .pocRetry 3,
      .poweringTimeout 3,
      .backChannelLock 3,
      .backChannelWindow 3,
      .timeSync 3,
      .hubLost 3,
      .i2cRetryTimeout 3,
      .pocOpen 3 true,
      .blockLock 3 true,
      .linkBlock 3 [],
      .backChannelMessage 3 [],
      .fsyncEdge 12,
      .noPipe 12 ] : List Instr).all (fun i => !i.wf) = true := by decide +kernel

/-- The same commands with operands at the ends of their ranges are accepted. -/
theorem test_wellformed_accepts_3 :
    ([ .rtcmCanFrame (zeros 64),
      .antBiasFault 1 .opened,
      .antBiasRetry 1,
      .noSignal 1,
      .lockLost 1 95,
      .searchTimeout 1 95,
      .reacquisition 1 95,
      .fuseSample 31 tFuseIn,
      .pocFault 2,
      .pocRetry 2,
      .poweringTimeout 2,
      .backChannelLock 2,
      .backChannelWindow 2,
      .timeSync 2,
      .hubLost 2,
      .i2cRetryTimeout 2,
      .pocOpen 2 true,
      .blockLock 2 true,
      .linkBlock 2 [],
      .backChannelMessage 2 [],
      .fsyncEdge 11,
      .noPipe 11 ] : List Instr).all Instr.wf = true := by decide +kernel

/-- Commands with one operand just out of range are refused. -/
theorem test_wellformed_refuses_4 :
    ([ .gatherLine { slot := 12 },
      .gatherLine { slot := 0, fault := 1 },
      .gatherLine { slot := 0, fault := 4 },
      .pipeJobStart 2,
      .pipeJobDone 2,
      .visPreempt 2,
      .pipeSelfTestDone 2 0,
      .pipeFault 2 1,
      .pipeFault 0 0,
      .pipeFault 0 4,
      .visFault 2 1,
      .visFault 0 0,
      .visFault 0 4,
      .visJobEnd 2 [],
      .modelLoadDone 2 { target := true, version := 1, layerNs := 0, layers := 0, wcetUs := 0, weights := 0, acts := 0, inBytes := 0, outBytes := 0 },
      .encAu 4 { slice := [], qpAvg := 0, hrdOverflow := false },
      .encStreamStop 4 true,
      .canFrameRx 8 tFrame,
      .canFrameRx 0 { tFrame with data := zeros 65 },
      .arbitrationOpportunity 8,
      .busOffRecovered 8,
      .heartbeatDue 8,
      .canTxEnd 8 .sent,
      .receiveError 8 0,
      .ethFrameTx 6,
      .gclChangeover 6,
      .gateEvent 6,
      .launchTime 6,
      .gptpSyncTx 6 ] : List Instr).all (fun i => !i.wf) = true := by decide +kernel

/-- The same commands with operands at the ends of their ranges are accepted. -/
theorem test_wellformed_accepts_4 :
    ([ .gatherLine { slot := 11, fault := 3 },
      .pipeJobStart 1,
      .pipeJobDone 1,
      .visPreempt 1,
      .pipeSelfTestDone 1 0,
      .pipeFault 1 3,
      .visFault 1 3,
      .visJobEnd 1 [],
      .modelLoadDone 1 { target := true, version := 1, layerNs := 0, layers := 0, wcetUs := 0, weights := 0, acts := 0, inBytes := 0, outBytes := 0 },
      .encAu 3 { slice := [], qpAvg := 0, hrdOverflow := false },
      .encStreamStop 3 true,
      .canFrameRx 7 { tFrame with data := zeros 64 },
      .arbitrationOpportunity 7,
      .busOffRecovered 7,
      .heartbeatDue 7,
      .canTxEnd 7 .sent,
      .receiveError 7 0,
      .ethFrameTx 5,
      .gclChangeover 5,
      .gateEvent 5,
      .launchTime 5,
      .gptpSyncTx 5 ] : List Instr).all Instr.wf = true := by decide +kernel

/-- Commands with one operand just out of range are refused. -/
theorem test_wellformed_refuses_5 :
    ([ .ethFrameRx 6 [],
      .gptpMessage 6 .syncLost,
      .linkChange 6 true,
      .eventRaise 128 ⟨0, none⟩,
      .eventRaise 6 ⟨0, some 0x1FFFFFF⟩,
      .eventRaise 6 ⟨0, some 0x12000000⟩,
      .bankFailed 0 0,
      .bankFailed 4 0,
      .slotSelection [true, true, true],
      .domainFault 1,
      .domainFault 11,
      .feedLow 5 true,
      .clockFail 12,
      .thermalStep 0 true,
      .thermalStep 5 true,
      .diagnosticClearing 79 1,
      .diagnosticClearing 0 0,
      .diagnosticClearing 0 16,
      .qualifyingEdge 32 true true,
      .impact 8 0,
      .biasCheck 63 true,
      .biasCheck 104 true,
      .supTol 8 true,
      .foldback 2 true,
      .limitationSwitchOff 8,
      .overvoltage 5 true ] : List Instr).all (fun i => !i.wf) = true := by decide +kernel

/-- The same commands with operands at the ends of their ranges are accepted. -/
theorem test_wellformed_accepts_5 :
    ([ .ethFrameRx 5 [],
      .gptpMessage 5 .syncLost,
      .linkChange 5 true,
      .eventRaise 127 ⟨0, none⟩,
      .eventRaise 6 ⟨0, some 0x2000000⟩,
      .eventRaise 6 ⟨0, some 0x11FFFFFF⟩,
      .bankFailed 3 0,
      .slotSelection [true, true],
      .domainFault 2,
      .domainFault 10,
      .feedLow 4 true,
      .clockFail 11,
      .thermalStep 1 true,
      .thermalStep 4 true,
      .diagnosticClearing 78 15,
      .qualifyingEdge 31 true true,
      .impact 7 0,
      .biasCheck 64 true,
      .biasCheck 103 true,
      .supTol 7 true,
      .foldback 1 true,
      .limitationSwitchOff 7,
      .overvoltage 4 true ] : List Instr).all Instr.wf = true := by decide +kernel

/-- The bytes of "123456789". -/
def tNine : Bytes := [0x31, 0x32, 0x33, 0x34, 0x35, 0x36, 0x37, 0x38, 0x39]

/-- The published check value of CRC-32C (R472 gives the parameter model). -/
theorem test_crc32c : crc32c tNine = 0xE3069283 := by decide +kernel

/-- The published check value of CRC-32. -/
theorem test_crc32 : crc32 tNine = 0xCBF43926 := by decide +kernel

/-- No word spells a command: the opcode table gives no row bits. -/
theorem test_decode_none : decodeTableWord 16 0x0101 = none := rfl

/-- The sum 1.0 + 2.0 = 3.0 (R120: round to nearest even). -/
theorem test_add : S.add 0x3F800000 0x40000000 = 0x40400000 := by decide +kernel

/-- A fused multiply-add rounds once: (1 + 2^-12)^2 - 1 keeps its low bits (R120). -/
theorem test_fma_rounds_once : S.fma 0x3F800800 0x3F800800 0xBF800000 = 0x3A000400 := by decide +kernel

end Sys2Proof.Tests
end

section
/-! PROOF. A corrected SRAM error of a lane (R59). -/

namespace Sys2Proof.Machine

open Sys2Proof

/-- A raise leaves both lanes as they are (R372). -/
@[simp] theorem raise_lane (m : Mod) (src param : Nat) (k : Lane) : (m.raise src param).lane k = m.lane k := by
  unfold Mod.lane
  rw [raise_lanes]

/-- What the row of a corrected error does: a powered lane's is counted and raised with parameter 0 (R59). -/
theorem exec_laneCorrectedEcc (l : Lane) (s : State) :
    exec (.laneCorrectedEcc l) s = s.act fun m =>
      if (m.lane l).st = .off then m
      else Mod.laneEv { m with stats := { m.stats with corrected := inc32 m.stats.corrected } } l 0 := rfl

/-- Settles O12, by whether the lane is powered. Its fault event is EV001 for Lane A and EV002 for Lane B; the lanes stay
because a raise changes the event fabric alone. -/
theorem correctedErrorReported : Obligations.CorrectedErrorReported := by
  unfold Obligations.CorrectedErrorReported
  refine ⟨fun s l powered => ⟨?_, fun k => ?_⟩, fun s l off => ?_⟩
  · have reported := becomes_of (exec_laneCorrectedEcc l s) (if_neg powered)
    cases l with
    | a => exact reported
    | b => exact reported
  · exact raise_lane ..
  · exact becomes_of (exec_laneCorrectedEcc l s) (if_pos off)

end Sys2Proof.Machine
end

section
/-! PROOF. The ring whose command is dispatched next (R93). -/

namespace Sys2Proof.Machine

open Sys2Proof

/-- Marking the rings that wait for completion space leaves the turn where it is (R91). -/
@[simp] theorem markWaits_turn (m : Mod) : m.markWaits.port.turn = m.port.turn := by
  unfold Mod.markWaits
  refine foldN_keeps (fun n : Mod => n.port.turn) 16 _ m fun n r => ?_
  dsimp only
  split <;> rfl

/-- The turn that is `(r + 16 - t) % 16` places after turn `t` is ring `r`'s. -/
theorem turn_offset {t r : Nat} (ht : t < 16) (hr : r < 16) : (t + (r + 16 - t) % 16) % 16 = r := by omega

/-- The next ring is the first in the order of turns that has a command waiting and completion space (R93). -/
theorem nextRing_eq_some {m : Mod} {r : Nat} (ht : m.port.turn < 16) (hr : r < 16) (ready : m.ringReady r = true)
    (space : m.ringSpace r = true)
    (first : ∀ k, k < (r + 16 - m.port.turn) % 16 →
      m.ringReady ((m.port.turn + k) % 16) = false ∨ m.ringSpace ((m.port.turn + k) % 16) = false) :
    m.nextRing = some r := by
  unfold Mod.nextRing Mod.turns
  rw [List.find?_map]
  have found : (List.range 16).find? ((fun r => m.ringReady r && m.ringSpace r) ∘ fun k => (m.port.turn + k) % 16)
      = some ((r + 16 - m.port.turn) % 16) := by
    rw [List.find?_range_eq_some]
    refine ⟨?_, List.mem_range.mpr (Nat.mod_lt _ (by decide)), fun k hk => ?_⟩
    · simp [turn_offset ht hr, ready, space]
    · simpa [imp_iff_not_or] using first k hk
  rw [found, Option.map_some, turn_offset ht hr]

/-- What the row of dispatch does (R93). -/
theorem exec_commandDispatch (s : State) : exec .commandDispatch s = execCommandDispatch s := rfl

/-- With the module `m`, the turn passes on and the ring's command is taken. -/
theorem dispatchTurn_withModule (s : State) (m : Mod) (r : Nat) : State.dispatchTurn { s with m := m } r
    = State.dispatchRing { s with m := { m with port := { m.port with turn := (r + 1) % 16 } } } r := rfl

/-- Dispatch while the port runs and some ring may dispatch. -/
theorem exec_commandDispatch_of_nextRing {s : State} {r : Nat} (alive : s.m.alive = true) (running : s.m.port.running = true)
    (next : s.m.markWaits.nextRing = some r) :
    exec .commandDispatch s = .next (State.dispatchTurn { s with m := s.m.markWaits } r) := by
  rw [exec_commandDispatch, execCommandDispatch, if_neg (by simp [alive, running])]
  simp only [next]

/-- Settles O8. Marking the waiting rings keeps the turn, so the first ring of the order of turns is the one dispatched. -/
theorem dispatchRoundRobin : Obligations.DispatchRoundRobin := by
  unfold Obligations.DispatchRoundRobin
  intro s r alive running turn_lt r_lt ready space first
  rw [← markWaits_turn] at turn_lt first
  rw [exec_commandDispatch_of_nextRing alive running (nextRing_eq_some turn_lt r_lt ready space first),
    dispatchTurn_withModule]

end Sys2Proof.Machine
end

section
/-! PROOF. The checks of the Command Port and their order (R99): which status each check gives once those before it pass,
and that a packet it rejects leaves its completion alone behind. -/

namespace Sys2Proof.Machine

open Sys2Proof

/-- The parameter length is one the operation accepts (R99, BAD_LENGTH). -/
def LengthFits (o : Op) (c : Cmd) : Prop := c.plen.toNat ≤ 240 ∧ o.len c = true

/-- The instance exists and has the operation (R99, BAD_INSTANCE). -/
def InstanceExists (o : Op) (c : Cmd) : Prop := c.inst.toNat < o.insts ∧ ∀ k, o.only = some k → c.inst.toNat = k

/-- No reserved field or flag is set, and only a frame-stamped command names a frame (R99, BAD_PARAM). -/
def HeaderSound (o : Op) (c : Cmd) : Prop :=
  c.rsvd = 0 ∧ c.flags.toNat < 16 ∧ (o.stamped c = true ∨ (c.flags.toNat.testBit 3 = false ∧ c.cframe = 0))

/-- The model's test of the length. -/
theorem length_test_iff (o : Op) (c : Cmd) : (decide (c.plen.toNat > 240) || !o.len c) = true ↔ ¬LengthFits o c := by
  simp [LengthFits, imp_iff_not_or]

/-- The model's test of the instance. -/
theorem instance_test_iff (o : Op) (c : Cmd) :
    (decide (o.insts ≤ c.inst.toNat) || (o.only.isSome && o.only != some c.inst.toNat)) = true ↔ ¬InstanceExists o c := by
  cases only : o.only with
  | none => simp [InstanceExists, only]
  | some k => simp [InstanceExists, only, imp_iff_not_or, eq_comm (a := k)]

/-- The model's test of the header. -/
theorem header_test_iff (o : Op) (c : Cmd) :
    (c.rsvd != 0 || c.flags.toNat / 16 != 0 || (!o.stamped c && (c.flags.toNat.testBit 3 || c.cframe != 0))) = true
      ↔ ¬HeaderSound o c := by
  have flags : c.flags.toNat / 16 = 0 ↔ c.flags.toNat < 16 := by omega
  simp only [Bool.or_eq_true, Bool.and_eq_true, bne_iff_ne, Bool.not_eq_true', ne_eq, flags, HeaderSound,
    ← Bool.not_eq_true]
  tauto

section
variable {m : Mod} {opcode : Nat} {o : Op} {c : Cmd}

theorem portCheck_badLength (length : ¬LengthFits o c) : m.portCheck opcode o c = some St.badLength :=
  if_pos ((length_test_iff o c).mpr length)

theorem portCheck_badInstance (length : LengthFits o c) (inst : ¬InstanceExists o c) :
    m.portCheck opcode o c = some St.badInstance := by
  unfold Mod.portCheck
  simp only [length_test_iff, instance_test_iff, length, inst, not_true, not_false_eq_true, if_true, if_false]

theorem portCheck_badParam (length : LengthFits o c) (inst : InstanceExists o c) (header : ¬HeaderSound o c) :
    m.portCheck opcode o c = some St.badParam := by
  unfold Mod.portCheck
  simp only [length_test_iff, instance_test_iff, header_test_iff, length, inst, header, not_true, not_false_eq_true,
    if_true, if_false]

theorem portCheck_denied (length : LengthFits o c) (inst : InstanceExists o c) (header : HeaderSound o c)
    (right : m.allowed opcode c = false) : m.portCheck opcode o c = some St.denied := by
  unfold Mod.portCheck
  simp only [length_test_iff, instance_test_iff, header_test_iff, length, inst, header, not_true, if_false]
  simp [right]

theorem portCheck_locked (length : LengthFits o c) (inst : InstanceExists o c) (header : HeaderSound o c)
    (never : o.never = false) (right : m.allowed opcode c = true) (write : lockedOp opcode c.inst.toNat = true)
    (locked : m.safe.unlocked = false) : m.portCheck opcode o c = some St.locked := by
  unfold Mod.portCheck
  simp only [length_test_iff, instance_test_iff, header_test_iff, length, inst, header, not_true, if_false]
  simp [never, right, write, locked]

/-- A packet of an unknown operation leaves its completion alone behind. -/
theorem take_unknown (takes : m.takes c.ring = true) (unknown : opOf opcode = none) :
    m.take opcode c = m.complete opcode c (if 240 < c.plen.toNat then St.badLength else St.badOpcode) [] 0 := by
  simp [Mod.take, takes, unknown]

/-- A packet the Command Port rejects leaves its completion alone behind, frame-stamped or not. -/
theorem take_rejected {st : Nat} (takes : m.takes c.ring = true) (known : opOf opcode = some o)
    (check : m.portCheck opcode o c = some st) : m.take opcode c = m.complete opcode c st [] 0 := by
  unfold Mod.take
  cases stamped : o.stamped c <;> simp [takes, known, stamped, check, Mod.serve]

end

/-- Settles O11, check by check: each status is what `portCheck` answers once the checks before it pass. -/
theorem checkOrder : Obligations.CheckOrder := by
  unfold Obligations.CheckOrder
  intro s opcode c takes
  refine ⟨fun long => ?_, fun fits unknown => ?_, fun o known fits => ?_⟩
  · cases known : opOf opcode with
    | none => rw [take_unknown takes known, if_pos long]
    | some o => exact take_rejected takes known (portCheck_badLength fun ⟨fits, _⟩ => absurd fits (by omega))
  · rw [take_unknown takes unknown, if_neg (by omega)]
  · refine ⟨fun len => ?_, fun len absent => ?_, fun len lt only => ⟨fun unsound => ?_, fun rsvd flags stamp => ?_⟩⟩
    · exact take_rejected takes known (portCheck_badLength fun ⟨_, accepted⟩ => by simp [accepted] at len)
    · refine take_rejected takes known (portCheck_badInstance ⟨fits, len⟩ fun ⟨lt, only⟩ => ?_)
      obtain le | ⟨k, isOnly, other⟩ := absent
      · omega
      · exact other (only k isOnly)
    · refine take_rejected takes known (portCheck_badParam ⟨fits, len⟩ ⟨lt, only⟩ fun ⟨rsvd, flags, stamp⟩ => ?_)
      obtain reserved | wide | ⟨plain, names⟩ := unsound
      · exact reserved rsvd
      · omega
      · obtain stamped | ⟨noExact, noFrame⟩ := stamp
        · simp [plain] at stamped
        · simp [noExact, noFrame] at names
    · have header : HeaderSound o c := ⟨rsvd, flags, stamp⟩
      exact ⟨fun right => take_rejected takes known (portCheck_denied ⟨fits, len⟩ ⟨lt, only⟩ header right),
        fun never right write locked =>
          take_rejected takes known (portCheck_locked ⟨fits, len⟩ ⟨lt, only⟩ header never right write locked)⟩

end Sys2Proof.Machine
end

section
/-! PROOF. A link block that fails its CRC (R274). -/

namespace Sys2Proof.Machine

open Sys2Proof

/-- A link with one more bad block, the last of them at the raw count `now` (R274, R286). -/
def Link.withBadBlock (x : Link) (now : Nat) : Link := { x with badBlocks := inc32 x.badBlocks, badRaw := some now }

/-- A link that has had a bad block is not a link of the reset state: it holds the raw count at which the block came. -/
theorem withBadBlock_ne_default (x : Link) (now : Nat) : x.withBadBlock now ≠ {} := fun isDefault =>
  Option.some_ne_none now (congrArg Link.badRaw isDefault)

theorem setLink_link_same (m : Mod) (k : Nat) {x : Link} (h : x ≠ {}) : (m.setLink k x).link k = x :=
  Tab.get_put_other _ m.clnk.link k x h

theorem setLink_link_ne (m : Mod) (x : Link) {k j : Nat} (h : j ≠ k) : (m.setLink k x).link j = m.link j :=
  Tab.get_put_ne _ m.clnk.link k j x h

/-- A link event that is raised on a condition reaches the event fabric alone (R286). -/
theorem ite_linkEv_spec (b : Bool) (m : Mod) (k code : Nat) (on : Bool) :
    ∃ e, (if b then m.linkEv k code on else m) = { m with evt := e } := by
  cases b with
  | false => exact ⟨m.evt, rfl⟩
  | true => exact raiseT_spec m ..

/-- A bad block is counted on its link; its event, where it is raised, reaches the event fabric alone (R274, R286). -/
theorem badBlock_spec (m : Mod) (k : Nat) :
    ∃ e, m.badBlock k = { m.setLink k ((m.link k).withBadBlock m.now) with evt := e } := by
  unfold Mod.badBlock
  exact ite_linkEv_spec _ (m.setLink k ((m.link k).withBadBlock m.now)) k 7 true

section
variable (m : Mod) (k : Nat)

theorem badBlock_link_same : (m.badBlock k).link k = (m.link k).withBadBlock m.now := by
  obtain ⟨e, counted⟩ := badBlock_spec m k
  rw [counted]
  exact setLink_link_same m k (withBadBlock_ne_default _ _)

theorem badBlock_link_ne {j : Nat} (h : j ≠ k) : (m.badBlock k).link j = m.link j := by
  obtain ⟨e, counted⟩ := badBlock_spec m k
  rw [counted]
  exact setLink_link_ne m _ h

@[simp] theorem badBlock_rx (n : Nat) : (m.badBlock k).rx n = m.rx n := by
  obtain ⟨e, counted⟩ := badBlock_spec m k
  rw [counted]
  rfl

@[simp] theorem badBlock_pipes : (m.badBlock k).pipes = m.pipes := by
  obtain ⟨e, counted⟩ := badBlock_spec m k
  rw [counted, setLink_pipes]

@[simp] theorem badBlock_lanes : (m.badBlock k).lanes = m.lanes := by
  obtain ⟨e, counted⟩ := badBlock_spec m k
  rw [counted, setLink_lanes]

end

/-- A block of a locked link that fails its CRC is a bad block, whatever its header says (R274). -/
theorem exec_linkBlock_of_badCrc {s : State} {k : Nat} {block : Bytes} (isLink : k ≤ 2) (powered : s.m.pd 7 = true)
    (locked : (s.m.link k).locked = true) (crc : crc32 (block.take 252) ≠ rd block 252 4) :
    Becomes (exec (.linkBlock k block) s) s (s.m.badBlock k) := by
  refine becomes_of (o := execLinkBlock k block s) rfl ?_
  rw [if_neg (by simp [isLink, powered, locked]), if_pos (.inr (.inl crc))]

/-- Settles O13. The row is `badBlock`, which writes the count of its own link and raises at most an event: the four fields
read of that link are those of `withBadBlock`, and every other part of the module is as it was. -/
theorem badBlockDiscarded : Obligations.BadBlockDiscarded := by
  unfold Obligations.BadBlockDiscarded
  intro s k block isLink powered locked _ crc
  refine ⟨_, exec_linkBlock_of_badCrc isLink powered locked crc, ?_, fun j ne => badBlock_link_ne s.m k ne, ?_, ?_, ?_,
    badBlock_rx s.m k, badBlock_pipes s.m k, badBlock_lanes s.m k, rfl⟩
  all_goals rw [badBlock_link_same, Link.withBadBlock]

end Sys2Proof.Machine
end

section
/-! PROOF. CONFIRM with a running trial slot and a CONFIRMED slot (R418). -/

namespace Sys2Proof.Machine

open Sys2Proof

/-- Slot `k` takes the place of the CONFIRMED slot `j`, with the OTP counter at `otp`: the image of `j` becomes STAGED where
that counter does not bar it, INVALID where it does (R418). -/
def Mod.confirmOver (m : Mod) (j k otp : Nat) : Mod :=
  let m := m.setSlot j { m.slot j with st := if otp ≤ (m.slot j).arb then .staged else .invalid }
  let m := m.setSlot k { m.slot k with st := .confirmed }
  Mod.updEv { m with upd := { m.upd with otp := otp } } 123 k 5

section
variable {c : Cmd} {m : Mod} {j k : Nat} (idle : m.upd.act = none)
  (trial : ((List.range 2).find? fun n => decide ((m.slot n).st = .trial) && !(m.slot n).armed) = some k)
  (confirmed : m.confirmedSlot = some j)
include idle trial confirmed

/-- An image whose arb the counter has reached is confirmed at once: no free value is drawn (R418). -/
theorem opUpdConfirm_body_of_arb_le (reached : (m.slot k).arb ≤ m.upd.otp) :
    opUpdConfirm.body c m = Res.ok (m.confirmOver j k m.upd.otp) (le 1 m.upd.otp ++ zeros 3) := by
  have stays : ¬m.upd.otp < (m.slot k).arb := by omega
  simp only [opUpdConfirm, idle, trial, stays, confirmed, decide_false, Bool.false_eq_true, if_false]
  rfl

/-- An image above the counter is confirmed after one free value is drawn, which says whether the write of the OTP fails;
the counter rises only where it does not (R418; log entry 42). -/
theorem opUpdConfirm_body_of_lt_arb (above : m.upd.otp < (m.slot k).arb) :
    opUpdConfirm.body c m =
      (let failed := m.draw.1.toNat.testBit 0
      let otp := if failed then m.upd.otp else (m.slot k).arb
      { st := some (if failed then St.fault else St.ok), reply := le 1 otp ++ zeros 3, m := m.draw.2.confirmOver j k otp }) := by
  have drawn : m.draw.2.confirmedSlot = some j := confirmed
  simp only [opUpdConfirm, idle, trial, above, drawn, decide_true, if_true]
  cases m.draw.1.toNat.testBit 0 with
  | false => rfl
  | true => rfl

end

/-- Settles O16, by whether the image's arb is above the OTP counter and, where it is, by the free value that says whether
the write of the counter fails. -/
theorem confirmMakesConfirmed : Obligations.ConfirmMakesConfirmed := by
  unfold Obligations.ConfirmMakesConfirmed
  refine ⟨fun c s j k => does_of_body rfl fun ⟨idle, trial, confirmed, reached⟩ => ?_,
    fun c s j k => ends_of_body rfl (by decide) fun ⟨idle, trial, confirmed, above, written⟩ => ?_,
    fun c s j k => ends_of_body rfl (by decide) fun ⟨idle, trial, confirmed, above, failed⟩ => ?_⟩
  · exact opUpdConfirm_body_of_arb_le idle trial confirmed reached
  · rw [opUpdConfirm_body_of_lt_arb idle trial confirmed above, written]
    rfl
  · rw [opUpdConfirm_body_of_lt_arb idle trial confirmed above, failed]
    rfl

end Sys2Proof.Machine
end

section
/-! PROOF. What a command can do to the queue and to SDRAM: the module alone, a store, or a change of power. -/

namespace Sys2Proof.Machine

open Sys2Proof

/-! ### Stores -/

/-- From `s` to `t` the module changes and bytes are stored or dropped: the queue stays, and SDRAM keeps its canonical
form. -/
structure Stores (s t : State) : Prop where
  queue : t.pending = s.pending
  form : Memory.wf s.mem = true → Memory.wf t.mem = true

theorem Stores.refl (s : State) : Stores s s := ⟨rfl, id⟩

theorem Stores.trans {s t u : State} (h : Stores s t) (k : Stores t u) : Stores s u :=
  ⟨k.queue.trans h.queue, k.form ∘ h.form⟩

theorem stores_withModule (s : State) (m : Mod) : Stores s { s with m := m } := ⟨rfl, id⟩

theorem stores_dropMem (s : State) : Stores s { s with mem := [] } := ⟨rfl, fun _ => rfl⟩

theorem stores_writeMem (s : State) (a : Nat) (bs : Bytes) : Stores s (s.writeMem a bs) :=
  ⟨writeMem_pending s a bs, writeMem_wf s a bs⟩

theorem stores_ite {s t u : State} {p : Prop} [Decidable p] (h : Stores s t) (k : Stores s u) :
    Stores s (if p then t else u) := by
  split
  · exact h
  · exact k

theorem stores_foldl {α : Type} (f : State → α → State) (step : ∀ s x, Stores s (f s x)) (l : List α) (s : State) :
    Stores s (l.foldl f s) := by
  induction l generalizing s with
  | nil => exact .refl s
  | cons x l ih => exact (step s x).trans (ih _)

/-! ### The host rings of the switch (R356) -/

theorem stores_txDone (s : State) (i result txRaw : Nat) : Stores s (s.txDone i result txRaw) := by
  unfold State.txDone
  split
  · exact .refl s
  · exact ((stores_writeMem s _ _).trans (stores_writeMem _ _ _)).trans (stores_withModule _ _)

theorem stores_frameDone (s : State) (f : EthFrame) (result txRaw : Nat) : Stores s (s.frameDone f result txRaw) := by
  unfold State.frameDone
  split
  · exact stores_txDone ..
  · exact .refl s

theorem stores_hostRx (s : State) (port : Nat) (frame : Bytes) (stamp vid pcp : Nat) :
    Stores s (s.hostRx port frame stamp vid pcp) := by
  unfold State.hostRx
  split
  · exact stores_withModule ..
  · exact stores_ite (stores_withModule ..)
      (((stores_writeMem s _ _).trans (stores_writeMem _ _ _)).trans (stores_withModule _ _))

theorem stores_forward (s : State) (source : Nat) (f : Bytes) (vid pcp stamp : Nat) :
    Stores s (s.forward source f vid pcp stamp) := by
  unfold State.forward
  split
  · exact .refl s
  · exact stores_foldl _ (fun s p => stores_ite (stores_hostRx ..) (stores_withModule ..)) _ s

theorem stores_send (s : State) (k : Nat) (f : EthFrame) (result : Nat) : Stores s (s.send k f result) :=
  (stores_withModule s _).trans (stores_frameDone ..)

theorem stores_dropOversize (k q n : Nat) (s : State) : Stores s (s.dropOversize k q n) := by
  induction n generalizing s with
  | zero => exact .refl s
  | succ n ih =>
    unfold State.dropOversize
    split
    · exact .refl s
    · exact stores_ite (((stores_withModule s _).trans (stores_frameDone ..)).trans (ih _)) (.refl s)

theorem stores_dropAll (s : State) (k : Nat) : Stores s (s.dropAll k) :=
  stores_foldl _ (fun s q => stores_dropOversize k q _ s) _ s

theorem stores_ethFlush (s : State) : Stores s s.ethFlush :=
  (stores_withModule s _).trans (stores_foldl _ (fun s (d : Nat × Nat) => stores_txDone s d.1 d.2 0) _ _)

theorem stores_fetchTx (s : State) (i : Nat) (d : Bytes) : Stores s (s.fetchTx i d) := by
  have dropped : Stores s (State.txDone { s with m := s.m.bufferDrop 1 } i 4 0) :=
    (stores_withModule s _).trans (stores_txDone ..)
  have done (result : Nat) : Stores s (s.txDone i result 0) := stores_txDone ..
  have queued (m : Mod) : Stores s { s with m := m } := stores_withModule s m
  unfold State.fetchTx
  refine stores_ite (done 4) (stores_ite ?_ (stores_ite ?_ (stores_ite (done 3) (stores_ite (done 2) (stores_ite ?_ ?_)))))
  · exact stores_ite ((stores_forward ..).trans (stores_txDone ..)) (done 4)
  · exact stores_ite (done 4) (stores_ite (queued _) dropped)
  · exact stores_ite (queued _) ((queued _).trans (stores_txDone ..))
  · exact stores_ite (queued _) dropped

/-! ### Dispatch (R93) and what comes by the network -/

theorem stores_dispatchRing (s : State) (r : Nat) : Stores s (s.dispatchRing r) := by
  unfold State.dispatchRing
  have served (m : Mod) : Stores s (State.ethFlush { s with m := m }) := (stores_withModule s m).trans (stores_ethFlush _)
  exact stores_ite (served _) ((served _).trans (stores_dropMem _))

theorem stores_dispatchTurn (s : State) (r : Nat) : Stores s (s.dispatchTurn r) :=
  (stores_withModule s _).trans (stores_dispatchRing ..)

theorem stores_servicePacket (s : State) (r sender : Nat) (auth : Bool) (packet : Bytes) :
    Stores s (s.servicePacket r sender auth packet) := by
  unfold State.servicePacket
  dsimp only
  split
  · refine stores_ite ?_ (stores_withModule ..)
    split
    · exact stores_withModule ..
    · exact .refl s
  · split
    · exact stores_withModule ..
    · exact stores_ite (stores_withModule ..)
        (stores_ite ((stores_withModule s _).trans (stores_dispatchTurn ..)) (stores_withModule ..))

theorem stores_datagram (s : State) (d : Bytes) (sender : Nat) : Stores s (s.datagram d sender) :=
  stores_ite (.refl s) (stores_ite (.refl s) ((stores_withModule s _).trans (stores_servicePacket ..)))

theorem stores_segment (s : State) (data : Bytes) : Stores s (s.segment data) :=
  stores_ite (.refl s) (stores_ite (stores_withModule ..)
    (stores_ite (stores_withModule ..) ((stores_withModule s _).trans (stores_datagram ..))))

theorem stores_canRx (s : State) (ch : Nat) (frame : CanFrame) : Stores s (s.canRx ch frame) :=
  stores_ite ((stores_withModule s _).trans (stores_segment ..)) (stores_withModule ..)

/-! ### What a command can do -/

/-- An outcome of the command `i` in the state `s`: its effect lies in the module; it resets or powers the module; or it
stores to SDRAM. -/
inductive Effect (i : Instr) (s : State) : Host.Outcome State Fault Refusal → Prop
  | module (f : Mod → Mod) (plain : resetsOrPowers i = false) : Effect i s (s.act f)
  | power (f : Mod → Mod) (mayStores : mayStore i = true) : Effect i s (s.power f)
  | clockFail (k : Nat) (isClockFail : i = .clockFail k) (dropped : Bool) (f : Mod → Mod) :
      Effect i s (State.power { s with mem := if dropped then [] else s.mem } f)
  | store (t : State) (mayStores : mayStore i = true) (plain : resetsOrPowers i = false) (stores : Stores s t) :
      Effect i s (.next t)

section
variable {i : Instr} {s : State}

theorem Effect.nothing (plain : resetsOrPowers i = false) : Effect i s (.next s) := .module id plain

theorem Effect.setModule (m : Mod) (plain : resetsOrPowers i = false) : Effect i s (.next { s with m := m }) :=
  .module (fun _ => m) plain

theorem effect_ite {o u : Host.Outcome State Fault Refusal} {p : Prop} [Decidable p] (h : Effect i s o) (k : Effect i s u) :
    Effect i s (if p then o else u) := by
  split
  · exact h
  · exact k

end

/-- An SDRAM error counts or poisons a line; no byte is written (R27). -/
theorem sdramError_spec (s : State) (line : Option Nat) : ∃ m, s.sdramError line = { s with m := m } := by
  unfold State.sdramError
  split
  · exact ⟨s.m, rfl⟩
  · split
    · exact ⟨_, rfl⟩
    · split
      · exact ⟨_, rfl⟩
      · exact ⟨s.m, rfl⟩

section
variable (s : State)

theorem effect_eventRaise (src : Nat) (given : RaiseIn) : Effect (.eventRaise src given) s (exec (.eventRaise src given) s) := by
  show Effect _ s (execEventRaise src given s)
  unfold execEventRaise
  obtain ⟨m, error⟩ := sdramError_spec s given.line
  rw [error]
  dsimp only
  split
  · exact .setModule _ rfl
  · exact .module _ rfl

theorem effect_visJobEnd (p : Nat) (tensor : Bytes) : Effect (.visJobEnd p tensor) s (exec (.visJobEnd p tensor) s) := by
  show Effect _ s (execVisJobEnd p tensor s)
  unfold execVisJobEnd
  refine effect_ite (.nothing rfl) (effect_ite (.setModule _ rfl) ?_)
  split
  · exact .nothing rfl
  · exact .store _ rfl rfl (stores_ite ((stores_withModule s _).trans (stores_writeMem ..)) (stores_withModule ..))

theorem effect_ethFrameRx (k : Nat) (f : Bytes) : Effect (.ethFrameRx k f) s (exec (.ethFrameRx k f) s) := by
  show Effect _ s (execEthFrameRx k f s)
  unfold execEthFrameRx
  exact effect_ite (.nothing rfl) (effect_ite (.setModule _ rfl) (effect_ite (.setModule _ rfl) (effect_ite (.setModule _ rfl)
    (effect_ite (.setModule _ rfl) (effect_ite (.setModule _ rfl)
      (.store _ rfl rfl ((stores_withModule s _).trans (stores_forward ..))))))))

theorem effect_ethFrameTx (k : Nat) : Effect (.ethFrameTx k) s (exec (.ethFrameTx k) s) := by
  show Effect _ s (execEthFrameTx k s)
  unfold execEthFrameTx
  have swept (m : Mod) : Stores s (State.dropAll { s with m := m } k) := (stores_withModule s m).trans (stores_dropAll ..)
  refine effect_ite (.nothing rfl) ?_
  dsimp only
  split
  · exact .store _ rfl rfl (swept _)
  · exact .store _ rfl rfl ((swept _).trans ((stores_withModule _ _).trans (stores_send ..)))

theorem effect_launchTime (k : Nat) : Effect (.launchTime k) s (exec (.launchTime k) s) := by
  show Effect _ s (execLaunchTime k s)
  unfold execLaunchTime
  have swept : Stores s (s.dropAll k) := stores_dropAll s k
  generalize s.dropAll k = u at swept
  refine effect_ite (.nothing rfl) ?_
  dsimp only
  split
  · exact .store u rfl rfl swept
  · refine effect_ite ?_ (effect_ite ?_ ?_)
    · exact .store _ rfl rfl ((swept.trans (stores_withModule u _)).trans (stores_send ..))
    · exact .store _ rfl rfl (swept.trans (stores_withModule u _))
    · exact .store _ rfl rfl ((swept.trans (stores_withModule u _)).trans (stores_frameDone ..))

theorem effect_descriptorPoll : Effect .descriptorPoll s (exec .descriptorPoll s) := by
  show Effect _ s (execDescriptorPoll s)
  unfold execDescriptorPoll
  refine effect_ite (.nothing rfl) ?_
  split
  · exact .nothing rfl
  · exact effect_ite (.setModule _ rfl)
      (.store _ rfl rfl ((stores_withModule s _).trans (stores_fetchTx ..)))

theorem effect_linkChange (k : Nat) (up : Bool) : Effect (.linkChange k up) s (exec (.linkChange k up) s) := by
  show Effect _ s (execLinkChange k up s)
  unfold execLinkChange
  exact effect_ite (.nothing rfl) (effect_ite (.setModule _ rfl)
    (.store _ rfl rfl ((stores_withModule s _).trans (stores_ethFlush _))))

theorem effect_gptpSyncTx (k : Nat) : Effect (.gptpSyncTx k) s (exec (.gptpSyncTx k) s) := by
  show Effect _ s (execGptpSyncTx k s)
  unfold execGptpSyncTx
  exact effect_ite (.nothing rfl) (effect_ite (.setModule _ rfl)
    (.store _ rfl rfl ((stores_withModule s _).trans (stores_send ..))))

theorem effect_commandDispatch : Effect .commandDispatch s (exec .commandDispatch s) := by
  rw [exec_commandDispatch, execCommandDispatch]
  refine effect_ite (.nothing rfl) ?_
  dsimp only
  split
  · exact .setModule _ rfl
  · exact .store _ rfl rfl ((stores_withModule s _).trans (stores_dispatchTurn ..))

theorem effect_serviceDatagram (d : Bytes) (sender : Nat) :
    Effect (.serviceDatagram d sender) s (exec (.serviceDatagram d sender) s) := by
  show Effect _ s (execServiceDatagram d sender s)
  exact effect_ite (.store _ rfl rfl (stores_datagram ..)) (.nothing rfl)

theorem effect_safetyPduRx (ch : Nat) (id : BitVec 32) (data : Bytes) :
    Effect (.safetyPduRx ch id data) s (exec (.safetyPduRx ch id data) s) := by
  show Effect _ s (execSafetyPduRx ch id data s)
  exact effect_ite (.nothing rfl) (.setModule _ rfl)

theorem effect_registerWrite (addr : Nat) (v : BitVec 64) :
    Effect (.registerWrite addr v) s (exec (.registerWrite addr v) s) := by
  show Effect _ s (execRegisterWrite addr v s)
  unfold execRegisterWrite
  refine effect_ite (.nothing rfl)
    (effect_ite (.store _ rfl rfl ((stores_withModule s _).trans (stores_writeMem ..)))
    (effect_ite (.module _ rfl) (effect_ite (.module _ rfl) (effect_ite (.module _ rfl) ?_))))
  exact effect_ite (.module _ rfl) (effect_ite (.module _ rfl) (effect_ite (.module _ rfl) (effect_ite (.module _ rfl)
    (.module _ rfl))))

theorem effect_reservedAccess (a : Access) (write : Bool) :
    Effect (.reservedAccess a write) s (exec (.reservedAccess a write) s) := by
  show Effect _ s (execReservedAccess a write s)
  unfold execReservedAccess
  split
  · exact effect_ite (.nothing rfl) (effect_ite (.module _ rfl) (effect_ite (.module _ rfl) (.module _ rfl)))
  · exact effect_ite (.nothing rfl) (effect_ite (.module _ rfl) (effect_ite (.nothing rfl) (effect_ite (.module _ rfl)
      (effect_ite (.module _ rfl) (.nothing rfl)))))

end

theorem effect_clockFail (s : State) (k : Nat) : Effect (.clockFail k) s (exec (.clockFail k) s) := by
  show Effect _ s (execClockFail k s)
  unfold execClockFail
  exact .clockFail k rfl (decide (5 ≤ k) && decide (k ≤ 7) && s.m.alive) _

/-- What every command can do. -/
theorem exec_effect (i : Instr) (s : State) : Effect i s (exec i s) := by
  unfold exec
  cases i with
  | eventRaise src given => exact effect_eventRaise s src given
  | visJobEnd p tensor => exact effect_visJobEnd s p tensor
  | ethFrameRx k f => exact effect_ethFrameRx s k f
  | ethFrameTx k => exact effect_ethFrameTx s k
  | launchTime k => exact effect_launchTime s k
  | descriptorPoll => exact effect_descriptorPoll s
  | linkChange k up => exact effect_linkChange s k up
  | gptpSyncTx k => exact effect_gptpSyncTx s k
  | commandDispatch => exact effect_commandDispatch s
  | serviceDatagram d sender => exact effect_serviceDatagram s d sender
  | reheatCanSegment data => exact .store _ rfl rfl (stores_segment s data)
  | canFrameRx ch frame => exact .store _ rfl rfl (stores_canRx s ch frame)
  | safetyPduRx ch id data => exact effect_safetyPduRx s ch id data
  | registerWrite addr v => exact effect_registerWrite s addr v
  | reservedAccess a write => exact effect_reservedAccess s a write
  | ethDisable c => exact .store _ rfl rfl ((stores_withModule s _).trans (stores_ethFlush _))
  | ethResetInstance c => exact .store _ rfl rfl ((stores_withModule s _).trans (stores_ethFlush _))
  | clockFail k => exact effect_clockFail s k
  | moduleReset | shutdownAck | frameStart | frameTickMissing | ref0MonitorTrip | refMismatch | ref1Stop | can1Wake
  | slotSelection | reheatEntry | keyHigh | shutdownGraceExpiry | wakeInput | parkTimeout | startMilestone | domainFault
  | supplyLoss | resetN | watchdog | thermalStep | powerOn | resetNRelease | restart => exact .power _ rfl
  | _ => exact .module _ rfl

/-- SDRAM after a power effect: as it was while PD5 is on, nothing with PD5 off. -/
theorem power_mem {s t : State} {f : Mod → Mod} (h : s.power f = .next t) : t.mem = if t.m.pd 5 then s.mem else [] := by
  have powers := power_powers s f
  rw [Powers, h] at powers
  obtain rfl := Host.Outcome.next.inj powers
  rfl

theorem power_goes (s : State) (f : Mod → Mod) : ∃ t, s.power f = .next t ∧ Stores s t := by
  refine ⟨_, power_powers s f, rfl, fun form => ?_⟩
  exact power_wf s _ f form (power_powers s f)

/-- Every effect is a next state whose queue and form of SDRAM are kept. -/
theorem Effect.goes {i : Instr} {s : State} {o : Host.Outcome State Fault Refusal} (h : Effect i s o) :
    ∃ t, o = .next t ∧ Stores s t := by
  cases h with
  | module f => exact ⟨_, rfl, stores_withModule s _⟩
  | power f => exact power_goes s f
  | clockFail k _ dropped f =>
    obtain ⟨t, next, stores⟩ := power_goes { s with mem := if dropped then [] else s.mem } f
    refine ⟨t, next, Stores.trans ?_ stores⟩
    cases dropped with
    | true => exact stores_dropMem s
    | false => exact .refl s
  | store t _ _ stores => exact ⟨t, rfl, stores⟩

/-- Settles O3. -/
theorem everyCommandAnswers : Obligations.EveryCommandAnswers := by
  unfold Obligations.EveryCommandAnswers
  intro i s
  obtain ⟨t, next, stores⟩ := (exec_effect i s).goes
  exact ⟨t, next, stores.queue⟩

/-- Settles O4: a step is a tick, which is a power effect or none, or the effect of the command at the front of the queue. -/
theorem stepKeepsMemoryForm : Obligations.StepKeepsMemoryForm := by
  unfold Obligations.StepKeepsMemoryForm
  intro s t form next
  unfold step at next
  split at next
  · unfold State.tick at next
    split at next
    · exact power_wf s t _ form next
    · cases next
      exact form
  · rename_i i rest _
    obtain ⟨u, goes, stores⟩ := (exec_effect i (s.queue rest)).goes
    rw [goes] at next
    cases next
    exact stores.form form

/-- A byte of a line that is poisoned neither before nor after reads as before where SDRAM's bytes are the same. -/
theorem readByte_congr {s t : State} {a : Nat} (mem : t.mem = s.mem) (before : s.m.poison.contains (a / 64) = false)
    (after : t.m.poison.contains (a / 64) = false) : t.readByte a = s.readByte a := by
  unfold State.readByte
  rw [mem, before, after]

/-- Settles O6: of the effects only that on the module belongs to a command that may not store. -/
theorem othersKeepSdram : Obligations.OthersKeepSdram := by
  unfold Obligations.OthersKeepSdram
  intro i s t never next
  have mem : t.mem = s.mem := by
    have effect := exec_effect i s
    generalize exec i s = o at effect next
    cases effect with
    | module f => cases next; rfl
    | power f mayStores => simp [mayStores] at never
    | clockFail k isClockFail => simp [isClockFail, mayStore, resetsOrPowers] at never
    | store _ mayStores => simp [mayStores] at never
  exact ⟨mem, fun a => readByte_congr mem⟩

/-- Settles O7: a command that resets or powers has a power effect; that of a failed SDRAM clock (R435) begins on SDRAM
that may have been dropped already. -/
theorem resetsKeepOrDropSdram : Obligations.ResetsKeepOrDropSdram := by
  unfold Obligations.ResetsKeepOrDropSdram
  intro i s t resets next
  have effect := exec_effect i s
  generalize exec i s = o at effect next
  cases effect with
  | module _ plain => simp [plain] at resets
  | store _ _ plain => simp [plain] at resets
  | power f =>
    have mem := power_mem next
    refine ⟨fun off => ?_, fun on _ => ?_, ?_⟩
    · rw [mem, off, if_neg Bool.false_ne_true]
    · rw [mem, on, if_pos rfl]
    · rw [mem]
      exact ite_eq_or_eq ..
  | clockFail k isClockFail dropped f =>
    have mem := power_mem next
    refine ⟨fun off => ?_, fun _ other => absurd isClockFail (other k), ?_⟩
    · rw [mem, off, if_neg Bool.false_ne_true]
    · rw [mem]
      cases dropped with
      | true => simp
      | false => exact ite_eq_or_eq ..
end Sys2Proof.Machine
end

section
/-! PROOF. The step (log entries 1 and 13), the state after reset and the receive FIFO. -/

namespace Sys2Proof.Machine

open Sys2Proof

/-- Settles O1. -/
theorem stepRunsFrontCommand : Obligations.StepRunsFrontCommand := by
  unfold Obligations.StepRunsFrontCommand
  intro i l s waiting
  unfold step
  rw [waiting]

/-- With no command waiting a step is a tick. -/
theorem step_of_idle {s : State} (idle : s.pending = []) : step s = s.tick := by
  unfold step
  rw [idle]

/-- Settles O2. -/
theorem idleStepTicks : Obligations.IdleStepTicks := by
  unfold Obligations.IdleStepTicks
  refine ⟨fun s idle alive => ?_, fun s idle off => ?_⟩
  · rw [step_of_idle idle, State.tick, if_pos alive]
    exact power_powers s _
  · rw [step_of_idle idle, State.tick, if_neg (by simp [off])]

/-- Settles O5: every part of the reset state is the Reset entry of its field. -/
theorem resetValues : Obligations.ResetValues := by
  unfold Obligations.ResetValues
  refine ⟨rfl, rfl, rfl, rfl, rfl, rfl, fun l => ?_, rfl, fun r => ⟨rfl, rfl, rfl, rfl, rfl, rfl, rfl⟩,
    fun l => ⟨rfl, rfl, rfl⟩, rfl, rfl⟩
  cases l <;> rfl

theorem write_of_full {x : RxFifo} (full : 512 ≤ x.q.length) (f : CanFrame) (seq : BitVec 32) (sof : Nat) :
    x.write f seq sof = { x with drops := inc32 x.drops, gap := sat16 (x.gap + 1) } := if_pos full

theorem write_of_room {x : RxFifo} (room : x.q.length < 512) (f : CanFrame) (seq : BitVec 32) (sof : Nat) :
    x.write f seq sof = { x with q := x.q ++ [{ words := canWords f x.gap seq sof, seq := seq }], gap := 0 } :=
  if_neg (Nat.not_le.mpr room)

/-- Settles O14, by whether the FIFO has room for one more entry (R331). -/
theorem fullFifoDrops : Obligations.FullFifoDrops := by
  unfold Obligations.FullFifoDrops
  refine ⟨fun x f seq sof full => ?_, fun x f seq sof room => ?_⟩
  · rw [write_of_full full]
    exact ⟨rfl, rfl⟩
  · rw [write_of_room room]
    exact ⟨rfl, _, rfl⟩

end Sys2Proof.Machine
end

section
/-! PROOF. Byte fields and the bytes of SDRAM: the layout of a completion (Table 04-5), and stores read back (R27, R28, R310). -/

namespace Sys2Proof.Machine

open Sys2Proof

/-! ### Fields -/

@[simp] theorem getD_slice (bs : Bytes) (off n k : Nat) (h : k < n) : (slice bs off n).getD k 0 = bs.getD (off + k) 0 := by
  simp [slice, List.getD, List.getElem?_map, List.getElem?_range h]

/-- A field within a slice is the field at that place of the whole. -/
theorem rd_slice (bs : Bytes) (off len i n : Nat) (h : i + n ≤ len) : rd (slice bs off len) i n = rd bs (off + i) n := by
  induction n generalizing i with
  | zero => rfl
  | succ n ih =>
    have first : (slice bs off len).getD i 0 = bs.getD (off + i) 0 := getD_slice bs off len i (by omega)
    simp only [rd, first, ih (i + 1) (by omega), Nat.add_assoc]

/-- A slice behind as many bytes as its offset says, over all that follows. -/
theorem slice_append (p t : Bytes) (off : Nat) (h : p.length = off) : slice (p ++ t) off t.length = t := by
  apply List.ext_getElem (by simp)
  intro k _ hk
  simp [slice, List.getElem?_append_right, ← h, List.getElem?_eq_getElem hk]

/-- A byte beyond the end reads 0. -/
theorem rd_one_of_le {bs : Bytes} {k : Nat} (h : bs.length ≤ k) : rd bs k 1 = 0 := by
  simp [rd, List.getElem?_eq_none h]

/-- Settles O10: each field stands behind the fields before it, and nothing stands behind the reply. -/
theorem completionLayout : Obligations.CompletionLayout := by
  unfold Obligations.CompletionLayout
  intro opcode tag st frame reply opcode_lt tag_lt st_lt frame_lt reply_le
  have length : reply.length < 2 ^ 16 := by omega
  have field2 {v : Nat} (h : v < 2 ^ 16) : v % 256 ^ 2 = v := Nat.mod_eq_of_lt h
  have field8 : frame % 256 ^ 8 = frame := Nat.mod_eq_of_lt frame_lt
  unfold completion
  simp only [List.append_assoc]
  refine ⟨?_, ?_, ?_, ?_, ?_, ?_, fun k beyond => rd_one_of_le ?_⟩
  · rw [rd_le, field2 opcode_lt]
  · rw [rd_le_at _ _ _ _ _ (le_length 2 opcode), field2 tag_lt]
  · rw [← List.append_assoc, rd_le_at _ _ _ _ _ (by simp), field2 st_lt]
  · rw [← List.append_assoc, ← List.append_assoc, rd_le_at _ _ _ _ _ (by simp), field2 length]
  · rw [← List.append_assoc, ← List.append_assoc, ← List.append_assoc, rd_le_at _ _ _ _ _ (by simp), field8]
  · simp only [← List.append_assoc]
    exact slice_append _ reply 16 (by simp)
  · simp only [List.length_append, le_length]
    omega

/-! ### SDRAM -/

/-- SDRAM's bytes after a store come from the bytes before it alone. -/
theorem writeMem_mem_congr {s t : State} (h : s.mem = t.mem) (a : Nat) (bs : Bytes) :
    (s.writeMem a bs).mem = (t.writeMem a bs).mem := by
  induction bs generalizing s t a with
  | nil => exact h
  | cons b bs ih =>
    refine ih ?_ (a + 1)
    unfold State.writeByte
    split
    · simp [h]
    · exact h

/-- A line that is not poisoned is not poisoned by a store (R27). -/
theorem writeMem_poison (s : State) (a : Nat) (bs : Bytes) (l : Nat) (clean : s.m.poison.contains l = false) :
    (s.writeMem a bs).m.poison.contains l = false := by
  induction bs generalizing s a with
  | nil => exact clean
  | cons b bs ih => exact ih (s.writeByte a b) (a + 1) (writeByte_poison s a b l clean)

/-- The line of a byte written in SDRAM is poisoned no more (R27). -/
theorem writeByte_cleans (s : State) (a : Nat) (b : Byte) (sdram : isSdram a = true) :
    (s.writeByte a b).m.poison.contains (a / 64) = false := by
  simp [State.writeByte, sdram, Mod.cleanse]

/-- Every byte of a store that lies in SDRAM reads back. -/
theorem writeMem_same (s : State) (a : Nat) (bs : Bytes) (form : Memory.wf s.mem = true) {k : Nat} (hk : k < bs.length)
    (sdram : isSdram (a + k) = true) : (s.writeMem a bs).readByte (a + k) = bs.getD k 0 := by
  induction bs generalizing s a k with
  | nil => simp at hk
  | cons b bs ih =>
    cases k with
    | zero =>
      have kept := writeMem_other (s.writeByte a b) (a + 1) a bs (by omega) (writeByte_cleans s a b sdram)
      exact kept.trans (writeByte_same s a b form sdram)
    | succ k =>
      have read := ih (s.writeByte a b) (a + 1) (writeByte_wf s a b form) (Nat.lt_of_succ_lt_succ hk)
        (by rwa [Nat.add_assoc, Nat.add_comm 1])
      simpa [State.writeMem, Nat.add_assoc, Nat.add_comm 1] using read

/-- A store that lies in SDRAM as a whole reads back. -/
theorem readMem_writeMem (s : State) (a : Nat) (bs : Bytes) (form : Memory.wf s.mem = true)
    (sdram : ∀ k, k < bs.length → isSdram (a + k) = true) : (s.writeMem a bs).readMem a bs.length = bs := by
  apply List.ext_getElem (by simp [State.readMem])
  intro k _ hk
  simp [State.readMem, writeMem_same s a bs form hk (sdram k hk), List.getElem?_eq_getElem hk]

/-- Settles O19: the store is one `writeMem` of the value's eight bytes. -/
theorem storeReadsBack : Obligations.StoreReadsBack := by
  unfold Obligations.StoreReadsBack
  intro s addr v appOn inside form
  have sdram (k : Nat) (hk : k < (le 8 v.toNat).length) : isSdram (addr + k) = true := by
    rw [le_length] at hk
    simp only [inApp, isSdram, Bool.and_eq_true, decide_eq_true_eq] at inside ⊢
    simp only [appBase, appEnd] at inside
    omega
  refine ⟨State.writeMem { s with m := s.m.wrote } addr (le 8 v.toNat), ?_, ?_, fun a outside clean => ?_⟩
  · show execRegisterWrite addr v s = _
    simp [execRegisterWrite, appOn, inside]
  · have back := readMem_writeMem { s with m := s.m.wrote } addr (le 8 v.toNat) form sdram
    rw [le_length] at back
    have field := rd_le 8 v.toNat []
    rw [List.append_nil] at field
    rw [back, field]
    exact Nat.mod_eq_of_lt v.isLt
  · exact writeMem_other { s with m := s.m.wrote } addr a _ (by rwa [le_length]) clean

/-- Settles O17: the row is one `writeMem` of the tensor behind a change of the module. -/
theorem tensorStore : Obligations.TensorStore := by
  unfold Obligations.TensorStore
  intro s p q written j d part powered runs now notAborted address form
  have ends : ∃ m : Mod, exec (.visJobEnd p written) s
      = .next (State.writeMem { s with m := m } (rd j.cmd.params 16 8) (slice written 0 d.kmp.outBytes)) := by
    suffices h : ∃ m : Mod, execVisJobEnd p written s
        = .next (State.writeMem { s with m := m } (rd j.cmd.params 16 8) (slice written 0 d.kmp.outBytes)) from h
    unfold execVisJobEnd
    rw [if_neg (by simp [powered]; omega), if_neg (by simp [runs]), now]
    refine ⟨_, congrArg Host.Outcome.next (if_pos ⟨?_, address⟩)⟩
    rw [notAborted, if_neg Bool.false_ne_true]
    split <;> decide
  obtain ⟨m, next⟩ := ends
  refine ⟨_, next, writeMem_mem_congr (s := { s with m := m }) (t := s) rfl _ _, fun k hk sdram => ?_, fun a outside before after => ?_⟩
  · exact writeMem_same { s with m := m } _ _ form hk sdram
  · rw [← writeMem_other s _ a _ outside before]
    exact readByte_congr (writeMem_mem_congr (s := { s with m := m }) (t := s) rfl _ _) (writeMem_poison s _ _ _ before) after

/-! ### Routes of the fixed sources (R375) -/

theorem fixedRoute_of {i : Nat} (h : i < 16 ∨ (64 ≤ i ∧ i ≤ 71) ∨ (118 ≤ i ∧ i ≤ 127)) : fixedRoute i = true := by
  simp only [fixedRoute, Bool.or_eq_true, Bool.and_eq_true, decide_eq_true_eq]
  omega

/-- A route that lacks bit 10 or bit 11 does not hold both. -/
theorem land_fixed_ne {r : Nat} (cleared : r.testBit 10 = false ∨ r.testBit 11 = false) : Nat.land r 0xC00 ≠ 0xC00 := by
  intro holds
  have bit (k : Nat) (set : Nat.testBit 0xC00 k = true) : r.testBit k = true := by
    have both : (r &&& 0xC00).testBit k = true := by
      rw [show r &&& 0xC00 = 0xC00 from holds]
      exact set
    rw [Nat.testBit_and, set, Bool.and_true] at both
    exact both
  obtain clear | clear := cleared
  · exact absurd (bit 10 (by decide)) (by simp [clear])
  · exact absurd (bit 11 (by decide)) (by simp [clear])

/-- Settles O15: the body refuses such a record, and the default of a fixed source holds both bits. -/
theorem fixedRoutes : Obligations.FixedRoutes := by
  unfold Obligations.FixedRoutes
  refine ⟨fun c s => ends_of_body rfl (by decide) fun ⟨fixed, cleared⟩ => ?_, fun i fixed => ?_⟩
  · have lacks : Nat.land (rd (slice c.params 0 4) 0 2) 0xC00 ≠ 0xC00 := by
      rw [rd_slice c.params 0 4 0 2 (by decide)]
      exact land_fixed_ne (by simpa using cleared)
    exact if_pos (.inr (.inr (.inr ⟨fixedRoute_of fixed, lacks⟩)))
  · have record : State.reset.m.evtRec i = le 2 0xC00 ++ (le 1 (defaultSev i) ++ [0]) := by
      show evtDefault i = _
      simp [evtDefault, fixedRoute_of fixed]
    rw [record, rd_le]
    decide

end Sys2Proof.Machine
end

section
/-! PROOF. The marks of the rings that wait for completion space (R91), where the table of rings is in no canonical form. -/

namespace Sys2Proof.Machine

open Sys2Proof

/-- A module whose table of rings lists ring 0 twice, each entry with cq_wait set. No write of the model makes such a table
from one in canonical form, but nothing in the statement excludes it. -/
def twiceWaiting : Mod := { port := { rings := [(0, { cqWait := true }), (0, { cqWait := true })] } }

/-- Ring 0 of `twiceWaiting` has no command waiting, so its mark is to be cleared; the cleared ring is the default one, whose
write removes the first entry and uncovers the second. -/
theorem twiceWaiting_marks :
    (twiceWaiting.markWaits.ring 0).cqWait = true ∧ twiceWaiting.ringReady 0 = false := by decide

/-- Refutes O9 by its third clause, which holds of tables of rings in canonical form only: on `twiceWaiting` the mark of
ring 0 stands though the ring has no command waiting. -/
theorem not_completionSpace : ¬ Obligations.CompletionSpace := by
  unfold Obligations.CompletionSpace
  intro ⟨_, _, marks, _⟩
  have mark := marks twiceWaiting 0 (by decide)
  obtain ⟨stands, idle⟩ := twiceWaiting_marks
  rw [stands, idle] at mark
  exact absurd mark (by decide)

end Sys2Proof.Machine
end

section
/-! PROOF. GET_INFO, GET_CONFIG and SET_CONFIG of every class (R98). -/

namespace Sys2Proof.Machine

open Sys2Proof

section
variable {s : State} {opcode : Nat} {o : Op} {c : Cmd} {out : Host.Outcome State Fault Refusal} {cond : Prop} {m : Mod}

/-- A served command that its engine refuses ends with the engine's status and leaves the module as it is. -/
theorem ends_of_err {st : Nat} (hx : out = s.act fun n => n.serve opcode o c) (hst : st ≠ St.accepted)
    (hb : cond → o.body c s.m = Res.err m st) : Ends s opcode o c out cond st m [] :=
  ends_of_body hx hst hb

/-- A served command of which only the final completion will be written stays in flight. -/
theorem waits_of_later (hx : out = s.act fun n => n.serve opcode o c) (hb : cond → o.body c s.m = Res.later m) :
    Waits s opcode o c out cond m [] :=
  waits_of_body hx hb

/-- A served command that is not frame-stamped and ends at once: its completion names no frame. -/
theorem becomes_of_final {st : Nat} {reply : Bytes} (hx : out = s.act fun n => n.serve opcode o c) (plain : o.stamped c = false)
    (hst : st ≠ St.accepted) (served : Served s opcode o c) (hb : o.body c s.m = { st := some st, reply := reply, m := m }) :
    Becomes out s (m.complete opcode c st reply 0).settle := by
  rw [Becomes, hx, State.act, serve_of_served served, hb, answer_final _ _ plain hst]

end

/-- Settles O20: each GET_INFO is `opInfo` of its class. -/
theorem infoCommandsAnswer : Obligations.InfoCommandsAnswer := by
  unfold Obligations.InfoCommandsAnswer
  and_intros
  all_goals exact fun c s => does_of_body rfl fun _ => rfl

/-- GET_CONFIG of SAFE answers the record in force, or the staged one, with its two check values (R216). -/
theorem opSafeGetConfig_body {c : Cmd} {m : Mod} {r : Bytes} (which : rd c.params 0 1 ≤ 1) (rsvd : isZero c.params 1 3 = true)
    (record : (if rd c.params 0 1 = 0 then m.safe.rcd else m.safe.staged) = some r) :
    opSafeGetConfig.body c m = Res.ok m (r ++ le 4 (crcSp r) ++ le 4 (crcJack r)) := by
  simp only [opSafeGetConfig, record]
  exact if_neg (by simp [rsvd]; omega)

/-- Settles O21: but for SAFE, whose reply depends on the record asked for, each body is its record. -/
theorem configurationReads : Obligations.ConfigurationReads := by
  unfold Obligations.ConfigurationReads
  refine ⟨?_, ?_, ?_, ?_, ?_, ?_,
    fun c s r => does_of_body rfl fun ⟨which, rsvd, record⟩ => opSafeGetConfig_body which rsvd record,
    ?_, ?_, ?_, ?_, ?_, ?_, ?_, ?_, ?_, ?_, ?_, ?_, ?_, ?_, ?_, ?_, ?_⟩
  all_goals exact fun c s => does_of_body rfl fun _ => rfl

/-- A record of a loop whose destination no other loop has, put to a loop that is OFF (R124). -/
theorem opLoopSetConfig_body {c : Cmd} {m : Mod} (sound : loopRecordOk (slice c.params 0 120) = true)
    (off : (m.loopCh c.inst.toNat).mode = .off)
    (own : ∀ k, destKey (slice c.params 0 120) = some k → ∀ j < 64, j ≠ c.inst.toNat → destKey (m.loopRec j) ≠ some k) :
    opLoopSetConfig.body c m = Res.ok ((m.setCfg 0x0403 c.inst.toNat (slice c.params 0 120)).markSet 1) := by
  refine (if_neg ?_).trans (if_neg fun ⟨_, on⟩ => on off)
  cases dest : destKey (slice c.params 0 120) with
  | none => simp [sound]
  | some k =>
    have unnamed := own k dest
    simpa [sound] using unnamed

/-- A record of a link that is OFF: no link is powered over coax by it at once. -/
theorem opClnkSetConfig_body {c : Cmd} {m : Mod} (kind : rd (slice c.params 0 4) 0 1 ≤ 1) (poc : rd (slice c.params 0 4) 1 1 ≤ 1)
    (rsvd : isZero (slice c.params 0 4) 2 2 = true) (off : (m.link c.inst.toNat).st = .off) :
    opClnkSetConfig.body c m = Res.ok ((m.setCfg 0x0C03 c.inst.toNat (slice c.params 0 4)).markSet 0) := by
  have stays : (((m.setCfg 0x0C03 c.inst.toNat (slice c.params 0 4)).markSet 0).link c.inst.toNat).st = .off := off
  refine (if_neg ?_).trans (congrArg (Res.ok ·) (if_neg ?_))
  · simp [rsvd]
    omega
  · simp [stays]

/-- A record of the recorder that keeps the burst leaves the tokens as they are (R393). -/
theorem opLogSetConfig_body {c : Cmd} {m : Mod} (rsvd : isZero (slice c.params 0 4) 1 1 = true)
    (rate : inRange (rd (slice c.params 0 4) 2 2) 1 3600 = true) (same : rd m.logRec 0 1 = rd (slice c.params 0 4) 0 1)
    (burst : inRange (rd m.logRec 0 1) 1 64 = true) :
    opLogSetConfig.body c m = Res.ok ((m.setCfg 0x1103 0 (slice c.params 0 4)).markSet 0) := by
  have inBounds := same ▸ burst
  simp [opLogSetConfig, rsvd, rate, same, inBounds]

/-- Settles O22: each record passes the checks of its table, and the body puts it into force. -/
theorem configurationWrites : Obligations.ConfigurationWrites := by
  unfold Obligations.ConfigurationWrites
  refine ⟨fun c s => does_of_body rfl fun ok => ?_,
    fun c s => does_of_body rfl fun ⟨sound, off, own⟩ => opLoopSetConfig_body sound off own,
    fun c s => does_of_body rfl fun ⟨sound, plain, off, mode⟩ => ?_, fun c s => does_of_body rfl fun ok => ?_,
    fun c s => does_of_body rfl fun ok => ?_, fun c s => does_of_body rfl fun ok => ?_,
    fun c s => does_of_body rfl fun ok => ?_, fun c s => does_of_body rfl fun ok => if_pos ok,
    fun c s => does_of_body rfl fun ⟨kind, poc, rsvd, off⟩ => opClnkSetConfig_body kind poc rsvd off,
    fun c s => does_of_body rfl fun ok => ?_, fun c s => does_of_body rfl fun ok => ?_,
    fun c s => does_of_body rfl fun ok => ?_, fun c s => does_of_body rfl fun ok => ?_,
    fun c s => does_of_body rfl fun ⟨rsvd, rate, same, burst⟩ => opLogSetConfig_body rsvd rate same burst,
    fun c s => does_of_body rfl fun ok => ?_, fun c s => does_of_body rfl fun ok => ?_,
    fun c s => ends_of_err rfl (by decide) fun ok => ?_⟩
  · simp [opLaneSetConfig, ok]
  · simp [opDrvSetConfig, sound, Nat.not_le.mpr plain, off, mode]
  · simp [opSafeSetConfig, ok]
  · simp [opCanSetConfig, ok]
  · simp [opEthSetConfig, ok]
  · simp [opGnssSetConfig, ok]
  · simp [opPipeSetConfig, ok]
  · simp [opVisSetConfig, ok]
  · simp [opSegSetConfig, ok]
  · simp [opEvtSetConfig, ok]
  · simp [opPwrSetConfig, ok]
  · simp [opInpSetConfig, ok]
  · simp [opInpSetConfig, ok]

end Sys2Proof.Machine
end

section
/-! PROOF. The SYS and TIME commands (chapters 02 and 04). -/

namespace Sys2Proof.Machine

open Sys2Proof

/-! ### Fences and barriers (R100) -/

@[simp] theorem cntBefore_self (i : BitVec 32) : cntBefore i i = false := by simp [cntBefore]

/-- What a FENCE or BARRIER that is last in flight waits for is done where, on each ring it names, the count it names has
been taken and no command is in flight or stamped. -/
theorem fenceDone_last {m : Mod} {f : Flight} (taken : ∀ w ∈ f.waits, cntBefore (m.ring w.1).sqHead w.2 = false)
    (flight : ∀ w ∈ f.waits, ∀ g ∈ m.port.flight, g.cmd.ring ≠ w.1)
    (stamped : ∀ w ∈ f.waits, ∀ q ∈ m.port.laneQ, q.cmd.ring ≠ w.1) :
    (m.fly f).fenceDone m.port.flight.length f = true := by
  have flying : (m.fly f).port.flight = m.port.flight ++ [f] := rfl
  have queued : (m.fly f).port.laneQ = m.port.laneQ := rfl
  unfold Mod.fenceDone
  rw [flying, queued, List.all_eq_true]
  intro w hw
  have ring : (m.fly f).ring w.1 = m.ring w.1 := rfl
  have before : (m.port.flight.all fun g => g.cmd.ring != w.1) = true :=
    List.all_eq_true.mpr fun g hg => bne_iff_ne.mpr (flight w hw g hg)
  have waiting : (m.port.laneQ.all fun q => q.cmd.ring != w.1 || !cntBefore q.idx w.2) = true :=
    List.all_eq_true.mpr fun q hq => by simp [stamped w hw q hq]
  simp [ring, taken w hw, before, waiting]

/-- A fence in flight that waits for nothing completes at once. -/
theorem settle_of_waits {s : State} {opcode : Nat} {c : Cmd} {waits : List (Nat × BitVec 32)}
    (fence : (flightOf s opcode c waits).isFence = true) (none : ∀ g ∈ s.m.port.flight, g.isFence = false)
    (done : (s.m.fly (flightOf s opcode c waits)).fenceDone s.m.port.flight.length (flightOf s opcode c waits) = true) :
    (s.m.fly (flightOf s opcode c waits)).settle = s.m.complete opcode c St.ok [] 0 :=
  settle_fence s.m (flightOf s opcode c waits) fence rfl (List.all_eq_true.mpr fun g hg => by simp [none g hg]) done

/-- The rings a BARRIER names and its own, each with the count it waits for (0x0111). -/
def barrierWaits (c : Cmd) (m : Mod) : List (Nat × BitVec 32) :=
  ((List.range 16).filter fun r => (Nat.lor (rd c.params 0 2) (2 ^ c.ring)).testBit r).map fun r =>
    (r, if r = c.ring then (m.ring r).sqHead else (m.ring r).sqTail)

theorem opBarrier_body {c : Cmd} {m : Mod} (rsvd : isZero c.params 2 2 = true) :
    opBarrier.body c m = { st := none, waits := barrierWaits c m, m := m } := by
  simp [opBarrier, barrierWaits, rsvd]

theorem mem_barrierWaits {c : Cmd} {m : Mod} {w : Nat × BitVec 32} (h : w ∈ barrierWaits c m) :
    w.1 < 16 ∧ (Nat.lor (rd c.params 0 2) (2 ^ c.ring)).testBit w.1 = true
      ∧ w.2 = if w.1 = c.ring then (m.ring w.1).sqHead else (m.ring w.1).sqTail := by
  obtain ⟨r, hr, rfl⟩ := List.mem_map.mp h
  obtain ⟨lt, named⟩ := List.mem_filter.mp hr
  exact ⟨List.mem_range.mp lt, named, rfl⟩

/-! ### Snapshots (R105) -/

/-- A SNAPSHOT without at_time is served like any frame-stamped command. -/
theorem exec_snapshot_of_now {c : Cmd} (s : State) (now : rd c.params 1 1 = 0) :
    exec (.snapshot c) s = s.act fun n => n.serve 0x0112 opSnapshot c := by
  show (s.act fun n => n.serveSnapshot c) = _
  congr 1
  funext n
  exact if_pos (by simp [now])

theorem opSnapshotRead_body {c : Cmd} {m : Mod} {x : Snapshot} (free : m.port.snapHeld c.ring = false)
    (stands : m.port.snap = some x) (lo : 1 ≤ rd c.params 4 2) (hi : rd c.params 4 2 ≤ 232) (rsvd : isZero c.params 6 2 = true)
    (inside : rd c.params 0 4 + rd c.params 4 2 ≤ x.image.length) (reads : m.port.snapReads < 64) :
    opSnapshotRead.body c m = Res.ok { m with port := { m.port with snapReads := m.port.snapReads + 1 } }
      (le 4 (rd c.params 0 4) ++ le 2 (rd c.params 4 2) ++ zeros 2 ++ slice x.image (rd c.params 0 4) (rd c.params 4 2)) := by
  have answer : m.snapAnswer c = (St.ok,
      le 4 (rd c.params 0 4) ++ le 2 (rd c.params 4 2) ++ zeros 2 ++ slice x.image (rd c.params 0 4) (rd c.params 4 2), true) := by
    simp [Mod.snapAnswer, stands, Nat.not_lt.mpr inside]
  have given : ¬(rd c.params 4 2 = 0 ∨ 232 < rd c.params 4 2 ∨ (!isZero c.params 6 2) = true) := by
    simp [rsvd]
    omega
  refine (if_neg given).trans ?_
  simp [free, answer, Nat.not_le.mpr reads]

theorem opSnapshotRelease_body {c : Cmd} {m : Mod} (free : m.port.snapHeld c.ring = false) (stands : m.port.snap ≠ none) :
    opSnapshotRelease.body c m = Res.ok { m with port := { m.port with snap := none } } := by
  obtain ⟨x, hx⟩ := Option.ne_none_iff_exists'.mp stands
  simp [opSnapshotRelease, free, hx]

/-- Settles O23. -/
theorem systemCommands : Obligations.SystemCommands := by
  unfold Obligations.SystemCommands
  refine ⟨fun c s => waits_of_body rfl fun _ => rfl, fun c s => waits_of_body rfl opBarrier_body, fun c s served cond => ?_,
    fun c s x => does_of_body rfl fun ⟨free, stands, lo, hi, rsvd, inside, reads⟩ =>
      opSnapshotRead_body free stands lo hi rsvd inside reads,
    fun c s => does_of_body rfl fun ⟨free, stands⟩ => opSnapshotRelease_body free stands,
    fun c s => ends_of_err rfl (by decide) fun closed => ?_, fun c s served rsvd => ⟨fun onCurve => ?_, fun offCurve => ?_⟩,
    fun c s served opened => ⟨fun proven => ?_, fun unproven => ?_⟩,
    fun c s served flight stamped => ?_, fun c s served rsvd flight stamped taken => ?_⟩
  · obtain ⟨params, now, noSnap, noWait⟩ := cond
    refine waits_of_later (exec_snapshot_of_now s now) (fun _ => ?_) served trivial
    simp [opSnapshot, params, noSnap, noWait]
  · simp [opSessionProve, closed]
  · refine becomes_of_final rfl rfl (by decide) served ?_
    exact if_neg (by simp [rsvd, onCurve])
  · refine becomes_of_final rfl rfl (by decide) served ?_
    exact if_pos (by simp [offCurve])
  · refine becomes_of_final rfl rfl (by decide) served ?_
    rw [Bool.and_eq_true] at proven
    simp only [opSessionProve, opened, proven]
    rfl
  · refine becomes_of_final rfl rfl (by decide) served ?_
    have test : (!s.m.nvs.creds.contains (BitVec.ofNat 64 (rd c.params 0 8)) || !Config.credVerify (BitVec.ofNat 64 (rd c.params 0 8))
        (s.m.ring c.ring).session.transcript (slice c.params 8 96)) = true := by
      rw [← Bool.not_and, unproven]
      rfl
    exact (if_neg (by simp [opened])).trans (if_pos test)
  · simp only [List.all_eq_true, Bool.and_eq_true, Bool.not_eq_true', bne_iff_ne] at flight stamped
    have waits : Waits s 0x0110 opFence c (exec (.fence c) s) True s.m [(c.ring, (s.m.ring c.ring).sqHead)] :=
      waits_of_body rfl fun _ => rfl
    rw [Becomes, waits served trivial, settle_of_waits rfl (fun g hg => (flight g hg).1)]
    refine fenceDone_last (fun w hw => ?_) (fun w hw g hg => ?_) (fun w hw q hq => ?_)
    all_goals obtain rfl := List.mem_singleton.mp hw
    · exact cntBefore_self _
    · exact (flight g hg).2
    · exact stamped q hq
  · simp only [List.all_eq_true, Bool.and_eq_true, Bool.not_eq_true'] at flight stamped
    have waits : Waits s 0x0111 opBarrier c (exec (.barrier c) s) (isZero c.params 2 2 = true) s.m (barrierWaits c s.m) :=
      waits_of_body rfl opBarrier_body
    rw [Becomes, waits served rsvd, settle_of_waits rfl (fun g hg => (flight g hg).1)]
    refine fenceDone_last (fun w hw => ?_) (fun w hw g hg same => ?_) (fun w hw q hq same => ?_)
    all_goals obtain ⟨lt, named, count⟩ := mem_barrierWaits hw
    · rw [count]
      split
      · exact cntBefore_self _
      · rename_i other
        rw [taken w.1 lt other named]
        exact cntBefore_self _
    · have unnamed := (flight g hg).2
      rw [same, named] at unnamed
      cases unnamed
    · have unnamed := stamped q hq
      rw [same, named] at unnamed
      cases unnamed

/-! ### TIME (chapter 02) -/

theorem opSetPps_body {c : Cmd} {m : Mod} {r : Bytes} (hr : r = slice c.params 0 16) (b0 : rd r 0 1 ≤ 1) (b1 : rd r 1 1 ≤ 2)
    (lo : 1 ≤ rd r 2 2) (hi : rd r 2 2 ≤ 500) (b4 : rd r 4 1 ≤ 1) (b5 : rd r 5 1 ≤ 1) (step : rdI r 6 1 = 0)
    (rsvd : isZero r 7 1 = true) : opSetPps.body c m = Res.ok { m with time := { m.time with nextPps := some r } } := by
  subst hr
  refine if_neg ?_
  simp [step, rsvd]
  omega

/-- A correction of the rate alone: it names no time, and is pending till its raw count (R36). -/
theorem opScheduleCorrection_body {c : Cmd} {m : Mod} (rateOnly : rd c.params 8 1 = 2) (rsvd : isZero c.params 9 7 = true)
    (free : m.freeRun = true) (idle : m.time.pending = none) (ahead : m.now + 1250 ≤ rd c.params 0 8)
    (room : (m.time.recs.filter fun r => m.now < r.c0 + secs 3600).length < 8192) :
    opScheduleCorrection.body c m = Res.accepted { m with time := { m.time with
      pending := some { rcd := { c0 := rd c.params 0 8, t0 := 0, rate := rdI c.params 28 4 }, time := false, slew := 0,
                        keepRate := false, cmd := true } } } := by
  have noTime : Nat.testBit 2 0 = false := by decide
  have rate : Nat.testBit 2 1 = true := by decide
  simp only [opScheduleCorrection, rateOnly, noTime, rate, Bool.false_eq_true, if_false]
  refine (if_neg (by simp [rsvd])).trans ((if_neg (by simp [free])).trans ((if_neg (by simp [idle])).trans
    ((if_neg (Nat.not_lt.mpr ahead)).trans (if_neg (Nat.not_le.mpr room)))))

/-- Settles O24. -/
theorem timeCommands : Obligations.TimeCommands := by
  unfold Obligations.TimeCommands
  refine ⟨fun c s => does_of_body rfl fun _ => rfl, fun c s => does_of_body rfl fun ⟨lo, hi, order⟩ => ?_,
    fun c s => does_of_body rfl fun ⟨b0, b1, lo, hi, b4, b5, step, rsvd⟩ => opSetPps_body rfl b0 b1 lo hi b4 b5 step rsvd,
    fun c s => starts_of_body rfl fun ⟨rateOnly, rsvd, free, idle, ahead, room⟩ =>
      opScheduleCorrection_body rateOnly rsvd free idle ahead room,
    fun c s v => does_of_body rfl fun ⟨time, started, early⟩ => ?_⟩
  · refine if_neg ?_
    rw [order]
    simp
    omega
  · simp [opFrameAtTime, time, started, Nat.not_lt.mpr early]

end Sys2Proof.Machine
end

section
/-! PROOF. The LANE, LOOP, DRV, INP and SAFE commands (chapters 03 and 05 to 08). -/

namespace Sys2Proof.Machine

open Sys2Proof

/-! ### LANE (chapter 03) -/

/-- A HOLD_FRAMES that gets its frame is queued for it and sets its span of frames aside (R103, 0x0113). -/
theorem serveHold_of_stamped {m : Mod} {c : Cmd} {n : Nat} (takes : m.takes c.ring = true)
    (check : m.portCheck 0x0113 opHoldFrames c = none) (frame : m.stampFrame 0x0113 c = .inl n)
    (free : m.holdCheck c n = none) (room : m.port.laneQ.length < 512) :
    m.serveHold c = { m with
      lanes := { m.lanes with holds := m.lanes.holds ++ [(n, n + rd c.params 0 1 - 1)] }
      port := { m.port with laneQ := m.port.laneQ ++
        [{ cmd := c, opcode := 0x0113, frame := n, idx := (m.ring c.ring).sqHead - 1, mark := m.laneMark 0x0113 c }] } } := by
  simp [Mod.serveHold, takes, check, Mod.stamp, frame, free, Mod.enqueue, Nat.not_le.mpr room, Mod.addHold, holdSpan]

/-- Settles O25. -/
theorem laneCommands : Obligations.LaneCommands := by
  unfold Obligations.LaneCommands
  refine ⟨fun c s => does_of_body rfl fun ok => ?_, fun c s => waits_of_later rfl fun ok => ?_,
    fun c s => ends_of_err rfl (by decide) fun ⟨method, instant, rsvd, standby⟩ => ?_,
    fun c s => does_of_body rfl fun ⟨simplex, rsvd, idle, active⟩ => ?_,
    fun c s => does_of_body rfl fun _ => rfl, fun c s => does_of_body rfl fun _ => rfl,
    fun c s n takes check frame free room => becomes_of (f := fun n => n.serveHold c) rfl (serveHold_of_stamped takes check frame free room)⟩
  · simp [opForceTakeover, ok]
  · simp [opForceTakeover, ok]
  · exact (if_neg (by simp [rsvd]; omega)).trans (if_pos (by simp [standby]))
  · simp [opSetRedundancy, simplex, rsvd, idle, Mod.simplexOn, active]

/-! ### LOOP (chapter 05) -/

/-- A fold whose every step keeps the value keeps it. -/
theorem foldN_eq_self {β : Type} {n : Nat} {f : β → Nat → β} {b : β} (h : ∀ k < n, f b k = b) : foldN n f b = b := by
  unfold foldN
  have stays (l : List Nat) (inside : ∀ k ∈ l, k < n) : l.foldl f b = b := by
    induction l with
    | nil => rfl
    | cons k l ih =>
      rw [List.foldl_cons, h k (inside k List.mem_cons_self)]
      exact ih fun j hj => inside j (List.mem_cons_of_mem k hj)
  exact stays _ fun k hk => List.mem_range.mp hk

/-- A set that no loop uses, and no loop in AUTO: the coefficients alone change (R122). -/
theorem opWriteCoeff_body {c : Cmd} {m : Mod} {new : List F32} (values : new = (List.range 22).map fun k => rdF c.params (4 + 4 * k))
    (set : rd c.params 0 2 ≤ 1023) (rsvd : isZero c.params 2 2 = true) (finite : new.all S.isFin = true)
    (apart : m.blendSide (rd c.params 0 2) = false) (unused : m.setInUse (rd c.params 0 2) = false)
    (noAuto : ∀ i < 64, (m.loopCh i).mode ≠ .auto) (some0 : new.all (· == 0) = false) :
    opWriteCoeff.body c m = Res.ok (Mod.markSet { m with coeff := Tab.put [] m.coeff (rd c.params 0 2) new } 1) := by
  have given : ¬(1023 < rd c.params 0 2 ∨ (!isZero c.params 2 2) = true ∨ (!new.all S.isFin) = true) := by
    rw [rsvd, finite]
    simp only [Bool.not_true, Bool.false_eq_true, or_false]
    omega
  simp only [opWriteCoeff, ← values]
  refine (if_neg given).trans ((if_neg (by simp [apart])).trans ?_)
  rw [foldN_eq_self fun i hi => if_neg fun ⟨auto, _⟩ => noAuto i hi auto]
  rw [some0, if_neg Bool.false_ne_true]
  simp [unused]

/-- The first breakpoints of a vector that is not yet whole are staged (0x0412). -/
theorem opSetBreakpoints_body {c : Cmd} {m : Mod} {new : List F32} (values : new = (List.range (rd c.params 3 1)).map fun k => rdF c.params (8 + 4 * k))
    (first : rd c.params 0 1 = 0) (more : rd c.params 1 1 = 0) (start : rd c.params 2 1 = 0) (count : rd c.params 3 1 ≤ 56)
    (rsvd : isZero c.params 5 3 = true) (finite : new.all S.isFin = true) :
    opSetBreakpoints.body c m = Res.ok (m.setLoop c.inst.toNat { m.loopCh c.inst.toNat with stage1 := new }) := by
  have short : ¬56 < rd c.params 3 1 := Nat.not_lt.mpr count
  have shorter : ¬63 < rd c.params 3 1 := by omega
  simp only [opSetBreakpoints, ← values, finite]
  simp [first, more, start, short, shorter, rsvd]

theorem opWriteSchedule_body {c : Cmd} {m : Mod} (lo : 1 ≤ rd c.params 2 2) (hi : rd c.params 2 2 ≤ 112)
    (inside : rd c.params 0 2 + rd c.params 2 2 ≤ 16384)
    (sound : ((List.range (rd c.params 2 2)).any fun k => rd c.params (4 + 2 * k) 2 / 1024 % 4 == 3) = false) :
    opWriteSchedule.body c m = Res.ok (Mod.markSet { m with sched := foldN (rd c.params 2 2) (fun t k =>
      Tab.put 0 t (rd c.params 0 2 + k) (BitVec.ofNat 16 (rd c.params (4 + 2 * k) 2))) m.sched } 1) := by
  refine if_neg ?_
  rw [sound]
  simp only [Bool.false_eq_true, or_false]
  omega

/-- Settles O26. -/
theorem loopCommands : Obligations.LoopCommands := by
  unfold Obligations.LoopCommands
  refine ⟨fun c s => does_of_body rfl fun ok => ?_, fun c s => does_of_body rfl fun _ => rfl,
    fun c s => does_of_body rfl fun _ => rfl,
    fun c s => does_of_body rfl fun ⟨lo, hi, rsvd, finite, on⟩ => ?_,
    fun c s => does_of_body rfl fun ok => ?_,
    fun c s => does_of_body rfl fun ⟨first, more, start, count, rsvd, finite⟩ =>
      opSetBreakpoints_body rfl first more start count rsvd finite,
    fun c s => does_of_body rfl fun ⟨lo, hi, inside, sound⟩ => opWriteSchedule_body lo hi inside sound,
    fun c s => does_of_body rfl fun ⟨set, rsvd, finite, apart, unused, noAuto, some0⟩ =>
      opWriteCoeff_body rfl set rsvd finite apart unused noAuto some0,
    fun c s => does_of_body rfl fun ⟨what, var, lo, hi, inside, rsvd⟩ => ?_, fun c s => does_of_body rfl fun ok => ?_⟩
  · simp [opLoopEnable, ok]
  · exact (if_neg (by simp [rsvd, finite]; omega)).trans (if_neg on)
  · have second : Nat.testBit 1 1 = false := rfl
    simp [opSetSetpoint, ok, second]
  · have given : ¬(rd c.params 1 1 ≠ 0 ∨ rd c.params 4 2 = 0 ∨ 112 < rd c.params 4 2 ∨ 16384 < rd c.params 2 2 + rd c.params 4 2) := by
      omega
    simp only [opReadTable, rsvd, what]
    exact if_neg given
  · simp [opReadTable, ok]

/-! ### DRV (chapter 06) -/

/-- An order to a peak-and-hold output that commands own, enabled and without a latched fault (0x0511, 0x0512). -/
theorem phOrder_of_ready {b : Nat} {c : Cmd} {m : Mod} (instant : rd c.params 0 1 ≤ 249) (rsvd : isZero c.params 1 3 = true)
    (kind : rd (m.drvRec c.inst.toNat) 0 1 = 3) (own : m.drvOwner c.inst.toNat = none)
    (sound : (m.drvCh c.inst.toNat).latched = false) (on : (m.drvCh c.inst.toNat).en = true) :
    phOrder b c m = Res.ok ((m.setDrv c.inst.toNat
      { m.drvCh c.inst.toNat with fireReq := w32 (rd c.params 0 1 * 65536 + 2 ^ b) }).relatch c.inst.toNat) := by
  simp [phOrder, Nat.not_lt.mpr instant, rsvd, kind, own, sound, on]

/-- Settles O27. -/
theorem driverCommands : Obligations.DriverCommands := by
  unfold Obligations.DriverCommands
  refine ⟨fun c s => does_of_body rfl fun ⟨lo, hi, sound⟩ => ?_, fun c s => does_of_body rfl fun ok => ?_,
    fun c s => ends_of_err rfl (by decide) fun ok => ?_, fun c s => does_of_body rfl fun _ => rfl,
    fun c s => does_of_body rfl fun lt => by simp [opDrvResetInstance, lt],
    fun c s => does_of_body rfl fun ⟨rsvd, hi, own, sound, on⟩ => ?_,
    fun c s => ends_of_err rfl (by decide) fun ⟨rsvd, hi, owned⟩ => ?_, fun c s => does_of_body rfl fun _ => rfl,
    fun c s => does_of_body rfl fun ⟨instant, rsvd, kind, own, sound, on⟩ => phOrder_of_ready instant rsvd kind own sound on,
    fun c s => does_of_body rfl fun ⟨instant, rsvd, kind, own, sound, on⟩ => phOrder_of_ready instant rsvd kind own sound on⟩
  · simp [opDrvEnable, Nat.not_lt.mpr lo, hi, sound]
  · simp [opDrvEnable, ok]
  · simp [opDrvEnable, ok]
  · simp [opSetOutput, rsvd, Nat.not_lt.mpr hi, own, sound, on]
  · exact (if_neg (by simp [rsvd])).trans (if_pos (Option.isSome_iff_ne_none.mpr owned))

/-! ### INP and SAFE (chapters 07 and 08) -/

/-- Settles O28. -/
theorem inputCommands : Obligations.InputCommands := by
  unfold Obligations.InputCommands
  refine ⟨fun c s => does_of_body rfl fun _ => rfl, fun c s => does_of_body rfl fun _ => rfl,
    fun c s => does_of_body rfl fun ok => ?_, fun c s => does_of_body rfl fun ok => ?_,
    fun c s => does_of_body rfl fun ⟨lo, hi, inside⟩ => if_neg (by omega), fun c s => does_of_body rfl fun _ => rfl⟩
  · simp [opBindSlot, ok]
  · simp [opReadSlot, ok]

/-- Settles O29. -/
theorem safetyCommands : Obligations.SafetyCommands := by
  unfold Obligations.SafetyCommands
  refine ⟨fun c s => starts_of_body rfl fun ok => ?_, fun c s => ends_of_err rfl (by decide) fun ok => ?_,
    fun c s r => does_of_body rfl fun ok => ?_, fun c s => ends_of_err rfl (by decide) fun none => ?_⟩
  · simp [opServiceMode, ok]
  · simp [opServiceMode, ok]
  · simp [opConfirmParams, ok]
  · simp [opConfirmParams, none]

end Sys2Proof.Machine
end

section
/-! PROOF. The CAN, ETH and GNSS commands (chapters 09, 14 and 15). -/

namespace Sys2Proof.Machine

open Sys2Proof

/-! ### CAN (chapter 14) -/

/-- An RX_READ of 1 to 8 entries takes those that fit and opens the FIFO again (R328). -/
theorem opRxRead_body {c : Cmd} {m : Mod} {x : CanCh} {es : List RxEntry} (lo : 1 ≤ rd c.params 0 1) (hi : rd c.params 0 1 ≤ 8)
    (rsvd : isZero c.params 1 3 = true) (channel : x = m.canCh c.inst.toNat) (taken : es = takeEntries (rd c.params 0 1) 232 x.app.q) :
    opRxRead.body c m = Res.ok
      (m.setCan c.inst.toNat { x with app := { x.app with q := x.app.q.drop es.length, drops := 0, locked := false }.opened })
      (le 1 es.length ++ le 1 0 ++ le 2 (x.app.q.drop es.length).length ++ le 4 x.app.drops
        ++ es.flatMap fun e => e.words.flatMap fun w => le 4 w.toNat) := by
  subst channel taken
  exact if_neg (by simp [rsvd]; omega)

/-- A classical frame without confirmation is put in the transmit FIFO (0x0811). -/
theorem opTransmit_body {c : Cmd} {m : Mod} {y : CanCh} {e : TxEntry} (id : rd c.params 0 4 < 2 ^ 31) (flags : rd c.params 4 1 = 0)
    (rsvd : isZero c.params 6 2 = true) (len : canLenOk (rd c.params 5 1) false = true) (on : (m.canCh c.inst.toNat).st ≠ 0)
    (app : rd (m.canRec c.inst.toNat) 0 1 ≠ 1)
    (entry : e = ⟨canFrameOf (rd c.params 0 4) 0 (slice c.params 8 (rd c.params 5 1)), true, none, 0⟩)
    (room : (m.canCh c.inst.toNat).enqueue e = some y) : opTransmit.body c m = Res.ok (m.setCan c.inst.toNat y) := by
  have small : ¬2147483648 ≤ rd c.params 0 4 := Nat.not_le.mpr id
  simp [opTransmit, small, flags, rsvd, len, on, app, ← entry, room]

theorem opSetLanePdu_body {c : Cmd} {m : Mod} {r : Bytes} (record : r = slice c.params 0 16) (pdu : rd r 0 1 ≤ 31) (ch : rd r 1 1 ≤ 7)
    (flags : rd r 2 1 = 0) (len : canLenOk (rd r 3 1) false = true) (id : rd r 4 4 < 2 ^ 31)
    (period : inRange (rd r 8 2) 1 4000 = true) (phase : rd r 10 2 < rd r 8 2) (rsvd : isZero r 13 3 = true) :
    opSetLanePdu.body c m = Res.ok ((m.setCfg 0x0815 (rd r 0 1) r).markSet 0) := by
  subst record
  exact if_neg (by simp [flags, len, period, rsvd]; omega)

theorem opSetSignal_body {c : Cmd} {m : Mod} {r : Bytes} (record : r = slice c.params 0 20) (pdu : rd r 1 1 ≤ 31) (start : rd r 2 2 ≤ 511)
    (len : inRange (rd r 4 1) 1 32 = true) (order : rd r 5 1 ≤ 1) (kind : rd r 6 1 ≤ 1) (rsvd : isZero r 7 1 = true)
    (scale : S.isFin (rdF r 8) = true) (offset : S.isFin (rdF r 12) = true) (nonzero : S.scaled (rdF r 8) ≠ 0)
    (fits : m.sigFits r = true) : opSetSignal.body c m = Res.ok ((m.setCfg 0x0816 (rd r 0 1) r).markSet 0) := by
  subst record
  exact if_neg (by simp [len, rsvd, scale, offset, nonzero, fits]; omega)

/-- Settles O30. -/
theorem canCommands : Obligations.CanCommands := by
  unfold Obligations.CanCommands
  refine ⟨fun c s => does_of_body rfl fun _ => rfl, fun c s => does_of_body rfl fun _ => rfl,
    fun c s => does_of_body rfl fun ⟨lo, hi, rsvd⟩ => opRxRead_body lo hi rsvd rfl rfl,
    fun c s y => does_of_body rfl fun ⟨id, flags, rsvd, len, on, app, room⟩ => opTransmit_body id flags rsvd len on app rfl room,
    fun c s => ends_of_err rfl (by decide) fun ⟨scope, rsvd, off⟩ => ?_,
    fun c s => does_of_body rfl fun ⟨scope, rsvd, on, empty⟩ => ?_, fun c s => does_of_body rfl fun busOff => ?_,
    fun c s => ends_of_err rfl (by decide) fun busOn => ?_, fun c s => does_of_body rfl fun ok => ?_,
    fun c s => does_of_body rfl fun ⟨pdu, ch, flags, len, id, period, phase, rsvd⟩ =>
      opSetLanePdu_body rfl pdu ch flags len id period phase rsvd,
    fun c s => does_of_body rfl fun ⟨pdu, start, len, order, kind, rsvd, scale, offset, nonzero, fits⟩ =>
      opSetSignal_body rfl pdu start len order kind rsvd scale offset nonzero fits,
    fun c s => does_of_body rfl fun _ => rfl⟩
  · simp [opCanAbort, Nat.not_lt.mpr scope, rsvd, off]
  · simp [opCanAbort, scope, rsvd, on, empty]
    rfl
  · simp [opRecover, busOff]
  · simp [opRecover, busOn]
  · simp [opResume, ok]

/-! ### ETH (chapter 15) -/

theorem opSetVlan_body {c : Cmd} {m : Mod} {p : Bytes} (record : p = slice c.params 0 8) (lo : 1 ≤ rd p 0 2) (hi : rd p 0 2 ≤ 4094)
    (member : 1 ≤ rd p 2 1) (ports : rd p 2 1 ≤ 0x7F) (untagged : rd p 3 1 ≤ 0x7F) (rsvd : isZero p 4 4 = true) (room : m.vlans < 256) :
    opSetVlan.body c m = Res.ok ((m.setCfg 0x0911 (rd p 0 2) p).markSet 0) := by
  subst record
  refine (if_neg ?_).trans ((if_neg (by omega)).trans (if_neg (by omega)))
  simp [inRange, rsvd]
  omega

/-- The rings of the host port while the switch is off (0x0912). -/
theorem opHostRings_body {c : Cmd} {m : Mod} {p : Bytes} (record : p = slice c.params 0 24) (tx : rd p 0 8 % 64 = 0)
    (txCount : ringCount (rd p 16 2) = true) (txIn : inApp (rd p 0 8) (64 * rd p 16 2) = true) (rx : rd p 8 8 % 64 = 0)
    (rxCount : ringCount (rd p 18 2) = true) (rxIn : inApp (rd p 8 8) (64 * rd p 18 2) = true) (rsvd : isZero p 20 4 = true)
    (off : m.eth.switchOn = false) :
    opHostRings.body c m = Res.ok { m with eth := { m.eth with rings := some p, txNext := 0, rxNext := 0 } } := by
  subst record
  simp only [opHostRings, tx, txCount, txIn, rx, rxCount, rxIn, rsvd, off]
  rfl

/-- The gates of a list that is not yet whole are staged (0x0910). -/
theorem opSetGcl_body {c : Cmd} {m : Mod} {x : EthPort} {stage : Tab (Option (BitVec 8 × Nat))} (port : x = (m.eport c.inst.toNat).settled m.now) (more : rd c.params 0 1 = 0)
    (count : rd c.params 2 1 ≤ 27) (inside : rd c.params 1 1 + rd c.params 2 1 ≤ 256) (rsvd3 : isZero c.params 3 1 = true)
    (rsvd6 : isZero c.params 6 2 = true)
    (gates : ((List.range (rd c.params 2 1)).all fun i => inRange (rd c.params (24 + 8 * i + 4) 4) 64 1000000000
      && rd c.params (24 + 8 * i + 4) 4 % 8 == 0 && isZero c.params (24 + 8 * i + 1) 3) = true)
    (start : (parse96 c.params 12).isSome = true)
    (staged : stage = foldN (rd c.params 2 1) (fun (t : Tab (Option (BitVec 8 × Nat))) i => Tab.put none t (rd c.params 1 1 + i)
      (some (BitVec.ofNat 8 (rd c.params (24 + 8 * i) 1), rd c.params (24 + 8 * i + 4) 4))) x.stage) :
    opSetGcl.body c m = Res.ok (m.setEport c.inst.toNat { x with stage := stage }) := by
  subst port staged
  refine (if_neg ?_).trans (if_pos more)
  rw [rsvd3, rsvd6, gates, Option.isNone_eq_false_iff.mpr start]
  simp only [Bool.not_true, Bool.false_eq_true, or_false]
  omega

/-- A served command that is not frame-stamped and ends with OK leaves the module with that completion. -/
theorem serve_of_ok {s : State} {opcode : Nat} {o : Op} {c : Cmd} {m : Mod} {reply : Bytes} (plain : o.stamped c = false)
    (served : Served s opcode o c) (body : o.body c s.m = Res.ok m reply) :
    s.m.serve opcode o c = (m.complete opcode c St.ok reply 0).settle := by
  rw [serve_of_served served, body]
  exact congrArg Mod.settle (answer_final _ _ plain (st := St.ok) (by decide))

/-- Settles O31. -/
theorem ethernetCommands : Obligations.EthernetCommands := by
  unfold Obligations.EthernetCommands
  refine ⟨fun c s => does_of_body rfl fun _ => rfl,
    fun c s => does_of_body rfl fun ⟨lo, hi, member, ports, untagged, rsvd, room⟩ =>
      opSetVlan_body rfl lo hi member ports untagged rsvd room,
    fun c s => does_of_body rfl fun ⟨tx, txCount, txIn, rx, rxCount, rxIn, rsvd, off⟩ =>
      opHostRings_body rfl tx txCount txIn rx rxCount rxIn rsvd off,
    fun c s => does_of_body rfl fun ⟨more, count, inside, rsvd3, rsvd6, gates, start⟩ =>
      opSetGcl_body rfl more count inside rsvd3 rsvd6 gates start rfl,
    fun c s served => ?_, fun c s served gptp => ?_⟩
  · rw [← serve_of_ok rfl served rfl]
    rfl
  · have body : opEthResetInstance.body c s.m = Res.ok ((s.m.ethStop 7).restore 0 0x0903 7) := by
      simp [opEthResetInstance, gptp]
    rw [← serve_of_ok rfl served body]
    rfl

/-! ### GNSS (chapter 09) -/

/-- Settles O32. -/
theorem gnssCommands : Obligations.GnssCommands := by
  unfold Obligations.GnssCommands
  refine ⟨fun c s => does_of_body rfl fun _ => rfl, fun c s => does_of_body rfl fun _ => rfl,
    fun c s => does_of_body rfl fun fine => ?_, fun c s => does_of_body rfl fun ⟨count, rsvd, from', room⟩ => ?_,
    fun c s => ends_of_err rfl (by decide) fun ⟨count, rsvd, notFrom⟩ => ?_,
    fun c s => does_of_body rfl fun ok => ?_, fun c s => does_of_body rfl fun ⟨kind, rsvd⟩ => ?_⟩
  · simp only [opGnssResetInstance, fine]
    rfl
  · simp [opSendRtcm, count, rsvd, from', Nat.not_lt.mpr room]
  · simp [opSendRtcm, count, rsvd, notFrom]
  · simp [opGetSats, ok]
  · simp [opGnssRestart, Nat.not_lt.mpr kind, rsvd]

end Sys2Proof.Machine
end

section
/-! PROOF. The FUSE, CLNK and PIPE commands (chapters 10 to 12). -/

namespace Sys2Proof.Machine

open Sys2Proof

/-! ### FUSE (chapter 10) -/

theorem opWriteTransform_body {c : Cmd} {m : Mod} {r : Bytes} (record : r = slice c.params 0 36) (index : rd r 0 1 ≤ 63)
    (rsvd1 : isZero r 1 3 = true) (finite : ((List.range 3).all fun j => S.isFin (rdF r (4 + 4 * j))) = true)
    (norm : normOk r 16 = true) (flag : rd r 32 1 ≤ 1) (rsvd33 : isZero r 33 3 = true) :
    opWriteTransform.body c m = Res.ok ((m.setCfg 0x0B10 (rd r 0 1) (normalised r)).markSet 1) := by
  subst record
  refine if_neg ?_
  rw [rsvd1, finite, norm, rsvd33]
  simp only [Bool.not_true, Bool.false_eq_true, or_false, false_or]
  omega

/-- One sample for a source of kind 4 that is not enabled (0x0B12). -/
theorem opPushSample_body_disabled {c : Cmd} {m : Mod} (one : rd c.params 0 1 = 1) (rsvd : isZero c.params 1 7 = true)
    (kind : rd (m.srcOf c.inst.toNat) 0 1 = 4) (finite : (D.isFin (pushed c.params 0).v0 && D.isFin (pushed c.params 0).v1
      && S.isFin (pushed c.params 0).v2 && S.isFin (pushed c.params 0).sd) = true) (off : (m.fsrc c.inst.toNat).enabled = false) :
    opPushSample.body c m = Res.err m St.notReady := by
  simp only [Bool.and_eq_true, and_assoc] at finite
  simp [opPushSample, one, rsvd, kind, finite, off]

/-- One sample for an enabled source of kind 4 that takes it (0x0B12). -/
theorem opPushSample_body_accepted {c : Cmd} {m : Mod} (one : rd c.params 0 1 = 1) (rsvd : isZero c.params 1 7 = true)
    (kind : rd (m.srcOf c.inst.toNat) 0 1 = 4) (finite : (D.isFin (pushed c.params 0).v0 && D.isFin (pushed c.params 0).v1
      && S.isFin (pushed c.params 0).v2 && S.isFin (pushed c.params 0).sd) = true) (on : (m.fsrc c.inst.toNat).enabled = true)
    (taken : (m.fuseDue.takeSample c.inst.toNat (pushed c.params 0)).2 = .accepted) :
    opPushSample.body c m = Res.ok (m.fuseDue.takeSample c.inst.toNat (pushed c.params 0)).1
      (le 1 1 ++ le 1 0 ++ le 1 0 ++ le 1 0) := by
  simp only [Bool.and_eq_true, and_assoc] at finite
  simp [opPushSample, one, rsvd, kind, finite, on, taken]

theorem opPathLoad_body {c : Cmd} {m : Mod} (lo : 1 ≤ rd c.params 2 2) (hi : rd c.params 2 2 ≤ 29) (first : rd c.params 0 2 ≤ 4095)
    (inside : rd c.params 0 2 + rd c.params 2 2 ≤ 4096) (rsvd : isZero c.params 4 4 = true)
    (vertices : ((List.range (rd c.params 2 2)).all fun k =>
      vertexOk (rdF c.params (8 + 8 * k)) && vertexOk (rdF c.params (12 + 8 * k))) = true) :
    opPathLoad.body c m = Res.ok { m with fuse := { m.fuse with
      staging := foldN (rd c.params 2 2) (fun t k =>
        Tab.put (0, 0) t (rd c.params 0 2 + k) (rdF c.params (8 + 8 * k), rdF c.params (12 + 8 * k))) m.fuse.staging
      staged := foldN (rd c.params 2 2) (fun t k => Tab.put false t (rd c.params 0 2 + k) true) m.fuse.staged } } := by
  refine if_neg ?_
  rw [rsvd, vertices]
  simp only [Bool.not_true, Bool.false_eq_true, or_false]
  omega

/-- Settles O33. -/
theorem fusionCommands : Obligations.FusionCommands := by
  unfold Obligations.FusionCommands
  refine ⟨fun c s => does_of_body rfl fun _ => rfl, fun c s => does_of_body rfl fun _ => rfl,
    fun c s => does_of_body rfl fun source => ?_,
    fun c s => does_of_body rfl fun ⟨index, rsvd1, finite, norm, flag, rsvd33⟩ =>
      opWriteTransform_body rfl index rsvd1 finite norm flag rsvd33,
    fun c s => does_of_body rfl fun _ => rfl,
    fun c s => ends_of_err rfl (by decide) fun ⟨one, rsvd, kind, finite, off⟩ => opPushSample_body_disabled one rsvd kind finite off,
    fun c s => does_of_body rfl fun ⟨one, rsvd, kind, finite, on, taken⟩ => opPushSample_body_accepted one rsvd kind finite on taken,
    fun c s => does_of_body rfl fun ⟨lo, hi, first, inside, rsvd, vertices⟩ => opPathLoad_body lo hi first inside rsvd vertices,
    fun c s => does_of_body rfl fun ⟨index, rsvd⟩ => ?_,
    fun c s => does_of_body rfl fun ⟨id, count, rsvd, finite, staged, apart⟩ => if_neg ?_⟩
  · have not32 : c.inst.toNat ≠ 32 := by omega
    have not33 : c.inst.toNat ≠ 33 := by omega
    simp [opFuseResetInstance, not32, not33]
  · simp [opReadTransform, Nat.not_lt.mpr index, rsvd]
  · rw [count, rsvd, finite, staged]
    simp only [Bool.not_true, Bool.false_eq_true, false_or]
    rintro (zero | same)
    · omega
    · exact Bool.false_ne_true (apart.symm.trans same)

/-! ### CLNK (chapter 11) -/

/-- A transfer on the link's own bus is queued as a back-channel message (0x0C12). -/
theorem opI2cXfer_body {c : Cmd} {m : Mod} {x : Link} (link : x = m.link c.inst.toNat) (bus : rd c.params 0 1 = 0xFF)
    (addr : rd c.params 1 1 ≤ 127) (lo : 1 ≤ rd c.params 2 1) (hi : rd c.params 2 1 ≤ 16) (back : rd c.params 3 1 ≤ 16) :
    opI2cXfer.body c m = if x.st ≠ .up then Res.err m St.notReady
      else Res.accepted (m.setLink c.inst.toNat { x with
        seq := x.seq + 1
        queue := x.queue ++ [{
          typ := 0x10, seq := x.seq, slot := 0xFF, cmd := some c
          payload := le 1 0xFF ++ le 1 (rd c.params 1 1) ++ le 1 (rd c.params 2 1) ++ le 1 (rd c.params 3 1)
            ++ slice c.params 4 (rd c.params 2 1) }] }) := by
  subst link
  simp only [opI2cXfer, bus]
  exact if_neg (by simp; omega)

/-- The fields of a slot that its place in SDRAM and its pictures' layout follow from. -/
def slotShape (r : Bytes) : Bytes := slice r 2 1 ++ [BitVec.ofNat 8 (b2n (slotSpill r))] ++ slice r 4 6

/-- A sound record of a slot that keeps its shape, or of a slot that is off and finds its place (0x0C10). -/
theorem opSetSlot_body {c : Cmd} {m new w : Mod} {r old : Bytes} {n : Nat} (record : r = slice c.params 0 32) (slot : n = rd r 0 1)
    (before : old = m.slotRec n) (put : new = (m.setCfg 0x0C10 n r).markSet 0) (sound : slotRecOk r = true)
    (inst : n / 4 = c.inst.toNat) (fits : new.slotsFit = true) (admitted : new.admitted = true) (iso : new.isoFits = true)
    (keeps : slotOn old = true → slotShape old = slotShape r)
    (place : slotShape old = slotShape r ∧ new = w ∨ slotShape old ≠ slotShape r ∧ new.placeSlot n = some w) :
    opSetSlot.body c m = Res.ok (w.slotSet n old) := by
  subst record slot before put
  have free : ¬(slotOn (m.slotRec (rd (slice c.params 0 32) 0 1)) = true
      ∧ slotShape (m.slotRec (rd (slice c.params 0 32) 0 1)) ≠ slotShape (slice c.params 0 32)) := fun ⟨on, differs⟩ => differs (keeps on)
  refine (if_neg (by simp [sound, inst])).trans ((if_neg free).trans ((if_neg (by simp [fits, admitted, iso])).trans ?_))
  obtain ⟨same, rfl⟩ | ⟨differs, found⟩ := place
  · rw [slotShape, slotShape] at same
    rw [if_pos same]
  · rw [slotShape, slotShape] at differs
    rw [if_neg differs, found]

/-- An edge of a slot whose mode is 2 at a time far enough ahead and apart from its other edges (0x0C11). -/
theorem opFsyncAt_body {c : Cmd} {m : Mod} {v : Int} {x : SlotRx} {e : Nat} (time : parse96 c.params 4 = some v)
    (slot : x = m.rx (rd c.params 0 1)) (edge : e = m.time.nearest v) (index : rd c.params 0 1 ≤ 11)
    (inst : rd c.params 0 1 / 4 = c.inst.toNat) (rsvd : isZero c.params 1 3 = true) (mode : rd x.rcd 12 1 = 2)
    (up : (m.link c.inst.toNat).st = .up) (ahead : m.now + us 250 ≤ e)
    (apart : (x.edges.any fun o => decide (e ≤ o + us (rd x.rcd 22 2)) && decide (o ≤ e + us (rd x.rcd 22 2))) = false)
    (apartLast : (x.lastEdge.any fun q => decide (e ≤ q.1 + us (rd x.rcd 22 2)) && decide (q.1 ≤ e + us (rd x.rcd 22 2))) = false) :
    opFsyncAt.body c m = Res.ok (m.setRx (rd c.params 0 1) { x with edges := (x.edges.filter (· < e)) ++ [e] ++ x.edges.filter (e < ·) })
      (le 8 e) := by
  subst slot edge
  have given : ¬(11 < rd c.params 0 1 ∨ rd c.params 0 1 / 4 ≠ c.inst.toNat ∨ (!isZero c.params 1 3) = true
      ∨ rd (m.rx (rd c.params 0 1)).rcd 12 1 = 0) := by
    simp [mode, rsvd, inst]
    omega
  simp only [opFsyncAt, time]
  refine (if_neg given).trans ((if_neg fun down => down up).trans ((if_neg (by omega)).trans
    ((if_neg (Nat.not_lt.mpr ahead)).trans (if_neg ?_))))
  rw [apart]
  cases last : (m.rx (rd c.params 0 1)).lastEdge with
  | none => exact Bool.false_ne_true
  | some q => simpa [last] using apartLast

/-- Settles O34. -/
theorem cameraLinkCommands : Obligations.CameraLinkCommands := by
  unfold Obligations.CameraLinkCommands
  refine ⟨fun c s => does_of_body rfl fun _ => rfl, fun c s => does_of_body rfl fun _ => rfl,
    fun c s => starts_of_body rfl fun ⟨bus, addr, lo, hi, back, up⟩ =>
      (opI2cXfer_body rfl bus addr lo hi back).trans (if_neg fun down => down up),
    fun c s => ends_of_err rfl (by decide) fun ⟨bus, addr, lo, hi, back, down⟩ =>
      (opI2cXfer_body rfl bus addr lo hi back).trans (if_pos down),
    fun c s => does_of_body rfl fun ⟨index, inst, rsvd⟩ => ?_,
    fun c s served unlatched => becomes_of_final rfl rfl (by decide) served ?_,
    fun c s => does_of_body rfl fun ⟨sound, inst, fits, admitted, iso, same⟩ =>
      opSetSlot_body rfl rfl rfl rfl sound inst fits admitted iso (fun _ => same) (.inl ⟨same, rfl⟩),
    fun c s w => does_of_body rfl fun ⟨sound, inst, fits, admitted, iso, differs, off, place⟩ =>
      opSetSlot_body rfl rfl rfl rfl sound inst fits admitted iso (fun on => absurd on (by simp [off]))
        (.inr ⟨differs, place⟩),
    fun c s v => does_of_body rfl fun ⟨time, index, inst, rsvd, mode, up, ahead, apart, apartLast⟩ =>
      opFsyncAt_body time rfl rfl index inst rsvd mode up ahead apart apartLast⟩
  · simp [opClnkGetSlotStatus, Nat.not_lt.mpr index, inst, rsvd]
  · simp only [opClnkResetInstance, decide_eq_false unlatched]
    rfl

/-! ### PIPE (chapter 12) -/

/-- A context is put into force where its record is sound and the pipes admit it and have a place for it (0x0D10). -/
theorem opSetContext_body {c : Cmd} {m new w : Mod} {p : Bytes} (record : p = slice c.params 0 84)
    (put : new = Mod.activate ((m.setCfg 0x0D10 (rd p 0 1) p).markSet 0)) (index : rd p 0 1 ≤ 15) (rsvd : isZero p 1 3 = true)
    (sound : ctxRecOk (p.drop 4) (m.slotRec (rd (p.drop 4) 0 1)) = true) (admitted : new.admitted = true)
    (place : new.placeCtx (rd p 0 1) = some w) : opSetContext.body c m = Res.ok w := by
  subst record
  simp only [opSetContext, ← put, rsvd, sound, admitted, place, Nat.not_lt.mpr index]
  rfl

/-- Settles O35. -/
theorem pipeCommands : Obligations.PipeCommands := by
  unfold Obligations.PipeCommands
  refine ⟨fun c s => does_of_body rfl fun _ => rfl, fun c s => does_of_body rfl fun off => ?_,
    fun c s => does_of_body rfl fun ⟨on, idle⟩ => ?_, fun c s => starts_of_body rfl fun ⟨off, untested⟩ => ?_,
    fun c s w => does_of_body rfl fun ⟨index, rsvd, sound, admitted, place⟩ => opSetContext_body rfl rfl index rsvd sound admitted place,
    fun c s => does_of_body rfl fun ⟨slot, index, rsvd, bound, admitted, iso⟩ => (if_neg ?_).trans (if_neg ?_),
    fun c s => does_of_body rfl fun ⟨index, tab, lo, hi, inside, rsvd⟩ => if_neg ?_,
    fun c s => does_of_body rfl fun ⟨index, rsvd, unused⟩ => ?_, fun c s => does_of_body rfl fun ⟨slot, rsvd, off⟩ => ?_⟩
  · simp [opPipeDisable, off]
  · simp only [opPipeDisable, on, idle]
    rfl
  · simp [opPipeResetInstance, off, untested]
  · rw [rsvd, bound]
    simp only [Bool.not_true, Bool.false_eq_true, or_false]
    omega
  · rw [admitted, iso]
    decide
  · rw [rsvd]
    simp only [Bool.not_true, Bool.false_eq_true, or_false]
    omega
  · simp [opGetContext, Nat.not_lt.mpr index, rsvd, unused]
  · simp [opPipeGetSlotStatus, Nat.not_lt.mpr slot, rsvd, off]

end Sys2Proof.Machine
end

section
/-! PROOF. The encoder, VIS, SEG, EVT and LOG commands (chapters 13 and 16 to 18). -/

namespace Sys2Proof.Machine

open Sys2Proof

/-! ### The encoder (chapter 13) -/

/-- A start whose parameters are sound, for a slot whose context feeds the encoder in that format and whose pictures it can
take (0x0D20), goes on to the stream. -/
theorem opEncStart_sound {p r rcd : Bytes} (params : encParamsOk p = true) (bound : rcd.isEmpty = false) (feeds : outOn rcd 1 = true)
    (format : rd rcd 74 1 = rd p 2 1) (wide : inRange (slotW r) 64 8440 = true) (high : inRange (slotH r) 64 8440 = true)
    (wide8 : slotW r % 8 = 0) (high8 : slotH r % 8 = 0) (area : slotW r * slotH r ≤ 8912896) :
    ¬((!encParamsOk p) = true ∨ rcd.isEmpty = true ∨ (!outOn rcd 1) = true ∨ rd rcd 74 1 ≠ rd p 2 1
      ∨ (!inRange (slotW r) 64 8440) = true ∨ (!inRange (slotH r) 64 8440) = true ∨ slotW r % 8 ≠ 0 ∨ slotH r % 8 ≠ 0
      ∨ 8912896 < slotW r * slotH r) := by
  simp [params, bound, feeds, format, wide, high, wide8, high8, area]

/-- The parameters of a stream after ENC_SET_RATE: the peak rate is not below the target rate (0x0D24). -/
theorem opEncSetRate_body {c : Cmd} {m : Mod} {e : EncStream} (stream : e = m.enc (rd c.params 0 1)) (index : rd c.params 0 1 ≤ 3)
    (rsvd : isZero c.params 1 3 = true) (rate : inRange (rd c.params 4 4) 100 100000 = true) (on : e.running = true)
    (peak : rd c.params 4 4 ≤ rd c.params 8 4) :
    opEncSetRate.body c m = Res.ok (m.setEnc (rd c.params 0 1) { e with params := patch e.params 8 (slice c.params 4 8) }) := by
  subst stream
  refine (if_neg ?_).trans ((if_neg (by simp [on])).trans (if_neg fun low => Nat.not_lt.mpr peak low.2))
  rw [rsvd, rate]
  simp only [Bool.not_true, Bool.false_eq_true, or_false]
  omega

/-- Settles O36. -/
theorem encoderCommands : Obligations.EncoderCommands := by
  unfold Obligations.EncoderCommands
  refine ⟨fun c s => ends_of_err rfl (by decide) fun ⟨params, bound, feeds, format, wide, high, wide8, high8, area, running⟩ =>
      (if_neg (opEncStart_sound params bound feeds format wide high wide8 high8 area)).trans (if_pos running),
    fun c s w level => does_of_body rfl fun ⟨params, bound, feeds, format, wide, high, wide8, high8, area, idle, fits, put, load, iso⟩ =>
      (if_neg (opEncStart_sound params bound feeds format wide high wide8 high8 area)).trans ((if_neg (by simp [idle])).trans ?_),
    fun c s => does_of_body rfl fun ⟨index, rsvd, on, unheld⟩ => ?_,
    fun c s => ends_of_err rfl (by decide) fun ⟨index, rsvd, off⟩ => ?_,
    fun c s => does_of_body rfl fun ⟨index, rsvd, on⟩ => ?_,
    fun c s => does_of_body rfl fun ⟨index, rsvd, rate, on, peak⟩ => opEncSetRate_body rfl index rsvd rate on peak,
    fun c s => does_of_body rfl fun _ => rfl⟩
  · simp only [fits, put]
    exact if_neg (by simp [iso, load])
  · simp [opEncStop, Nat.not_lt.mpr index, rsvd, on, unheld]
  · simp [opEncStop, Nat.not_lt.mpr index, rsvd, off]
  · simp [opEncForceIdr, Nat.not_lt.mpr index, rsvd, on]

/-! ### VIS (chapter 13) -/

/-- A model that no queue names is on its way out at once (0x0E11). -/
theorem opModelUnload_body {c : Cmd} {m : Mod} {x : Part} (part : x = m.part c.inst.toNat) (rsvd : isZero c.params 2 2 = true)
    (on : x.st = 1) (loaded : (x.model (rd c.params 0 2)).isSome = true) (idle : x.queue = []) :
    opModelUnload.body c m = Res.ok ((m.setPart c.inst.toNat { x with
      queue := []
      models := x.models.map fun d => if d.handle = rd c.params 0 2 then { d with leaving := true } else d }).visSweep c.inst.toNat) := by
  subst part
  refine (if_neg (by simp [rsvd])).trans ((if_neg fun off => off on).trans ((if_neg (by simp [Option.isSome_iff_ne_none.mp loaded])).trans ?_))
  rw [idle]
  rfl

/-- A job on a picture that stands is queued behind the running one (0x0E12). -/
theorem opSubmit_body {c : Cmd} {m n : Mod} {x : Part} {d : Model} {ctx : Nat} {i : Nat × Nat × Nat} {js : List VisJob} {j : VisJob}
    (part : x = m.part c.inst.toNat) (before : js = Tab.get [] x.queue (rd c.params 2 1)) (prio : rd c.params 2 1 ≤ 3)
    (slot : rd c.params 3 1 ≤ 11) (map : visMapOk c.params = true) (unaddressed : rd c.params 16 8 = 0) (on : x.st = 1)
    (model : x.model (rd c.params 0 2) = some d) (stays : d.leaving = false) (bound : (m.ps (rd c.params 3 1)).ctx = some ctx)
    (feeds : outOn (m.ps (rd c.params 3 1)).rcd 2 = true) (room : js.length < 32)
    (input : m.visInput (rd c.params 3 1) (rd c.params 4 4) = some i) (busy : x.running ≠ none)
    (job : j = { cmd := c, picture := i.2.1, timeRaw := i.2.2, buf := i.1, inArray := m.bufInArray (i.1 / 32) 2 })
    (put : n = m.setPart c.inst.toNat { x with queue := Tab.put [] x.queue (rd c.params 2 1) (js ++ [j]) })
    (fits : n.partUsed c.inst.toNat ≤ partBytes) : opSubmit.body c m = Res.accepted n := by
  subst part before
  have second : ¬(d.leaving = true ∨ rd c.params 16 8 ≠ 0 ∧ rd c.params 12 4 < d.kmp.outBytes) := by
    simp [stays, unaddressed]
  have third : (m.part c.inst.toNat).running.isNone = false :=
    Option.isNone_eq_false_iff.mpr (Option.isSome_iff_ne_none.mpr busy)
  simp only [opSubmit, model, bound, feeds, input, Bool.true_or, if_true]
  refine (if_neg ?_).trans ((if_neg fun off => off on).trans ((if_neg second).trans ((if_neg (Nat.not_le.mpr room)).trans ?_)))
  · rw [map, unaddressed]
    simp
    omega
  · rw [third, ← job, ← put]
    exact if_neg (Nat.not_lt.mpr fits)

/-- Settles O37. -/
theorem visionCommands : Obligations.VisionCommands := by
  unfold Obligations.VisionCommands
  refine ⟨fun c s => does_of_body rfl fun _ => rfl, fun c s => does_of_body rfl fun on => ?_,
    fun c s => does_of_body rfl fun sound => ?_,
    fun c s => starts_of_body rfl fun ⟨lo, hi, inside, rsvd, on, room⟩ => ?_,
    fun c s => does_of_body rfl fun ⟨rsvd, on, loaded, idle⟩ => opModelUnload_body rfl rsvd on loaded idle,
    fun c s => ends_of_err rfl (by decide) fun ⟨prio, slot, map, unaddressed, off⟩ => ?_,
    fun c s => ends_of_err rfl (by decide) fun off => ?_,
    fun c s d ctx i => starts_of_body rfl fun ⟨prio, slot, map, unaddressed, on, model, stays, bound, feeds, room, input, busy, fits⟩ =>
      opSubmit_body rfl rfl prio slot map unaddressed on model stays bound feeds room input busy rfl rfl fits,
    fun c s q js j => does_of_body rfl fun ⟨on, queue, jobs, job, other⟩ => ?_⟩
  · simp [opVisDisable, on]
  · simp [opVisResetInstance, sound]
  · refine (if_neg ?_).trans ((if_neg fun off => off on).trans (if_neg (Nat.not_le.mpr room)))
    rw [inside, rsvd]
    simp only [Bool.not_true, Bool.false_eq_true, or_false]
    omega
  · simp [opSubmit, Nat.not_lt.mpr prio, Nat.not_lt.mpr slot, map, unaddressed, off]
  · simp [opCancel, off]
  · simp [opCancel, on, queue, jobs, job, other]

/-! ### SEG, EVT and LOG (chapters 16 to 18) -/

/-- Settles O38. -/
theorem displayCommands : Obligations.DisplayCommands := by
  unfold Obligations.DisplayCommands
  refine ⟨fun c s => does_of_body rfl fun _ => rfl, fun c s => does_of_body rfl fun _ => rfl, fun c s => does_of_body rfl fun _ => rfl,
    fun c s => does_of_body rfl fun ⟨lo, hi, rsvd, rows⟩ => if_neg ?_, fun c s => does_of_body rfl fun ⟨src, rsvd⟩ => ?_,
    fun c s => does_of_body rfl fun ⟨lo, hi, first, inside⟩ => if_neg (by omega), fun c s => does_of_body rfl fun _ => rfl,
    fun c s => does_of_body rfl fun ⟨src, rsvd⟩ => ?_⟩
  · rw [rsvd, rows]
    simp only [Bool.not_true, Bool.false_eq_true, or_false]
    omega
  · simp [opSetStartImage, Nat.not_lt.mpr src, rsvd]
  · simp [opReadImage, Nat.not_lt.mpr src, rsvd]

/-- Settles O39: but for the two halves of the route table each body is its effect. -/
theorem eventCommands : Obligations.EventCommands := by
  unfold Obligations.EventCommands
  refine ⟨fun c s => does_of_body rfl fun _ => rfl, fun c s => does_of_body rfl fun _ => rfl, fun c s => does_of_body rfl fun _ => rfl,
    fun c s => does_of_body rfl fun _ => rfl, fun c s => does_of_body rfl fun ⟨half, rsvd⟩ => if_neg ?_⟩
  rw [rsvd]
  simp only [Bool.not_true, Bool.false_eq_true, or_false]
  omega

/-- Settles O40. -/
theorem recorderCommands : Obligations.RecorderCommands := by
  unfold Obligations.RecorderCommands
  refine ⟨fun c s => does_of_body rfl fun _ => rfl, fun c s => does_of_body rfl fun ⟨area, max, sev, rsvd3, rsvd10, empty⟩ => ?_,
    fun c s => does_of_body rfl fun ⟨sev, rsvd, placed⟩ => ?_⟩
  · simp [opLogRead, area, max, Nat.not_lt.mpr sev, rsvd3, rsvd10, empty]
  · simp [opLogClear, Nat.not_lt.mpr sev, rsvd, placed]

end Sys2Proof.Machine
end

section
/-! PROOF. The NVS, UPD and PWR commands (chapters 19 and 20). -/

namespace Sys2Proof.Machine

open Sys2Proof

/-! ### NVS (chapter 19) -/

/-- A part of the identity set is read (0x1211). -/
theorem opReadSet_body {c : Cmd} {m : Mod} (lo : 1 ≤ rd c.params 4 2) (hi : rd c.params 4 2 ≤ 224) (current : rd c.params 6 1 = 0)
    (rsvd : isZero c.params 7 1 = true) (identity : c.inst.toNat = 6)
    (inside : rd c.params 0 4 + rd c.params 4 2 ≤ m.nvs.identity.length) :
    opReadSet.body c m = Res.ok m (le 4 (rd c.params 0 4) ++ le 2 (rd c.params 4 2) ++ zeros 2 ++ le 4 (m.nvSet 6).top ++ zeros 4
      ++ slice m.nvs.identity (rd c.params 0 4) (rd c.params 4 2)) := by
  have given : ¬(rd c.params 4 2 = 0 ∨ 224 < rd c.params 4 2 ∨ 1 < 0 ∨ (!true) = true ∨ (0 = 1 ∧ 6 ≠ 4)
      ∨ m.nvs.identity.length < rd c.params 0 4 + rd c.params 4 2) := by
    simp
    omega
  simp only [opReadSet, current, rsvd, identity]
  exact if_neg given

/-- An ADOPT that may go on, on a whole bundle (R423): the signature is checked, then whether another activity runs. -/
theorem opAdopt_body {c : Cmd} {m : Mod} {b : Bytes} {sets : List (Nat × List NvEntry)} (bundle : b = m.nvs.bundle.take (rd c.params 0 4))
    (may : m.safe.standstill = true ∨ m.safe.st = .noParams) (rsvd : isZero c.params 4 4 = true)
    (whole : rd c.params 0 4 ≤ m.nvs.bundle.length) (parsed : bundleSets b = some sets) :
    opAdopt.body c m =
      if rd b 8 4 ≠ m.nvs.lineage.toNat ∨ !m.nvs.creds.contains (BitVec.ofNat 64 (rd b 36 8))
          ∨ !Config.credVerify (BitVec.ofNat 64 (rd b 36 8)) (b.take (rd c.params 0 4 - 96)) (b.drop (rd c.params 0 4 - 96)) then
        Res.err m St.denied
      else if m.upd.act.isSome || m.nvs.busySet.isSome || m.nvs.adopting.isSome then Res.err m St.notReady
      else Res.accepted { m with nvs := { m.nvs with adopting := some (adoptionOf c b sets) } } := by
  subst bundle
  refine (if_neg (by simp [rsvd])).trans ((if_neg ?_).trans ((if_neg (Nat.not_lt.mpr whole)).trans ?_))
  · rintro ⟨moving, params⟩
    exact may.elim (fun still => by simp [still] at moving) params
  · rw [parsed]

/-- A bundle of this lineage that a known credential signed is adopted unless another activity runs (R423). -/
theorem opAdopt_body_signed {c : Cmd} {m : Mod} {b : Bytes} {sets : List (Nat × List NvEntry)} (bundle : b = m.nvs.bundle.take (rd c.params 0 4))
    (may : m.safe.standstill = true ∨ m.safe.st = .noParams) (rsvd : isZero c.params 4 4 = true)
    (whole : rd c.params 0 4 ≤ m.nvs.bundle.length) (parsed : bundleSets b = some sets) (lineage : rd b 8 4 = m.nvs.lineage.toNat)
    (known : m.nvs.creds.contains (BitVec.ofNat 64 (rd b 36 8)) = true)
    (signed : Config.credVerify (BitVec.ofNat 64 (rd b 36 8)) (b.take (rd c.params 0 4 - 96)) (b.drop (rd c.params 0 4 - 96)) = true) :
    opAdopt.body c m =
      if m.upd.act.isSome || m.nvs.busySet.isSome || m.nvs.adopting.isSome then Res.err m St.notReady
      else Res.accepted { m with nvs := { m.nvs with adopting := some (adoptionOf c b sets) } } := by
  refine (opAdopt_body bundle may rsvd whole parsed).trans (if_neg ?_)
  rw [known, signed]
  simp [lineage]

/-- A served command that is not frame-stamped and starts: its ACCEPTED completion names no frame. -/
theorem becomes_of_accepted {s : State} {opcode : Nat} {o : Op} {c : Cmd} {out : Host.Outcome State Fault Refusal} {m : Mod}
    (hx : out = s.act fun n => n.serve opcode o c) (plain : o.stamped c = false) (served : Served s opcode o c)
    (hb : o.body c s.m = Res.accepted m) :
    Becomes out s ((m.fly (flightOf s opcode c [])).complete opcode c St.accepted [] 0).settle := by
  have starts := starts_of_body (cond := True) hx (fun _ => hb) served trivial
  rwa [plain] at starts

/-- Settles O41. -/
theorem storeCommands : Obligations.StoreCommands := by
  unfold Obligations.StoreCommands
  refine ⟨fun c s => starts_of_body rfl fun ok => ?_, fun c s => starts_of_body rfl fun ok => ?_,
    fun c s => ends_of_err rfl (by decide) fun identity => if_pos identity,
    fun c s => does_of_body rfl fun ⟨lo, hi, current, rsvd, identity, inside⟩ => opReadSet_body lo hi current rsvd identity inside,
    fun c s => does_of_body rfl fun ⟨lo, hi, first, inside, rsvd⟩ => if_neg (by rw [rsvd]; simp; omega),
    fun c s => does_of_body rfl fun ⟨lo, hi, rsvd, start⟩ => ?_,
    fun c s => ends_of_err rfl (by decide) fun ⟨rsvd, moving, params⟩ =>
      (if_neg (by simp [rsvd])).trans (if_pos ⟨by simp [moving], params⟩),
    fun c s sets served may rsvd whole parsed => ⟨fun refused => ?_, fun lineage known signed => ⟨fun busy => ?_, fun free => ?_⟩⟩,
    fun c s => ends_of_err rfl (by decide) fun ⟨may, rsvd, whole, broken⟩ => ?_⟩
  · simp [opNvsStore, ok]
  · simp [opNvsStore, ok]
  · have short : rd c.params 4 2 ≤ 1048576 := by omega
    simp only [opBundleLoad, rsvd, start]
    exact if_neg (by simp; omega)
  · refine becomes_of_final rfl rfl (by decide) served ((opAdopt_body rfl may rsvd whole parsed).trans (if_pos ?_))
    simpa using refused
  · exact becomes_of_final rfl rfl (by decide) served
      ((opAdopt_body_signed rfl may rsvd whole parsed lineage known signed).trans (if_pos busy))
  · exact becomes_of_accepted rfl rfl served
      ((opAdopt_body_signed rfl may rsvd whole parsed lineage known signed).trans (if_neg (by rw [free]; decide)))
  · refine (if_neg (by simp [rsvd])).trans ((if_neg ?_).trans ((if_neg (Nat.not_lt.mpr whole)).trans ?_))
    · rintro ⟨moving, params⟩
      exact may.elim (fun still => by simp [still] at moving) params
    · rw [broken]

/-! ### UPD (chapter 19) -/

/-- A new image is staged into the target slot (0x1310). -/
theorem opStageBegin_body {c : Cmd} {m : Mod} {y : CodeSlot} (size : inRange (rd c.params 16 4) 65536 25165824 = true)
    (rsvd : isZero c.params 20 4 = true) (closed : m.openStaging = none) (idle : m.upd.act = none)
    (untried : (m.slot m.target).st ≠ .trial) (unsuspended : (m.slot m.target).st ≠ .suspended)
    (new : y = { st := .staging, imageId := slice c.params 0 16, size := rd c.params 16 4,
                 writes := sat16 ((m.slot m.target).writes + 1), lastRaw := m.now }) :
    opStageBegin.body c m = Res.ok ((m.setSlot m.target y).updEv 122 m.target 1) (y.progress m.target false) := by
  subst new
  simp only [opStageBegin, rsvd, closed, size, idle]
  exact (if_neg untried).trans (if_neg fun same => unsuspended same.1)

/-- A part of the first chunk of an image, which the chunk needs more of (R411). -/
theorem opStageChunk_body {c : Cmd} {m : Mod} {k : Nat} {x y : CodeSlot} (slot : x = m.slot k) (open' : m.openStaging = some k)
    (src : rd c.params 2 1 = 0) (rsvd3 : isZero c.params 3 1 = true) (rsvd10 : isZero c.params 10 6 = true)
    (chunk : rd c.params 0 2 < chunksOf x.size) (lo : 1 ≤ rd c.params 8 2) (hi : rd c.params 8 2 ≤ 224) (start : rd c.params 4 4 = 0)
    (part : rd c.params 8 2 < x.chunkLen (rd c.params 0 2)) (order : rd c.params 0 2 = 0 ∨ x.verified.contains 0 = true)
    (unverified : x.verified.contains (rd c.params 0 2) = false) (none' : x.partials = [])
    (new : y = { x with partials := [(rd c.params 0 2, slice c.params 16 (rd c.params 8 2))], lastRaw := m.now }) :
    opStageChunk.body c m = Res.ok (m.setSlot k y) (chunkReply (rd c.params 0 2) 0 0 y) := by
  have first : ¬(1 < rd c.params 2 1 ∨ (!isZero c.params 3 1) = true ∨ (!isZero c.params 10 6) = true) := by
    simp [src, rsvd3, rsvd10]
  have second : ¬(chunksOf x.size ≤ rd c.params 0 2
      ∨ (0 = 1 ∧ (12 ≤ c.ring ∨ 0 ≠ 0 ∨ rd c.params 8 2 ≠ 0 ∨ (!inApp (rd c.params 16 8) (x.chunkLen (rd c.params 0 2))) = true))
      ∨ (True ∧ (rd c.params 8 2 = 0 ∨ 224 < rd c.params 8 2 ∨ x.chunkLen (rd c.params 0 2) < 0 + rd c.params 8 2))) := by
    omega
  have third : ¬(rd c.params 0 2 ≠ 0 ∧ (!x.verified.contains 0) = true) := fun ⟨later, unset⟩ =>
    order.elim later fun set => by rw [set] at unset; exact absurd unset (by decide)
  refine (if_neg first).trans ?_
  rw [open']
  simp only [← slot, src, start, none']
  refine (if_neg second).trans ((if_neg third).trans ?_)
  rw [unverified, new]
  simp [part.ne]

/-- Settles O42. -/
theorem updateCommands : Obligations.UpdateCommands := by
  unfold Obligations.UpdateCommands
  refine ⟨fun c s => does_of_body rfl fun ⟨size, rsvd, closed, idle, untried, unsuspended⟩ =>
      opStageBegin_body size rsvd closed idle untried unsuspended rfl,
    fun c s => ends_of_err rfl (by decide) fun closed => ?_,
    fun c s k => does_of_body rfl fun ⟨mode, confirm, whole, idle, cold, staged⟩ => ?_,
    fun c s => ends_of_err rfl (by decide) fun ⟨idle, untried⟩ => ?_,
    fun c s k => does_of_body rfl fun ⟨idle, tried, first, arb⟩ => ?_,
    fun c s a => does_of_body rfl fun ⟨act, early⟩ => ?_, fun c s a => ends_of_err rfl (by decide) fun ⟨act, late⟩ => ?_,
    fun c s k served open' src rsvd3 rsvd10 chunk lo hi start part order unverified none' => ?_,
    fun c s k served open' whole => ?_⟩
  · simp [opStageEnd, closed]
  · have first : ¬(1 < 1 ∨ 7 < rd c.params 1 1 ∨ (0 ≠ 0 ∧ (!inRange 0 400 40000) = true)) := by omega
    simp only [opActivate, mode, whole, idle, staged]
    refine (if_neg first).trans ?_
    simp only [Mod.setSlot, cold]
    rfl
  · simp [opUpdConfirm, idle, untried]
  · simp [opUpdConfirm, idle, tried, first, Nat.not_lt.mpr arb]
    rfl
  · simp [opUpdAbort, act, early]
  · simp [opUpdAbort, act, Nat.not_le.mpr late]
  · have packet : s.withData 0x1311 c = c := by simp [State.withData, src]
    refine becomes_of_final (congrArg (fun d => s.act fun m => m.serve 0x1311 opStageChunk d) packet) rfl (by decide) served
      (opStageChunk_body rfl open' src rsvd3 rsvd10 chunk lo hi start part order unverified none' rfl)
  · refine becomes_of_final rfl rfl (by split <;> decide) served ?_
    simp [opStageEnd, open', Nat.sub_eq_zero_of_le whole]

/-! ### PWR (chapter 20) -/

/-- Settles O43. -/
theorem powerCommands : Obligations.PowerCommands := by
  unfold Obligations.PowerCommands
  refine ⟨fun c s => does_of_body rfl fun _ => rfl, fun c s g => does_of_body rfl fun ok => ?_,
    fun c s => ends_of_err rfl (by decide) fun ok => ?_, fun c s => starts_of_body rfl fun ok => ?_,
    fun c s => ends_of_err rfl (by decide) fun ⟨domain, on, rsvd, mode⟩ => ?_,
    fun c s served kind rsvd still => powers_of (f := fun m => (m.serve 0x1410 opModuleReset c).resetNow) rfl ?_,
    fun c s g served grace => powers_of (f := fun m => (m.serve 0x1411 opShutdownAck c).ackNow) rfl ?_⟩
  · simp [opShutdownHold, ok]
  · simp [opShutdownHold, ok]
  · simp [opDomain, ok]
  · simp [opDomain, domain, Nat.not_lt.mpr on, rsvd, mode]
  · refine congrArg Mod.resetNow (serve_of_ok rfl served ?_)
    simp [opModuleReset, Nat.not_lt.mpr kind, rsvd, still]
  · refine congrArg Mod.ackNow (serve_of_ok rfl served ?_)
    simp [opShutdownAck, grace]

end Sys2Proof.Machine
end

section
/-! PROOF. GET_STATUS, the operations no class has, and frame-stamped commands without a token (R85, R98, R102). -/

namespace Sys2Proof.Machine

open Sys2Proof

/-- Settles O44: but for the instances that choose the table, each body is its reply. -/
theorem statusReads : Obligations.StatusReads := by
  unfold Obligations.StatusReads
  refine ⟨?_, ?_, ?_, ?_, ?_, ?_, ?_, ?_, ?_, ?_, ?_, ?_, ?_, ?_, ?_, ?_, ?_,
    fun c s => does_of_body rfl fun channel => by simp [opDrvGetStatus, channel],
    fun c s => does_of_body rfl fun bank => by simp [opDrvGetStatus, Nat.not_lt.mpr bank],
    fun c s => does_of_body rfl fun switch => by simp [opEthGetStatus, switch],
    fun c s => does_of_body rfl fun gptp => by simp [opEthGetStatus, gptp],
    fun c s => does_of_body rfl fun road => (if_neg (by simp [road])).trans (if_pos (by simp [road])),
    fun c s => does_of_body rfl fun engine => if_pos (by simp [engine])⟩
  all_goals exact fun c s => does_of_body rfl fun _ => rfl

section
variable {s : State} {opcode : Nat} {o : Op} {c : Cmd} {out : Host.Outcome State Fault Refusal}

/-- An operation that a class does not have ends with DENIED once the length, the number and the header are sound (R99). -/
theorem becomes_of_never {insts : Nat} (hx : out = s.act fun n => n.serve opcode (opNever insts) c) (takes : s.m.takes c.ring = true)
    (empty : c.plen = 0) (inst : c.inst.toNat < insts) (header : plainHeader c) :
    Becomes out s (s.m.complete opcode c St.denied [] 0) := by
  obtain ⟨rsvd, flags, plain, cframe⟩ := header
  have length : LengthFits (opNever insts) c := by simp [LengthFits, opNever, exactly, empty]
  have exists' : InstanceExists (opNever insts) c := ⟨inst, fun k named => nomatch named⟩
  have sound : HeaderSound (opNever insts) c := ⟨rsvd, flags, .inr ⟨plain, cframe⟩⟩
  have check : s.m.portCheck opcode (opNever insts) c = some St.denied := by
    unfold Mod.portCheck
    simp only [length_test_iff, instance_test_iff, header_test_iff, length, exists', sound, not_true, if_false]
    rfl
  rw [Becomes, hx, State.act, Mod.serve, takes, check]
  rfl

/-- R102, R103: a frame-stamped packet that names another frame is left to the lane queue. -/
theorem becomes_of_stamped (hx : out = s.act fun n => n.serve opcode o c) (stamped : o.stamped c = true) (takes : s.m.takes c.ring = true)
    (check : s.m.portCheck opcode o c = none) (named : s.m.namesNow opcode c = false) : Becomes out s (s.m.stamp opcode c) := by
  rw [Becomes, hx, State.act, Mod.serve, takes, check, stamped, named]
  rfl

/-- R85: a frame-stamped packet for the present frame is returned while no half holds the token. -/
theorem becomes_of_noToken (hx : out = s.act fun n => n.serve opcode o c) (stamped : o.stamped c = true) (takes : s.m.takes c.ring = true)
    (check : s.m.portCheck opcode o c = none) (named : s.m.namesNow opcode c = true) (noLane : s.m.lanes.redundancy = 5) :
    Becomes out s (s.m.countChanged.complete opcode c St.laneChanged [] 0) := by
  rw [Becomes, hx, State.act, Mod.serve, takes, check, stamped, named, noLane]
  rfl

end

/-- Settles O45: each of these operations is `opNever`. -/
theorem deniedOperations : Obligations.DeniedOperations := by
  unfold Obligations.DeniedOperations
  and_intros
  all_goals exact fun c s takes empty inst header => becomes_of_never rfl takes empty inst header

/-- Settles O46: each of these commands is frame-stamped. -/
theorem laneChangedWithoutToken : Obligations.LaneChangedWithoutToken := by
  unfold Obligations.LaneChangedWithoutToken
  refine ⟨?_, ?_, ?_, ?_, ?_, ?_, ?_, ?_, ?_, ?_, ?_, ?_, ?_, ?_, ?_, ?_, ?_, ?_, ?_, ?_, ?_, ?_, ?_, ?_, ?_, ?_, ?_, ?_, ?_, ?_⟩
  all_goals exact fun c s takes check =>
    ⟨fun named => becomes_of_stamped rfl rfl takes check named, fun named noLane => becomes_of_noToken rfl rfl takes check named noLane⟩

end Sys2Proof.Machine
end

section
/-! PROOF. Register accesses, rings, dispatch, sessions and datagrams (chapters 04, 07 and 17). A row's guards pass under the
conditions of its clause; what is left is the change that the clause names. -/

namespace Sys2Proof.Machine

open Sys2Proof

/-- A register lies below SDRAM, so below the application's region and the ring memory (Table 01-6). -/
theorem lt_of_isRegister {a : Nat} (register : isRegister a = true) : a < 0x40031000 := by
  by_contra far
  have above (lo hi : Nat) (below : hi < 0x40031000) : inRange a lo hi = false := by
    simp [inRange]
    omega
  simp [isRegister, above] at register

theorem inApp_of_isRegister {a n : Nat} (register : isRegister a = true) : inApp a n = false := by
  have below : ¬appBase ≤ a := Nat.not_le.mpr (lt_trans (lt_of_isRegister register) (by decide))
  simp [inApp, below]

theorem isSqSlot_of_isRegister {a : Nat} (register : isRegister a = true) : isSqSlot a = false := by
  have below := lt_of_isRegister register
  have outside : inRange a 0x460000000 0x46017FFFF = false := by
    simp only [inRange, Bool.and_eq_false_imp, decide_eq_true_eq]
    omega
  simp [isSqSlot, outside]

/-- A segment that is not the last of its datagram, and is its first or the one that follows, is kept (R422). -/
theorem segment_kept {s : State} {data seg : Bytes} (reheat : s.m.upd.reheat = true) (length : data.length = 8)
    (more : (rd data 0 1).testBit 7 = false) (next : rd data 0 1 % 64 = 0 ∨ rd data 0 1 % 64 = s.m.port.segNext)
    (before : seg = if rd data 0 1 % 64 = 0 then [] else s.m.port.seg) :
    s.segment data = { s with m := { s.m with port := { s.m.port with
      seg := seg ++ (data.drop 1).take 7, segNext := rd data 0 1 % 64 + 1 } } } := by
  have first : ¬((!s.m.upd.reheat) = true ∨ data.length ≠ 8) := by simp [reheat, length]
  have second : ¬(rd data 0 1 % 64 ≠ 0 ∧ rd data 0 1 % 64 ≠ s.m.port.segNext) := fun ⟨later, other⟩ => next.elim later other
  subst before
  exact (if_neg first).trans ((if_neg second).trans (if_pos (by simp [more])))

/-- An uncorrectable error in a sound line of SDRAM poisons it (chapter 01). -/
theorem sdramError_line {s : State} {k : Nat} (power : s.m.pd 5 = true) (sdram : isSdram (64 * k) = true)
    (sound : s.m.poison.contains k = false) :
    s.sdramError (some k) = { s with m := { s.m with poison := k :: s.m.poison } } :=
  (if_neg (by simp [power])).trans (if_pos (by rw [sdram, sound]; rfl))

section
variable {s : State} {q : Access} {l : Lane} {wr : Bool}

/-- A fast-path access of a lane that hears (Table 01-6). -/
theorem reservedAccess_lane (lane : q.lane = some l) (alive : s.m.alive = true) (hears : (s.m.lane l).st.hears = true) :
    execReservedAccess q wr s =
      if !inRange q.addr 0x50000000 0x500007FF then s.act Mod.busError
      else if wr then s.act Mod.wrote else s.act fun m => m.readLane l (q.addr - 0x50000000) := by
  simp [execReservedAccess, lane, alive, hears]

/-- An access of an application core while the cores run (Table 01-6). -/
theorem reservedAccess_core (core : q.lane = none) (app : s.m.appOn = true) :
    execReservedAccess q wr s =
      if isReserved q.addr || (wr && isReadOnly q.addr) then s.act Mod.busError
      else if wr then .next s
      else if isRegister q.addr then s.act fun m => m.readReg q.core q.addr
      else if isSdram q.addr then s.readSdram q.addr
      else .next s := by
  simp [execReservedAccess, core, app]

end

/-- Settles O47. -/
theorem portEventsAct : Obligations.PortEventsAct := by
  unfold Obligations.PortEventsAct
  refine ⟨fun s x snap => becomes_of (o := execSnapshotExpiry s) rfl (by simp [snap]),
    fun s r opened => becomes_of (o := execSessionIdleTimeout r s) rfl (by simp [opened]),
    fun s r tail written app lt => becomes_of (o := execCpDoorbell r tail written s) rfl (by simp [app, lt]),
    fun s r tail written app ge => becomes_of (o := execCpDoorbell r tail written s) rfl (by simp [app, ge]),
    fun s r head app lt => becomes_of (o := execCpCqHead r head s) rfl (by simp [app, lt]),
    fun s r on app lt => becomes_of (o := execRingEnable r on s) rfl (by simp [app, lt]),
    fun s r app lt => becomes_of (o := execRingReset r s) rfl (by simp [app, lt]),
    fun s r alive lt => becomes_of (o := execRingResetDone r s) rfl (by simp [alive, lt]),
    fun s r alive running turn => ?_,
    fun s dgram sender power => if_pos power,
    fun s data reheat length more first => ?_,
    fun s data reheat length more later next => ?_,
    fun s addr v app register below => ?_,
    fun s addr v app notRegister notApp notSlot => ?_,
    fun s addr v app inside => show execRegisterWrite addr v s = _ from (if_neg (by simp [app])).trans (if_pos inside),
    fun s q wr core app reserved => (reservedAccess_core core app).trans (if_pos (by simp [reserved])),
    fun s q core app readOnly => (reservedAccess_core core app).trans (if_pos (by simp [readOnly])),
    fun s q core app listed register => ?_, fun s q core app listed notRegister sdram sound => ?_,
    fun s q core app listed notRegister sdram poisoned => ?_,
    fun s q l wr lane alive hears outside => (reservedAccess_lane lane alive hears).trans (if_pos (by simp [outside])),
    fun s q l lane alive hears inside => (reservedAccess_lane lane alive hears).trans (if_neg (by simp [inside])),
    fun s q l lane alive hears inside => (reservedAccess_lane lane alive hears).trans (if_neg (by simp [inside])),
    fun s slot w alive on lt own => becomes_of (o := execFxIn 1 slot w false s) rfl (by simp [alive, on, lt, own]),
    fun s slot w alive on lt other => becomes_of (o := execFxIn 1 slot w false s) rfl (by simp [alive, on, Nat.not_le.mpr lt, other]),
    fun s line word v line8 word4 => becomes_of (o := execEvtMask line word v s) rfl (by simp [line8, word4]),
    fun s line word v line8 word4 => becomes_of (o := execEvtPend line word v s) rfl (by simp [line8, word4]),
    fun s line r t line8 queue => becomes_of (o := execEvtQHead line 0 s) rfl (by simp [line8, Mod.readHead, queue]),
    fun s line r t line8 queue locked => becomes_of (o := execEvtQHead line 3 s) rfl (by simp [line8, Mod.readHead, queue, locked]),
    fun s line word line8 word4 empty => becomes_of (o := execEvtQHead line word s) rfl (by simp [line8, word4, Mod.readHead, empty]),
    fun s line line8 => becomes_of (o := execEvtQDrops line s) rfl (if_neg (Nat.not_le.mpr line8)),
    fun s src param line src128 other => ?_, fun s param power => ?_, fun s param k power sdram sound => ?_⟩
  · show execCommandDispatch s = _
    simp [execCommandDispatch, alive, running, turn]
  · exact congrArg Host.Outcome.next ((segment_kept reheat length more (.inl first) rfl).trans (by rw [if_pos first, first]; rfl))
  · exact congrArg Host.Outcome.next ((segment_kept reheat length more (.inr next) rfl).trans (by rw [if_neg later]))
  · show execRegisterWrite addr v s = _
    simp [execRegisterWrite, app, inApp_of_isRegister register, isSqSlot_of_isRegister register, register, below]
    rfl
  · show execRegisterWrite addr v s = _
    simp [execRegisterWrite, app, notApp, notSlot, notRegister]
    rfl
  · refine (reservedAccess_core core app).trans ((if_neg (by simp [listed])).trans ((if_neg Bool.false_ne_true).trans (if_pos register)))
  · refine (reservedAccess_core core app).trans ((if_neg (by simp [listed])).trans ((if_neg Bool.false_ne_true).trans
      ((if_neg (by simp [notRegister])).trans ((if_pos sdram).trans ?_))))
    exact becomes_of (o := s.readSdram q.addr) rfl (if_neg (by rw [sound]; exact Bool.false_ne_true))
  · refine (reservedAccess_core core app).trans ((if_neg (by simp [listed])).trans ((if_neg Bool.false_ne_true).trans
      ((if_neg (by simp [notRegister])).trans ((if_pos sdram).trans ?_))))
    exact becomes_of (o := s.readSdram q.addr) rfl (if_pos poisoned)
  · show execEventRaise src ⟨param, line⟩ s = _
    simp [execEventRaise, src128, other, State.act]
  · show execEventRaise 6 ⟨param, none⟩ s = _
    simp [execEventRaise, State.sdramError, power, State.act]
  · show execEventRaise 6 ⟨param, some k⟩ s = _
    simp [execEventRaise, sdramError_line power sdram sound, State.act]

end Sys2Proof.Machine
end

section
/-! PROOF. The events of the timebase, the lanes, the drivers and the inputs (chapters 02, 03, 06 and 07). A row's guards pass
under the conditions of its clause; what is left is the change that the clause names. -/

namespace Sys2Proof.Machine

open Sys2Proof

/-- A source in use that is lost is reported once (R49). -/
theorem loseSource_of_lost {m : Mod} {src : Nat} (used : m.inUse = some src) (given : src ≠ 0) (fresh : m.time.lost = false)
    (lost : m.srcLost src = true) :
    m.loseSource = Mod.raise { m with time := { m.time with lost := true } } 9 (src + 512 + src * 65536) := by
  simp [Mod.loseSource, used, given, fresh, lost]

/-- Settles O48. -/
theorem timeEventsAct : Obligations.TimeEventsAct := by
  unfold Obligations.TimeEventsAct
  refine ⟨fun s core => becomes_of (o := execTbMtLo core s) rfl rfl,
    fun s core raw => becomes_of (o := execTbConvIn core raw s) rfl rfl,
    fun s avail nav alive => becomes_of (o := execPpsOutEdge avail nav s) rfl (if_pos alive),
    fun s => becomes_of (o := execCorrectionEffect s) rfl rfl,
    fun s alive => powers_of (o := execRef0MonitorTrip false s) rfl (by simp [alive]),
    fun s alive => powers_of (o := execRef0MonitorTrip true s) rfl (by simp [alive]),
    fun s ppm alive ref0 ref1 judged off => powers_of (o := execRefMismatch ppm s) rfl (by simp [alive, ref0, ref1, judged, off]),
    fun s ppm alive ref0 ref1 judged near => powers_of (o := execRefMismatch ppm s) rfl (by simp [alive, ref0, ref1, judged, near]),
    fun s alive ref0 => powers_of (o := execRef1Stop s) rfl (by simp [alive, ref0]),
    fun s src n alive then' used given fresh lost => ?_,
    fun s first => becomes_of (o := execPpsInEdge s) rfl (by simp [first]),
    fun s c n seen last far => ?_, fun s c n seen last near => ?_⟩
  · subst then'
    exact becomes_of (o := execSourceLost s) rfl ((if_pos alive).trans (loseSource_of_lost used given fresh lost))
  · subst seen
    exact becomes_of (o := execPpsInEdge s) rfl (by simp [last, far])
  · subst seen
    exact becomes_of (o := execPpsInEdge s) rfl (by simp [last, Nat.not_lt.mpr near])

/-- Settles O49. -/
theorem laneEventsAct : Obligations.LaneEventsAct := by
  unfold Obligations.LaneEventsAct
  refine ⟨fun s inp alive run => powers_of (o := execFrameStart inp s) rfl (by simp [alive, run]),
    fun s alive run => powers_of (o := execFrameTickMissing s) rfl (by simp [alive, run]),
    fun s => becomes_of (o := execTokenDecision s) rfl rfl,
    fun s => becomes_of (o := execForcedSilence s) rfl rfl,
    fun s lane check lo hi => becomes_of (o := execLaneSelfFault lane check s) rfl (by simp [inRange, lo, hi]),
    fun s lane powered => becomes_of (o := execLaneCorrectedEcc lane s) rfl (by simp [powered]),
    fun s lane loading running idle powered => ?_,
    fun s lane loading running idle powered => ?_,
    fun s lane ok loading restart powered => ?_,
    fun s lane token powered kept rejoins =>
      becomes_of (o := execPerLaneReset lane s) rfl (by simp [token, powered, kept, rejoins]),
    fun s p act punty active started idle left =>
      becomes_of (o := execPuntyTransferDone s) rfl (by simp [punty, active, Nat.not_le.mpr started, idle, left]),
    fun s p punty overdue few =>
      becomes_of (o := execPuntyTransferTimeout s) rfl (by simp [punty, Nat.not_lt.mpr overdue, Nat.not_le.mpr few]),
    fun s l t retry => becomes_of (o := execPuntyRetry s) rfl (by simp [retry])⟩
  · exact becomes_of (o := execLaneReloadDone lane true s) rfl (by simp [loading, powered, running, idle, Mod.laneClockUp])
  · exact becomes_of (o := execLaneReloadDone lane false s) rfl (by simp [loading, powered, running, idle, Mod.actAbort])
  · exact becomes_of (o := execLaneReloadDone lane ok s) rfl (by cases ok <;> simp [loading, powered, restart, Mod.laneClockUp])

/-- Settles O50. -/
theorem driverEventsAct : Obligations.DriverEventsAct := by
  unfold Obligations.DriverEventsAct
  refine ⟨fun s i t due lt fires mode => becomes_of (o := execPhFireInstant i s) rfl (by simp [due, Nat.not_le.mpr lt, fires, mode]),
    fun s i t due lt stops mode phase => becomes_of (o := execProfileStop i s) rfl (by simp [due, Nat.not_le.mpr lt, stops, mode, phase]),
    fun s i k t queued => becomes_of (o := execBoostWaitExpiry i s) rfl (by simp [queued]),
    fun s i phase => becomes_of (o := execBoostEnd i true s) rfl (by simp [phase]),
    fun s i phase => becomes_of (o := execPeakEnd i s) rfl (by simp [phase]),
    fun s i phase limited => becomes_of (o := execHoldEnd i s) rfl (by simp [phase, limited]),
    fun s i lt phase => becomes_of (o := execDecayEnd i s) rfl (by simp [Nat.not_le.mpr lt, phase]),
    fun s i code power channel => becomes_of (o := execDrvFaultDetect i code s) rfl (by simp [power, channel]),
    fun s i code power lo bank => becomes_of (o := execDrvFaultDetect i code s) rfl (by simp [power, Nat.not_lt.mpr lo, bank]),
    fun s i code power lo conv => ?_,
    fun s i n channel unlatched held then' => ?_,
    fun s i channel unlatched held => becomes_of (o := execDrvRetry i s) rfl (by simp [channel, unlatched, held]),
    fun s i lo bank unlatched held => becomes_of (o := execDrvRetry i s) rfl (by simp [Nat.not_lt.mpr lo, bank, unlatched, held]),
    fun s i lo conv unlatched held => ?_,
    fun s i lt power tested off unflagged => ?_, fun s i lt power tested off => ?_,
    fun s i lt cool => becomes_of (o := execClampUnavailable i 15 true s) rfl (by simp [Nat.not_le.mpr lt, cool]),
    fun s i lt present => becomes_of (o := execClampUnavailable i 10 true s) rfl (by simp [Nat.not_le.mpr lt, present]),
    fun s i code channel unlatched clears => ?_⟩
  · have notChannel : ¬i < 64 := by omega
    exact becomes_of (o := execDrvFaultDetect i code s) rfl (by simp [power, notChannel, Nat.not_lt.mpr lo, conv])
  · subst then'
    exact becomes_of (o := execDrvRetry i s) rfl (by simp [channel, unlatched, held])
  · have notChannel : ¬i < 64 := by omega
    exact becomes_of (o := execDrvRetry i s) rfl (by simp [notChannel, Nat.not_lt.mpr lo, conv, unlatched, held])
  · have channel : ¬64 ≤ i := by omega
    exact becomes_of (o := execOpenLoadTest i true s) rfl (by simp [channel, lt, power, tested, off, List.contains_eq_mem] at unflagged ⊢; simp [unflagged])
  · have channel : ¬64 ≤ i := by omega
    exact becomes_of (o := execOpenLoadTest i false s) rfl (by simp [channel, lt, power, tested, off])
  · exact becomes_of (o := execDiagnosticClearing i code s) rfl ((if_pos channel).trans ((if_neg (by simp [unlatched])).trans (if_pos clears)))

/-- Settles O51. -/
theorem inputEventsAct : Obligations.InputEventsAct := by
  unfold Obligations.InputEventsAct
  refine ⟨fun s fin level lt notPair mode enabled counted =>
      becomes_of (o := execQualifyingEdge fin level false s) rfl (by simp [Nat.not_le.mpr lt, notPair, mode, enabled, counted]),
    fun s lsn peak lt enabled strong first =>
      becomes_of (o := execImpact lsn peak s) rfl (by simp [Nat.not_le.mpr lt, enabled, strong, first]),
    fun s i kind ge enabled found => ?_,
    fun s sup out lt on changed => becomes_of (o := execSupTol sup out s) rfl (by simp [Nat.not_le.mpr lt, on, changed]),
    fun s sup lt on few => ?_,
    fun s sup lt off unlatched enabled code =>
      becomes_of (o := execSupRetry sup s) rfl (by simp [Nat.not_le.mpr lt, off, unlatched, enabled, code])⟩
  · exact becomes_of (o := execBiasCheck i false s) rfl (by simp [kind, enabled, found, Nat.not_lt.mpr ge])
  · refine becomes_of (o := execSupOvercurrent sup s) rfl ((if_neg (by simp [Nat.not_le.mpr lt, on])).trans (if_neg ?_))
    have kept : ∀ x, ((s.m.setInp (107 + sup) x).inpEv 61 (107 + sup) 8 true).inpRec (107 + sup) = s.m.inpRec (107 + sup) := fun x => by
      simp [Mod.inpRec, Mod.cfgOr, Mod.stored, Mod.inpEv, Mod.setInp]
    simpa [kept] using few

end Sys2Proof.Machine
end

section
/-! PROOF. SAFETY_START of a safety processor that runs already (chapter 08). -/

namespace Sys2Proof.Machine

open Sys2Proof

/-- A safety processor that runs: its power is on and its state is not INIT. -/
def safetyRunning : State := { m := { pwr := { domains := 0x7FF }, safe := { st := .run } } }

/-- The row leaves a safety processor that is past INIT as it is. -/
theorem safetyRunning_keeps (test : SafetyTest) : Becomes (exec (.safetyStart test) safetyRunning) safetyRunning safetyRunning.m :=
  becomes_of (o := execSafetyStart test safetyRunning) rfl (if_pos (.inr (by decide)))

/-- Entering a state of the safety processor leaves it in that state. -/
theorem setSafeSt_st (m : Mod) (x : SafeState) : (m.setSafeSt x).safe.st = x := by
  unfold Mod.setSafeSt
  split
  · assumption
  · cases x <;> simp [Mod.setSafe, Safe.allOpen]

/-- Refutes O52 by its clause of SAFETY_START with no stored parameters, which holds in INIT only: on `safetyRunning` the
state stays RUN and does not become NO_PARAMS. -/
theorem not_safetyEventsAct : ¬ Obligations.SafetyEventsAct := by
  unfold Obligations.SafetyEventsAct
  intro ⟨_, _, _, _, _, _, _, _, _, _, _, _, _, _, _, _, _, _, _, _, _, _, _, _, _, _, noParams, _⟩
  have claim := noParams safetyRunning {} (by decide) (.inl rfl)
  have kept := safetyRunning_keeps {}
  have entered := congrArg (fun t : State => t.m.safe.st) (Host.Outcome.next.inj (kept.symm.trans claim))
  rw [setSafeSt_st] at entered
  exact absurd entered (by decide)

end Sys2Proof.Machine
end

section
/-! PROOF. The events of power, clocks and heat (chapter 20). A row's guards pass under the conditions of its clause; what is
left is the change that the clause names. -/

namespace Sys2Proof.Machine

open Sys2Proof

/-- The key alone does not decide whether the module is on. -/
theorem alive_key (m : Mod) (key : Bool) : Mod.alive { m with pwr := { m.pwr with key := key } } = m.alive := rfl

/-- The clock of Lane A is none of SDRAM's, so its failure loses no byte, and Lane A fails with it (R435). -/
theorem clockFail_laneA {s : State} (alive : s.m.alive = true) (clocks : s.m.pwr.clocks = []) :
    Powers (exec (.clockFail 2) s) s
      (let n := s.m.ev 125 2 3 true
       Mod.laneFails { n with pwr := { n.pwr with clocks := n.pwr.clocks ++ [2] } } .a 6) := by
  show Powers (execClockFail 2 s) s _
  have outside : (decide (5 ≤ 2) && decide (2 ≤ 7) && s.m.alive) = false := rfl
  simp only [execClockFail, outside]
  refine powers_of (s := s) rfl ?_
  simp [alive, clocks]

/-- Settles O60. -/
theorem powerEventsAct : Obligations.PowerEventsAct := by
  unfold Obligations.PowerEventsAct
  refine ⟨fun s => powers_of (o := execPowerOn s) rfl rfl,
    fun s => powers_of (o := execResetN s) rfl rfl,
    fun s inReset => powers_of (o := execResetNRelease s) rfl (if_pos inReset),
    fun s alive => powers_of (o := execWatchdog s) rfl (if_pos alive),
    fun s t0 restartAt alive => powers_of (o := execRestart s) rfl (by simp [restartAt, alive]),
    fun s inReset alive key mode starting cold heat => ?_,
    fun s inReset alive => ?_, fun s alive key mode => ?_,
    fun s x grace mode => powers_of (o := execShutdownGraceExpiry s) rfl (by simp [grace, mode]),
    fun s => powers_of (o := execWakeInput s) rfl rfl,
    fun s alive mode starting cold => powers_of (o := execParkTimeout s) rfl (by simp [alive, mode, starting, cold]),
    fun s alive starting cold milestone => powers_of (o := execStartMilestone s) rfl (by simp [alive, starting, cold, milestone]),
    fun s alive starting cold milestone => powers_of (o := execStartMilestone s) rfl (by simp [alive, starting, cold, milestone]),
    fun s alive starting cold milestone => powers_of (o := execStartMilestone s) rfl (by simp [alive, starting, cold, milestone]),
    fun s alive starting cold milestone => powers_of (o := execStartMilestone s) rfl (by simp [alive, starting, cold, milestone]),
    fun s pd lo hi on alive retried => ?_,
    fun s on alive => becomes_of (o := execCrank on s) rfl (if_pos alive),
    fun s other => becomes_of (o := execFeedSwitch .a other s) rfl rfl,
    fun s other => becomes_of (o := execFeedSwitch .b other s) rfl rfl,
    fun s feed on alive pair => ?_,
    fun s feed on alive lo hi => becomes_of (o := execFeedLow feed on s) rfl (by simp [alive, Nat.not_lt.mpr lo, Nat.not_lt.mpr hi]),
    fun s feed on alive hi => becomes_of (o := execOvervoltage feed on s) rfl (by simp [alive, Nat.not_lt.mpr hi]),
    fun s alive => powers_of (o := execSupplyLoss s) rfl (by simp [alive]),
    fun s alive clocks => clockFail_laneA alive clocks,
    fun s code alive lo hi cool => ?_, fun s code alive lo hi hot => ?_⟩
  · have notHot : 4 ∉ s.m.pwr.thermal := by simpa using heat
    refine powers_of (o := execKeyHigh s) rfl ((if_neg (by simp [inReset])).trans ((if_neg (by rw [alive_key, alive]; decide)).trans ?_))
    simp [key, mode, starting, cold, notHot]
  · exact powers_of (o := execKeyHigh s) rfl ((if_neg (by simp [inReset])).trans (if_pos (by rw [alive_key, alive]; decide)))
  · refine becomes_of (o := execKeyLow s) rfl ((if_neg (by rw [alive_key, alive]; decide)).trans ?_)
    simp [key, mode]
  · have given : ¬((!inRange pd 2 10) = true ∨ (!s.m.pd pd) = true ∨ (!s.m.alive) = true) := by
      simp [inRange, lo, hi, on, alive]
    refine powers_of (o := execDomainFault pd s) rfl ?_
    simp only [given, if_false]
    exact if_pos retried
  · have listed : ¬4 < feed := by omega
    exact becomes_of (o := execFeedLow feed on s) rfl (by simp [alive, listed, pair])
  · have new : code ∉ s.m.pwr.thermal := by simpa using cool
    exact powers_of (o := execThermalStep code true s) rfl (by simp [alive, inRange, lo, hi, new])
  · have held : code ∈ s.m.pwr.thermal := by simpa using hot
    exact powers_of (o := execThermalStep code false s) rfl (by simp [alive, inRange, lo, hi, held])

end Sys2Proof.Machine
end

section
/-! PROOF. Epochs, fixes, corrections and antenna faults (chapter 09). A row's guards pass under the conditions of its clause; what
is left is the change that the clause names. -/

namespace Sys2Proof.Machine

open Sys2Proof

/-- A fix: the solution is kept, reported where fix or heading changed, and published. -/
theorem pvt_eq (m : Mod) (q : PvtIn) :
    m.pvt q = (let o := m.solve q
      let n := m.choose o.fix1 o.fix2
      let w := n.keepSol o q
      let w := if o.fix ≠ n.gnss.fix ∨ o.status ≠ n.gnss.heading then
          w.ev 98 o.fix o.status (decide (1 ≤ o.fix) && decide (o.dual < 5)) else w
      (w.publishAt 10 1 2 w.epochNs (n.pvtBody o q)).pvtSlots o n.corrUsed n.gnss.age10 q) := by
  simp only [Mod.pvt, bne_iff_ne, Bool.or_eq_true]

section
variable {m : Mod} {can : Bool} {frame p : Bytes}

theorem rtcm_of_unsound (unsound : rtcmSound frame = false) :
    m.rtcm can frame = Mod.corrEv { m with gnss := { m.gnss with corrErrors := inc32 m.gnss.corrErrors } } 4 true :=
  if_pos (by rw [unsound]; rfl)

theorem rtcm_of_unused (sound : rtcmSound frame = true) (message : p = (frame.drop 3).take (rtcmLen frame))
    (unused : rtcmUsed (msgBits p 0 12) = false) :
    m.rtcm can frame = Mod.corrEv { m with gnss := { m.gnss with corrUnsupported := inc32 m.gnss.corrUnsupported } } 6 true := by
  subst message
  exact (if_neg (by rw [sound]; decide)).trans (if_pos (by rw [unused]; rfl))

/-- A sound frame of a message that the corrections use is counted and taken by its number (R229). -/
theorem rtcm_of_used (sound : rtcmSound frame = true) (message : p = (frame.drop 3).take (rtcmLen frame))
    (used : rtcmUsed (msgBits p 0 12) = true) :
    m.rtcm can frame = (let n := { m with gnss := { m.gnss with corrFrames := inc32 m.gnss.corrFrames } }
      if msgBits p 0 12 = 1005 ∨ msgBits p 0 12 = 1006 then Mod.stationMsg n p
      else if msgBits p 0 12 = 1033 then n
      else Mod.msm n can (msgBits p 12 12)
        (if msgBits p 0 12 = 1124 ∨ msgBits p 0 12 = 1127 then (msgBits p 24 30 + 14000) % 604800000 else msgBits p 24 30)
        (msmSystem (msgBits p 0 12)) (msgBits p 54 1 == 0)) := by
  subst message
  exact (if_neg (by rw [sound]; decide)).trans (if_neg (by rw [used]; decide))

/-- A CAN frame of a correction stream that follows the frame before it, or is the first (R231). -/
theorem rtcmCan_of_next {sq : Byte} {rest : Bytes} (power : m.pd 8 = true) (from' : m.corrFrom true = true)
    (next : ∀ q, m.gnss.canSeq = some q → sq = q + 1) :
    m.rtcmCan (sq :: rest) = (Mod.stream { m with gnss := { m.gnss with canSeq := some sq } } true rest).1 := by
  refine (if_neg (by simp [power, from'])).trans ?_
  cases seq : m.gnss.canSeq with
  | none => rfl
  | some q => simp [next q seq]

/-- A CAN frame of a correction stream after a gap (R231). -/
theorem rtcmCan_of_gap {sq q : Byte} {rest : Bytes} (power : m.pd 8 = true) (from' : m.corrFrom true = true)
    (seq : m.gnss.canSeq = some q) (gap : sq ≠ q + 1) :
    m.rtcmCan (sq :: rest) = ((Mod.corrEv { m with gnss := { m.gnss with
      canSeq := some sq, bufCan := [], corrErrors := inc32 m.gnss.corrErrors } } 5 true).stream true rest).1 := by
  refine (if_neg (by simp [power, from'])).trans ?_
  have differs : (sq != q + 1) = true := bne_iff_ne.mpr gap
  simp only [seq, differs]
  rfl

end

/-- Settles O53. -/
theorem gnssEventsAct : Obligations.GnssEventsAct := by
  unfold Obligations.GnssEventsAct
  refine ⟨fun s meas sats power started due new => ?_,
    fun s power opened => becomes_of (o := execGnssEpochPublish s) rfl (by simp [power, opened]),
    fun s q power opened => becomes_of (o := execGnssPvt q s) rfl ((if_neg (by simp [power, opened])).trans (pvt_eq s.m q)),
    fun s can frame power from' unsound =>
      becomes_of (o := execRtcmFrame can frame s) rfl ((if_pos (by simp [power, from'])).trans (rtcm_of_unsound unsound)),
    fun s can frame p power from' sound message unused =>
      becomes_of (o := execRtcmFrame can frame s) rfl ((if_pos (by simp [power, from'])).trans (rtcm_of_unused sound message unused)),
    fun s can frame p power from' sound message station => ?_, fun s can frame p power from' sound message antenna => ?_,
    fun s can frame p power from' sound message used signals => ?_,
    fun s r refRaw power young => becomes_of (o := execCorrAged s) rfl (by simp [refRaw, power, young]),
    fun s sq rest power from' first => becomes_of (o := execRtcmCanFrame (sq :: rest) s) rfl
      (rtcmCan_of_next power from' fun q seq => absurd (first.symm.trans seq) (by simp)),
    fun s sq q rest power from' seq gap => becomes_of (o := execRtcmCanFrame (sq :: rest) s) rfl (rtcmCan_of_gap power from' seq gap),
    fun s sq q rest power from' seq next => becomes_of (o := execRtcmCanFrame (sq :: rest) s) rfl
      (rtcmCan_of_next power from' fun r seq' => by rw [next, Option.some.inj (seq.symm.trans seq')]),
    fun s k le power bias shut => becomes_of (o := execAntBiasFault k .opened s) rfl (by simp [Nat.not_lt.mpr le, power, bias, shut]),
    fun s k le power bias opened => becomes_of (o := execAntBiasFault k .restored s) rfl (by simp [Nat.not_lt.mpr le, power, bias, opened]),
    fun s k shorts n le power bias trips before => ?_,
    fun s k le power short unlatched => becomes_of (o := execAntBiasRetry k s) rfl (by simp [Nat.not_lt.mpr le, power, short, unlatched]),
    fun s k ch le power lock => becomes_of (o := execLockLost k ch s) rfl (by simp [Nat.not_lt.mpr le, power, lock]),
    fun s k ch le power search => becomes_of (o := execSearchTimeout k ch s) rfl (by simp [Nat.not_lt.mpr le, power, search]),
    fun s k n le power enabled signal untracked then' => ?_,
    fun s r power onAnt1 out => becomes_of (o := execAnt2Fallback true s) rfl (by simp [power, onAnt1, out]),
    fun s r power onAnt2 back => becomes_of (o := execAnt2Fallback false s) rfl (by simp [power, onAnt2, back]),
    fun s k ch n le chLe power enabled search then' => ?_⟩
  · exact becomes_of (o := execGnssEpoch meas sats s) rfl (if_neg (by simp [power, started, due]; omega))
  · have used : rtcmUsed (msgBits p 0 12) = true := by
      obtain number | number := station <;> rw [number] <;> rfl
    exact becomes_of (o := execRtcmFrame can frame s) rfl
      ((if_pos (by simp [power, from'])).trans ((rtcm_of_used sound message used).trans (if_pos station)))
  · have used : rtcmUsed (msgBits p 0 12) = true := by
      rw [antenna]
      rfl
    exact becomes_of (o := execRtcmFrame can frame s) rfl
      ((if_pos (by simp [power, from'])).trans ((rtcm_of_used sound message used).trans ((if_neg (by omega)).trans (if_pos antenna))))
  · exact becomes_of (o := execRtcmFrame can frame s) rfl
      ((if_pos (by simp [power, from'])).trans ((rtcm_of_used sound message used).trans ((if_neg (by omega)).trans (if_neg (by omega)))))
  · subst trips before
    refine becomes_of (o := execAntBiasFault k .short s) rfl ((if_neg (by simp [Nat.not_lt.mpr le, power, bias])).trans ?_)
    simp [Mod.antShort]
  · subst then'
    exact becomes_of (o := execNoSignal k s) rfl (by simp [Nat.not_lt.mpr le, power, enabled, signal, untracked])
  · subst then'
    exact becomes_of (o := execReacquisition k ch s) rfl
      (by simp [Nat.not_lt.mpr le, Nat.not_lt.mpr chLe, power, enabled, search])

end Sys2Proof.Machine
end

section
/-! PROOF. The events of fusion and of the camera links (chapters 10 and 11). A row's guards pass under the conditions of its
clause; what is left is the change that the clause names. -/

namespace Sys2Proof.Machine

open Sys2Proof

/-! ### Fusion (chapter 10) -/

/-- Settles O54. -/
theorem fusionEventsAct : Obligations.FusionEventsAct := by
  unfold Obligations.FusionEventsAct
  refine ⟨fun s power started due fresh => becomes_of (o := execFusionCycle s) rfl (by simp [power, started, due, fresh]),
    fun s k x n power then' on lt source kind fix => ?_, fun s k x n power then' on lt source kind => ?_,
    fun s k x y n power then' on lt source kind sample => ?_, fun s k x n power then' on lt source kind => ?_,
    fun s power => becomes_of (o := execFuseStatePublish s) rfl (if_pos power),
    fun s w power started due published => ?_⟩
  · subst then'
    exact becomes_of (o := execFuseSample k x s) rfl (by simp [power, on, lt, source, kind, fix])
  · subst then'
    exact becomes_of (o := execFuseSample k x s) rfl (by simp [power, on, lt, source, kind])
  · subst then'
    exact becomes_of (o := execFuseSample k x s) rfl (by simp [power, on, lt, source, kind, sample])
  · subst then'
    exact becomes_of (o := execFuseSample k x s) rfl (by simp [power, on, lt, source, kind])
  · subst published
    exact becomes_of (o := execFusionClose s) rfl (if_pos (by simp [Mod.cycleOpen, power, started, due]))

/-! ### The camera links (chapter 11) -/

theorem pd_setRx (m : Mod) (n k : Nat) (x : SlotRx) : (m.setRx n x).pd k = m.pd k := rfl

/-- Settles O55. -/
theorem cameraLinkEventsAct : Obligations.CameraLinkEventsAct := by
  unfold Obligations.CameraLinkEventsAct
  refine ⟨fun s k le power poc first => becomes_of (o := execPocFault k s) rfl (by simp [Nat.not_lt.mpr le, power, poc, first]),
    fun s k le power down sound => becomes_of (o := execPocRetry k s) rfl (by simp [Nat.not_lt.mpr le, power, down, sound]),
    fun s k o le power poc changed => becomes_of (o := execPocOpen k o s) rfl (by simp [Nat.not_lt.mpr le, power, poc, changed]),
    fun s k le power powering => becomes_of (o := execPoweringTimeout k s) rfl (by simp [Nat.not_lt.mpr le, power, powering]),
    fun s k le power powering soon => becomes_of (o := execBackChannelLock k s) rfl
      (by simp [Nat.not_lt.mpr le, power, powering, Nat.not_lt.mpr soon]),
    fun s k le power powering late => becomes_of (o := execBackChannelLock k s) rfl (by simp [Nat.not_lt.mpr le, power, powering, late]),
    fun s k le power unlocked kept training => becomes_of (o := execBlockLock k true s) rfl
      (by simp [Nat.not_lt.mpr le, power, unlocked, kept, training]),
    fun s k le power locked up => becomes_of (o := execBlockLock k false s) rfl (by simp [Nat.not_lt.mpr le, power, locked, up]),
    fun s k block le power locked length => becomes_of (o := execLinkBlock k block s) rfl
      (by simp [Nat.not_lt.mpr le, power, locked, length]),
    fun s k block le power locked length crc data lo hi up slot => ?_,
    fun s k msg le power hears length crc kind => becomes_of (o := execBackChannelMessage k msg s) rfl
      (by simp [Nat.not_lt.mpr le, power, hears, length, crc, kind]),
    fun s k msg le power hears length => becomes_of (o := execBackChannelMessage k msg s) rfl
      (by simp [Nat.not_lt.mpr le, power, hears, length]),
    fun s k w n le power hears window then' even => ?_, fun s k w n le power hears window then' odd => ?_,
    fun s k le power training quiet => becomes_of (o := execTimeSync k s) rfl (by simp [Nat.not_lt.mpr le, power, training, quiet]),
    fun s k r status le power up => becomes_of (o := execHubLost k s) rfl (by simp [status, Nat.not_lt.mpr le, power, up]),
    fun s k q await le power few => becomes_of (o := execI2cRetryTimeout k s) rfl (by simp [await, Nat.not_lt.mpr le, power, few]),
    fun s i ed es le power up edges => becomes_of (o := execFsyncEdge i s) rfl (by simp [Nat.not_lt.mpr le, power, up, edges]),
    fun s g x rest arr n pending power arrival then' beyond => ?_,
    fun s g x rest arr n pending power arrival then' line full current => ?_,
    fun s g x rest arr n pending power arrival then' line room sound backed => ?_,
    fun s g x rest arr n pending power arrival then' line room fault direct => ?_,
    fun s g x rest arr n pending power arrival then' line room fault spill sdram => ?_,
    fun s g x rest arr n pending power arrival then' line room spill noSdram => ?_⟩
  · have kept : ∀ x, (s.m.setLink k x).slotRec (4 * k + rd block 1 1 % 4) = s.m.slotRec (4 * k + rd block 1 1 % 4) := fun _ => rfl
    have some' : rd block 4 2 ≠ 0 := by omega
    exact becomes_of (o := execLinkBlock k block s) rfl
      (by simp [Nat.not_lt.mpr le, power, locked, length, crc, data, some', Nat.not_lt.mpr hi, up, kept, slot])
  · subst window then'
    exact becomes_of (o := execBackChannelWindow k s) rfl (by simp [Nat.not_lt.mpr le, power, hears, even])
  · subst window then'
    exact becomes_of (o := execBackChannelWindow k s) rfl (by simp [Nat.not_lt.mpr le, power, hears, odd])
  · subst arrival then'
    exact becomes_of (o := execGatherLine g s) rfl (by simp [pending, power, beyond])
  · subst arrival then'
    exact becomes_of (o := execGatherLine g s) rfl (by simp [pending, power, Nat.not_le.mpr line, full, current])
  · subst arrival then'
    obtain direct | sdram := backed
    · exact becomes_of (o := execGatherLine g s) rfl (by simp [pending, power, Nat.not_le.mpr line, Nat.not_le.mpr room, sound, direct])
    · exact becomes_of (o := execGatherLine g s) rfl
        (by simp [pending, power, Nat.not_le.mpr line, Nat.not_le.mpr room, sound, pd_setRx, sdram])
  · subst arrival then'
    exact becomes_of (o := execGatherLine g s) rfl (by simp [pending, power, Nat.not_le.mpr line, Nat.not_le.mpr room, fault, direct])
  · subst arrival then'
    exact becomes_of (o := execGatherLine g s) rfl
      (by simp [pending, power, Nat.not_le.mpr line, Nat.not_le.mpr room, fault, spill, pd_setRx, sdram])
  · subst arrival then'
    exact becomes_of (o := execGatherLine g s) rfl
      (by simp [pending, power, Nat.not_le.mpr line, Nat.not_le.mpr room, spill, pd_setRx, noSdram])

end Sys2Proof.Machine
end

section
/-! PROOF. The events of the pictures and of CAN (chapters 12 to 14). A row's guards pass under the conditions of its
clause; what is left is the change that the clause names. -/

namespace Sys2Proof.Machine

open Sys2Proof

/-! ### The pictures (chapters 12 and 13) -/

theorem ps_setPipe_until (m : Mod) (c k i : Nat) (x : Pipe) : ((m.until c).setPipe k x).ps i = m.ps i := rfl

/-- The row of a load's end: what the package and the partition's room decide, once its command leaves the list. -/
theorem modelLoadDone_row {s : State} {p : Nat} {c : Cmd} {cs : List Cmd} {kmp : KmpIn} {n : Mod}
    (loading : (s.m.part p).loading = c :: cs) (inPair : p ≤ 1) (power : s.m.pd 6 = true)
    (then' : n = s.m.setPart p { s.m.part p with loading := cs }) :
    Becomes (exec (.modelLoadDone p kmp) s) s
      (if !n.kmpOk kmp (s.readMem (rd c.params 0 8) (rd c.params 8 4)) then (n.ev 115 p 2 true).finish 0x0E10 c St.badParam
      else if 16 ≤ (s.m.part p).models.length ∨ n.partFree p < kmp.weights then n.finish 0x0E10 c St.noResource
      else
        let h := (s.m.part p).nextHandle
        let o := n.setPart p { n.part p with models := (n.part p).models ++ [{ handle := h, kmp := kmp }], nextHandle := (h + 1) % 65536 }
        (o.ev 115 p 1 true).finish 0x0E10 c St.ok
          (le 2 h ++ le 2 kmp.layers ++ le 4 kmp.wcetUs ++ le 4 kmp.weights ++ le 4 kmp.acts ++ le 4 kmp.inBytes ++ le 4 kmp.outBytes)) := by
  subst then'
  refine becomes_of (o := execModelLoadDone p kmp s) rfl ?_
  simp only [loading]
  exact if_neg (by simp [Nat.not_lt.mpr inPair, power])

/-- Settles O56. -/
theorem pictureEventsAct : Obligations.PictureEventsAct := by
  unfold Obligations.PictureEventsAct
  refine ⟨fun s k j p le power idle going noJob pick picture later => becomes_of (o := execPipeJobStart k s) rfl
      ((if_neg (by simp [Nat.not_lt.mpr le, power, idle, going, noJob])).trans (by simp only [pick, picture, later, if_false]; rfl)),
    fun s k j p le power idle going noJob pick picture first => becomes_of (o := execPipeJobStart k s) rfl
      ((if_neg (by simp [Nat.not_lt.mpr le, power, idle, going, noJob])).trans (by simp only [pick, picture, first, if_true]; rfl)),
    fun s k j job power le gone now pixels => ?_,
    fun s k le power idle => becomes_of (o := execPipeFault k 1 s) rfl (by simp [Nat.not_lt.mpr le, power, idle]),
    fun s k cs r testing le power sound => becomes_of (o := execPipeSelfTestDone k 0 s) rfl
      (by simp [testing, Nat.not_lt.mpr le, power, sound]),
    fun s i le power => becomes_of (o := execNoPipe i s) rfl (by simp [Nat.not_lt.mpr le, power]),
    fun s p q running le power sound => becomes_of (o := execVisPreempt p s) rfl
      (by simp only [running]; exact (if_neg (by simp [Nat.not_lt.mpr le, power])).trans (if_neg (by simp [sound]))),
    fun s p q running le power stuck => becomes_of (o := execVisPreempt p s) rfl (by simp [running, Nat.not_lt.mpr le, power, stuck]),
    fun s p q tensor j d le power sound now live within noAddr => ?_,
    fun s p q tensor j d le power sound now live beyond noAddr => ?_,
    fun s p q tensor j d le power sound now aborted => ?_,
    fun s p tensor le power stuck => show execVisJobEnd p tensor s = _ from
      (if_neg (by simp [Nat.not_lt.mpr le, power])).trans (if_pos stuck),
    fun s p le power idle => becomes_of (o := execVisFault p 1 s) rfl (if_neg (by simp [Nat.not_lt.mpr le, power, idle])),
    fun s p c cs kmp n loading le power then' models weights => ?_,
    fun s p c cs kmp n loading le power then' unsound => ?_,
    fun s p c cs kmp n loading le power then' full => ?_,
    fun s k au h hs held le power running going idr => becomes_of (o := execEncAu k au s) rfl
      (by simp [held, Nat.not_lt.mpr le, power, running, going, idr]; rfl),
    fun s k le power => becomes_of (o := execEncStreamStop k true s) rfl (by simp [Nat.not_lt.mpr le, power]),
    fun s k q le power mismatch => becomes_of (o := execEncStreamStop k false s) rfl (by simp [Nat.not_lt.mpr le, power, mismatch])⟩
  · have inTime : ¬ms 2 < max s.m.now (j.start + (j.pixels + 7) / 8) - j.readyRaw :=
      Nat.not_lt.mpr (Nat.sub_le_iff_le_add'.mpr (Nat.max_le.mpr ⟨now, pixels⟩))
    exact becomes_of (o := execPipeJobDone k s) rfl
      (by simp [job, Nat.not_lt.mpr le, power, inTime, ps_setPipe_until, gone]; rfl)
  · show execVisJobEnd p tensor s = _
    simp [execVisJobEnd, Nat.not_lt.mpr le, power, sound, now, live, Nat.not_lt.mpr within, noAddr]
  · show execVisJobEnd p tensor s = _
    simp [execVisJobEnd, Nat.not_lt.mpr le, power, sound, now, live, beyond, noAddr]
  · show execVisJobEnd p tensor s = _
    simp [execVisJobEnd, Nat.not_lt.mpr le, power, sound, now, aborted]
  · have room : ¬(16 ≤ (s.m.part p).models.length ∨ n.partFree p < kmp.weights) := by omega
    rw [Becomes, modelLoadDone_row loading le power then', if_neg room]
    cases n.kmpOk kmp (s.readMem (rd c.params 0 8) (rd c.params 8 4)) <;> simp
  · have bad : n.kmpOk kmp (s.readMem (rd c.params 0 8) (rd c.params 8 4)) = false := by
      obtain target | version | layer := unsound
      · simp [Mod.kmpOk, target]
      · simp [Mod.kmpOk, version]
      · simp [Mod.kmpOk, Nat.not_le.mpr layer]
    rw [Becomes, modelLoadDone_row loading le power then', bad]
    simp
  · rw [Becomes, modelLoadDone_row loading le power then', if_pos full]
    cases n.kmpOk kmp (s.readMem (rd c.params 0 8) (rd c.params 8 4)) <;> simp

/-! ### CAN (chapter 14) -/

/-- A frame received at error-active, with room in the FIFO and below its watermark: one entry in each FIFO that takes it. -/
theorem canTake_with_room {m n : Mod} {ch : Nat} {f : CanFrame} (due : n = m.canDue) (lt : ch < 8) (pd : n.pd 10 = true)
    (active : (n.canCh ch).st = 1) (alone : (n.canCh ch).alone = false) (low : (n.canCh ch).rec' < 128)
    (room : (n.canCh ch).app.q.length < 512) (below : (n.canCh ch).app.q.length + 1 ≠ rd (n.canRec ch) 20 2) :
    m.canTake ch f =
      (let x := n.canCh ch
      let seq := x.rxSeq + 1
      let sof := (n.now - f.age - 15) % 2 ^ 32
      (n.setCan ch { x with
        rxSeq := seq, acks := 0, alone := false, parked := false, rec' := x.rec' - 1
        app := (x.app.write f seq sof).opened
        fifoA := if n.lanes.a.st.hears then x.fifoA.write f seq sof else x.fifoA
        fifoB := if n.lanes.b.st.hears then x.fifoB.write f seq sof else x.fifoB }).canCounters ch) := by
  subst due
  simp [Mod.canTake, Nat.not_le.mpr lt, pd, active, alone, low, Nat.not_le.mpr low, Nat.not_le.mpr room, below]

/-- A live channel with no attempt under way and no lane stamp takes an arbitration opportunity. -/
theorem not_barred {m : Mod} {ch : Nat} (lt : ch < 8) (pd : m.pd 10 = true) (live : (m.canCh ch).st = 1 ∨ (m.canCh ch).st = 2)
    (idle : (m.canCh ch).attempt = none) (stamp : rd (m.canRec ch) 0 1 = 0) :
    ¬(8 ≤ ch ∨ !m.pd 10 ∨ !((m.canCh ch).st == 1 || (m.canCh ch).st == 2) ∨ (m.canCh ch).attempt.isSome ∨
      rd (m.canRec ch) 0 1 ≠ 0) := by
  simpa [Nat.not_le.mpr lt, pd, idle, stamp] using live.resolve_left

/-- Settles O57. -/
theorem canEventsAct : Obligations.CanEventsAct := by
  unfold Obligations.CanEventsAct
  refine ⟨fun s ch word lane lt some' => becomes_of (o := execCanRxfHead lane ch word s) rfl
      (if_neg (by simp [Nat.not_le.mpr lt, some'])),
    fun s ch lane lt => becomes_of (o := execCanRxfDrops (some lane) ch s) rfl (if_neg (Nat.not_le.mpr lt)),
    fun s ch lt => becomes_of (o := execCanRxfDrops none ch s) rfl (by simp [Nat.not_le.mpr lt]),
    fun s ch f n due lt pd active alone low room below rtcm safety seg => ?_,
    fun s ch f hears rtcm safety seg => ?_,
    fun s ch f hears rtcm safety other => ?_,
    fun s f hears rtcm seg => ?_,
    fun s ch f deaf => ?_,
    fun s ch f n due lt pd live idle stamp offer => ?_,
    fun s ch f n due lt pd live idle stamp offer => ?_,
    fun s ch f t l n due lt pd live idle stamp offer head => ?_,
    fun s ch pick f r attempt other together => becomes_of (o := execCanTxEnd ch .lostArbitration s) rfl
      (by simp [attempt, other, together]),
    fun s ch pick f r attempt other alone => becomes_of (o := execCanTxEnd ch .lostArbitration s) rfl
      (by simp [attempt, other, alone]),
    fun s ch pick f r attempt other => becomes_of (o := execCanTxEnd ch .sent s) rfl (by simp [attempt, other]),
    fun s ch off sound => becomes_of (o := execBusOffRecovered ch s) rfl (by simp [off, sound]),
    fun s ch lt power cold live stamp due => becomes_of (o := execHeartbeatDue ch s) rfl
      (by simp [Nat.not_le.mpr lt, power, live, stamp, due]),
    fun s => powers_of (o := execCan1Wake s) rfl rfl,
    fun s ch lt active => becomes_of (o := execReceiveError ch 1 s) rfl (by simp [Nat.not_le.mpr lt, active])⟩
  · show execCanFrameRx ch f s = _
    obtain other | plain := seg
    · simp [execCanFrameRx, State.canRx, rtcm, safety, other, canTake_with_room due lt pd active alone low room below]
    · simp [execCanFrameRx, State.canRx, rtcm, safety, plain, canTake_with_room due lt pd active alone low room below]
  · show execCanFrameRx ch f s = _
    obtain other | plain := seg
    · simp [execCanFrameRx, State.canRx, hears, rtcm, safety, other]
    · simp [execCanFrameRx, State.canRx, hears, rtcm, safety, plain]
  · show execCanFrameRx ch f s = _
    simp [execCanFrameRx, State.canRx, hears, rtcm, safety, other]
  · have safety : s.m.isSafetyPdu 0 f = false := rfl
    show execCanFrameRx 0 f s = _
    simp [execCanFrameRx, State.canRx, hears, rtcm, safety, seg]
  · show execCanFrameRx ch f s = _
    simp [execCanFrameRx, State.canRx, deaf]
  · subst due
    exact becomes_of (o := execArbitrationOpportunity ch s) rfl
      ((if_neg (not_barred lt pd live idle stamp)).trans (by simp [offer]))
  · subst due
    exact becomes_of (o := execArbitrationOpportunity ch s) rfl
      ((if_neg (not_barred lt pd live idle stamp)).trans (by simp [offer, show (TxPick.mailbox == TxPick.heartbeat) = false from rfl]))
  · subst due
    exact becomes_of (o := execArbitrationOpportunity ch s) rfl
      ((if_neg (not_barred lt pd live idle stamp)).trans (by simp [offer, head, show (TxPick.fifo == TxPick.heartbeat) = false from rfl]))

end Sys2Proof.Machine
end

section
/-! PROOF. The events of the display, the recorder, the store and the code slots, and those of Ethernet (chapters 15 to
19). A row's guards pass under the conditions of its clause; what is left is the change that the clause names. -/

namespace Sys2Proof.Machine

open Sys2Proof

/-! ### The display, the recorder, the store and the code slots (chapters 16 to 19) -/

/-- Settles O59. -/
theorem storeEventsAct : Obligations.StoreEventsAct := by
  unfold Obligations.StoreEventsAct
  refine ⟨fun s alive ask => becomes_of (o := execDriveCycleStart s) rfl (by simp [alive, ask]),
    fun s alive noAsk on clean still inForce record mode => becomes_of (o := execDriveCycleStart s) rfl
      (by simp [alive, noAsk, on, clean, still, inForce, record, mode]),
    fun s flips alive on drive => becomes_of (o := execDriveCycleEnd flips s) rfl (by simp [alive, on, drive]),
    fun s temp alive => becomes_of (o := execVlcdCompensation temp s) rfl (if_neg (by simp [alive])),
    fun s out alive sound => becomes_of (o := execVlcdReg out s) rfl (by simp [alive, sound]),
    fun s alive => becomes_of (o := execCounterWrite true s) rfl (by simp [alive]),
    fun s alive => becomes_of (o := execCounterWrite false s) rfl (by simp [alive]),
    fun s => becomes_of (o := execRecordAccept s) rfl rfl,
    fun s r l decayed wq => becomes_of (o := execRecordWrite ⟨true, decayed⟩ s) rfl (by simp [wq]),
    fun s r l decayed wq => becomes_of (o := execRecordWrite ⟨false, decayed⟩ s) rfl (by simp [wq]),
    fun s enough => becomes_of (o := execBucketRefill s) rfl (by simp [enough]),
    fun s stored none' => becomes_of (o := execBankFailed 2 0 s) rfl ((if_neg (by simp [stored, inRange])).trans (by simp [none'])),
    fun s k idle still next => becomes_of (o := execStoreTaken s) rfl (by simp [idle, still, next]),
    fun s k ok still busy => becomes_of (o := execStoreWritten ok s) rfl (by simp [still, busy]),
    fun s a ok adopting => becomes_of (o := execStoreWritten ok s) rfl (by simp [adopting]),
    fun s run => becomes_of (o := execHoursWrite s) rfl (if_pos run),
    fun s k staging => becomes_of (o := execStagingTimeout s) rfl (by rw [staging]; rfl),
    fun s a act step cmd live => becomes_of (o := execSplitEnd s) rfl (by simp [act, step, Nat.not_lt.mpr cmd, live]),
    fun s a act step cmd late => becomes_of (o := execSplitEnd s) rfl (by simp [act, step, Nat.not_lt.mpr cmd, late]),
    fun s alive run cold => powers_of (o := execReheatEntry s) rfl (by simp [alive, run, cold]),
    fun s k loads alive run cold tried0 tried1 armed0 armed1 confirmed => powers_of (o := execSlotSelection (true :: loads) s) rfl ?_⟩
  simp [alive, run, cold, foldN, List.range_succ, tried0, tried1, armed0, armed1, confirmed]

/-! ### Ethernet (chapter 15) -/

theorem switchOn_setEport (m : Mod) (k : Nat) (x : EthPort) : (m.setEport k x).eth.switchOn = m.eth.switchOn := rfl

/-- A frame of a sound length, off the link-local addresses, reaches the switch. -/
theorem ethFrameRx_row {s : State} {k : Nat} {f : Bytes} {v : Nat × Nat} {n : Mod} (port : k ≤ 5) (power : s.m.pd 10 = true)
    (enabled : (s.m.eport k).enabled = true) (link : (s.m.eport k).link = true) (long : 60 ≤ f.length) (short : f.length ≤ 1518)
    (far : slice (slice f 0 6) 0 5 ≠ [0x01, 0x80, 0xC2, 0x00, 0x00] ∨ 16 ≤ rd (slice f 0 6) 5 1) (on : s.m.eth.switchOn = true)
    (counted : n = s.m.setEport k { s.m.eport k with rx := inc32 (s.m.eport k).rx }) (vid : v = vidPcp f (rd (n.ethRec k) 2 2))
    (other : n.forEndpoint k v.1 (slice f 0 6) = false) :
    exec (.ethFrameRx k f) s = .next (if n.memberOf v.1 k then
        State.forward { s with m := n.learn v.1 (slice f 6 6) k } k f v.1 v.2 (((n.now : Int) - (rdI (n.ethRec k) 4 2 + 4) / 8)).toNat
      else { s with m := n.rxDrop k }) := by
  have notLocal : ¬(slice (slice f 0 6) 0 5 = [0x01, 0x80, 0xC2, 0x00, 0x00] ∧ rd (slice f 0 6) 5 1 < 16) := fun both =>
    far.elim (· both.1) (Nat.not_le.mpr both.2)
  refine (if_neg (by simp [Nat.not_lt.mpr port, power, enabled, link])).trans
    ((if_neg (by omega)).trans ((if_neg notLocal).trans ((if_neg (by simp [switchOn_setEport, on])).trans ?_)))
  subst counted vid
  cases Mod.memberOf _ _ k <;> simp [other]

/-- Settles O58. -/
theorem ethernetEventsAct : Obligations.EthernetEventsAct := by
  unfold Obligations.EthernetEventsAct
  refine ⟨fun s k f port power enabled link short => show execEthFrameRx k f s = _ from
      (if_neg (by simp [Nat.not_lt.mpr port, power, enabled, link])).trans (if_pos (.inl short)),
    fun s k f v n port power enabled link long short far on counted vid member other => ?_,
    fun s k f v n port power enabled link long short far on counted vid member other => ?_,
    fun s k l q f x port power enabled link dropped launch idle ahead fits => ?_,
    fun s k q f x port power enabled link dropped pick => ?_,
    fun s k x next port power => becomes_of (o := execGclChangeover k s) rfl (by simp [next, Nat.not_lt.mpr port, power]),
    fun s k x en l gates port power start now => becomes_of (o := execGateEvent k s) rfl
      (by simp [gates, Nat.not_lt.mpr port, power, Nat.not_lt.mpr start, now]),
    fun s r power on rings owned => ?_,
    fun s k off port power takes sync => becomes_of (o := execGptpMessage k (.sync off) s) rfl
      (by simp [Nat.not_lt.mpr port, power, takes, sync]),
    fun s k gm vec port power takes => becomes_of (o := execGptpMessage k (.announce gm true vec) s) rfl
      (by simp [Nat.not_lt.mpr port, power, takes]),
    fun s k gm vec port power takes => becomes_of (o := execGptpMessage k (.announce gm false vec) s) rfl
      (by simp [Nat.not_lt.mpr port, power, takes]),
    fun s k port power takes sync => becomes_of (o := execGptpMessage k .syncLost s) rfl
      (by simp [Nat.not_lt.mpr port, power, takes, sync]),
    fun s k ns capable port power takes changed => ?_,
    fun s k n f fs port power takes due out fits => ?_,
    fun s k n f port power takes due empty new fits => ?_,
    fun s k port power enabled down => show execLinkChange k true s = _ from
      if_neg (by simp [Nat.not_lt.mpr port, power, enabled, down]),
    fun s k port power enabled link => show execLinkChange k false s = _ from
      if_neg (by simp [Nat.not_lt.mpr port, power, enabled, link])⟩
  · rw [ethFrameRx_row port power enabled link long short far on counted vid other, if_pos member]
  · rw [Becomes, ethFrameRx_row port power enabled link long short far on counted vid other, member]
    rfl
  · have now : (x.m.until l).now = l := Nat.max_eq_right ahead
    show execLaunchTime k s = _
    simp [execLaunchTime, Nat.not_lt.mpr port, power, enabled, link, ← dropped, launch, idle, now, fits]
  · show execEthFrameTx k s = _
    simp [execEthFrameTx, Nat.not_lt.mpr port, power, enabled, link, dropped, pick]
  · have given : rd (s.readMem (rd r 0 8 + 64 * s.m.eth.txNext) 64) 12 1 % 2 ≠ 0 := by omega
    refine (if_neg (by simp [power, on]) : execDescriptorPoll s = _).trans ?_
    rw [rings]
    exact if_neg given
  · exact becomes_of (o := execGptpMessage k (.pdelay ns capable) s) rfl
      ((if_neg (by simp [Nat.not_lt.mpr port, power, takes])).trans (if_neg changed))
  · subst due
    show execGptpSyncTx k s = _
    simp [execGptpSyncTx, Nat.not_lt.mpr port, power, takes, out, fits]
  · subst due new
    show execGptpSyncTx k s = _
    simp [execGptpSyncTx, Nat.not_lt.mpr port, power, takes, empty, fits]

end Sys2Proof.Machine
end
